-- ==== Sys2Proof/Word.lean ====
section
/-! DEFINITION. Words, bytes and the keyed table in which the model holds everything the terminal has many of. -/
namespace Sys2Proof

/-- A register of the device: 32 bits (R8). -/
abbrev Word := BitVec 32

/-- A byte of a frame, an image or a memory. -/
abbrev Byte := BitVec 8

/-- A sparse collection of like things, by number: rising keys, and whatever is not listed reads as a default the
reader names (the reset value). A listed entry may equal that default; two tables are compared by reading them. -/
abbrev Tab (α : Type) := List (Nat × α)

/-- What table `t` holds under key `n`, `d` where nothing is listed. -/
def Tab.look {α : Type} (d : α) : Tab α → Nat → α
  | [], _ => d
  | (k, v) :: r, n => if n < k then d else if n = k then v else Tab.look d r n

/-- Table `t` with `x` under key `n`. -/
def Tab.put {α : Type} : Tab α → Nat → α → Tab α
  | [], n, x => [(n, x)]
  | (k, v) :: r, n, x =>
    if n < k then (n, x) :: (k, v) :: r
    else if n = k then (n, x) :: r
    else (k, v) :: Tab.put r n x

/-- Every listed entry rewritten by its key and value; the keys stay. -/
def Tab.adjust {α : Type} (f : Nat → α → α) : Tab α → Tab α
  | [] => []
  | (k, v) :: r => (k, f k v) :: Tab.adjust f r

/-- The keys listed in a table, rising. -/
def Tab.keys {α : Type} (t : Tab α) : List Nat := t.map Prod.fst

/-- Whether key `n` is listed. -/
def Tab.has {α : Type} : Tab α → Nat → Bool
  | [], _ => false
  | (k, _) :: r, n => if n < k then false else if n = k then true else Tab.has r n

/-- Table without the entry of key `n`. -/
def Tab.drop {α : Type} : Tab α → Nat → Tab α
  | [], _ => []
  | (k, v) :: r, n => if n = k then r else (k, v) :: Tab.drop r n

end Sys2Proof
end

