-- ==== Sys2Proof/Syntax.lean ====
section
/-! DEFINITION. The commands of the terminal: one constructor per row of the table of operations and events, with the
operands that come from outside the device. -/
namespace Sys2Proof

/-- The three access paths to the register space, in the order in which they are taken in one cycle (R488, R489). -/
inductive Path where
  | xt | pcie | bmc
  deriving DecidableEq, Repr

/-- One frame of the downstream as the receive pins bring it: the pattern (data bytes 0 to 7), the data bytes of its codewords in
order from byte 8 on as the head end encoded them, still scrambled (R44), and for each codeword with symbols in error its number
and the 5,000 bits in which it came otherwise, data symbols first (R24, R25); and the
instant t_rx in 12.5 ps units, of the free-running counter (R174) and of the port's own recovered clock (R26, R27, R41). -/
structure RxFrame where
  pattern : BitVec 64
  bytes : List Byte
  cwErr : List (Nat × BitVec 5000)
  stamp : Nat
  line : Nat
  deriving DecidableEq, Repr

/-- One firing of a dry-fire, as the readback comparator and the copies measured it: the ball was above V_OL at the
injection, it fell within the bound, the latency in 62.5 ps, the copies that flagged (R156). -/
structure Firing where
  wasHigh : Bool
  fellInTime : Bool
  latency : Byte
  seen : BitVec 3
  deriving DecidableEq, Repr

/-- What one tick's control blocks of a receive set brought: for each of the 8 data lanes the 125-bit block as
descrambled from its place, SYNC found or not being part of it (R197). -/
structure ControlTick where
  blocks : List (BitVec 125)
  deriving DecidableEq, Repr

/-- Which half of a Waiken set a bring-up event concerns (R200). -/
inductive WaikenHalf where
  | rx | tx
  deriving DecidableEq, Repr

/-- Findings of step 4 of bring-up (R202): the eight LANE values as received, the polarities found inverted, the
clock polarity, and whether the skew is in bounds. -/
structure TrainResult where
  laneIds : List (Fin 16)
  inverted : BitVec 8
  clockInverted : Bool
  skewOk : Bool
  txSeen : List (Fin 16)
  txInverted : BitVec 8
  caps : List Word
  deriving DecidableEq, Repr

/-- A frame as a client MAC received it: its bytes from the destination address to the FCS, whether the FCS is good
and no code violation fell inside it, the capture instant in 12.5 ps units, and codewords the FEC corrected or could
not correct in it (R225, R233). -/
structure ClientFrame where
  bytes : List Byte
  good : Bool
  stamp : Nat
  corrCw : Nat
  uncorrCw : Nat
  deriving DecidableEq, Repr

/-- One received overhead multiframe of a slotted PHY (R243). -/
structure FlexeOverhead where
  lock : Bool
  rpf : Bool
  group : BitVec 20
  calA : List (BitVec 16)
  calB : List (BitVec 16)
  c : Bool
  cr : Bool
  ca : Bool
  deriving DecidableEq, Repr

/-- What a prepare cannot compute from the device's registers: participants that gave no answer in time (R423). -/
structure PrepareAnswer where
  silent : List (Fin 7)
  drained : Bool
  deriving DecidableEq, Repr

/-- What the hardware found in one start-up stage (R450, R453): bit f of `flashOk` where flash f answered its reads (R449), of
`octal` where its SFDP advertises 8D-8D-8D (R437). -/
structure StageResult where
  pass : Bool
  straps : BitVec 2
  flashOk : BitVec 2
  octal : BitVec 2 := 0
  which : Nat
  lanesBad : List (Fin 279)
  deriving DecidableEq, Repr

/-- A configuration request of the host, where the spec gives it something to act on: a read of one of the 16 doublewords of the
header; a write of BAR0, of the function mask of MSI-X, or of the maximum read request size, 128 · 2^n bytes (R406, R491; log
entry 228). -/
inductive ConfigRequest where
  | header (dw : Fin 16)
  | bar0 (val : Word)
  | functionMask (b : Bool)
  | readRequest (n : Fin 6)
  deriving DecidableEq, Repr

/-- A PCIe request: a memory read or write (data), its address from BAR0 on, its doublewords, whether every byte enable is set
(R492); or a configuration request in its place (R491). -/
structure PcieRequest where
  addr : BitVec 64
  dwords : Nat
  fullEnables : Bool
  data : Option (List Word)
  config : Option ConfigRequest := none
  deriving DecidableEq, Repr

/-- An in-band message as it arrives: on the management port with its source address, or in a trunk envelope with its
STREAM (R499). -/
structure InbandArrival where
  fromTrunk : Bool
  port : Fin 16
  source : BitVec 48
  stream : BitVec 16
  bytes : List Byte
  deriving DecidableEq, Repr

/-- A command of the classifier's ring (R278): the fields of R303's descriptor that it uses. The ring's own place is in
no register table, and a rule key of up to ten words does not fit that descriptor's KEY, so the command brings them. -/
structure RuleCommand where
  table : BitVec 5
  count : BitVec 16
  key : List Word
  keyMask : List Word
  result : BitVec 64
  walk : Bool
  endWalk : Bool
  handle : Byte
  outAddr : BitVec 64
  outTgt : Bool
  /-- The descriptor's OPCODE is none that this ring acts on: FLUSH_PORT, AGE_SCAN or no opcode of R304. -/
  other : Bool := false
  deriving DecidableEq, Repr

/-- A frame that Crosstree or host software hands to the processor path for a client queue j, with the TAG of the transmit stamp that it
asks for (R234, R323, R332). -/
structure CpuFrame where
  bytes : List Byte
  queue : Fin 2048
  tag : Option (BitVec 16)
  deriving DecidableEq, Repr

/-- A pool's cycle, and the processor path's new frame that asks for its cells in it (R332). -/
structure CellCycle where
  pool : Fin 64
  fresh : Option CpuFrame := none
  deriving DecidableEq, Repr

/-- The retry of a wake step: its indication stays away, or is seen, and then the next step of R432, as its number and a domain, whose
own is not seen, if there is one (R433). -/
inductive WakeRetry where
  | fails
  | passes (failed : Option (Nat × Nat))
  deriving DecidableEq, Repr

/-- A mailbox command on a flash: the instance, and whether the flash fails under it, a read failing its retry (R449) or the power going
during a write or an erase (R463, R480). -/
structure FlashCommand where
  inst : Fin 2
  fails : Bool := false
  deriving DecidableEq, Repr

/-- A BMC SPI transaction of RESET, or of a command byte that is none of the eight; both with MOSI's bytes after it (R493). -/
inductive SpiTransaction where
  | reset (mosi : List Byte)
  | unknown (cmd : Byte) (mosi : List Byte)
  deriving DecidableEq, Repr

/-- A command: one row of the table of operations and events. -/
inductive Instr where
  /-- A write to a register field that has no row of its own takes effect under its access code (R11). -/
  | registerWrite (path : Path) (addr val : Word)
  /-- A read of the lowest word of a quantity wider than 32 bits takes a snapshot of the whole quantity for that access path (R13). -/
  | wideReadSnapshot (path : Path) (addr : Word)
  /-- A write of the lowest word of a wide quantity commits the higher words written on that path, and the whole quantity takes effect in one cycle (R13). -/
  | wideWriteCommit (path : Path) (addr val : Word)
  /-- While hunting, a stream position within HUNT_TOL bits of the frame pattern is given to a free tracker, or is counted in TRACKER_FULL (R45). -/
  | sighting (p : Fin 16) (pos : Nat) (bits : BitVec 64)
  /-- At a tracker's expected position the pattern and header HEC are checked, and the tracker is released or counts toward lock (R46). -/
  | trackerCheck (p : Fin 16) (k : Fin 4) (rx : RxFrame)
  /-- At each expected pattern position while locked, the framer judges a miss, checks the header and SF, stamps t_rx and delivers the overhead (R48). -/
  | downstreamFrame (p : Fin 16) (rx : RxFrame)
  /-- An envelope header is delineated, then the envelope is filtered by DTID and key epoch and passed to Shroud or discarded (R60);
  `got`: how many bytes of the envelope run have arrived. -/
  | downstreamEnvelope (p : Fin 16) (got : Nat)
  /-- A write of FR_CTL.FORCE_HUNT drops lock and sets raw LOF in the same cycle (R48). -/
  | forceHunt (p : Fin 16)
  /-- A write of FR_CTL.CNT_CLR clears every framer and registration counter (R74). -/
  | frCntClr (p : Fin 16)
  /-- A write of FR_CTL.EN enables the framer with raw LOF set, or disables it and zeroes every defect, which is a loss of downstream if timing was held (R66). -/
  | frCtlEnWrite (p : Fin 16) (en : Bool)
  /-- An engine optical-loss report or electrical idle on the clock lane raises raw LOS, drops lock and closes the upstream (R63). -/
  | losRaise (p : Fin 16)
  /-- Input present continuously for 125 µs clears raw LOS (R63). -/
  | losClear (p : Fin 16)
  /-- All 9 lanes active for 125 µs clears raw LOL (R63). -/
  | lolClear (p : Fin 16)
  /-- Delineation out of SYNC for 10 µs raises LOD, and SYNC held for 10 µs clears it (R63). -/
  | lodChange (p : Fin 16)
  /-- Key-epoch discards in 2 consecutive frames raise KEYF, and 8 frames without such a discard clear it (R63). -/
  | keyfChange (p : Fin 16)
  /-- At the end of each 8-frame window the SD metric is evaluated against SD_SET and SD_CLR (R525). -/
  | sdWindow (p : Fin 16)
  /-- At the end of each second the framer classifies the second as ES, SES or UAS and counts defect seconds (R67). -/
  | pmSecond (p : Fin 16)
  /-- A 15-minute or 24-hour bin ends at its aligned or uptime boundary (R70). -/
  | pmBinEnd (p : Fin 16) (day : Bool)
  /-- A bin closes 10 s after its end, the past bins shift, and the bin event is raised (R70). -/
  | pmBinClose (p : Fin 16) (day : Bool)
  /-- A write of PM_SEL.BIN copies the selected PM record into PM_DATA (R73). -/
  | pmSelWrite (p : Fin 16) (bin : Byte)
  /-- A write of PM_CTL.CLR_CUR zeroes both current bins and marks them CLEARED and INCOMPLETE (R71). -/
  | pmClrCur (p : Fin 16)
  /-- A host write of an address-filter entry is applied, or is rejected with REJECT for entry 0 or ID 4,095 (R62). -/
  | afEntryWrite (p : Fin 16) (k : Fin 8) (val : Word)
  /-- A HAIL in LISTEN or ANNOUNCE is answered with probability ANSWER_P by a timed ANNOUNCE, or in a version 2 quiet window (R94). -/
  | hail (p : Fin 16)
  /-- The port chooses the highest common Bluentica version and replies VERSION_ACCEPT, or replies VERSION (R96). -/
  | versionOffer (p : Fin 16)
  /-- MODE 0 binds ALLOC 0, sets the TID and enters RANGE; MODE 1 writes an address-filter entry (R97). -/
  | assignId (p : Fin 16)
  /-- The new EqD and SF_EFF are checked and written to Halyard and Backstay, pending confirmation (R99). -/
  | rangeSet (p : Fin 16)
  /-- When both Halyard and Backstay hold the change the reply OK is queued, or after 20 µs the change is withdrawn with BUSY (R99). -/
  | eqdConfirm (p : Fin 16) (halyard backstay : Bool)
  /-- At the start of upstream frame SF_EFF the new EqD applies, cut slots are counted, and a DONE change enters OPERATE (R100). -/
  | eqdChangeApply (p : Fin 16)
  /-- The port schedules a timed probe reply on the lookout at t_rx(SF_REF) + EqD + OFFSET (R103). -/
  | rangeProbe (p : Fin 16)
  /-- A TIME_SET is checked and applied as a step or rate correction, held for a future frame, or recorded for monitoring (R174). -/
  | timeSet (p : Fin 16)
  /-- When frame SF's stamp is taken or missed, the held TIME_SET is checked, acted on and answered (R174). -/
  | timeSetHeldApply (p : Fin 16)
  /-- A key epoch rotation is checked, its upstream key derived and pinned, and it becomes pending (R379). -/
  | keyRotate (p : Fin 16)
  /-- An allocation context is bound, unbound or modified for the port (R116). -/
  | grantProfile (p : Fin 16)
  /-- A TSI page switch is judged and made pending at t_rx(SF_EFF), treated as a duplicate, or refused (R257). -/
  | tsiSwitch (p : Fin 16)
  /-- A head-end REEF_NOTICE becomes the outstanding notice and is answered OK, or is answered BAD_ARG (R418). -/
  | reefNotice (p : Fin 16)
  /-- A reef grant sets which trunk ports go dark at SF_EFF and lights others, and answers the notice (R419). -/
  | reefGrant (p : Fin 16)
  /-- The port enters SILENT and records its return state, or has its silence duration replaced (R84). -/
  | silence (p : Fin 16)
  /-- The muzzle is cleared if CLEAN is 3 and there is no guard fault, and the silence is ended if asked, else BUSY (R151). -/
  | unmuzzle (p : Fin 16)
  /-- A RELEASE is accepted and scheduled to take effect at the end of upstream frame SF_rx + 2 (R87). -/
  | release (p : Fin 16)
  /-- At the end of upstream frame SF_rx + 2 the port leaves registration (R87). -/
  | releaseEffect (p : Fin 16)
  /-- A PARK loads the wake timer and hail, arms wake sources 4 and 5, and starts Reef 3 entry after the reply (R427). -/
  | park (p : Fin 16)
  /-- The port returns the 192 DATA bits unchanged in its reply (R83). -/
  | echo (p : Fin 16)
  /-- A TMM of an unknown, send-only or version-excluded type is ignored and counted in RG_UNKNOWN (R78). -/
  | tmmUnknown (p : Fin 16)
  /-- The ANNOUNCE timer expires and the port returns to LISTEN (R86). -/
  | announceTimerExpiry (p : Fin 16)
  /-- The RANGE timer expires and the port returns to LISTEN (R86). -/
  | rangeTimerExpiry (p : Fin 16)
  /-- The HOLD timer expires and the port goes to INIT, leaving registration (R86). -/
  | holdTimerExpiry (p : Fin 16)
  /-- The silence duration ends and the port returns to its return state if it is not muzzled (R84). -/
  | silenceDurationEnd (p : Fin 16)
  /-- A mailbox command writes RG_CTL.EN, and EN 0 takes the port to INIT (R88). -/
  | regEnable (i : Fin 2)
  /-- A mailbox command makes a local release that takes effect at once (R88). -/
  | regRelease (i : Fin 2)
  /-- A mailbox command silences the port as a SILENCE with reason 0xFF (R88). -/
  | regSilence (i : Fin 2)
  /-- A mailbox command returns RG_STATUS, RG_EQD and the pending change (R88). -/
  | regStatus (i : Fin 2)
  /-- A reply with no burst by the end of upstream frame SF_rx + 9 goes on the lookout channel under version 3 (R82). -/
  | replyLookoutFallback (p : Fin 16)
  /-- A lookout lane gains or loses Clause 49 block lock and its UP bit changes (R89). -/
  | lookoutLaneUpChange (n : Fin 2) (up : Bool)
  /-- A received LM is CRC-checked, deduplicated against the other lookout port, and delivered to port registration or to the wake matcher (R91). -/
  | lookoutLmReceived (n : Fin 2) (lm : BitVec 512)
  /-- The random delay of the oldest untimed LM ends, and the LM is keyed, discarded or deferred around a timed LM (R93). -/
  | lmDelayEnd (n : Fin 2)
  /-- A timed ANNOUNCE or probe reply is keyed on the lookout at its computed instant (R94). -/
  | timedLmSend
  /-- Heartwood releases the lookout transmit enable after 1 µs of continuous keying and counts TX_FORCED (R92). -/
  | lkoTxenForcedRelease (n : Fin 2)
  /-- A write of LKO_CNT_CLR clears every lookout counter (R106). -/
  | lkoCntClr
  /-- Halyard checks a map's CRC and validates each entry addressed to the port, then holds or rejects it (R110). -/
  | grantMapValidation (p : Fin 16)
  /-- At a grant's commit point Halyard selects frames by DRR, and at the burst's first grant it takes the report snapshot and TMMs and issues reads (R129). -/
  | burstCommit (p : Fin 16)
  /-- An envelope not in the launch buffer 1 µs before it is due is replaced with idle envelopes, and its frames are returned unsent (R130). -/
  | launchDeadlineMiss (p : Fin 16)
  /-- The burst's first preamble bit leaves the pins at T0 with its header time-stamp (R128). -/
  | burstLaunch (p : Fin 16)
  /-- The burst enable ends after the last parity symbol of the shortened codeword (R120). -/
  | burstEnd (p : Fin 16)
  /-- WAKE_LEAD slots before T0 the data lanes start doze exit (R133). -/
  | dozeExit (p : Fin 16)
  /-- One slot before T0, data lanes not active cause a missed burst, DOZE_FAIL and DOZE_INHIBIT (R134). -/
  | laneReadinessCheck (p : Fin 16)
  /-- A write of GRANT_CTL.EN enables Halyard, or a 0 misses every held grant and ends any burst (R136). -/
  | halEnableWrite (p : Fin 16) (en : Bool)
  /-- A write of DOZE_CTL clears DOZE_INHIBIT and starts Crosstree's doze check (R134). -/
  | dozeCtlWrite (p : Fin 16) (val : Word)
  /-- A write of CTX_LOOKUP makes CTX_RESULT show the binding of that ALLOC in the next cycle (R118). -/
  | ctxLookupWrite (p : Fin 16) (alloc : BitVec 12)
  /-- A write of GRANT_CTL.CNT_CLR clears every Halyard counter (R138). -/
  | halCntClr (p : Fin 16)
  /-- Backstay checks a map's CRC and builds the port's merged windows, or closes the frame if they do not fit (R141). -/
  | backstayMap (p : Fin 16)
  /-- A burst enable outside every legal interval drives TXDIS_N low, forces the lanes off and sets MUZZLED (R148). -/
  | cutOff (p : Fin 16) (instant : Nat) (votes : BitVec 3)
  /-- The ALERT with CAUSE MUZZLED is repeated every second while the latch is set (R153). -/
  | muzzleAlertRepeat (p : Fin 16)
  /-- At each upstream frame end while muzzled, CLEAN counts a clean frame or is reset (R150). -/
  | cleanFrameCount (p : Fin 16) (clean : Bool)
  /-- An UNLOCK write with key 0x5EA1 starts a host unlock sequence on its path (R152). -/
  | unlockFirstWrite (path : Path) (p : Fin 16)
  /-- An UNLOCK write with key 0xA15E completes the sequence and clears MUZZLED, or sets UNLOCK_REJ (R152). -/
  | unlockSecondWrite (path : Path) (p : Fin 16)
  /-- Backstay closes the silence gate at the first slot boundary after a SILENCE is decoded (R154). -/
  | silenceGateClose (p : Fin 16)
  /-- When the transmit clock lane becomes active, Backstay runs four firings and sets TEST_PASSED or fails (R156). -/
  | dryFireStartup (p : Fin 16) (shots : List Firing)
  /-- In a frame whose SF is a multiple of 1,000, Backstay injects into all copies in a free slot and judges the run (R157). -/
  | periodicDryFire (p : Fin 16) (shot : Firing)
  /-- After 8,000 counted frames without a run, DEFER is set and the deferral counted (R157). -/
  | dryFireDefer (p : Fin 16)
  /-- A write of P_CTL.RETEST starts the start-up sequence if TXDIS_N is driven low (R158). -/
  | retest (p : Fin 16) (shots : List Firing)
  /-- A copy that disagrees with both others for 2 samples is faulted, and the voter rule changes (R159). -/
  | copyFault (p : Fin 16) (copy : Fin 3)
  /-- A stopped or off-frequency guard clock drives TXDIS_N low and sets CLK_FAULT (R160). -/
  | clockFault (p : Fin 16)
  /-- Both clocks good for 125 µs end the clock-fault hold (R160). -/
  | clockFaultClear (p : Fin 16)
  /-- The readback finds TXDIS_N held high or held low, and sets PIN_FAULT (R161). -/
  | txdisPinFault (p : Fin 16) (high : Bool)
  /-- A write of BKS_CTL.CNT_CLR clears every Backstay counter (R164). -/
  | bksCntClr
  /-- A host write of TIME.RATE replaces the base rate, ends any slew, and is scheduled at an application instant (R173). -/
  | rateWrite (val : Word)
  /-- At c_app a rate change or step sets the new anchor, which realigns gate lists and ends PM bins for a step (R168). -/
  | timeApply
  /-- The servo measures the source port's frame interval and sets the base part of RATE (R173). -/
  | servoMeasurement
  /-- The slew added for a MODE 1 error is withdrawn once the error is removed (R176). -/
  | slewEnd
  /-- Crosstree changes the time source, or enters HOLDOVER, within 1 ms of the source disqualifying (R172). -/
  | timeSourceChange
  /-- HOLDOVER lasting HOLD_MAX seconds re-arms the step and raises HOLD_LONG (R175). -/
  | holdoverLimit
  /-- A lost reference makes the PLL switch to the other reference or fall back to the crystal (R170). -/
  | referenceLoss (r : Fin 2)
  /-- A reference good for 10 ms ends the crystal fallback (R170). -/
  | referenceReturn (r : Fin 2)
  /-- PPS_OUT rises as the reading passes a whole second (R182). -/
  | ppsOutPulse
  /-- PPS_OUT falls after WIDTH µs (R182). -/
  | ppsOutEnd
  /-- A PPS_IN rising edge is captured, or ignored as a glitch, and serves as a time source edge (R183). -/
  | ppsInEdge (instant : Nat)
  /-- No PPS_IN edge for 1.1 s raises PPS_IN_MISS (R183). -/
  | ppsInMiss
  /-- An output is released after 125 µs without a squelch cause (R184). -/
  | rclkRelease (n : Fin 2)
  /-- A mailbox command names the second of the next PPS_IN edge (R188). -/
  | timeTod (i : Fin 2)
  /-- A mailbox command sets STEP_ARMED (R188). -/
  | timeArmStep (i : Fin 2)
  /-- A mailbox command returns NT, state, power epoch and uptime from one cycle (R188). -/
  | timeRead (i : Fin 2)
  /-- A write of TB_CTL.STEP_ARM sets STEP_ARMED (R175). -/
  | stepArmWrite
  /-- A write of TB_CTL.CNT_CLR clears every time-base counter (R190). -/
  | tbCntClr
  /-- A write of LANE_CTL.EN starts or stops the lane's bring-up (R200). -/
  | laneEnable (l : Fin 279) (en : Bool)
  /-- A write of LANE_CTL.RETRAIN clears SHORT and returns the set to bring-up step 1 (R204). -/
  | retrain (l : Fin 279)
  /-- A write of LANE_CTL.CNT_CLR clears the lane's counters (R218). -/
  | laneCntClr (l : Fin 279)
  /-- A Waiken set completes one bring-up step and moves to the next pattern, or becomes active after step 7 (R200). -/
  | waikenBringupStep (p : Fin 16) (half : WaikenHalf) (found : TrainResult)
  /-- After 100 ms waiting for the receive clock lane, TIMEOUT is reported (R200). -/
  | waikenTimeout (p : Fin 16)
  /-- With no common Waiken version, step 6 is repeated every 100 ms (R203). -/
  | waikenCapRetry (p : Fin 16)
  /-- Each tick's control blocks are accepted by majority, updating BEN, status fields and retrain requests (R198). -/
  | waikenControlBlock (p : Fin 16) (tick : ControlTick)
  /-- A data lane failing 4 control blocks or a bad clock lane loses lock, raising LOL and starting a retrain (R198). -/
  | laneLockLoss (p : Fin 16) (lane : Fin 9)
  /-- Under version 1 both sides switch rate at the agreed switch tick (R209). -/
  | waikenRateSwitch (p : Fin 16)
  /-- In automatic mode, 20 ms without symbol lock switches the attempted Waiken version (R210). -/
  | waikenVersionAttempt (p : Fin 16)
  /-- Crosstree checks DOZE_CTL against the engine's doze times and sets or clears NO_DOZE (R207). -/
  | dozeCheck (p : Fin 16)
  /-- The transmit PLL changes between the receive clock lane and the reference, slewing at 10 ppm per µs (R194). -/
  | txPllSourceChange (p : Fin 16)
  /-- A transmitter detects far-end termination, repeating every 100 ms while OPEN (R213). -/
  | receiverDetect (l : Fin 279) (found : Bool)
  /-- A leg drawing over 30 mA for 1 µs has its driver disabled and SHORT latched (R214). -/
  | legShort (l : Fin 279)
  /-- A write of PAT_CTL starts or stops a generator or checker, or is rejected with PAT_REJ (R216). -/
  | patCtlWrite (l : Fin 279) (val : Word)
  /-- The checker gains pattern lock after 64 good bits or loses it after 64 errors in 1,024 (R215). -/
  | patternLockChange (l : Fin 279) (bits errs : Nat)
  /-- A write of INJ.SINGLE inverts one transmitted bit (R217). -/
  | injSingle (l : Fin 279)
  /-- A write of INJ.BURST inverts BURST_LEN + 1 consecutive bits (R217). -/
  | injBurst (l : Fin 279) (len : BitVec 10)
  /-- A write of PORT_CTL.MODE changes the block's mode and restarts bring-up, or sets MODE_REJ (R221). -/
  | portModeWrite (b : Fin 32) (val : Word)
  /-- A write of PORT_CTL.CNT_CLR clears every counter of the block's sub-ports (R239). -/
  | cliCntClr (b : Fin 33)
  /-- A write of MAC_CTL applies MAC enables, or sets CFG_REJ for LPI_EN or SLOTTED (R232). -/
  | macCtlWrite (b : Fin 33) (sub : Fin 4) (val : Word)
  /-- Loss of alignment or a fault drops LINK_UP within 1 µs and counts LINK_DOWN (R223). -/
  | linkDown (b : Fin 33) (sub : Fin 4) (remote : Bool)
  /-- Alignment and no faults held for 1 ms raise LINK_UP and measure the port latencies (R223). -/
  | linkUp (b : Fin 33) (sub : Fin 4) (rxLat txLat : BitVec 16)
  /-- A received client frame is checked, filtered and passed to the forwarding path, or discarded and counted (R225). -/
  | clientRxFrame (b : Fin 32) (sub : Fin 4) (rx : ClientFrame)
  /-- A requester asks a pool for a frame's next cell or page, winning in rotation or waiting (R332). -/
  | cellRequest (c : CellCycle)
  /-- A requester that got no cell within WAIT_NS drops the frame and frees its cells (R333). -/
  | cellWaitExpiry (pool : Fin 64) (r : Fin 21)
  /-- A valid PFC frame loads the pause timers of its enabled priorities (R230). -/
  | pfcRx (b : Fin 32) (sub : Fin 4) (bytes : List Byte)
  /-- A priority's pause timer reaches 0 and its queues may start again (R230). -/
  | pfcPauseExpiry (b : Fin 32) (sub : Fin 4) (prio : Fin 8)
  /-- While a priority stays in XOFF, the PFC frame is repeated every REFRESH quanta (R231). -/
  | pfcRefresh (b : Fin 32) (sub : Fin 4)
  /-- After LPI_IDLE µs with nothing to send, the transmit side enters LPI (R232). -/
  | lpiEntry (b : Fin 32) (sub : Fin 4)
  /-- When a sub-port's MAC is ready, the scheduler picks a queue by DRR and starts its head frame (R351). -/
  | egressSelect (b : Fin 32) (sub : Fin 4)
  /-- A frame's last byte crosses the xMII and its references are freed (R329). -/
  | frameTxComplete (b : Fin 32) (sub : Fin 4) (instant : Nat)
  /-- With DROP_DOWN set, the head frame of a down sub-port's queue is discarded at the service rate (R228). -/
  | txDownDiscard (b : Fin 33) (sub : Fin 4)
  /-- A read of TS_TX word 0 pops and snapshots the oldest transmit stamp (R234). -/
  | tsTxPop (path : Path) (b : Fin 33) (sub : Fin 4)
  /-- A frame received on the management port goes to the in-band channel, or to the wake matchers at Reef 3 (R236). -/
  | mgmtRxFrame (bytes : List Byte) (good : Bool)
  /-- Received FlexE overhead updates lock, group ID, calendars and the CA and C bits of a slotted PHY (R243). -/
  | flexeOverheadRx (u : Fin 64) (oh : FlexeOverhead)
  /-- Each 15.625 µs, or at 1,224 blocks, every upstream connection cuts a container (R245). -/
  | containerCut (slot : Fin 5120) (blocks : List (BitVec 66))
  /-- A playout FIFO reaching PLAYOUT blocks starts playing out in its calendar slot (R252). -/
  | playoutStart (slot : Fin 5120)
  /-- A playout FIFO empties while playing, counted as UNDERRUN, and local fault is sent until it refills (R252). -/
  | playoutUnderrun (slot : Fin 5120)
  /-- A write to connection memory of the standby page is applied, or rejected with WR_REJ (R255). -/
  | connMemWrite (path : Path) (addr val : Word)
  /-- A write of PAGE_CTL.ARM starts validation of the standby page (R255). -/
  | pageArm
  /-- Validation completes, arming the page or raising ARM_FAIL with ARM_ERR (R255). -/
  | pageArmDone
  /-- A write of PAGE_CTL.DISARM returns an armed page to editable unless a switch is pending (R255). -/
  | pageDisarm
  /-- A write of PAGE_CTL.FORCE switches to an armed standby page within 10 µs (R261). -/
  | pageForce
  /-- At the switch instant the pending page becomes active for every port and direction (R258). -/
  | pageSwitch
  /-- A slotted PHY's transmitted calendar C changes at an overhead frame boundary after CA (R259). -/
  | calendarCChange (u : Fin 64)
  /-- A write of TSI_CTL.EN runs or stops the TSI, and 0 cancels a pending switch (R261). -/
  | tsiEnableWrite (en : Bool)
  /-- A write of TSI_CTL.CNT_CLR clears every TSI counter (R263). -/
  | tsiCntClr
  /-- A write of PG_CTL.COMMIT makes the shadow bank active at the next frame boundary (R287). -/
  | pgCommit
  /-- The copy of the new active bank into the shadow bank completes and COPY_BUSY clears (R287). -/
  | pgCopyDone
  /-- A write to node or transition memory is applied to the shadow bank, or rejected while COPY_BUSY (R287). -/
  | pgMemoryWrite (path : Path) (addr val : Word)
  /-- A write of PG_CTL.CNT_CLR clears every parse-graph counter (R289). -/
  | pgCntClr
  /-- A write of a rule table's TBL_CTL is applied and empties the table, or is refused with CAP_REJ (R276). -/
  | clsTblCtlWrite (t : Fin 16) (val : Word)
  /-- A classifier ring INSERT places a rule entry, or returns NO_ROOM (R278). -/
  | ruleInsert (c : RuleCommand)
  /-- A classifier ring DELETE removes a rule entry (R278). -/
  | ruleDelete (c : RuleCommand)
  /-- A classifier ring SEARCH returns a rule entry or starts a walk (R278). -/
  | ruleSearch (c : RuleCommand)
  /-- A classifier ring NEXT continues a rule-table walk (R278). -/
  | ruleNext (c : RuleCommand)
  /-- A register write of an indirection entry is applied, or rejected with IND_REJ while REPAIR_EN (R280). -/
  | indEntryWrite (path : Path) (addr val : Word)
  /-- A mailbox command writes home and live indirection entries of a repairing profile (R282). -/
  | indWrite (i : Fin 2)
  /-- Within 5 ms of a change of port usability, Crosstree repairs or restores the entries of repairing profiles (R281). -/
  | indirectionRepair
  /-- A write of a class's EXC_CTL sets its action and refills its token bucket (R285). -/
  | excCtlWrite (c : Fin 64) (val : Word)
  /-- A write of HP_CTL configures a profile, and REPAIR_EN from 0 to 1 takes the live table as home (R282). -/
  | hpCtlWrite (h : Fin 64) (val : Word)
  /-- A write of CLS_CTL.CNT_CLR clears every classifier counter (R289). -/
  | clsCntClr
  /-- A write of RING_PROD submits descriptors, or is rejected with WR_REJ (R303). -/
  | ringProdWrite (r : Fin 8) (val : Word)
  /-- A write to a pending descriptor has no effect and sets WR_REJ (R303). -/
  | descriptorWrite (r : Fin 8) (off : Fin 16384) (val : Word)
  /-- A ring INSERT places or updates a Canopy key by relocation or eviction, or commits a TCAM prefix (R301). -/
  | insert (r : Fin 8)
  /-- A ring DELETE removes a Canopy key or TCAM prefix (R304). -/
  | delete (r : Fin 8)
  /-- A ring exact SEARCH returns the key's result, stamp and flags (R304). -/
  | search (r : Fin 8)
  /-- A ring SEARCH with LPM returns the TCAM's longest match (R304). -/
  | searchLpm (r : Fin 8)
  /-- A ring SEARCH with WALK takes a handle and returns matching entries (R306). -/
  | walkStart (r : Fin 8)
  /-- A ring NEXT continues a walk and releases its handle on END (R306). -/
  | next (r : Fin 8)
  /-- A handle left without NEXT for 1 s is released and WALK_LOST raised (R306). -/
  | walkHandleTimeout (h : Fin 8)
  /-- A ring FLUSH_PORT installs a flush filter and starts sweeping matching entries (R307). -/
  | flushPort (r : Fin 8)
  /-- The flush sweep ends, the filter is lifted and the command completes with RCOUNT (R307). -/
  | flushSweepDone
  /-- A ring AGE_SCAN scans COUNT buckets with compare-and-clear, or reports due entries with DRY (R313). -/
  | ageScan (r : Fin 8)
  /-- A ring STEER moves a steering value's prefixes to another TCAM bank (R317). -/
  | steer (r : Fin 8)
  /-- A queued learn creates, moves or refreshes an L2 entry, or fails or is deferred (R308). -/
  | learn
  /-- A table's age clock NOW advances by 1 each TICK ms (R311). -/
  | ageClockTick (t : Fin 16)
  /-- The automatic scanner visits a bucket and removes due entries by compare-and-clear (R312). -/
  | ageScannerBucket (t : Fin 16)
  /-- A read of EVT_POP word 0 pops the oldest Canopy event and snapshots it (R310). -/
  | evtPopRead (path : Path)
  /-- At the end of each 1 µs window a bank over its share raises SKEW and counts SKEW_WIN (R319). -/
  | skewWindow
  /-- A write of STEER4 or STEER6 is applied only while TCAM EN is 0, otherwise WR_REJ (R317). -/
  | steerRegWrite (v6 : Bool) (k : Fin 1024) (val : Word)
  /-- A write of a Canopy table's control or size is applied and empties the table, or is refused with CAP_REJ (R297). -/
  | canTblWrite (addr val : Word)
  /-- A write of CAN_CTL.CNT_CLR clears every Canopy counter (R321). -/
  | canCntClr
  /-- A write of TCAM_CTL.CNT_CLR clears every TCAM counter (R321). -/
  | tcamCntClr
  /-- A write of a pool, owner or share limit is applied, or refused with CFG_REJ (R324). -/
  | bufLimitWrite (addr val : Word)
  /-- A write of QFLUSH starts discarding every frame of one queue (R338). -/
  | qflush (q : Nat)
  /-- The flush ends, QFLUSH_FRAMES is counted and QFLUSH_DONE raised (R338). -/
  | qflushDone
  /-- A Halyard or egress read of a stored frame returns, or marks the frame DAMAGED (R336). -/
  | bufferReadComplete (frame : Nat) (damaged : Bool)
  /-- The buffer manager marks reachable cells twice and returns leaked cells and pages (R476). -/
  | bufferAudit
  /-- A write of BUF_CTL.CNT_CLR clears every buffer manager counter (R342). -/
  | bufCntClr
  /-- A write of a queue's CTX moves it and its frames to another context with deficit 0 (R345). -/
  | qCtxWrite (q : Fin 65536) (ctx : BitVec 12)
  /-- A write of a queue's LEVEL moves it to the tail of the new level's round (R348). -/
  | qLevelWrite (down : Bool) (q : Fin 65536) (val : Word)
  /-- Every 100 ns every enabled shaper and meter bucket gains credit up to its limit (R352). -/
  | shaperRefillTick
  /-- A command writes a meter's configuration and fills its buckets (R357). -/
  | meterSet
  /-- A command returns a meter's buckets and counts in the stage words (R364). -/
  | meterRead
  /-- A command clears a meter's counters (R364). -/
  | meterClr
  /-- A command writes a shaper's EN, ADJ, RATE and BURST, keeping or forgiving debt (R353). -/
  | shaperSet
  /-- A command returns a shaper's configuration and credit (R364). -/
  | shaperRead
  /-- A command validates a gate list's admin copy into its pending store (R361). -/
  | glChange
  /-- A command discards a pending gate-list change (R364). -/
  | glCancel
  /-- At CHANGE_TIME the pending list becomes operational in one cycle (R361). -/
  | glChangeEffect (l : Fin 64)
  /-- A gate list moves to its next entry or cycle at its network-time instant (R358). -/
  | gateTransition (l : Fin 64)
  /-- A write of CMD while BUSY has no effect and sets OVERRUN (R364). -/
  | schCmdOverrun (val : Word)
  /-- A write of SCH_CTL.CNT_CLR clears every scheduler counter (R366). -/
  | schCntClr
  /-- A derivation unit completes a derived key and fills the cache (R378). -/
  | keyDerived
  /-- At t_rx(SF_EFF) envelopes of the rotated epoch are opened under the new keys (R380). -/
  | epochDownstreamEffect (p : Fin 16)
  /-- At the start of upstream frame SF_EFF the rotation completes and becomes the transmit epoch (R380). -/
  | epochComplete (p : Fin 16)
  /-- A mailbox command unwraps a root key into a slot (R375). -/
  | shrRootLoad (i : Fin 2)
  /-- A mailbox command zeroes a root slot (R375). -/
  | shrRootClear (i : Fin 2)
  /-- A mailbox command signs an attestation report with XMSS, reserving a block if needed (R391). -/
  | shrAttest (i : Fin 2)
  /-- A mailbox command returns DEVID, public key and certificate (R391). -/
  | shrIdentity (i : Fin 2)
  /-- The XMSS traversal state is rebuilt after a reset and signing becomes available (R389). -/
  | xmssReady
  /-- A write of JR_PROD submits job descriptors to a job ring (R383). -/
  | jrProdWrite (r : Fin 4) (val : Word)
  /-- A job runs AES-256-GCM encryption or decryption of one segment (R384). -/
  | jobGcm (r : Fin 4)
  /-- A job runs AES-256-CTR (R384). -/
  | jobCtr (r : Fin 4)
  /-- A job runs AES-256-CBC with PKCS#7 padding (R384). -/
  | jobCbc (r : Fin 4)
  /-- A job runs AES-256-XTS (R384). -/
  | jobXts (r : Fin 4)
  /-- A write of SHR_CTL.CNT_CLR clears every Shroud counter (R393). -/
  | shrCntClr
  /-- A read of a target's ACK delivers the highest qualifying source and pushes it on the stack (R399). -/
  | ackRead (path : Path) (t : Fin 22)
  /-- A write of EOI pops the named top entry, or freezes the target on a STACK_ORDER fault (R402). -/
  | eoiWrite (path : Path) (t : Fin 22) (val : Word)
  /-- A write of SRC_SET.SET acts as a signal from the source (R396). -/
  | srcSetSignal (n : BitVec 10)
  /-- A write of SRC_SET.CLR clears the source's PENDING and COUNT (R396). -/
  | srcSetClear (n : BitVec 10)
  /-- A write of SRC_CFG sets enable, mask, target and priority, and EN 0 clears PENDING and COUNT (R396). -/
  | srcCfgWrite (n : BitVec 10) (val : Word)
  /-- A write of T_CTL.THAW clears FROZEN and resumes delivery (R403). -/
  | thaw (path : Path) (t : Fin 22)
  /-- Unmasking an MSI-X vector judges its pending bit and sends or clears it (R406). -/
  | msixUnmask (v : Option (Fin 4))
  /-- An IRQ ball at the wrong level for 1 µs sets PIN_FAULT (R407). -/
  | irqPinFault (n : Fin 2)
  /-- A write of IC_CTL.CNT_CLR clears the target counters (R412). -/
  | icCntClr
  /-- A write of REEF_CMD with GO requests a level change, proposing darkness with NOTICE (R416). -/
  | reefCmdGo (path : Path) (val : Word)
  /-- A mailbox command makes a reef request with REEF_CMD fields (R416). -/
  | reefSet (i : Fin 2)
  /-- A write of REEF_CMD.CLR_FAIL clears WAKE_FAIL (R433). -/
  | reefClrFail
  /-- An outstanding notice unanswered for GRANT_TO ends with NO_GRANT (R417). -/
  | reefGrantTimeout
  /-- At its instant a pending dark trunk port is closed, its grants discarded and its domain switched off (R420). -/
  | portDark (p : Fin 16)
  /-- Client blocks named in the answered notice go dark at t_rx(SF_EFF) (R420). -/
  | clientBlockDark
  /-- A lit port without downstream after LIGHT_TO takes the Downstream lost row (R421). -/
  | lightTimeout (p : Fin 16)
  /-- A write of CLI_DARK_REQ at Reef 1 or 2 lights blocks whose bit is 0 (R421). -/
  | cliDarkReqWrite (val : Word)
  /-- The reef manager asks every participant to drain and hold, and aborts on any refusal (R423). -/
  | reefPrepare (answer : PrepareAnswer)
  /-- Blocks stop in order, the clocks switch and the blocks restart, or the transition ends PARTIAL_REEF (R424). -/
  | reefCommit (missed : Option (Fin 9))
  /-- AVSBus reports the VDD_CORE target reached, allowing the next step (R426). -/
  | avsSettled
  /-- A voltage change not settled within AVS_TO records AVS_FAIL (R426). -/
  | avsTimeout
  /-- An unsettled lowering is retried once per second (R426). -/
  | avsRetry
  /-- The device leaves registration, drops READY, stops blocks and switches domains off to Reef 3 (R427). -/
  | reef3Entry
  /-- The WAKE_A comparator fires after debounce (R429). -/
  | wakeAEvent
  /-- The Heartwood wake timer expires and requests a wake (R428). -/
  | wakeTimerExpiry
  /-- The reef manager powers domains step by step from Reef 3 and releases core reset (R432). -/
  | wakeSequence (failed : Option (Nat × Nat))
  /-- A failed wake step is retried after 1 ms, and a second failure records WAKE_FAIL (R433). -/
  | wakeStepRetry (r : WakeRetry)
  /-- A write of REEF_CTL.CNT_CLR clears every reef counter (R436). -/
  | reefCntClr
  /-- Heartwood sees every supply in range and the cold start begins (R450). -/
  | suppliesGood
  /-- Start-up completes one stage and proceeds, or fails into Furled (R450). -/
  | startupStage (found : StageResult)
  /-- A write of MB_DOORBELL.GO submits a mailbox request, or sets OVERRUN (R459). -/
  | mbDoorbell (i : Fin 2)
  /-- A mailbox command returns the common set, boot status and slot statuses (R461). -/
  | mbHello (i : Fin 2)
  /-- A mailbox command erases an image slot, or the flash loses power during it (R462, R463, R480). -/
  | imgErase (c : FlashCommand)
  /-- A mailbox command writes bytes into an image slot, or the flash loses power during it (R462, R463, R480). -/
  | imgWrite (c : FlashCommand)
  /-- A mailbox command reads bytes from an image slot, or a read of the flash fails its retry (R449, R462). -/
  | imgRead (c : FlashCommand)
  /-- A mailbox command runs the slot checks and returns the reason code, or a read of the flash fails its retry (R449, R461). -/
  | imgCheck (c : FlashCommand)
  /-- A mailbox command checks a slot and writes it as trial or preference, or a read of the flash fails its retry (R449, R462). -/
  | imgSelect (c : FlashCommand)
  /-- A mailbox command makes the running trial slot the preference (R462). -/
  | imgConfirm (i : Fin 2)
  /-- A mailbox command replies OK and starts a warm start (R461). -/
  | devReset (i : Fin 2)
  /-- Crosstree writes a record into the notification ring when room exists, or drops an exception copy (R464). -/
  | nrRecordWrite
  /-- A write of NR_CTL.CNT_CLR clears the mailbox and in-band counters (R466). -/
  | nrCntClr
  /-- A correctable memory error is corrected, written back and counted (R474). -/
  | correctableError (struct : Fin 16) (addr : BitVec 64)
  /-- An uncorrectable error in a structure is handled by its recovery, or sends the device to Furled (R472). -/
  | uncorrectableError (struct : Fin 16) (addr : BitVec 64) (copyBad : Bool)
  /-- A restore from a mirror or copy completes as one atomic operation (R473). -/
  | restoreDone
  /-- The patrol scrubber reads the next word of a structure and corrects it (R475). -/
  | scrubRead (struct : Fin 16) (addr : BitVec 64) (err : Bool)
  /-- A pair's compared write differs, stopping the pair and handing its work to another (R477). -/
  | lockstepMismatch (k : Fin 8)
  /-- A failed pair passes its self-test and returns to service, or is retired (R477). -/
  | pairReturn (k : Fin 8) (passed : Bool)
  /-- A write of WDOG_KICK with key 0x7A3C restarts the watchdog period (R479). -/
  | wdogKick (val : Word)
  /-- A watchdog period without a kick resets the core domain (R479). -/
  | watchdogExpiry
  /-- The core domain is reset and a warm start runs to Reef 0 (R479). -/
  | coreReset (cause : BitVec 4)
  /-- A powered domain loses power-good and is recovered per its domain (R480). -/
  | powerGoodLoss (dom : Byte)
  /-- No crystal oscillation for 50 ms switches to the internal oscillator and furls (R482). -/
  | xtalFailure
  /-- Heartwood resets as at power-on, ending the power epoch, and the epoch record is advanced (R516). -/
  | heartwoodPowerOn
  /-- A PCIe hot reset, function-level reset or PERST resets the PCIE domain (R480). -/
  | pcieReset
  /-- A fault record is copied from the retention ring to both flash logs (R483). -/
  | logCopy
  /-- A write of LOG_IDX snapshots a fault record into LOG_DATA (R483). -/
  | logIdxWrite (idx : Byte)
  /-- A write of FLT_CTL.CNT_CLR clears the HW fault counters (R486). -/
  | fltCntClr
  /-- A write of 1 to STK_EVENT_EN bit 31 clears the stack counters (R487). -/
  | stkCntClr (n : Fin 4)
  /-- A PCIe memory request is performed as 32-bit accesses, or rejected and counted (R492). -/
  | pcieMemoryRequest (req : PcieRequest)
  /-- A Crosstree access that is misaligned or out of range is not performed and counted (R490). -/
  | xtAccessReject (write : Bool) (addr : BitVec 64) (size : Nat)
  /-- A BMC SPI ID command returns part, revision and DEVID (R493). -/
  | spiId
  /-- A BMC SPI STATUS command returns the SPI_STATUS word (R496). -/
  | spiStatus
  /-- A BMC SPI READ returns words from the direct range (R494): MOSI's bytes of the address, up to four, and those after them. -/
  | spiRead (addr rest : List Byte)
  /-- A BMC SPI WRITE writes words in the direct range (R494): MOSI's bytes of the address, up to four, and those after them. -/
  | spiWrite (addr rest : List Byte)
  /-- A BMC SPI WIN_READ starts one windowed read (R495): MOSI's bytes after the command byte. -/
  | winRead (mosi : List Byte)
  /-- A BMC SPI WIN_WRITE starts one windowed write (R495): MOSI's bytes of the address, up to four, and those after them. -/
  | winWrite (addr rest : List Byte)
  /-- A windowed access completes and records its CODE (R495). -/
  | winAccessDone
  /-- A BMC SPI WIN_DATA returns the last windowed read's data and CODE (R495). -/
  | winData
  /-- A BMC SPI RESET with the right key resets the core domain (R497); a transaction of an unknown command byte has no effect (R493). -/
  | spiReset (t : SpiTransaction)
  /-- An in-band management message is authenticated and executed as a mailbox request with a reply (R499). -/
  | inbandRequest (msg : InbandArrival)
  /-- A write of PM_CTL.SNAP copies every enabled selector's counter in one cycle (R504). -/
  | pmSnap
  /-- Every INTERVAL ms a PM snapshot is taken (R504). -/
  | pmSnapInterval
  /-- A write of ACC_CNT_CLR clears the three access-reject counters (R503). -/
  | accCntClr
  /-- At the start of an upstream frame whose map's windows did not fit, Backstay holds TXDIS_N low and sets CLOSED for the frame's duration, clearing it at the frame's end (R143). -/
  | closedFrame (p : Fin 16) (start : Bool)
  /-- The version 2 answer interval opens 64 slots before upstream frame QW_SF and closes at that frame's end, placed with PRE_EQD, releasing and then driving TXDIS_N (R146). -/
  | version2AnswerInterval (p : Fin 16) (start : Bool)
  /-- The receive side of a client sub-port enters or leaves LPI as the link partner signals it, changing RX_LPI and raising the LPI event (R232). -/
  | receiveLpiChange (b : Fin 32) (sub : Fin 4) (on : Bool)
  /-- A staged spill write completes to HBM and frees its staging space, so spill admissions can again take pages (R336). -/
  | spillWriteComplete
  /-- A write of SCH.CMD with GO starts a meter, shaper or gate-list command from the stage words and sets BUSY until it completes (R364). -/
  | schCmdGo (val : Word)
  /-- The PCIe link enters or leaves the link-up state, and host-vector requests are then discarded or delivered again (R406). -/
  | pcieLinkChange (up : Bool)
  /-- PMBus or AVSBus lines stuck low for 35 ms, or a regulator that does not answer, hold VDD_CORE and make REEF_CMD and REEF_SET return FAULT after READY (R482). -/
  | pmbusStuck (avs : Bool)
  /-- The PMBus and AVSBus answer again, and reef requests are accepted once more (R482). -/
  | pmbusAnswersAgain (avs : Bool)
  /-- An HBM stack reports a stack-level fault, the stack is lost, HBM_AVAIL falls and the device furls (R481). -/
  | hbmStackFault (n : Fin 4)
  deriving DecidableEq, Repr

end Sys2Proof
end

