-- ==== Sys2Proof/Config.lean ====
section
/-! DEFINITION. What one part, board or vendor fixes, and the values the spec leaves open: constants with no body.
DESIGN CHOICE, safe: nothing can be proved of their values (log entries 8, 10, 11, 179 and 184; those of one chapter have its
own entries). -/
namespace Sys2Proof

/-- Fused: the part is a UHT-LZ96-E (R503). -/
opaque Config.partE : Bool
/-- Fused: which device this is. -/
opaque Config.deviceNumber : Fin (2 ^ 64 - 3 + 1)
/-- Grade of ID_PART: UHT-LZ96-E or UHT-LZ96-C (R503). -/
def Config.partGrade : Byte := if Config.partE then 0x45 else 0x43
/-- Fused 64-bit device identifier, never all zeros or all ones (R503). -/
def Config.devid : BitVec 64 := BitVec.ofNat 64 (Config.deviceNumber.val + 1)
/-- Fused VDD_CORE target of OPP n, in mV (R435). -/
opaque Config.fusedOpp : Nat → BitVec 10
/-- The power-up voltage of the VDD_CORE regulator, above 0.70 V in mV (R450). -/
opaque Config.bootMv : Nat
/-- A free value drawn where the spec states none. The step applies it to the draw counter. -/
opaque Config.freeBits : Nat → BitVec 64
/-- How the free-running counter's clock stands to Heartwood's at one tick: the two clocks are not locked to one another
(R166). -/
opaque Config.frcAdvance : Nat → Nat
/-- How the clock recovered on trunk port p's receive lanes stands to Heartwood's at one tick (R26). -/
opaque Config.lineAdvance : Nat → Nat → Nat
/-- The 32 parity symbols of a codeword's 468 data symbols (R24, R120): the spec names RS(500,468) with 10-bit symbols and gives
neither its field polynomial nor its generator. -/
opaque Config.rsParity : BitVec 4680 → BitVec 320
/-- SHAKE256 with the output length in bytes, over a byte string (R388). -/
opaque Config.shake256 : Nat → List Byte → List Byte
/-- KMAC256 with output length in bytes: key, customisation string, message (R376, R500). -/
opaque Config.kmac256 : Nat → List Byte → List Byte → List Byte → List Byte
/-- The AES-256 block function: key, of 32 bytes, and block (R368). -/
opaque Config.aesCipher : List Byte → BitVec 128 → BitVec 128
/-- The inverse of the AES-256 block function. -/
opaque Config.aesInverse : List Byte → BitVec 128 → BitVec 128
/-- XMSS-SHAKE256_20_256: bytes of a node, the Winternitz base, chains of a one-time key, height of the tree (R387). -/
def Config.xmssN : Nat := 32
def Config.xmssW : Nat := 16
def Config.xmssLen : Nat := 67
def Config.xmssHeight : Nat := 20
/-- One-time keys, and the bytes of a signature (index, randomiser, chains, path) and of a public key (R387). -/
def Config.xmssKeys : Nat := 2 ^ Config.xmssHeight
def Config.xmssSignatureBytes : Nat := 4 + Config.xmssN + Config.xmssLen * Config.xmssN + Config.xmssHeight * Config.xmssN
def Config.xmssKeyBytes : Nat := 4 + 2 * Config.xmssN
/-- Whether an XMSS signature over a digest verifies under a public key (R387). -/
opaque Config.xmssVerify : List Byte → List Byte → List Byte → Bool
/-- The XMSS signature the device's private key makes with one index over a message (R387, R391). -/
opaque Config.xmssSign : Nat → List Byte → Vector Byte Config.xmssSignatureBytes
/-- The device's XMSS public key: OID, root and seed (R387). -/
opaque Config.xmssPublicKey : Vector Byte Config.xmssKeyBytes
/-- The device certificate that SHR_IDENTITY returns (R391). -/
opaque Config.certificate : List Byte
/-- Fused digest of the vendor's public key (R443). -/
opaque Config.vendorKeyDigest : List Byte
/-- Fused digest of the system maker's public key (R443). -/
opaque Config.makerKeyDigest : List Byte
/-- Fused: the system maker's verification key is enabled (XMSS_STATUS.MAKER_KEY). -/
opaque Config.makerKeyEnabled : Bool
/-- ID and EPOCH of a job's derivation (R376): the spec names the fields and gives them no value there. -/
opaque Config.jobKdfId : Nat
opaque Config.jobKdfEpoch : Nat
/-- Whether a client PHY type defines low-power idle, by MODE and PHY code (R232), and its wake time in 12.5 ps. -/
opaque Config.phyLpi : Nat → Nat → Bool
opaque Config.phyWake : Nat → Nat → Nat
/-- Whether a client PHY type defines link training, by MODE and PHY code, and whether the board swaps the receive pair of a client
lane, as that training finds it (R211, R212). -/
opaque Config.phyTrains : Nat → Nat → Bool
opaque Config.rxSwapped : Nat → Bool
/-- Whether a frame that Crosstree sends out of the management port asks for a transmit stamp, and with which TAG (R234). -/
opaque Config.stampRequest : Nat → Option (BitVec 16)
/-- Hash seeds of a rule table (R278 takes Canopy's placement, whose seeds are Canopy's registers): A and B. -/
opaque Config.ruleSeed : Nat → Bool → BitVec 32
/-- The image in which a walk returns a rule entry (R278): KEY words, result and MOVED; 32 bytes hold no key of ten words. -/
opaque Config.ruleImage : List Nat → BitVec 64 → Bool → List Byte
/-- The set of a result cache that a key falls in, and the lines of a set (R318). -/
opaque Config.cacheSet : Bool → Nat → Nat → Nat
opaque Config.cacheWays : Nat
/-- CODE and DETAIL of a fault record where the spec leaves them to the class without a value, and the pin classes that
WHERE names (R483): pin classes are numbered here as PIN_SUM numbers its bits. -/
opaque Config.logCode : Nat → Nat → Nat
opaque Config.logDetail : Nat → Nat → Nat
opaque Config.pinClass : Nat → Nat
/-- Doublewords of the PCIe configuration header that the manual gives no value (R491). -/
opaque Config.pcieHeader : Nat → BitVec 32
/-- Maximum payload size in bytes (R491). -/
def Config.maxPayload : Nat := 512
/-- How the job engine's state lies in the segment context at AUX_ADDR + 80 is not given (R383): it is masked with this. -/
opaque Config.contextMask : BitVec 384
/-- Whether the host answers the n-th access to n bytes at an address of its memory with an error (R385): the host's own. -/
opaque Config.hostMemError : Nat → Nat → Nat → Bool
/-- The device-unique fused key that unwraps root keys (R374). -/
opaque Config.wrapKey : List Byte
/-- The register writes, in order, that a TABLES, POLICY or TSI section of an image stands for: the spec gives the
sections' place and digest but not their byte layout (R441, R452). -/
opaque Config.sectionWrites : List Byte → List (Nat × Word)
/-- The entries of rule tables that a TABLES section stands for: table, key words, result (R289, R452). -/
opaque Config.sectionRules : List Byte → List (Nat × List Word × BitVec 64)
/-- The Canopy entries and TCAM prefixes that a TABLES section stands for, as INSERT descriptors of R303 (R321, R452). -/
opaque Config.sectionEntries : List Byte → List (List Word)
/-- The root keys a KEYS section stands for: slot, USE and the wrapped key (R441, R374). -/
opaque Config.sectionKeys : List Byte → List (Nat × Nat × List Byte)
/-- BLOCK of LAST_TRANS for the stop orders that are no participant of prepare (R424): the spec gives them no code. -/
opaque Config.stopBlock : Nat → Nat
/-- The HBM stack that holds an address of the HBM structures (R472): the spec gives no mapping. -/
opaque Config.hbmStack : Nat → Fin 4
/-- Whether an address of structure 0x06 lies in the result memory, not in the slots (R472): the spec gives no addresses. -/
opaque Config.resultWord : Nat → Bool
/-- One rail of REG_MAP: PMBus address and page, domain code, whether it is the AVSBus rail (R444). -/
structure Rail where
  addr : Nat
  page : Nat
  dom : Nat
  avs : Bool
  deriving DecidableEq, Repr

/-- A record of the board table, by its contents (R444). -/
inductive BoardRecord where
  | lanePresent (words : List Word)
  | laneEq (lane : Nat) (eqTx eqRx : Word) (txInv : Bool)
  | laneMap (group : Nat) (pins : List Nat)
  | wkn (port : Nat) (wknCtl dozeCtl : Word)
  | cliMode (block mode phy : Nat)
  | waves (l : List (List Nat))
  | strapOvr (pcie mgt : Option Bool)
  | regMap (rails : List Rail)
  | oppMargin (m0 m1 m2 : Int)
  | boardId (id revision : Nat)
  deriving DecidableEq, Repr

/-- The record that data of a TYPE other than LANE_PRESENT's stand for, none where they are no such record: the spec gives the
records' contents but no byte layout (R444). -/
opaque Config.boardDecode : Nat → List Byte → Option BoardRecord
/-- The metadata that heads an exception copy in the notification ring (R464): class, direction, the words of R286,
stamp, whether it is UNSET, and length; the spec names the contents and gives their 64 bytes no layout. -/
opaque Config.copyMeta : Nat → Bool → List Nat → Int → Bool → Nat → List Byte

end Sys2Proof
end

