-- ==== Sys2Proof/Machine/Coding.lean ====
section
/-! DEFINITION. Byte order, check codes and the scrambler of Bluentica (R43, R44), and field extraction. -/
namespace Sys2Proof.Machine
open Sys2Proof

/-- Bits [hi:lo] of a number. -/
def bits (n hi lo : Nat) : Nat := n >>> lo % 2 ^ (hi + 1 - lo)

/-- A truth value as a bit. -/
def bitN (b : Bool) : Nat := if b then 1 else 0

/-- The number that bytes spell, most significant byte first (R25). -/
def ofBytes (l : List Byte) : Nat := l.foldl (fun a b => 256 * a + b.toNat) 0

/-- The k bytes of a number, most significant byte first. -/
def toBytes : Nat → Nat → List Byte
  | 0, _ => []
  | k + 1, n => BitVec.ofNat 8 (n / 256 ^ k) :: toBytes k n

/-- The number that bytes spell, least significant byte first. -/
def ofBytesLe : List Byte → Nat
  | [] => 0
  | b :: r => b.toNat + 256 * ofBytesLe r

/-- The k bytes of a number, least significant byte first. -/
def toBytesLe : Nat → Nat → List Byte
  | 0, _ => []
  | k + 1, n => BitVec.ofNat 8 n :: toBytesLe k (n / 256)

/-- The k low bits of a number, most significant first. -/
def bitsMsb (n : Nat) : Nat → List Bool
  | 0 => []
  | k + 1 => n.testBit k :: bitsMsb n k

/-- The bits of bytes in transmission order (R25). -/
def byteBits (l : List Byte) : List Bool := l.flatMap fun b => bitsMsb b.toNat 8

/-- One step of a check register of w bits, most significant bit first, without reflection. -/
def crcStep (w poly c : Nat) (b : Bool) : Nat :=
  let c2 := 2 * c % 2 ^ w
  if c.testBit (w - 1) != b then c2 ^^^ poly else c2

/-- HEC-16 over a list of bits (R43). -/
def hec16 (l : List Bool) : Nat := l.foldl (crcStep 16 0x1021) 0xFFFF

/-- CRC-32 over bytes (R43). -/
def crc32 (l : List Byte) : Nat := (byteBits l).foldl (crcStep 32 0x04C11DB7) 0xFFFFFFFF ^^^ 0xFFFFFFFF

/-- One step of the Ethernet FCS, least significant bit first. -/
def fcsStep (c : Nat) (b : Bool) : Nat :=
  if c.testBit 0 != b then c / 2 ^^^ 0xEDB88320 else c / 2

/-- The FCS of a frame's bytes as IEEE 802.3 sends it. -/
def etherFcs (l : List Byte) : List Byte :=
  toBytesLe 4 ((l.flatMap fun b => (bitsMsb b.toNat 8).reverse).foldl fcsStep 0xFFFFFFFF ^^^ 0xFFFFFFFF)

/-- One step of the scrambler: its keystream bit and next state (R44). The bit taken is the oldest one, bit 30, so that the
first 31 bits after the all-ones state are ones (log entry 173). -/
def scrStep (st : Nat) : Bool × Nat :=
  (st.testBit 30, (2 * st + bitN (st.testBit 30 != st.testBit 27)) % 2 ^ 31)

/-- k keystream bits from a state, as a number, and the state after them. -/
def scrBits : Nat → Nat → Nat → Nat × Nat
  | 0, acc, st => (acc, st)
  | k + 1, acc, st => let r := scrStep st; scrBits k (2 * acc + bitN r.1) r.2

/-- Bytes scrambled, or descrambled, from a state of the scrambler. -/
def scrambleFrom : Nat → List Byte → List Byte
  | _, [] => []
  | st, b :: r =>
    let k := scrBits 8 0 st
    (b ^^^ BitVec.ofNat 8 k.1) :: scrambleFrom k.2 r

/-- Bytes scrambled from the all-ones state (R44, R119). -/
def scramble (l : List Byte) : List Byte := scrambleFrom 0x7FFFFFFF l

/-- n divided by d, rounded up. -/
def ceilDiv (n d : Nat) : Nat := (n + d - 1) / d

/-- Bytes an envelope with LEN payload bytes occupies: header, payload and pad (R56). -/
def envSize (len : Nat) : Nat := 8 + 4 * ceilDiv len 4

/-- An envelope header from its fields, with its HEC (R56). -/
def envHeader (dtid stream key flags len : Nat) : Nat :=
  let h := dtid % 2 ^ 12 * 2 ^ 36 + stream % 2 ^ 16 * 2 ^ 20 + key % 4 * 2 ^ 18 + flags % 16 * 2 ^ 14 + len % 2 ^ 14
  h * 2 ^ 16 + hec16 (bitsMsb h 48)

/-- Whether an envelope header passes its HEC and carries a legal LEN (R58). -/
def envHeaderGood (h : Nat) : Bool := hec16 (bitsMsb (h / 2 ^ 16) 48) == h % 2 ^ 16 && bits h 29 16 ≤ 16128

/-- An idle envelope's bytes: LEN 0, DTID 4,095, the rest 0 (R56). -/
def idleEnvelope : List Byte := toBytes 8 (envHeader 4095 0 0 0 0)

/-- Positions in which two patterns of 64 bits differ. -/
def mismatches (a b : BitVec 64) : Nat := ((bitsMsb (a ^^^ b).toNat 64).filter id).length

/-- The members of l at the positions a to a + n − 1. -/
def slice {α : Type} (l : List α) (a n : Nat) : List α := (l.drop a).take n

/-- A codeword of RS(500,468): 468 data symbols, then their 32 parity symbols (R24, R25). -/
def codeword (data : BitVec 4680) : BitVec 5000 := data ++ Config.rsParity data

/-- Symbols of 10 bits in error among the 500 of a codeword (R24). -/
def symErrs (e : BitVec 5000) : Nat := ((List.range 500).filter fun i => e.toNat >>> (10 * i) % 1024 != 0).length

/-- A sum of numbers. -/
def total (l : List Nat) : Nat := l.foldl (· + ·) 0

end Sys2Proof.Machine
end

