-- ==== Sys2Proof/Machine/RegMap.lean ====
section
/-! DEFINITION. The register map: every register of every block with its address, its writable bits, its access code
(R11) and its reset value, block by block as the chapters' tables give them. -/
namespace Sys2Proof.Machine
open Sys2Proof

/-- Which reset gives a register its reset value: Heartwood power-on only, or every core-domain reset. -/
inductive ResetDomain where
  | heartwood | core
  deriving DecidableEq, Repr

/-- One register, or a regular family of them: instance (i, j) lies at base + i·s1 + j·s2 and holds `words` words of
one quantity (R13). -/
structure RegDesc where
  name : String
  base : Nat
  n1 : Nat := 1
  s1 : Nat := 0
  n2 : Nat := 1
  s2 : Nat := 0
  words : Nat := 1
  rwMask : Word := 0
  rwlMask : Word := 0
  w1cMask : Word := 0
  hiMasks : List Word := []
  isCnt : Bool := false
  rst : Word := 0
  dom : ResetDomain := .core
  deriving DecidableEq, Repr

/-- A read-only register, the start of each row below. -/
def roReg (name : String) (base : Nat) : RegDesc := { name := name, base := base }
/-- A register with writable bits `m`. -/
def rwReg (name : String) (base : Nat) (m : Word) : RegDesc := { name := name, base := base, rwMask := m }
/-- A register of write-1-to-clear latches `m`. -/
def w1cReg (name : String) (base : Nat) (m : Word) : RegDesc := { name := name, base := base, w1cMask := m }
/-- A 32-bit counter, or two 16-bit counters in one word. -/
def cntReg (name : String) (base : Nat) : RegDesc := { name := name, base := base, isCnt := true }
/-- A 64-bit counter. -/
def cnt64Reg (name : String) (base : Nat) : RegDesc := { name := name, base := base, isCnt := true, words := 2 }
/-- A row repeated n times at stride s. -/
def timesReg (n s : Nat) (d : RegDesc) : RegDesc := { d with n1 := n, s1 := s }
/-- A row repeated n times at stride s inside each instance. -/
def eachReg (n s : Nat) (d : RegDesc) : RegDesc := { d with n2 := n, s2 := s }
/-- A row whose reset value is v. -/
def rstReg (v : Word) (d : RegDesc) : RegDesc := { d with rst := v }
/-- A row with bits m that the configuration lock closes. -/
def rwlReg (m : Word) (d : RegDesc) : RegDesc := { d with rwlMask := m }
/-- A row of one quantity of n words (R13). -/
def wideReg (n : Nat) (d : RegDesc) : RegDesc := { d with words := n }
/-- A wide row whose words after word 0 have the writable bits m. -/
def highReg (m : List Word) (d : RegDesc) : RegDesc := { d with hiMasks := m }
/-- A row reset at Heartwood power-on only. -/
def hwReg (d : RegDesc) : RegDesc := { d with dom := .heartwood }

/-- Registers of one trunk port, repeated over the 16 ports (R10). -/
def trunkRows (l : List RegDesc) : List RegDesc := l.map (timesReg 16 0x10000)

/-- Framer and registration registers (ch. 02 and 03), Halyard (ch. 04). -/
def trkMap : List RegDesc := trunkRows
  [ rstReg 0x00000820 (rwReg "FR_CTL" 0x01000000 0x00000FF1),
    roReg "FR_STATUS" 0x01000004,
    wideReg 2 (roReg "SF" 0x01000008),
    roReg "DEF_RAW" 0x01000010, roReg "DEF_REP" 0x01000014,
    w1cReg "FR_EVENT" 0x01000018 0x3FF, rwReg "FR_EVENT_EN" 0x0100001C 0x3FF,
    rstReg 0x3E80 (rwReg "SD_SET" 0x01000020 0xFFFFFFFF), rstReg 0x640 (rwReg "SD_CLR" 0x01000024 0xFFFFFFFF),
    rstReg 0x7D00 (rwReg "SES_THRESH" 0x01000028 0xFFFFFFFF),
    roReg "AF_ENTRY0" 0x01000040,
    eachReg 7 4 (rwReg "AF_ENTRY1-7" 0x01000044 0x80000FFF),
    w1cReg "AF_STATUS" 0x01000060 1,
    rwReg "PM_SEL" 0x01000080 0xFF, roReg "PM_CTL" 0x01000084,
    eachReg 32 4 (roReg "PM_DATA" 0x010000C0),
    eachReg 6 8 (cnt64Reg "framer counters, 64-bit" 0x01000200),
    eachReg 14 4 (cntReg "framer counters, 32-bit" 0x01000230) ] ++ trunkRows
  [ rstReg 0x600 (rwlReg 0x600 (rwReg "RG_CTL" 0x01000400 1)),
    roReg "RG_STATUS" 0x01000404, roReg "RG_EQD" 0x01000408, roReg "RG_EQD_PEND" 0x0100040C,
    wideReg 2 (roReg "RG_EQD_SF" 0x01000410),
    rstReg 0x7D0 (rwReg "RG_ANN_TO" 0x01000418 0xFFFF), rstReg 0x3E8 (rwReg "RG_RANGE_TO" 0x0100041C 0xFFFF),
    rstReg 0x3E8 (rwReg "RG_HOLD_TO" 0x01000420 0xFFFF),
    w1cReg "RG_EVENT" 0x01000424 0x3F, rwReg "RG_EVENT_EN" 0x01000428 0x3F,
    eachReg 7 4 (cntReg "registration counters" 0x01000440) ] ++ trunkRows
  [ rstReg 2 (rwReg "GRANT_CTL" 0x01008000 3), roReg "HAL_STATUS" 0x01008004,
    rstReg 0x1E (rwReg "BURST_CTL" 0x01008008 0xFF), rstReg 0x06400140 (rwReg "DOZE_CTL" 0x0100800C 0xFFFFFFFF),
    wideReg 2 (roReg "HORIZON" 0x01008010),
    rwReg "CTX_LOOKUP" 0x01008018 0xFFF, roReg "CTX_RESULT" 0x0100801C,
    w1cReg "HAL_EVENT" 0x01008020 0x3F, rwReg "HAL_EVENT_EN" 0x01008024 0x3F,
    eachReg 5 8 (cnt64Reg "Halyard counters, 64-bit" 0x01008100),
    eachReg 17 4 (cntReg "Halyard counters, 32-bit" 0x01008128) ]

/-- Backstay (ch. 05): Heartwood registers (R164). -/
def bksMap : List RegDesc := (
  [ rstReg 0xC (rwlReg 0xF (roReg "BKS_CTL" 0x01200000)), w1cReg "BKS_STATUS" 0x01200004 1,
    roReg "UNLOCK" 0x01200008, roReg "MUZZLE_SUM" 0x0120000C, roReg "FAULT_SUM" 0x01200010 ] ++
  [ rwReg "P_CTL" 0x01200100 1, rstReg 0x30700000 (roReg "P_STATUS" 0x01200104),
    w1cReg "P_EVENT" 0x01200108 0x3F, rwReg "P_EVENT_EN" 0x0120010C 0x3F,
    roReg "CAUSE" 0x01200110, roReg "LAST_TEST" 0x01200114, wideReg 2 (roReg "MUZZLE_SF" 0x01200118),
    eachReg 8 4 (cntReg "Backstay counters" 0x01200120) ].map (timesReg 16 0x40)).map hwReg

/-- Lookout ports (ch. 03); LKO_CTL is held in Heartwood retention (R431). -/
def lkoMap : List RegDesc :=
  [ hwReg (rwReg "LKO_CTL" 0x01300000 0x33), roReg "LKO_STATUS" 0x01300004,
    w1cReg "LKO_EVENT" 0x01300008 0xF, rwReg "LKO_EVENT_EN" 0x0130000C 0xF,
    roReg "RG_SUMMARY" 0x01300010, roReg "LKO_CNT_CLR" 0x01300014,
    timesReg 2 0x20 (eachReg 6 4 (cntReg "lookout counters" 0x01300100)), cntReg "TX_FORCED" 0x01300118 ]

/-- Time base (ch. 06); the LAST_ registers are in Heartwood retention (R190). -/
def timeMap : List RegDesc :=
  [ rstReg 0x80E (rwReg "TB_CTL" 0x01400000 0x000038FF), rstReg 0x10000000 (roReg "TB_STATUS" 0x01400004),
    wideReg 2 (roReg "FRC" 0x01400008), wideReg 4 (roReg "NT" 0x01400010),
    rwReg "RATE" 0x01400020 0xFFFFFFFF, w1cReg "TB_EVENT" 0x01400024 0x7FF, rwReg "TB_EVENT_EN" 0x01400028 0x7FF,
    rstReg 0x03E803E8 (rwReg "SERVO_CTL" 0x0140002C 0xFFFFFFFF), wideReg 2 (roReg "LAST_ERR" 0x01400030),
    rstReg 0x64 (rwReg "PPS_CTL" 0x01400040 0xE007FFFF), wideReg 4 (roReg "PPS_IN_TS" 0x01400044),
    timesReg 2 4 (rwReg "RCLK_CTL" 0x01400060 0x800001FF), rstReg 3 (roReg "RCLK_STATUS" 0x01400068),
    hwReg (wideReg 4 (roReg "LAST_NT" 0x01400070)), hwReg (wideReg 2 (roReg "LAST_UPTIME" 0x01400080)),
    timesReg 16 0x10 (wideReg 2 (roReg "MON_DIFF" 0x01400100)), timesReg 16 0x10 (wideReg 2 (roReg "MON_SF" 0x01400108)),
    timesReg 7 4 (cntReg "time-base counters" 0x01400200) ]

/-- The registers of one serial lane at offset b of the lane space (ch. 07). -/
def laneRows (b : Nat) : List RegDesc :=
  [ rwlReg 2 (rwReg "LANE_CTL" (b + 0) 1), roReg "LANE_STATUS" (b + 4),
    rwlReg 0x00FFFFFF (roReg "EQ_TX" (b + 0x10)), rwlReg 0xFFFF (roReg "EQ_RX" (b + 0x14)),
    rwReg "PAT_CTL" (b + 0x20) 0xFFF00000, roReg "INJ" (b + 0x24),
    w1cReg "LANE_EVENT" (b + 0x30) 0x1F, rwReg "LANE_EVENT_EN" (b + 0x34) 0x1F,
    cnt64Reg "PAT_BITS" (b + 0x100), eachReg 5 4 (cntReg "lane counters" (b + 0x108)) ]

/-- LANE_CTL, EQ_TX and EQ_RX of lanes 272 to 274 are held in Heartwood retention (R431). -/
def retainLane (d : RegDesc) : RegDesc :=
  if d.name = "LANE_CTL" ∨ d.name = "EQ_TX" ∨ d.name = "EQ_RX" then hwReg d else d

/-- Serial lanes 0 to 278 (279 to 288 are reserved, R5) and the common lane registers (ch. 07). -/
def laneMap : List RegDesc :=
  (laneRows 0x08000000).map (timesReg 272 0x4000) ++
  ((laneRows 0x08440000).map (timesReg 3 0x4000)).map retainLane ++
  (laneRows 0x0844C000).map (timesReg 4 0x4000) ++
  [ eachReg 10 4 (roReg "LANE_SUM" 0x08500000) ] ++
  [ rstReg 0x600 (rwlReg 0x603 (roReg "WKN_CTL" 0x08500100)), roReg "WKN_STATUS" 0x08500104,
    w1cReg "WKN_EVENT" 0x08500108 7, rwReg "WKN_EVENT_EN" 0x0850010C 7, cntReg "WKN_ATTEMPTS" 0x08500110,
    eachReg 6 4 (roReg "WKN_CAP" 0x08500120) ].map (timesReg 16 0x40)

/-- The registers of a client block at b, repeated over n blocks (ch. 08); each has four sub-port sets. -/
def cliRows (b n : Nat) : List RegDesc :=
  [ rwlReg 0xF0 (rwReg "PORT_CTL" b 7), roReg "PORT_STATUS" (b + 4),
    w1cReg "PORT_EVENT" (b + 8) 0xFFFFFFFF, rwReg "PORT_EVENT_EN" (b + 12) 0xFFFFFFFF ].map (timesReg n 0x10000)

/-- One sub-port set at b, repeated over n blocks (ch. 08). -/
def cliSet (b n : Nat) : List RegDesc :=
  ([ rstReg 0x20002400 (rwlReg 0x02000000 (rwReg "MAC_CTL" b 0xFC003FFF)), roReg "MAC_STATUS" (b + 4),
    rstReg 0xFFFF7FFF (rwReg "PFC_CTL" (b + 0x10) 0xFFFFFFFF), rwReg "PFC_EN" (b + 0x14) 0xFFFF,
    rstReg 0x64 (rwReg "LPI_CTL" (b + 0x18) 0xFFFF),
    eachReg 8 4 (rwReg "PFC_QMAP" (b + 0x20) 0x77777777),
    wideReg 5 (roReg "TS_TX" (b + 0x40)), eachReg 2 4 (roReg "RX_LAT, TX_LAT" (b + 0x60)),
    eachReg 32 8 (highReg [0x8000FFFF] (wideReg 2 (rwReg "UC_ENTRY" (b + 0x100) 0xFFFFFFFF))),
    eachReg 128 4 (rwReg "MC_HASH" (b + 0x200) 0xFFFFFFFF) ] ++
  [ eachReg 6 8 (cnt64Reg "client counters, 64-bit" (b + 0x800)),
    eachReg 13 4 (cntReg "client counters, 32-bit" (b + 0x830)) ]).map (timesReg n 0x10000)

/-- Client blocks 0 to 31 and the management port (ch. 08). -/
def cliMap : List RegDesc :=
  cliRows 0x02000000 32 ++ cliSet 0x02001000 32 ++ cliSet 0x02002000 32 ++ cliSet 0x02003000 32 ++ cliSet 0x02004000 32

/-- The management port: one block with sub-port 0 (R236). -/
def mgtMap : List RegDesc :=
  [ rwReg "PORT_CTL" 0x02300000 1, roReg "PORT_STATUS" 0x02300004, w1cReg "PORT_EVENT" 0x02300008 0xFF,
    rwReg "PORT_EVENT_EN" 0x0230000C 0xFF, rstReg 0x20002400 (rwReg "MAC_CTL" 0x02301000 0xF4003FFF),
    roReg "MAC_STATUS" 0x02301004, wideReg 5 (roReg "TS_TX" 0x02301040), eachReg 2 4 (roReg "RX_LAT, TX_LAT" 0x02301060),
    eachReg 4 8 (highReg [0x8000FFFF] (wideReg 2 (rwReg "UC_ENTRY" 0x02301100 0xFFFFFFFF))),
    eachReg 6 8 (cnt64Reg "client counters, 64-bit" 0x02301800), eachReg 13 4 (cntReg "client counters, 32-bit" 0x02301830) ]

/-- Time-slot interchange (ch. 09). -/
def tsiMap : List RegDesc :=
  [ rstReg 0x28000000 (rwReg "TSI_CTL" 0x02400000 0x3FFF0001), roReg "TSI_STATUS" 0x02400004,
    roReg "PAGE_CTL" 0x02400008, roReg "ARM_ERR" 0x0240000C, wideReg 2 (roReg "SW_SF" 0x02400010),
    w1cReg "TSI_EVENT" 0x02400018 0x7FF, rwReg "TSI_EVENT_EN" 0x0240001C 0x7FF,
    timesReg 2 8 (wideReg 2 (rwReg "PAGE_CAL" 0x02400040 0xFFFFFFFF)),
    timesReg 2 8 (cnt64Reg "TSI counters, 64-bit" 0x02400100), timesReg 9 4 (cntReg "TSI counters, 32-bit" 0x02400110) ] ++
  [ timesReg 64 0x10 (rwlReg 0x0FFFFFFF (roReg "SP_CTL" 0x02401000)), timesReg 64 0x10 (roReg "SP_STATUS" 0x02401004),
    timesReg 64 0x400 (eachReg 40 4 (rwReg "TX_CAL_A" 0x02410000 0xFFFFFFFF)),
    timesReg 64 0x400 (eachReg 40 4 (rwReg "TX_CAL_B" 0x02410100 0xFFFFFFFF)),
    timesReg 64 0x400 (eachReg 40 4 (roReg "RX_CAL_A" 0x02410200)),
    timesReg 64 0x400 (eachReg 40 4 (roReg "RX_CAL_B" 0x02410300)),
    timesReg 5120 4 (roReg "SLOT_STATUS" 0x02420000),
    timesReg 2 0x10000 (eachReg 8192 8 (highReg [0xFFFFFFFF] (wideReg 2 (rwReg "page entry" 0x02440000 0xFFFFFFE0)))) ]

/-- Parse graph (ch. 10). -/
def pgMap : List RegDesc :=
  [ rwReg "PG_CTL" 0x03000000 1, roReg "PG_STATUS" 0x03000004,
    w1cReg "PG_EVENT" 0x03000008 0xF, rwReg "PG_EVENT_EN" 0x0300000C 0xF,
    timesReg 32 4 (rwReg "START_CLI" 0x03000100 0xFF), timesReg 16 4 (rwReg "START_TRK" 0x03000180 0xFF),
    timesReg 2 8 (cnt64Reg "parse counters, 64-bit" 0x03000200), timesReg 4 4 (cntReg "parse counters, 32-bit" 0x03000210),
    timesReg 2048 0x10 (eachReg 2 4 (rwReg "Transition VALUE, MASK" 0x03008000 0xFFFFFFFF)) ] ++
  [ rwReg "Node word 0" 0x03001000 0xFF9F07FF, rwReg "Node word 1" 0x03001004 0xBFFF8000, rwReg "Node word 2" 0x03001008 0xFFFF,
    rwReg "Node word 3" 0x0300100C 0x81FF00FF, rwReg "Node word 4" 0x03001010 0x81FFFFFF,
    rwReg "Node word 5" 0x03001014 0x9FFF8000, eachReg 4 4 (rwReg "Node words 6-9" 0x03001018 0xFFFFE000),
    eachReg 6 4 (roReg "Node words 10-15" 0x03001028) ].map (timesReg 256 0x40) ++
  [ rwReg "Transition word 2" 0x03008008 0x800001FF, roReg "Transition word 3" 0x0300800C ].map (timesReg 2048 0x10)

/-- Classifier, with the indirection table (ch. 10). -/
def clsMap : List RegDesc :=
  [ rwReg "CLS_CTL" 0x03100000 1, roReg "CLS_STATUS" 0x03100004,
    w1cReg "CLS_EVENT" 0x03100008 0x3F, rwReg "CLS_EVENT_EN" 0x0310000C 0x3F ] ++
  [ rwReg "TBL_CTL" 0x03100100 0xEF0001FF, rwReg "TBL_REQ" 0x03100104 0xFFFF,
    rwReg "KEY_SRC_A" 0x03100108 0x3FFFFFFF, rwReg "KEY_SRC_B" 0x0310010C 0x3FFFFFFF,
    eachReg 10 4 (rstReg 0xFFFFFFFF (rwReg "KEY_MASK" 0x03100110 0xFFFFFFFF)),
    highReg [0xFFFFFFFF] (wideReg 2 (rwReg "TBL_DEF" 0x03100138 0xFFFFFE00)) ].map (timesReg 16 0x40) ++
  [ timesReg 16 0x10 (eachReg 2 8 (cnt64Reg "TBL_CNT" 0x03100600)),
    timesReg 64 0x10 (rwReg "EXC_CTL" 0x03101000 0xC0003FFF),
    timesReg 64 0x10 (rstReg 0x2710 (rwReg "EXC_RATE" 0x03101004 0x3FFFFF)),
    timesReg 64 0x10 (rstReg 0x40 (rwReg "EXC_BURST" 0x03101008 0xFFFF)),
    timesReg 64 0x10 (eachReg 4 4 (cntReg "EXC_CNT" 0x03102000)) ] ++
  [ rwReg "HP_CTL" 0x03103000 0xE00FFFFF, rwReg "HP_SEED" 0x03103004 0xFFFFFFFF,
    rwReg "HP_SRC_A" 0x03103008 0x3FFFFFFF, rwReg "HP_SRC_B" 0x0310300C 0x3FFFFFFF,
    eachReg 10 4 (rstReg 0xFFFFFFFF (rwReg "HP_MASK" 0x03103010 0xFFFFFFFF)) ].map (timesReg 64 0x40) ++
  [ cnt64Reg "RULE_DROP" 0x03104000, timesReg 2 4 (cntReg "classifier counters" 0x03104008),
    timesReg 64 0x8000 (eachReg 4096 8 (highReg [0xC00FFFF0] (wideReg 2 (rwReg "Indirection" 0x03200000 0xFFFF)))) ]

/-- Canopy (ch. 11). -/
def canMap : List RegDesc :=
  [ rwReg "CAN_CTL" 0x04000000 1, roReg "CAN_STATUS" 0x04000004,
    w1cReg "CAN_EVENT" 0x04000008 0xFF, rwReg "CAN_EVENT_EN" 0x0400000C 0xFF,
    rstReg 0x4000 (rwReg "EVT_CTL" 0x04000010 0x80007FFF), roReg "EVT_LEVEL" 0x04000014,
    wideReg 8 (roReg "EVT_POP" 0x04000020),
    timesReg 32 4 (rwReg "PSEL_CLI" 0x04000100 0xF), timesReg 16 4 (rwReg "PSEL_TRK" 0x04000180 0xF) ] ++
  [ rwReg "PF_CTL" 0x04001000 0xF0FF0700, rwReg "PF_NODE" 0x04001004 0xFFFF,
    rwReg "DST_SRC" 0x04001008 0xFFFFFF, rwReg "LRN_SRC" 0x0400100C 0xFFFFFF,
    eachReg 4 4 (rstReg 0xFFFFFFFF (rwReg "DST_MASK" 0x04001010 0xFFFFFFFF)),
    eachReg 4 4 (rstReg 0xFFFFFFFF (rwReg "LRN_MASK" 0x04001020 0xFFFFFFFF)),
    rwReg "DIP4_SRC" 0x04001030 0x3F, rwReg "DIP6_SRC" 0x04001034 0xFFFFFF,
    highReg [0xFFFFFF00, 0xFFFFFFFF] (wideReg 3 (rwReg "L2_DEF" 0x04001040 0)),
    highReg [0xFFFFFF00, 0xFFFFFFFF] (wideReg 3 (rwReg "ROUTE_DEF" 0x04001050 0)),
    highReg [0xFFFFFF00, 0xFFFFFFFF] (wideReg 3 (rwReg "LRN_TPL" 0x04001060 0)) ].map (timesReg 16 0x100) ++
  [ rstReg 0x26000000 (rwReg "CAN_TBL_CTL" 0x04002000 0xFF000003), rwReg "TBL_SIZE" 0x04002004 0x07FF01FF,
    rwReg "SEED_A" 0x04002008 0xFFFFFFFF, rstReg 0x5A5A5A5A (rwReg "SEED_B" 0x0400200C 0xFFFFFFFF),
    rstReg 0xA5A5A5A5 (rwReg "SEED_F" 0x04002010 0xFFFFFFFF), rstReg 0x012C03E8 (rwReg "AGE_CTL" 0x04002014 0x7FFF03FF),
    roReg "AGE_NOW" 0x04002018, roReg "OCC_ON" 0x0400201C, roReg "OCC_HBM" 0x04002020 ].map (timesReg 16 0x40) ++
  [ timesReg 8 0x10 (rwReg "RING_PROD" 0x04003000 0x3FF), timesReg 8 0x10 (roReg "RING_CONS" 0x04003004),
    timesReg 5 8 (cnt64Reg "Canopy counters" 0x04004000),
    timesReg 16 0x40 (eachReg 2 8 (cnt64Reg "LOOKUPS, HITS" 0x04004100)),
    timesReg 16 0x40 (eachReg 6 4 (cntReg "table counters" 0x04004110)),
    timesReg 8 0x10000 (eachReg 16384 4 (rwReg "ring descriptor" 0x04080000 0xFFFFFFFF)) ]

/-- Prefix TCAM (ch. 11). -/
def tcamMap : List RegDesc :=
  [ rwReg "TCAM_CTL" 0x04100000 1, roReg "TCAM_STATUS" 0x04100004,
    w1cReg "TCAM_EVENT" 0x04100008 7, rwReg "TCAM_EVENT_EN" 0x0410000C 7,
    rstReg 0x28 (rwReg "ARB" 0x04100010 0x7F), timesReg 64 4 (roReg "BANK_USED" 0x04100100),
    timesReg 1024 4 (rwReg "STEER4" 0x04101000 0x3F3F3F3F), timesReg 1024 4 (rwReg "STEER6" 0x04102000 0x3F3F3F3F),
    timesReg 4 8 (cnt64Reg "TCAM counters, 64-bit" 0x04103000), timesReg 2 4 (cntReg "TCAM counters, 32-bit" 0x04103020) ]

/-- Buffer manager (ch. 12). -/
def bufMap : List RegDesc :=
  [ rwReg "BUF_CTL" 0x05000000 3, roReg "BUF_STATUS" 0x05000004, roReg "FREE_CELLS" 0x05000008,
    roReg "FREE_PAGES" 0x0500000C, w1cReg "BUF_EVENT" 0x05000010 0x3FF, rwReg "BUF_EVENT_EN" 0x05000014 0x3FF,
    wideReg 2 (roReg "WARN_SUM" 0x05000018), rstReg 0x2D230804 (rwReg "HBM_SHARE" 0x05000020 0xFFFFFFFF),
    rwReg "CPU_OWNER" 0x05000024 0x1FF, roReg "QFLUSH" 0x05000030, wideReg 2 (roReg "FAULT_PTR" 0x05000040),
    roReg "LEAKED" 0x05000048,
    timesReg 6 8 (cnt64Reg "buffer counters, 64-bit" 0x05000800), timesReg 7 4 (cntReg "buffer counters, 32-bit" 0x05000830),
    timesReg 64 8 (cnt64Reg "POOL_DROP" 0x05000A00) ] ++
  [ rwReg "POOL_CFG" 0x05001000 0x8000FFFF, rwReg "POOL_SHARED" 0x05001004 0xFFFFF,
    eachReg 4 4 (rwReg "POOL_WARN, XOFF, XON, ADMIT" 0x05001008 0xFFFFF), rwReg "POOL_HBM" 0x05001018 0x1FFFFFF,
    roReg "POOL_USE" 0x0500101C, roReg "POOL_PAGES" 0x05001020 ].map (timesReg 64 0x40) ++
  [ rwReg "OWN_CFG" 0x05002000 0x8000003F, eachReg 4 4 (rwReg "OWN_RSV, MAX, XOFF, XON" 0x05002004 0xFFFFF),
    roReg "OWN_USE" 0x05002014, roReg "OWN_STATE" 0x05002018 ].map (timesReg 512 0x20) ++
  [ timesReg 1024 4 (rwReg "UP_OWNER" 0x05006000 0x1FF), timesReg 2048 4 (rwReg "DN_OWNER" 0x05007000 0x1FF) ] ++
  [ rwReg "Q_CFG" 0x05100000 0x800FFFFF, rwReg "Q_HBM" 0x05100004 0x1FFFFFF, roReg "Q_CELLS" 0x05100008,
    roReg "Q_PAGES" 0x0510000C ].map (timesReg 67584 0x10) ++
  [ timesReg 4096 8 (highReg [0xFFFF] (wideReg 2 (rwReg "Group" 0x05300000 0x81FF00FF))),
    timesReg 65536 4 (rwReg "Member" 0x05400000 0x800007FF) ]

/-- Scheduler (ch. 13). -/
def schMap : List RegDesc :=
  [ rwReg "SCH_CTL" 0x06000000 3, w1cReg "SCH_EVENT" 0x06000008 0x1F, rwReg "SCH_EVENT_EN" 0x0600000C 0x1F,
    roReg "CMD" 0x06000010, roReg "CMD_STATUS" 0x06000014, timesReg 16 4 (rwReg "STAGE" 0x06000020 0xFFFFFFFF),
    timesReg 32 4 (rwReg "GL_ATTACH" 0x06000100 0x8000003F), timesReg 128 4 (rwReg "SUB_SHP" 0x06000200 0x80003FFF),
    timesReg 32 4 (rwReg "TC_CLI" 0x06000400 0x87FFFFFF), timesReg 16 4 (rwReg "TC_TRK" 0x06000480 0x87FFFFFF),
    timesReg 6 8 (cnt64Reg "scheduler counters, 64-bit" 0x06000800), timesReg 2 4 (cntReg "scheduler counters, 32-bit" 0x06000830) ] ++
  [ rwReg "GL_CFG" 0x06001000 0x80000000, rwReg "GL_CYCLE" 0x06001004 0x3FFFFFFF, rwReg "GL_BASE_NS" 0x06001008 0x3FFFFFFF,
    wideReg 2 (rwReg "GL_BASE_SEC" 0x0600100C 0xFFFFFFFF), rstReg 0xFFFFFFFF (wideReg 2 (rwReg "GL_IDLE" 0x06001014 0xFFFFFFFF)),
    rwReg "GL_CT_NS" 0x0600101C 0x3FFFFFFF, wideReg 2 (rwReg "GL_CT_SEC" 0x06001020 0xFFFFFFFF),
    roReg "GL_STATUS" 0x06001028, roReg "GL_OPER_CYCLE" 0x0600102C ].map (timesReg 64 0x40) ++
  [ timesReg 4096 8 (rwReg "CTX_HOME" 0x06080000 0x8F000FFF), timesReg 4096 8 (rwReg "CTX_GL" 0x06080004 0x8000003F) ] ++
  [ rwReg "dn queue word 0" 0x060C0000 0xBFFFFFFF, roReg "dn queue word 2" 0x060C0008,
    eachReg 2 8 (cnt64Reg "dn SENT" 0x060C0010) ].map (timesReg 2048 0x20) ++
  [ timesReg 64 0x4000 (eachReg 1024 0x10 (wideReg 2 (rwReg "admin GATES" 0x06200000 0xFFFFFFFF))),
    timesReg 64 0x4000 (eachReg 1024 0x10 (rwReg "admin INTERVAL" 0x06200008 0x3FFFFFFF)),
    timesReg 64 0x4000 (eachReg 1024 0x10 (wideReg 2 (roReg "oper GATES" 0x06300000))),
    timesReg 64 0x4000 (eachReg 1024 0x10 (roReg "oper INTERVAL" 0x06300008)) ] ++
  [ rwReg "up queue word 0" 0x06400000 0xBFFFFFFF, rwReg "up queue CTX" 0x06400004 0xFFF, roReg "up queue word 2" 0x06400008,
    eachReg 2 8 (cnt64Reg "up SENT" 0x06400010) ].map (timesReg 65536 0x20)

/-- Shroud (ch. 14). -/
def shrMap : List RegDesc :=
  [ rwReg "SHR_CTL" 0x07000000 3, roReg "SHR_STATUS" 0x07000004,
    w1cReg "SHR_EVENT" 0x07000008 0x7FF, rwReg "SHR_EVENT_EN" 0x0700000C 0x7FF,
    roReg "XMSS_STATUS" 0x07000010, roReg "XMSS_NEXT" 0x07000014, timesReg 32 4 (roReg "ROOT_STATUS" 0x07000100),
    timesReg 16 0x10 (eachReg 2 4 (roReg "PORT_KEY" 0x07000200)), timesReg 16 0x10 (wideReg 2 (roReg "PEND_SF" 0x07000208)),
    timesReg 4 0x10 (rwReg "JR_PROD" 0x07000400 0xFF), timesReg 4 0x10 (roReg "JR_CONS" 0x07000404),
    timesReg 16 0x40 (eachReg 2 8 (cnt64Reg "Shroud port counters, 64-bit" 0x07001000)),
    timesReg 16 0x40 (eachReg 4 4 (cntReg "Shroud port counters, 32-bit" 0x07001010)),
    timesReg 3 8 (cnt64Reg "Shroud counters, 64-bit" 0x07002000), timesReg 2 4 (cntReg "Shroud counters, 32-bit" 0x07002018),
    timesReg 4 0x4000 (eachReg 4096 4 (rwReg "job descriptor" 0x07100000 0xFFFFFFFF)) ]

/-- Interrupt controller (ch. 15): the watch part is reset at Heartwood power-on only (R411); the numbers between the
rows belong to no source (R394). -/
def icMap : List RegDesc :=
  [ rwReg "IC_CTL" 0x00100000 1, roReg "IC_STATUS" 0x00100004, roReg "SRC_SET" 0x00100010,
    timesReg 32 4 (roReg "PEND_SUM" 0x00100100),
    hwReg (timesReg 64 4 (rwReg "SRC_CFG, watch" 0x00101000 0xE01F003F)),
    timesReg 960 4 (rwReg "SRC_CFG" 0x00101100 0xC01F003F),
    timesReg 1024 4 (roReg "SRC_STATE" 0x00102000) ] ++
  [ timesReg 20 0x80 (rstReg 0x40 (rwReg "T_CTL" 0x00104000 0x7F)),
    hwReg (timesReg 2 0x80 (rstReg 0x40 (rwReg "T_CTL, watch" 0x00104A00 0x7F))),
    timesReg 22 0x80 (rstReg 0x40 (roReg "T_STATUS" 0x00104004)), timesReg 22 0x80 (rstReg 0x3FF (roReg "ACK" 0x00104008)),
    timesReg 22 0x80 (roReg "EOI" 0x0010400C), timesReg 22 0x80 (roReg "T_FAULT" 0x00104010),
    timesReg 22 0x80 (eachReg 16 4 (roReg "STACK" 0x00104040)),
    timesReg 20 0x10 (eachReg 4 4 (cntReg "target counters" 0x00106000)),
    hwReg (timesReg 2 0x10 (eachReg 4 4 (cntReg "target counters, watch" 0x00106140))) ] ++
  [ timesReg 4 0x10 (eachReg 3 4 (rwReg "MSI-X address and data" 0x00108000 0xFFFFFFFF)),
    timesReg 4 0x10 (rstReg 1 (rwReg "MSI-X vector control" 0x0010800C 1)),
    eachReg 2 4 (roReg "MSI-X pending bits" 0x00109000) ]

/-- Reef manager (ch. 16): Heartwood registers (R435). -/
def reefMap : List RegDesc := (
  [ rwReg "REEF_CTL" 0x00200000 3, roReg "REEF_CMD" 0x00200004, roReg "REEF_STATUS" 0x00200008,
    rwReg "TRK_DARK_REQ" 0x0020000C 0xFFFF, rwReg "CLI_DARK_REQ" 0x00200010 0xFFFFFFFF,
    roReg "TRK_DARK" 0x00200014, roReg "CLI_DARK" 0x00200018, roReg "LAST_TRANS" 0x0020001C,
    w1cReg "REEF_EVENT" 0x00200020 0x1FF, rwReg "REEF_EVENT_EN" 0x00200024 0x1FF,
    timesReg 3 4 (rwlReg 0x3FF (roReg "OPP" 0x00200030)),
    rstReg 0x050201F4 (rwReg "TIMEOUTS" 0x00200040 0xFFFFFFFF), rstReg 0x3E8 (rwReg "GRANT_TO" 0x00200044 0xFFFF),
    rstReg 0x64 (rwReg "LIGHT_TO" 0x00200048 0xFFFF), rwReg "WAKE_A_CTL" 0x00200050 0xC07F00FF,
    rwReg "WAKE_TIMER" 0x00200054 0xFFFFFFFF, rwReg "WAKE_HAIL" 0x00200058 0x8000FFFF ] ++
  [ roReg "WAKE_CAUSE" 0x0020005C, roReg "WAKE_TRK" 0x00200060, roReg "WAKE_CLI" 0x00200064,
    timesReg 4 4 (cntReg "reef counters" 0x00200100), timesReg 16 4 (cntReg "DARK_GRANT_DISC" 0x00200120) ]).map hwReg

/-- Heartwood's own registers: wake patterns (ch. 08), IRQ_PIN (ch. 15), faults and the log (ch. 18). -/
def hwMap : List RegDesc := (
  [ wideReg 2 (roReg "UPTIME" 0x0100), roReg "POWER_EPOCH" 0x0108,
    timesReg 8 0x20 (rwReg "WP_CTL" 0x2000 0x800000FF), timesReg 8 0x20 (eachReg 4 4 (rwReg "WP_MASK" 0x2004 0xFFFFFFFF)),
    timesReg 8 0x20 (rwReg "WP_CHECK" 0x2014 0xFFFFFFFF), w1cReg "WAKE_MATCH" 0x2100 0xFF, rwReg "WAKE_MATCH_EN" 0x2104 1,
    w1cReg "IRQ_PIN" 0x3380 0xC0000000 ] ++
  [ rstReg 0x40 (rwReg "FLT_CTL" 0x5000 0xFFFF), rstReg 0x3E8 (rwReg "WDOG_CTL" 0x5004 0x8000FFFF),
    roReg "WDOG_KICK" 0x5008, w1cReg "FLT_EVENT" 0x5010 0xFF, rwReg "FLT_EVENT_EN" 0x5014 0xFF,
    rstReg 0x10000000 (roReg "LAST_RESET" 0x5018), rstReg 0xFF (roReg "PAIRS" 0x501C), roReg "PIN_SUM" 0x5020,
    roReg "LOG_STATUS" 0x5024, rwReg "LOG_IDX" 0x5028 0xFF, eachReg 16 4 (roReg "LOG_DATA" 0x5040),
    timesReg 6 4 (cntReg "fault counters" 0x5100), timesReg 15 8 (eachReg 2 4 (cntReg "CE, UE" 0x5208)) ]).map hwReg

/-- Identity and boot registers (ch. 17 and 19): Heartwood registers. -/
def idMap : List RegDesc := (
  [ roReg "ID_PART" 0x10000, rstReg 0x42001A47 (roReg "ID_REV" 0x10004), wideReg 2 (roReg "DEVID" 0x10008),
    rstReg 3 (roReg "REGS_VER" 0x10010), w1cReg "ACC_STATUS" 0x10020 7, timesReg 3 4 (cntReg "ACC_REJ" 0x10030),
    roReg "ACC_CNT_CLR" 0x1003C ] ++
  [ rstReg 0x10000000 (roReg "BOOT_STATUS" 0x10100), roReg "FURL_REASON" 0x10104, roReg "CFG_LOCK" 0x10108,
    wideReg 2 (roReg "BOOT_TIME" 0x1010C), timesReg 4 4 (roReg "SLOT_STATUS" 0x10120),
    timesReg 6 4 (roReg "IFACE_SET" 0x10140), roReg "BOOT_PREF" 0x10160,
    w1cReg "BOOT_EVENT" 0x10170 7, rwReg "BOOT_EVENT_EN" 0x10174 7 ]).map hwReg

/-- HBM stacks (ch. 18). -/
def hbmMap : List RegDesc :=
  [ roReg "STK_STATUS" 0x09000000, w1cReg "STK_EVENT" 0x09000004 7, rwReg "STK_EVENT_EN" 0x09000008 7,
    eachReg 3 4 (cntReg "stack counters" 0x09000010) ].map (timesReg 4 0x1000)

/-- Mailbox, notification ring and in-band channel (ch. 17 and 19). -/
def xtMap : List RegDesc :=
  [ roReg "MB_DOORBELL" 0x0A000000, roReg "MB_STATUS" 0x0A000004, w1cReg "MB_EVENT" 0x0A000008 3,
    rwReg "MB_EVENT_EN" 0x0A00000C 3, eachReg 1024 4 (rwReg "MB_REQ" 0x0A001000 0xFFFFFFFF),
    eachReg 1024 4 (roReg "MB_RSP" 0x0A002000) ].map (timesReg 2 0x10000) ++
  [ rwReg "NR_CTL" 0x0A020000 0x80000000, wideReg 2 (rwReg "NR_BASE" 0x0A020004 0xFFFFFFFF),
    rstReg 0x10 (rwReg "NR_SIZE" 0x0A02000C 0x1F), roReg "NR_PROD" 0x0A020010, rwReg "NR_CONS" 0x0A020014 0xFFFFF,
    wideReg 2 (rwReg "NR_EXC" 0x0A020018 0xFFFFFFFF), w1cReg "NR_EVENT" 0x0A020020 3, rwReg "NR_EVENT_EN" 0x0A020024 3,
    timesReg 4 4 (cntReg "mailbox counters" 0x0A020100) ] ++
  [ rwlReg 0x4000001F (rwReg "MC_CTL" 0x0A030000 0xA0000000), rwReg "MC_TRK" 0x0A030004 0x0FFFFFFF,
    timesReg 2 8 (wideReg 2 (roReg "MC_SEQ" 0x0A030008)), timesReg 2 4 (cntReg "in-band counters" 0x0A030100) ]

/-- Performance-monitoring window (ch. 19). -/
def pmMap : List RegDesc :=
  [ rwReg "PM_CTL" 0x0B000000 0xFFFF, roReg "PM_STATUS" 0x0B000004, wideReg 2 (roReg "SNAP_UPTIME" 0x0B000008),
    timesReg 8 4 (roReg "SEL_ERR" 0x0B000020), timesReg 256 4 (rwReg "SEL" 0x0B001000 0xCFFFFFFC),
    timesReg 256 8 (wideReg 2 (roReg "DATA" 0x0B002000)) ]

/-- The rows of the region that holds byte address a (R501); none where no region lies there. -/
def mapOf (a : Nat) : List RegDesc :=
  if a < 0x10000 then hwMap else if a < 0x20000 then idMap
  else if 0x00100000 ≤ a ∧ a < 0x00110000 then icMap
  else if 0x00200000 ≤ a ∧ a < 0x00201000 then reefMap
  else if 0x01000000 ≤ a ∧ a < 0x01100000 then trkMap
  else if 0x01200000 ≤ a ∧ a < 0x01210000 then bksMap
  else if 0x01300000 ≤ a ∧ a < 0x01310000 then lkoMap
  else if 0x01400000 ≤ a ∧ a < 0x01410000 then timeMap
  else if 0x02000000 ≤ a ∧ a < 0x02200000 then cliMap
  else if 0x02300000 ≤ a ∧ a < 0x02310000 then mgtMap
  else if 0x02400000 ≤ a ∧ a < 0x02480000 then tsiMap
  else if 0x03000000 ≤ a ∧ a < 0x03010000 then pgMap
  else if 0x03100000 ≤ a ∧ a < 0x03500000 then clsMap
  else if 0x04000000 ≤ a ∧ a < 0x04100000 then canMap
  else if 0x04100000 ≤ a ∧ a < 0x04110000 then tcamMap
  else if 0x05000000 ≤ a ∧ a < 0x05800000 then bufMap
  else if 0x06000000 ≤ a ∧ a < 0x06800000 then schMap
  else if 0x07000000 ≤ a ∧ a < 0x07200000 then shrMap
  else if 0x08000000 ≤ a ∧ a < 0x08501000 then laneMap
  else if 0x09000000 ≤ a ∧ a < 0x09004000 then hbmMap
  else if 0x0A000000 ≤ a ∧ a < 0x0A040000 then xtMap
  else if 0x0B000000 ≤ a ∧ a < 0x0B010000 then pmMap
  else []

/-- Where byte address a falls inside a row: the word of the quantity, if it is one of the row's registers. -/
def RegDesc.wordAt (d : RegDesc) (a : Nat) : Option Nat :=
  if a < d.base then none
  else
    let o := a - d.base
    let i := if d.s1 = 0 then 0 else o / d.s1
    let o1 := if d.s1 = 0 then o else o % d.s1
    let j := if d.s2 = 0 then 0 else o1 / d.s2
    let o2 := if d.s2 = 0 then o1 else o1 % d.s2
    if i < d.n1 ∧ j < d.n2 ∧ o2 / 4 < d.words ∧ o2 % 4 = 0 then some (o2 / 4) else none

/-- The row that holds byte address a, and which word of the quantity it is. -/
def findRow : List RegDesc → Nat → Option (RegDesc × Nat)
  | [], _ => none
  | d :: r, a => match d.wordAt a with
    | some w => some (d, w)
    | none => findRow r a

/-- The two Heartwood copies of an address name one register (R408, R413): the address under which it is held. -/
def canonAddr (a : Nat) : Nat :=
  if 0x3000 ≤ a ∧ a < 0x3100 then a - 0x3000 + 0x00101000
  else if 0x3100 ≤ a ∧ a < 0x3200 then a - 0x3100 + 0x00102000
  else if 0x3200 ≤ a ∧ a < 0x3300 then a - 0x3200 + 0x00104A00
  else if 0x3300 ≤ a ∧ a < 0x3320 then a - 0x3300 + 0x00106140
  else if 0x4000 ≤ a ∧ a < 0x5000 then a - 0x4000 + 0x00200000
  else a

/-- The row and the word of a register address; none where no register lies (R12, R501). -/
def rowOf (a : Nat) : Option (RegDesc × Nat) := findRow (mapOf a) a

/-- Interrupt source numbers that a chapter assigns to an event (R394). -/
def sourceExists (n : Nat) : Bool :=
  n ≤ 8 || (16 ≤ n && n ≤ 32) || n == 40 || (48 ≤ n && n ≤ 50) || (56 ≤ n && n ≤ 63) ||
  (112 ≤ n && n ≤ 118) || (128 ≤ n && n ≤ 388) || (400 ≤ n && n ≤ 410) || (432 ≤ n && n ≤ 698) ||
  (720 ≤ n && n ≤ 723) || (728 ≤ n && n ≤ 733) || (784 ≤ n && n ≤ 791) || (800 ≤ n && n ≤ 802) ||
  (848 ≤ n && n ≤ 857) || (880 ≤ n && n ≤ 884) || (944 ≤ n && n ≤ 954) || (976 ≤ n && n ≤ 979) ||
  (1000 ≤ n && n ≤ 1003) || n == 1010 || n == 1012

/-- The reset value of the register at byte address a. -/
def resetOf (a : Nat) : Word :=
  if a = 0x10000 then 0x00960000 ||| (Config.partGrade.setWidth 32 <<< 8)
  else if a = 0x10008 then Config.devid.setWidth 32
  else if a = 0x1000C then (Config.devid >>> 32).setWidth 32
  else if 0x00200030 ≤ a ∧ a < 0x0020003C then (Config.fusedOpp ((a - 0x00200030) / 4)).setWidth 32
  else if a = 0x03101000 ∨ a = 0x03101030 then 0x40000000
  else match rowOf a with
    | none => 0
    | some (d, _) =>
      if d.name = "PFC_QMAP" then BitVec.ofNat 32 (((a - 0x20) % 0x1000 / 4) * 0x11111111)
      else if d.name = "STEER4" ∨ d.name = "STEER6" then
        let v := (a % 0x1000) % 64
        BitVec.ofNat 32 (v + 0x100 * ((v + 1) % 64) + 0x10000 * ((v + 2) % 64) + 0x1000000 * ((v + 3) % 64))
      else d.rst

/-- Which reset the register at byte address a follows. -/
def domainOf (a : Nat) : ResetDomain :=
  match rowOf a with
  | some (d, _) => d.dom
  | none => .core

end Sys2Proof.Machine
end

