-- ==== Sys2Proof/Machine/State.lean ====
section
/-! DEFINITION. The state of the terminal, as plain data: one sparse register file for what the register tables give,
and one structure per block for what the spec describes beside its registers. -/
namespace Sys2Proof.Machine
open Sys2Proof

/-! ### What leaves the device -/

/-- Everything that crosses the device's boundary outward, in the order in which it leaves. It is the model's own
record (no register of the device holds it): a statement about what the device sends is a statement about it. -/
inductive Output where
  /-- The completion of a read on an access path. -/
  | data (path : Path) (words : List Word)
  /-- A PCIe completion with Unsupported Request (R492). -/
  | unsupported
  /-- The bytes of MISO after the command of a BMC SPI transaction (R493). -/
  | spi (bytes : List Byte)
  /-- An MSI-X message of vector v: address and data (R406). -/
  | msix (v : Nat) (addr : BitVec 64) (data : Word)
  /-- A lookout message keyed on lookout port n, with the instant of a timed one (R92, R94). -/
  | lm (n : Nat) (bytes : List Byte) (instant : Option Nat)
  /-- A burst of trunk port p: the upstream frame and slot of its first preamble bit's START, and its header bytes (R119). -/
  | burst (p : Nat) (sf start : Nat) (header : List Byte)
  /-- The envelope area of a burst, its bytes before scrambling and FEC (R123, R125). -/
  | area (p : Nat) (sf start : Nat) (bytes : List Byte)
  /-- A whole burst as its bits leave the pins, in bytes: preamble slot, then codewords, scrambled and with parity (R119,
  R120). -/
  | line (p : Nat) (sf start : Nat) (bytes : List Byte)
  /-- A frame at the xMII of sub-port s of client block p; block 32 is the management port (R224, R236). -/
  | frame (p s : Nat) (bytes : List Byte)
  /-- A rise or fall of PPS_OUT, at an instant of the reading (R182). -/
  | pps (rise : Bool) (nt : Int)
  /-- The control blocks of one tick on trunk port p's eight transmit data lanes (R197). -/
  | blocks (p : Nat) (lanes : List (BitVec 125))
  /-- What PHY u's 80 calendar slots send in one Heartwood tick, and an overhead multiframe that it sends, with its PHY number
  (R241, R253). -/
  | slots (u : Nat) (contents : List (List (BitVec 66)))
  | overhead (u phy : Nat) (oh : FlexeOverhead)
  /-- Bits inverted in lane l's transmit stream, in live traffic or in the generator's pattern (R217). -/
  | inverted (l n : Nat) (live : Bool)
  /-- A Voltage write on AVSBus: the target in mV (R426). -/
  | avs (mv : Nat)
  /-- A regulator configured over PMBus (R450). -/
  | regulator (r : Rail)
  /-- OPERATION to the regulator or switch of a power domain (R426). -/
  | power (dom : Nat) (on : Bool)
  /-- READY, driven high or low (R455). -/
  | ready (level : Bool)
  /-- The completion of a classifier ring command: status, EXISTED, END, RCOUNT, HANDLE, result (R278, R303). -/
  | ruleDone (status : Nat) (existed ended : Bool) (rcount handle : Nat) (result : BitVec 64)
  /-- Bytes written to host memory over PCIe (R464, R303, R383). -/
  | hostWrite (addr : Nat) (bytes : List Byte)
  deriving DecidableEq, Repr

/-! ### Interrupt controller (ch. 15) -/

/-- State of one interrupt source (R395): ACTIVE is 1 while it is on the stack of target `on`. -/
structure IcSource where
  pending : Bool := false
  active : Bool := false
  count : Nat := 0
  on : Nat := 0
  deriving DecidableEq, Repr

/-- State of one target: its stack of (source, priority) with the top first, and the record of a STACK_ORDER fault
(R398, R403). -/
structure IcTarget where
  stack : List (Nat × Nat) := []
  frozen : Bool := false
  faultValid : Bool := false
  faultTop : Nat := 0
  faultNamed : Nat := 0
  deriving DecidableEq, Repr

/-- The controller: sources, targets, the MSI-X pending bits and function mask, and the PCIe link (R394 to R407). -/
structure Interrupts where
  src : Tab IcSource := []
  tgt : Tab IcTarget := []
  msixPend : Tab Bool := []
  funcMask : Bool := false
  linkUp : Bool := false
  /-- BAR0, and the maximum read request size as 128 · 2^n bytes (R491; reset values: log entry 228). -/
  bar0 : Word := 0
  readRequest : Fin 6 := 2
  deriving DecidableEq, Repr

/-! ### Framer (ch. 02) -/

/-- Delineation (R58). -/
inductive Delin where
  | hunt | presync | sync
  deriving DecidableEq, Repr

/-- One candidate tracker: the stream position of its sighting and its sightings with a good header so far (R46). -/
structure Tracker where
  pos : Nat
  run : Nat
  deriving DecidableEq, Repr

/-- A TMM on its way to Crosstree: its bits, the frame that carried it (the port's last consistent SF for one from
the lookout) and whether it came from the lookout (R54, R91). -/
structure TmmIn where
  bits : BitVec 384
  sf : Nat
  lookout : Bool
  /-- CLEAN was 3 and GUARD_FAULT clear as its CRC check completed (R151). -/
  mayClear : Bool := false
  deriving DecidableEq, Repr

/-- A grant map as the framer passes it to Halyard and to Backstay: the frame's SF and the map bytes, or none where
no map is delivered (R55, R108). -/
structure MapIn where
  sf : Nat
  bytes : Option (List Byte)
  deriving DecidableEq, Repr

/-- An epoch of a port: root slot and context label (R379). -/
structure Epoch where
  root : Nat
  label : BitVec 192
  deriving DecidableEq, Repr

/-- What a downstream header has been matched with when it was delineated: the filter entry, and the keys of its KEY epoch then
(R60, R380). -/
structure RunHead where
  entry : Option Nat
  key : Option Epoch
  deriving DecidableEq, Repr

/-- What a framer keeps beside its registers (R45 to R66). -/
structure Framer where
  locked : Bool := false
  trackers : Tab (Option Tracker) := []
  expectPos : Nat := 0
  missRun : Nat := 0
  /-- Expected count E (R49) and t_rx of the frame E, by its expected position. -/
  e : Nat := 0
  rxAt : Nat := 0
  /-- Raw defects, bit i as DEF_RAW (R63). -/
  raw : BitVec 7 := 0
  incRun : Nat := 0
  /-- The run that clears LOSF: headers in it, and the SF the next frame would carry (R50). -/
  clrLen : Nat := 0
  clrNext : Nat := 0
  /-- The last consistent SF since the framer was last enabled (R49, R153). -/
  lastSf : Option Nat := none
  /-- Receive stamps of the last 16 frames that have one, newest first (R174). -/
  stamps : List (Nat × Nat) := []
  delin : Delin := .hunt
  /-- Payload bytes, descrambled, that delineation has not consumed: the envelope run of R57, its next header first. -/
  run : List Byte := []
  /-- What the header at the front of the run was matched with, where the rest of its envelope is still to come (R60, R380). -/
  head : Option RunHead := none
  /-- The downstream frames whose payload is in the run, the newest first: each by its E and the bytes it brought (R380). -/
  runFrames : List (Nat × Nat) := []
  /-- Envelope discards for a key epoch in this frame, the run of frames with one, the run without (R63). -/
  keyfNow : Bool := false
  keyfRun : Nat := 0
  keyfClean : Nat := 0
  /-- SD window: its metric, the frames of it received locked, the runs of windows (R63, R525). -/
  sdMetric : Nat := 0
  sdFrames : Nat := 0
  /-- The frame count that goes on with the window. -/
  sdNext : Nat := 0
  sdOver : Nat := 0
  sdUnder : Nat := 0
  queue : List TmmIn := []
  deriving DecidableEq, Repr

/-! ### Performance monitoring (ch. 02) -/

/-- One bin: the flag bits of word 0 and the counts of the PM record (R69, R71). -/
structure PmBin where
  valid : Bool := false
  incomplete : Bool := false
  unaligned : Bool := false
  power : Bool := false
  timeAcq : Bool := false
  dark : Bool := false
  cleared : Bool := false
  startNt : Nat := 0
  epoch : Nat := 0
  startUp : Nat := 0
  seconds : Nat := 0
  es : Nat := 0
  ses : Nat := 0
  uas : Nat := 0
  ds : List Nat := []
  corrCw : Nat := 0
  uncorrCw : Nat := 0
  missed : Nat := 0
  invalid : Nat := 0
  discard : Nat := 0
  /-- Uptime at the bin's end; it is closed 10 s later (R70). -/
  endUp : Nat := 0
  deriving DecidableEq, Repr

/-- A second of a run of R67: whether it was an ES, and how many 15-minute and 24-hour bins have ended since. -/
structure PmSec where
  es : Bool
  end15 : Nat := 0
  end24 : Nat := 0
  deriving DecidableEq, Repr

/-- The PM store of one port, in Heartwood retention (R69): current and past bins, bins that have ended and wait to
be closed, all newest first, and the classification of seconds in progress (R67). -/
structure PmStore where
  cur15 : PmBin := { valid := true, unaligned := true }
  cur24 : PmBin := { valid := true, unaligned := true }
  past15 : List PmBin := []
  past24 : List PmBin := []
  end15 : List PmBin := []
  end24 : List PmBin := []
  /-- Defects reported at any time in this second, and its counts so far. -/
  secRep : BitVec 7 := 0
  secUncorr : Nat := 0
  /-- The number of the second in progress, and whether counting has run since its beginning (R68, R71). -/
  secNo : Nat := 0
  secWhole : Bool := true
  /-- The numbers of the quarter-hour and of the day in which the current bins began (R70). -/
  no15 : Nat := 0
  no24 : Nat := 0
  /-- Whole seconds of the present run of SES and of non-SES, and unavailable time. -/
  sesRun : List PmSec := []
  goodRun : List PmSec := []
  uaTime : Bool := false
  deriving DecidableEq, Repr

/-! ### Registration, ranging and the lookout (ch. 03) -/

/-- Per-port terminal states (R84). -/
inductive RegState where
  | init | listen | announce | range | operate | hold | silent
  deriving DecidableEq, Repr

/-- A remembered TMM: TYPE, SEQ, the reply it got, and the frame at which it was acted on (R80). -/
structure Remembered where
  type : Nat
  seq : Nat
  reply : Option (BitVec 384)
  actedSf : Nat
  deriving DecidableEq, Repr

/-- A TMM of the port that waits to be sent: a reply, or an unsolicited message (R82). `sf` is SF_rx. -/
structure TmmOut where
  bits : BitVec 384
  sf : Nat
  deriving DecidableEq, Repr

/-- A pending EqD change, with the confirmations of R99 and the SEQ of its request. -/
structure EqdChange where
  eqd : Nat
  sfEff : Nat
  done : Bool
  confirmed : Bool
  seq : Nat
  idField : Nat
  sfRx : Nat
  lookout : Bool
  deriving DecidableEq, Repr

/-- A version 2 quiet window that the port has decided to answer (R104). -/
structure QuietWindow where
  sf : Nat
  k : Nat
  preEqd : Nat
  /-- The ANNOUNCE, if the hail is answered. -/
  announce : Option (BitVec 384)
  /-- The answer burst's first preamble bit, once launched; its header has left 1,000 units of 12.5 ps later. -/
  launched : Option Nat := none
  /-- Waiting replies that its header carries, and the header. -/
  took : List TmmOut := []
  header : List Byte := []
  deriving DecidableEq, Repr

/-- A silence in force: its remaining frames (0 without end) and the head end's reason (R83, R84). -/
structure Silence where
  left : Nat
  endless : Bool
  reason : Nat
  deriving DecidableEq, Repr

/-- What a port's registration keeps beside its registers (R76 to R105). -/
structure Registration where
  state : RegState := .init
  /-- RET; while it reads SILENT, in HOLD, the return state of that silence (R84). -/
  ret : RegState := .init
  under : RegState := .init
  version : Nat := 0
  tid : Option Nat := none
  silence : Option Silence := none
  lastTid : Nat := 4095
  releaseReason : Nat := 0
  /-- Uptime at which the ANNOUNCE, RANGE or HOLD timer was started; none while it does not run (R86). -/
  annAt : Option Nat := none
  rangeAt : Option Nat := none
  holdAt : Option Nat := none
  remembered : List Remembered := []
  eqd : Nat := 0
  /-- The EqD before the last change and the upstream frame from which that change held (R100). -/
  eqdOld : Nat := 0
  eqdFrom : Nat := 0
  /-- A RANGE_SET has been accepted since ASSIGN_ID (R97, R110 check 4). -/
  ranged : Bool := false
  pend : Option EqdChange := none
  /-- The confirmed change that an unconfirmed one is to replace (R99, R101). -/
  pendOld : Option EqdChange := none
  /-- Replies and messages for the next burst of a port that has the lookout to fall back on (R82 items 1 and 2), and the
  version 2 queue of 16 that bursts and quiet windows take from (items 1 and 3, R105). -/
  out : List TmmOut := []
  out2 : List TmmOut := []
  /-- Frame of the last HAIL that was answered (R94: at most one a frame). -/
  hailSf : Option Nat := none
  /-- A RELEASE acted on: the upstream frame at whose end it takes effect (R87). -/
  releaseAt : Option Nat := none
  /-- Quiet windows decided on and not yet over, oldest first. -/
  qws : List QuietWindow := []
  /-- The port lost downstream by going dark and waits for it since this uptime (R421). -/
  litAt : Option Nat := none
  /-- Uptime at which the port went dark: no timer of it runs since (R420). -/
  darkAt : Option Nat := none
  deriving DecidableEq, Repr

/-- A timed LM of the device: trunk port, ANNOUNCE (with its hail) or probe reply, first instant, the microsecond K
it was moved to, and the TMM (R94, R95, R103). -/
structure TimedLm where
  port : Nat
  probe : Bool
  base : Nat
  k : Nat
  tmm : BitVec 384
  deriving DecidableEq, Repr

/-- One lookout port (R89 to R93): the queue of untimed LMs, the delay of the oldest, the last keying's end, and the
LMs delivered in the last millisecond with their uptime. -/
structure Lookout where
  queue : List (BitVec 512) := []
  delayFrom : Option Nat := none
  delayUs : Nat := 0
  keyedFrom : Option Nat := none
  recent : List (BitVec 512 × Nat) := []
  deriving DecidableEq, Repr

/-! ### Halyard (ch. 04) -/

/-- One frame or container that a commit took for a grant: the frame's number in the buffer and its queue, or a rigid container's
cut and slot and its bytes; whether its bytes are in the launch buffer, sealed; whether it was replaced by idle envelopes (R129, R130). -/
structure Fill where
  frame : Nat
  queue : Nat
  rigid : Bool
  dtid : Nat
  stream : Nat
  mgmt : Bool
  plain : List Byte
  sealed : Option (List Byte)
  dropped : Bool
  /-- Connection-memory entry of a rigid container. -/
  entry : Nat := 0
  deriving DecidableEq, Repr

/-- What the commit of a burst's first grant settled: the TMMs and report entries of its header (R122, R127). -/
structure HeaderPlan where
  tmms : List TmmOut := []
  report : List (Nat × Nat) := []
  trunc : Bool := false
  deriving DecidableEq, Repr

/-- A grant held by a port: the fields of its entry, the frame it lies in, whether it is settled as a continuation,
whether its burst has left
the pins, and what its commit settled and took (R107, R111, R124, R129). -/
structure Grant where
  sf : Nat
  start : Nat
  len : Nat
  alloc : Nat
  rpt : Bool
  rigid : Bool
  ranging : Bool
  ext : Bool
  chain : Bool
  cont : Bool
  /-- A valid grant has chained to this one (R124). -/
  followed : Bool := false
  committed : Bool := false
  launched : Bool := false
  plan : HeaderPlan := {}
  /-- Budget bytes unused by a non-rigid grant, passed on in its chain (R125); the remainder of under 8 bytes that a
  grant filled in place passes on; idle envelopes placed at once after its fills; the header's X in this grant. -/
  carry : Nat := 0
  rem : Nat := 0
  idle : Nat := 0
  headX : Nat := 0
  fill : List Fill := []
  deriving DecidableEq, Repr

/-- What Halyard keeps for a port beside its registers. -/
structure Halyard where
  maps : List MapIn := []
  grants : List Grant := []
  /-- The burst enable is asserted. -/
  txOpen : Bool := false
  /-- Answer window grants of R109: frame, START and LEN. -/
  qwGrants : List (Nat × Nat × Nat) := []
  /-- The header of the burst in progress, and the instant at which the last burst's window ended. -/
  header : List Byte := []
  idleFrom : Int := 0
  /-- The last report stopped before this group (R126). -/
  resume : Nat := 0
  horizon : Nat := 0
  dozing : Bool := false
  waking : Bool := false
  dozeInhibit : Bool := false
  deriving DecidableEq, Repr

/-- A binding of an allocation context (R34, R116). -/
structure Binding where
  port : Nat
  alloc : Nat
  rpt : Nat
  rigid : Bool
  deriving DecidableEq, Repr

/-! ### Backstay (ch. 05) -/

/-- A merged window: the upstream frame of its grant's START and the span in slots from that frame's start, which may
be negative for lead slots (R111, R141); placed with PRE_EQD where `pre` gives one. -/
structure Window where
  sf : Nat
  first : Int
  last : Int
  pre : Option Nat
  deriving DecidableEq, Repr

/-- What Backstay keeps for a port beside its Heartwood registers (R140 to R161). -/
structure Guard where
  maps : List MapIn := []
  tid : Option Nat := none
  eqd : Option Nat := none
  eqdOld : Nat := 0
  eqdFrom : Nat := 0
  pend : Option (Nat × Nat) := none
  windows : List Window := []
  /-- Upstream frames to be held closed, and those in progress that are (R143, R100). -/
  closed : List Nat := []
  closedNow : List Nat := []
  /-- The armed version 2 answers: frame and PRE_EQD; inside an interval of theirs (R141, R146). -/
  answers : List (Nat × Nat) := []
  answerOpen : Bool := false
  /-- The silence gate is closed; a SILENCE has been decoded and the boundary is still to come (R154). -/
  gateClosed : Bool := false
  gateDue : Bool := false
  clkHold : Bool := false
  /-- The ball is held at a level by the board (R161). -/
  pin : Option Bool := none
  /-- The dry-fire deferral count, while it runs: the frames counted and the last of them (R157). -/
  defer : Option (Nat × Nat) := none
  /-- The instant to which a periodic dry-fire holds TXDIS_N low: the start of its slot s + 3 (R157). -/
  testUntil : Nat := 0
  /-- The first upstream frame that begins with downstream timing held, and with the latch set where it is (R150). -/
  cleanFrom : Nat := 0
  /-- Uptime of the last ALERT with CAUSE MUZZLED (R153). -/
  alertAt : Nat := 0
  deriving DecidableEq, Repr

/-! ### Network time (ch. 06) -/

/-- An anchor: count in 12.5 ps units, reading in 2^-16 ns, RATE (R167). -/
structure Anchor where
  c : Nat
  nt : Int
  rate : Int
  deriving DecidableEq, Repr

/-- A change that awaits its application instant (R168): a new RATE, or a step of the reading. -/
structure TimeChange where
  cApp : Nat
  rate : Option Int
  step : Option (Int × Nat)
  /-- The source a step comes from: a trunk port, or 16 for PPS_IN (R189). -/
  port : Nat := 16
  deriving DecidableEq, Repr

/-- A TIME_SET held for a future frame (R174). -/
structure HeldTimeSet where
  sf : Nat
  given : Int
  mode1 : Bool
  seq : Nat
  idField : Nat
  sfRx : Nat
  deriving DecidableEq, Repr

/-- The time base (R166 to R188). -/
structure TimeBase where
  frc : Nat := 0
  anchors : List Anchor := [{ c := 0, nt := 0, rate := 0 }]
  pend : List TimeChange := []
  base : Int := 0
  slew : Int := 0
  slewUntil : Nat := 0
  errs : List Int := []
  holdSince : Nat := 0
  /-- Ticks, to 125 µs, for which recovered-clock output n has had no cause of squelch (R184). -/
  rclkGood : Tab Nat := []
  held : Tab (Option HeldTimeSet) := []
  tod : Option Nat := none
  todFirst : Bool := false
  lastPulse : Option Int := none
  ppsHigh : Option Int := none
  ppsInLast : Option Nat := none
  ppsInUp : Nat := 0
  deriving DecidableEq, Repr

/-! ### Serial lanes (ch. 07) -/

/-- One lane: the states of its halves in the lane state codes and what LANE_STATUS shows of it (R526). -/
structure Lane where
  tx : Nat := 0
  rx : Nat := 0
  rxInv : Bool := false
  txInv : Bool := false
  rxId : Nat := 0
  txPos : Nat := 0
  isOpen : Bool := false
  short : Bool := false
  patLock : Bool := false
  patRej : Bool := false
  injBusy : Bool := false
  /-- Training has settled the transmit polarity, whatever LANE_CTL.TX_INV holds (R202). -/
  txTrained : Bool := false
  /-- Consecutive failed control blocks (R198). -/
  failRun : Nat := 0
  /-- The pattern checker's run of error-free bits out of lock, and in lock how many bits ago each error of its last 1,024 came
  (R215). -/
  patRun : Nat := 0
  patWin : List Nat := []
  deriving DecidableEq, Repr

/-- The Waiken sets of one trunk port (R193 to R210). -/
structure Waiken where
  /-- Steps of R200 that the receive set and the transmit set have completed: 7 is active. -/
  rxStep : Nat := 0
  txStep : Nat := 0
  /-- The Waiken version that is tried or runs, 0 before the first (R210), and CHOSEN (R203). -/
  version : Nat := 0
  chosen : Nat := 0
  /-- Rate code: 0 is 55, 1 is 110, 2 is 220 Gb/s. -/
  rate : Nat := 0
  /-- The engine's capability words as the last round of step 6 brought them (R203). -/
  capRound : List Word := []
  /-- The rate proposed in word 2 and its switch tick (R209). -/
  proposal : Option (Nat × Nat) := none
  /-- The number of the tick that follows, and DOZE and WAKE ticks still to be sent (R197, R207). -/
  tick : Nat := 0
  dozeTicks : Nat := 0
  wakeTicks : Nat := 0
  /-- The fine part of EqD that the transmit lanes apply, in 62.5 ps (R128, R206). -/
  phase : Nat := 0
  /-- The receive clock lane has lost its lock since the set last had bit lock (R194, R198). -/
  clockLost : Bool := false
  noDoze : Bool := false
  /-- Crosstree's check of DOZE_CTL is still to come (R207). -/
  checkDue : Bool := false
  fault : Nat := 0
  /-- Uptime since which step 2 waits, and since which the present version is tried. -/
  step2At : Option Nat := none
  attemptAt : Nat := 0
  /-- The transmit PLL follows the receive clock lane (R194). -/
  pllOnClock : Bool := false
  /-- Optical input is missing or the receive clock lane idle, as LOS stands (R63). -/
  noLight : Bool := false
  /-- The start of the tick whose control blocks were sent last, and that of the frame with which a phase step comes that no
  block has announced yet, on the port's recovered clock (R195, R206). -/
  sentAt : Option Int := none
  stepAt : Option Int := none
  /-- The status fields by majority (R197, R198). -/
  optLos : Bool := false
  loUnlock : Bool := false
  txReady : Bool := false
  txFault : Bool := false
  innerDeg : Bool := false
  rqTrain : Bool := false
  /-- RQ_TRAIN in the device's own blocks (R204). -/
  sendRq : Bool := false
  deriving DecidableEq, Repr
/-! ### Time-slot interchange (ch. 09) -/

/-- A container cut and not yet committed: its cut period of the reading, its tributary slot, the connection-memory entry
it was cut under, and its body of header and block field (R245, R246, R258). -/
structure Container where
  cut : Nat
  slot : Nat
  entry : Nat
  body : List Byte
  deriving DecidableEq, Repr

/-- An upstream connection in the active page: the next SEQ, whether the next container carries START, and the
containers stored, oldest first (R247, R248, R258). -/
structure UpConn where
  seq : Nat := 0
  /-- The period of 15.625 µs, by the reading, in which the connection was last cut (R245). -/
  cutIn : Option Int := none
  start : Bool := true
  stored : List Container := []
  deriving DecidableEq, Repr

/-- A connected downstream slot: expected SEQ, playout FIFO, whether it plays, CSF_RX (R251, R252). -/
structure DnConn where
  expected : Nat := 0
  known : Bool := false
  fifo : List (BitVec 66) := []
  playing : Bool := false
  csf : Bool := false
  deriving DecidableEq, Repr

/-- A pending page switch: page, the port that carried its TSI_SWITCH, SF_EFF (R257). -/
structure PageSwitch where
  page : Nat
  port : Nat
  sf : Nat
  deriving DecidableEq, Repr

/-- An upstream connection that a page switch has ended: its entry, and SEQ and START of the last container, which it is still to cut
(R258). -/
structure EndedConn where
  entry : Nat
  seq : Nat
  start : Bool
  deriving DecidableEq, Repr

/-- The TSI beside its registers (R241 to R263). -/
structure Tsi where
  active : Nat := 0
  armed : Bool := false
  arming : Bool := false
  wrRej : Bool := false
  pend : Option PageSwitch := none
  /-- PHYs whose C is to change at an overhead frame boundary now that the switch instant has passed (R259). -/
  dueC : List Nat := []
  /-- PHYs whose peer asks for a switch of its calendar, and so is sent CA (R241). -/
  peerCr : List Nat := []
  /-- The fraction of a block, in 1/25,000,000, that every calendar slot is ahead (R252, R253). -/
  phase : Nat := 0
  up : Tab UpConn := []
  /-- Connections whose last container is still to come, by slot. -/
  ended : Tab (Option EndedConn) := []
  dn : Tab DnConn := []
  deriving DecidableEq, Repr

/-! ### Forwarding path (ch. 08, 10 and 11) -/

/-- A frame on its way into the forwarding path: from a client sub-port (with its capture instant) or from Shroud, with
the port, STREAM, DTID and matching address-filter entry of its envelope (R61, R265). -/
structure Arrival where
  up : Bool
  block : Nat
  sub : Nat
  port : Nat := 0
  stream : Nat := 0
  dtid : Nat := 0
  entry : Nat := 0
  bytes : List Byte
  stamp : Nat := 0
  /-- Network time was not held when the frame was stamped (R233). -/
  unset : Bool := false
  /-- The start node in force when its first byte arrived (R287). -/
  start : Nat := 0
  deriving DecidableEq, Repr

/-- A client sub-port beside its registers; key 4·block + sub-port, 128 for the management port (R226 to R236). -/
structure SubPort where
  /-- Priorities paused by the peer, with the instant the pause ends. -/
  pause : Tab Nat := []
  /-- Transmit stamps: tag, reading, UNSET. -/
  stamps : List (Nat × Int × Bool) := []
  /-- The frame in transmission and its queue. -/
  sending : Option (Nat × Nat) := none
  /-- A PFC frame waits for the end of that frame; priorities released since the last PFC frame; when it was sent. -/
  pfcDue : Bool := false
  pfcOwed : BitVec 8 := 0
  pfcAt : Nat := 0
  /-- Since when there is no frame to send. -/
  idleFrom : Nat := 0
  /-- FIFO pressure (R226). -/
  pressure : Bool := false
  deriving DecidableEq, Repr

/-- Parse-graph memory (R287): the active bank by address; the shadow bank stands in the registers. -/
structure ParseGraph where
  active : Tab Word := []
  bank : Bool := false
  copyBusy : Bool := false
  wrRej : Bool := false
  deriving DecidableEq, Repr

/-- An entry of a Canopy table or of a rule table (R298, R277). -/
structure Entry where
  key : List Nat
  result : BitVec 96
  stamp : Nat := 0
  isStatic : Bool := false
  learned : Bool := false
  owner : Nat := 0
  /-- The fingerprint that the on-die SRAM holds for it where it stands in the HBM tier (R299). -/
  finger : Nat := 0
  deriving DecidableEq, Repr

/-- A hash table: positions 8·bucket + i of each tier, the age clock with the uptime of its last tick, the cursors of
AGE_SCAN and of the automatic scanner (R297, R311, R313). -/
structure HashTable where
  on : Tab Entry := []
  hbm : Tab Entry := []
  now : Nat := 0
  tickAt : Nat := 0
  cursor : Nat := 0
  auto : Nat := 0
  deriving DecidableEq, Repr

/-- What a walk still owes an entry that has crossed its cursor: it stands behind and has not been returned, it stands ahead and has
been once, it stands on the side where that side's rule is right, or it has been returned twice (R306). -/
inductive WalkMark where
  | behind | again | plain | twice
  deriving DecidableEq, Repr

/-- A walk handle: its table (16 the TCAM), KEY and KEY_MASK, its cursor over the positions of both tiers, what it owes the entries
that crossed it, by key, how many relocations it has logged, whether its log overflowed, and when it was last used (R306). -/
structure Walk where
  table : Nat
  key : List Nat
  mask : List Nat
  cursor : Nat := 0
  log : List (List Nat × WalkMark) := []
  logged : Nat := 0
  lost : Bool := false
  used : Nat := 0
  deriving DecidableEq, Repr

/-- What a copy toward Crosstree carries: class, direction, META0, META1, FLAGS, layer slots, stamp, original length and
bytes (R286). -/
structure Copy where
  cls : Nat
  down : Bool
  words : List Nat
  stamp : Int
  unset : Bool := false
  length : Nat
  bytes : List Byte
  deriving DecidableEq, Repr

/-- A learn that waits (R309): table, key, owner, result, and the copy that class LEARN would send. -/
structure Learn where
  table : Nat
  key : List Nat
  owner : Nat
  result : BitVec 96
  copy : Copy
  deriving DecidableEq, Repr

/-- The classifier beside its registers (R276 to R286). -/
structure Classifier where
  tables : Tab HashTable := []
  walks : Tab Walk := []
  /-- Token buckets in 1/1,000,000 token with the microsecond of core time they are settled to; none is full. -/
  tokens : Tab (Option (Nat × Nat)) := []
  cpu : List Copy := []
  /-- Home copies of the profiles with REPAIR_EN, by 4,096·profile + entry. -/
  home : Tab Nat := []
  /-- PROFILE_DEAD has been found for a profile; ports usable at the last repair. -/
  usable : BitVec 16 := 0
  capRej : Bool := false
  indRej : Bool := false
  deriving DecidableEq, Repr

/-- A prefix (R314 to R317): family, VRF, address of 32 or 128 bits, length, result. -/
structure Prefix where
  v6 : Bool
  vrf : Nat
  addr : Nat
  len : Nat
  result : BitVec 96
  deriving DecidableEq, Repr

/-- A line of a result cache (R318). -/
structure CacheLine where
  v6 : Bool
  vrf : Nat
  addr : Nat
  result : BitVec 96
  deriving DecidableEq, Repr

/-- A flush in progress: its ring, table, OWNER and OWNER_MASK, STATIC_TOO (R307). -/
structure Flush where
  ring : Nat
  table : Nat
  owner : Nat
  mask : Nat
  statics : Bool
  deriving DecidableEq, Repr

/-- Canopy and the TCAM beside their registers: the TCAM's banks hold at each used slot a prefix and whether the slot is
the tail of a pair; both copies are alike (R291 to R320). -/
structure Canopy where
  tables : Tab HashTable := []
  walks : Tab Walk := []
  events : List (List Nat) := []
  learns : List Learn := []
  flush : Option Flush := none
  /-- An AGE_SCAN that waits for room in the event FIFO: its ring, buckets left, its RCOUNT so far, and the position in its bucket
from which it goes on (R312). -/
  scan : Option (Nat × Nat × Nat × Nat) := none
  wrRej : Bool := false
  /-- The ring whose command completed last (R305), and when the tables' age clocks began (R311). -/
  lastRing : Nat := 7
  ageFrom : Nat := 0
  /-- Uptime at which the last window of R319 ended. -/
  windowFrom : Nat := 0
  banks : Tab (Tab (Prefix × Bool)) := []
  caches : Tab (List CacheLine) := []
  /-- Searches of each bank in the present microsecond (R319). -/
  window : Tab Nat := []
  tcamRej : Bool := false
  deriving DecidableEq, Repr

/-! ### Buffer manager and scheduler (ch. 12 and 13) -/

/-- A stored frame: its bytes with FCS, owner and pool, its tier and, in HBM, its queue and first granule in the queue's
chain of pages; its reference count; what the forwarding result gave it (R323 to R330, R36). -/
structure Stored where
  bytes : List Byte
  owner : Nat
  pool : Nat
  hbm : Bool
  queue : Nat
  gran : Nat
  refs : Nat
  staged : Bool := false
  damaged : Bool := false
  repl : Bool := false
  dtid : Nat := 0
  stream : Nat := 0
  mgmt : Bool := false
  tc : Nat := 0
  /-- Transmit time-stamp request: its tag (R234). -/
  tsTag : Option Nat := none
  deriving DecidableEq, Repr

/-- A queue: its frames, head first, and its place in deficit round robin (R348). -/
structure Queue where
  frames : List Nat := []
  deficit : Nat := 0
  fresh : Bool := true
  /-- Ineligible until its gate's next opening, for a frame that the guard held (R359). -/
  held : Bool := false
  /-- The frame last counted in GATE_HOLD (R359). -/
  counted : Option Nat := none
  /-- The granule after the last one written in its chain of pages (R326). -/
  nextGran : Nat := 0
  deriving DecidableEq, Repr

/-- A frame that waits for cells or pages: its requester, the queues it is to join, the cells it holds so far, the pages of its place
that it has taken, when its wait began (R332, R333). -/
structure Waiting where
  requester : Nat
  frame : Stored
  queues : List Nat
  got : Nat
  since : Nat
  pages : List (Nat × Nat) := []
  deriving DecidableEq, Repr

/-- The buffer manager beside its registers. -/
structure Buffers where
  frames : Tab Stored := []
  nextFrame : Nat := 0
  queues : Tab Queue := []
  /-- Round of each (context, level), and from 32,768 on of each (sub-port, level). -/
  rounds : Tab (List Nat) := []
  /-- Rotation pointer of each pool (R332). -/
  rotation : Tab Nat := []
  /-- The ingress FIFO whose turn it is before the upstream pipelines, and the frames it has given in this turn (R226). -/
  turn : Nat × Nat := (0, 0)
  waiting : List Waiting := []
  /-- Frames of the processor path that wait behind one of its own, each with its queue (R333). -/
  cpu : List (Stored × Nat) := []
  /-- Owners in XOFF (R334). -/
  xoff : Tab Bool := []
  /-- A flush in progress: the frames it discards (R338). -/
  flush : Option (List Nat) := none
  /-- Address of the register whose write set CFG_REJ. -/
  rejBy : Nat := 0
  deriving DecidableEq, Repr

/-- A shaper: credit in 1/65,536 byte, and the part of one such unit that refills have carried, in 1/625 (R352). -/
structure Shaper where
  en : Bool := false
  adj : Int := 0
  rate : Nat := 0
  burst : Nat := 0
  credit : Int := 0
  part : Fin 625 := 0
  deriving DecidableEq, Repr

/-- A meter: its five configuration words, its two buckets in 1/65,536 byte with the carried parts, its byte counts
(R354 to R357). -/
structure Meter where
  cfg : List Word := []
  tc : Nat := 0
  te : Nat := 0
  tcPart : Fin 625 := 0
  tePart : Fin 625 := 0
  green : Nat := 0
  yellow : Nat := 0
  red : Nat := 0
  deriving DecidableEq, Repr

/-- A gate list as it runs or pends: cycle, base (in ns), guard, and entries of gates and interval (R358). -/
structure GateList where
  cycle : Nat := 0
  base : Nat := 0
  guardEn : Bool := false
  entries : List (BitVec 64 × Nat) := []
  deriving DecidableEq, Repr

/-- The scheduler beside its registers: shapers, meters, operational and pending gate lists, the command in progress. -/
structure Scheduler where
  shapers : Tab Shaper := []
  meters : Tab Meter := []
  oper : Tab GateList := []
  /-- A pending change: its instant in ns (0 for at once) and the list. -/
  change : Tab (Option (Nat × GateList)) := []
  /-- The entry in force of each running list. -/
  cur : Tab Nat := []
  cmd : Option Word := none
  /-- Refill ticks taken since the time base was reset (R352). -/
  refills : Nat := 0
  deriving DecidableEq, Repr

/-! ### Shroud (ch. 14) -/

/-- A root key in its slot (R374). -/
structure RootKey where
  key : List Byte
  use : Nat
  kcv : Nat
  deriving DecidableEq, Repr

/-- A pending rotation; `dn` after its downstream instant, with the former keys of the epoch (R379, R380). -/
structure Rotation where
  epoch : Nat
  key : Epoch
  sf : Nat
  dn : Bool
  deriving DecidableEq, Repr

/-- A port's keys: installed epochs, transmit epoch, pending rotation, the last SEQ sealed, the replay windows by
8·epoch + filter entry: highest SEQ and marks, bit j for SEQ H − j (R369, R372, R380). -/
structure PortKeys where
  inst : Tab (Option Epoch) := []
  tx : Option Nat := none
  pend : Option Rotation := none
  seq : Nat := 0
  windows : Tab (Option (Nat × BitVec 64)) := []
  /-- The last rotation that has taken effect downstream: its epoch, its SF_EFF, and the former keys of the epoch (R380, R382). -/
  former : Option (Nat × Nat × Option Epoch) := none
  deriving DecidableEq, Repr

/-- What a cache entry caches: a port's derived key (R377) or a derived job key. -/
inductive CacheKey where
  | env (port : Nat) (up : Bool) (epoch id : Nat)
  | job (root : Nat) (label : BitVec 192) (bits : Nat)
  deriving DecidableEq, Repr

/-- What a job that spans descriptors carries in its segment context: the next counter block, GHASH so far, bytes of additional data
and of text (R386). -/
structure Segment where
  counter : BitVec 128
  hash : BitVec 128
  aad : BitVec 64
  text : BitVec 64
  deriving DecidableEq, Repr

/-- Shroud beside its registers: root slots, ports, the cache of derived keys with the most recently used first, fuses
of signing blocks, the block in use and its next index, the staged signature requests. -/
structure Shroud where
  roots : Tab (Option RootKey) := []
  ports : Tab PortKeys := []
  cache : List CacheKey := []
  /-- Derivations in progress, oldest first, each with the KEY_ROTATE whose reply waits for it (R378, R379). -/
  deriv : List (CacheKey × Option (Nat × TmmIn)) := []
  /-- IV_HI where the power epoch is unknown (R369). -/
  ivHi : Option Word := none
  ivWeak : Bool := false
  fuses : Nat := 0
  block : Option Nat := none
  nextIdx : Nat := 0
  xmssReady : Bool := false
  exhausted : Bool := false
  flashRec : Bool := false
  deriving DecidableEq, Repr


/-! ### Power, reef levels and waking (ch. 16) -/

/-- Phase of the reef manager (REEF_STATUS.PHASE). -/
inductive ReefPhase where
  | idle | notice | prepare | commit | voltage | waking | entering
  deriving DecidableEq, Repr

/-- The outstanding notice (R417, R418): what it proposes, who sent it and when. -/
structure Notice where
  level : Nat
  ports : BitVec 16
  clients : BitVec 32
  fromHead : Bool
  sentAt : Nat
  deriving DecidableEq, Repr

/-- A granted darkness that waits for its instant (R419, R420). -/
structure PendingDark where
  level : Nat
  /-- PORTS as granted, and those of them still to go dark. -/
  asked : BitVec 16
  ports : BitVec 16
  clients : BitVec 32
  sfEff : Nat
  carrier : Nat
  /-- The ports that were in OPERATE at the grant: they go dark at their own instants (R420). -/
  inOper : BitVec 16
  /-- t_rx(SF_EFF) of the carrying port as its timing stood at the grant. -/
  due : Nat
  deriving DecidableEq, Repr

/-- The reef manager (R415 to R434): level, the request in progress, darkness, the regulator and a wake. -/
structure Reef where
  level : Nat := 0
  target : Nat := 0
  origin : Nat := 0
  phase : ReefPhase := .idle
  active : Bool := false
  cmdCode : Nat := 0
  vHigh : Bool := false
  wakeFail : Bool := false
  notice : Option Notice := none
  dark : Option PendingDark := none
  /-- A grant has darkened lit trunk ports for the request in progress (R416, R420). -/
  granted : Bool := false
  /-- VDD_CORE target commanded last and the one before it, in mV; the voltage is being raised. -/
  mv : Nat := 0
  mvOld : Nat := 0
  /-- The core clock in MHz; 0 while it is off (R415, R425). -/
  coreMHz : Nat := 0
  raising : Bool := false
  /-- A lowering that never settled, to be commanded again, and when it was last (R426). -/
  lowerTo : Option Nat := none
  lowerAt : Nat := 0
  /-- A PARK acted on: the port that answered and the upstream frame at whose end entry begins (R427). -/
  parkAt : Option (Nat × Nat) := none
  wakeDue : Bool := false
  wakeStep : Nat := 0
  wakeDom : Nat := 0
  /-- A failed wake step waits for its retry, and the uptime from which it may come (R433). -/
  wakeRetry : Bool := false
  retryAt : Nat := 0
  /-- Uptime of the end of the last Reef 3 entry, until its timer has run out (R428). -/
  timerFrom : Option Nat := none
  /-- The PMBus or AVSBus lines answer no more (R482). -/
  busStuck : Bool := false
  avsStuck : Bool := false
  /-- Reads of the WAKE_A comparator (R429). -/
  wakeAOut : Bool := false
  deriving DecidableEq, Repr

/-! ### Start-up and images (ch. 17) -/

/-- Start-up (R437 to R458): domains by code, the core out of reset, READY, the image in use. -/
structure Boot where
  domOn : Tab Bool := []
  coreUp : Bool := false
  supplies : Bool := false
  ready : Bool := false
  furled : Bool := false
  /-- Straps as latched, with STRAP_OVR: PCIe and management (R513). -/
  strapPcie : Bool := true
  strapMgt : Bool := true
  /-- The same as latched in stage 1, before any STRAP_OVR (R452). -/
  latchPcie : Bool := true
  latchMgt : Bool := true
  /-- REG_MAP's rails, and LANE_MAP's permutations by client lane group (R444, R452). -/
  regMap : List Rail := []
  laneMap : Tab (List Nat) := []
  /-- Flashes that run 8D-8D-8D; the others 1S-1S-1S (R437). -/
  flashOctal : BitVec 2 := 0
  flashFault : BitVec 2 := 0
  /-- Slot in use (2f + s), whether it is the trial slot, the digest of the running microcode, its manifest. -/
  slot : Nat := 0
  trial : Bool := false
  hwmDigest : List Byte := []
  /-- Digests of the running firmware and of the board table in use (R391). -/
  fwDigest : List Byte := []
  boardDigest : List Byte := []
  hwmSets : List Nat := []
  build : Nat := 0
  /-- A flash write or a block reservation is in progress until the next tick (R423; log entry 227). -/
  flashBusy : Bool := false
  /-- Writes into image slots that power loss cut short: flash, address, bytes (R463). -/
  torn : List (Nat × Nat × Nat) := []
  /-- TB_CTL.EN waits for a good reference (R190, R452). -/
  tbDue : Bool := false
  /-- Failed attempts at bringing up CORE in this warm start (R480). -/
  coreTries : Nat := 0
  deriving DecidableEq, Repr

/-! ### Faults and the log (ch. 18) -/

/-- One Crosstree lockstep pair: its mismatches within the last day, whether a takeover of its work is in progress
(R477, R478). -/
structure Pair where
  mismatches : List Nat := []
  down : Bool := false
  deriving DecidableEq, Repr

/-- Recovery state (R467 to R483): the retention ring of fault records, the pairs, restores in progress, the
correctable-error windows, the watchdog. -/
structure Faults where
  ring : Tab (List Word) := []
  nextPos : Nat := 0
  uncopied : Nat := 0
  seq : Nat := 0
  lost : Nat := 0
  /-- Records ever appended to the flash logs: the next one's place (R438, R483). -/
  logged : Nat := 0
  /-- The present second of copying and the records copied in it (R483). -/
  copyFrom : Nat := 0
  copied : Nat := 0
  pairs : Tab Pair := []
  restoring : List (Nat × Nat) := []
  withheld : List (Nat × Nat) := []
  ceTimes : Tab (List Nat) := []
  /-- By structure: the instant of the last MEMORY_CE record and the errors not yet in one (R474). -/
  ceLogged : Tab Nat := []
  ceMerged : Tab Nat := []
  /-- By stack: distinct uncorrectable addresses of the present scrub pass of the HBM; and its structures whose own pass has ended
  since that pass began (R481). -/
  ueAddrs : Tab (List Nat) := []
  passed : List Nat := []
  /-- By structure: address and uptime of its last uncorrectable error (R485). -/
  lastUe : Tab (Nat × Nat) := []
  /-- The pair that serves trunk port n, mailbox instance n - 16, or interrupt target n - 32 (R477). -/
  owners : Tab Nat := []
  /-- By structure: where the patrol scrubber read last (R475). -/
  scrubAt : Tab Nat := []
  /-- Domains whose bring-up after a loss of power-good has not ended (R480). -/
  pgTried : Tab Bool := []
  kickAt : Nat := 0
  auditAt : Nat := 0
  xtalInt : Bool := false
  deriving DecidableEq, Repr

/-! ### Access paths, mailbox and in-band channel (ch. 17 and 19) -/

/-- What one access path holds of its own (R13, R152): its snapshots, its uncommitted high words, its unlock
sequence (port and uptime of the first write). -/
structure AccessPath where
  snap : Tab Word := []
  high : Tab Word := []
  unlock : Option (Nat × Nat) := none
  deriving DecidableEq, Repr

/-- The BMC SPI target (R493 to R497): the windowed access in progress (address and data of a write), its CODE, the
data and CODE of the last completed read, whether the BMC has sent any transaction. -/
structure Bmc where
  running : Option (Word × Option Word) := none
  code : Nat := 0
  data : Word := 0
  dataCode : Nat := 0
  connected : Bool := false
  deriving DecidableEq, Repr

/-- Crosstree's mailbox and record queues (R459, R464, R498): instances whose requests wait, in order of arrival; the
records that wait for room in the notification ring (TYPE and payload); its SEQ. -/
structure Crosstree where
  requests : List Nat := []
  records : List (Nat × List Byte) := []
  recSeq : Nat := 0
  /-- Frames of Crosstree's that wait while the management port is down (R228, R236), and the stamp of the last management frame
  that Crosstree was given: the reading, and whether it is UNSET (R233). -/
  waitTx : List (List Byte) := []
  rxStamp : Option (Int × Bool) := none
  /-- Uptime from which the snapshot interval of the PM window counts (R504). -/
  snapFrom : Nat := 0
  deriving DecidableEq, Repr

/-! ### The machine -/

/-- The state of the terminal. -/
structure State where
  /-- The commands that wait, first in, first out. -/
  pending : List Instr := []
  /-- Every register of the register tables that is held as such, by its full byte address. -/
  regs : Tab Word := []
  /-- Uptime in Heartwood ticks (R185). -/
  uptime : Nat := 0
  /-- Draws of free values so far: the model's own counter, no state of the device. -/
  fresh : Nat := 0
  /-- Everything that has left the device, oldest first: the model's own record. -/
  sent : List Output := []
  ic : Interrupts := {}
  framers : Tab Framer := []
  pm : Tab PmStore := []
  regn : Tab Registration := []
  timed : List TimedLm := []
  lookouts : Tab Lookout := []
  halyards : Tab Halyard := []
  /-- Allocation contexts bound, by context number (R34). -/
  contexts : Tab (Option Binding) := []
  guards : Tab Guard := []
  time : TimeBase := {}
  lanes : Tab Lane := []
  waikens : Tab Waiken := []
  /-- How far each trunk port's recovered clock has gained on Heartwood's, in 12.5 ps (R26). -/
  drift : Tab Int := []
  tsi : Tsi := {}
  /-- Client sub-ports; ingress FIFO of each client block; frames that wait in Shroud's output (R226, R266). -/
  subs : Tab SubPort := []
  fifos : Tab (List Arrival) := []
  shrOut : List Arrival := []
  pg : ParseGraph := {}
  cls : Classifier := {}
  can : Canopy := {}
  buf : Buffers := {}
  sch : Scheduler := {}
  shr : Shroud := {}
  reef : Reef := {}
  boot : Boot := {}
  faults : Faults := {}
  paths : Tab AccessPath := []
  bmc : Bmc := {}
  xt : Crosstree := {}
  /-- Flash FLASHA (0) and FLASHB (1), by byte address (R438). -/
  flash : Tab (List Host.Cell) := []
  /-- Host memory, as the device reads and writes it over PCIe (R303, R383, R464). -/
  hostMem : List Host.Cell := []
  /-- Crosstree's memory, as rings and jobs of Crosstree read and write it (R303, R383). -/
  xtMem : List Host.Cell := []
  deriving DecidableEq, Repr

/-- The device never stops at a fault of its own: what the spec calls a fault is recorded, reported and recovered, or
sends the device to Furled, and each of these is a next state. There is no constructor. -/
inductive Fault where
  deriving DecidableEq, Repr

/-- Why a step can be refused. -/
inductive Refusal where
  /-- Raised by Dispatch for a command whose meaning is not written yet; safe: nothing follows from it. -/
  | notModelled (mnemonic : String)
  deriving DecidableEq, Repr

/-- Right after Heartwood power-on (R411, R435, R465, R503): every register at its reset value, nothing listed, no
domain on but Heartwood's and the receive halves of the lookout and management lanes (R413). What the
spec gives no reset value starts empty or at 0 (DESIGN CHOICE, unsafe: log entries 4, 5 and 12). -/
def State.reset : State := { boot := { domOn := [(0, true), (1, true)] } }

end Sys2Proof.Machine
end

