-- ==== Sys2Proof/Machine/Ops.lean ====
section
/-! DEFINITION. The operations every meaning is built from: reading and writing registers and their fields, what leaves
the device, free values. -/
namespace Sys2Proof.Machine
open Sys2Proof

/-! ### Registers -/

/-- The register at byte address a (R8): what is held, or its reset value. -/
def reg (s : State) (a : Nat) : Word := s.regs.look (resetOf a) a

/-- The register as a number. -/
def regN (s : State) (a : Nat) : Nat := (reg s a).toNat

/-- State with v in the register at a. -/
def setReg (a : Nat) (v : Word) (s : State) : State := { s with regs := s.regs.put a v }

/-- State with the number n in the register at a. -/
def setRegN (a : Nat) (n : Nat) (s : State) : State := setReg a (BitVec.ofNat 32 n) s

/-- Field [hi:lo] of the register at a. -/
def fld (s : State) (a hi lo : Nat) : Nat := bits (regN s a) hi lo

/-- Number n with bits [hi:lo] replaced by the low bits of v. -/
def withBits (n hi lo v : Nat) : Nat :=
  n - bits n hi lo * 2 ^ lo + v % 2 ^ (hi + 1 - lo) * 2 ^ lo

/-- State with v in field [hi:lo] of the register at a. -/
def setFld (a hi lo v : Nat) (s : State) : State := setRegN a (withBits (regN s a) hi lo v) s

/-- Bit i of the register at a. -/
def bitAt (s : State) (a i : Nat) : Bool := (reg s a).getLsbD i

/-- State with bit i of the register at a set to b. -/
def setBit (a i : Nat) (b : Bool) (s : State) : State :=
  let m : Word := BitVec.ofNat 32 (2 ^ i)
  setReg a (if b then reg s a ||| m else reg s a &&& ~~~m) s

/-- A quantity of two words, least significant word at the lowest address (R13). -/
def reg64 (s : State) (a : Nat) : Nat := regN s a + 2 ^ 32 * regN s (a + 4)

/-- State with the quantity n in the two words at a. -/
def setReg64 (a n : Nat) (s : State) : State :=
  setRegN (a + 4) (n / 2 ^ 32) (setRegN a n s)

/-- State with the low 32·k bits of n in the k words at a. -/
def setWide (a : Nat) : Nat → Nat → State → State
  | 0, _, s => s
  | k + 1, n, s => setWide (a + 4) k (n / 2 ^ 32) (setRegN a n s)

/-- The quantity in the k words at a. -/
def regWide (s : State) (a : Nat) : Nat → Nat
  | 0 => 0
  | k + 1 => regN s a + 2 ^ 32 * regWide s (a + 4) k

/-! ### Counters (R14): each saturates at its all-ones value -/

/-- Counter of 32 bits at a, n more. -/
def bump (a n : Nat) (s : State) : State := setRegN a (min (regN s a + n) (2 ^ 32 - 1)) s

/-- Counter of 64 bits at a, n more. -/
def bump64 (a n : Nat) (s : State) : State := setReg64 a (min (reg64 s a + n) (2 ^ 64 - 1)) s

/-- Counter of 16 bits in the low half of the word at a, n more. -/
def bumpLo (a n : Nat) (s : State) : State := setFld a 15 0 (min (fld s a 15 0 + n) (2 ^ 16 - 1)) s

/-- Counter of 16 bits in the high half of the word at a, n more. -/
def bumpHi (a n : Nat) (s : State) : State := setFld a 31 16 (min (fld s a 31 16 + n) (2 ^ 16 - 1)) s

/-- Every held register whose address meets p at zero: the clearing of counters. -/
def zeroRegs (p : Nat → Bool) (s : State) : State :=
  { s with regs := s.regs.adjust fun a v => if p a then 0 else v }

/-- Every held register whose address meets p at its reset value. -/
def resetRegs (p : Nat → Bool) (s : State) : State :=
  { s with regs := s.regs.adjust fun a v => if p a then resetOf a else v }

/-- Address a lies in the n bytes from b. -/
def within (b n a : Nat) : Bool := b ≤ a && a < b + n

/-! ### What leaves the device, and free values -/

/-- o leaves the device. -/
def emit (o : Output) (s : State) : State := { s with sent := s.sent ++ [o] }

/-- The free value the state would draw next: nothing constrains it. -/
def freeVal (s : State) : Nat := (Config.freeBits s.fresh).toNat

/-- State after the draw. -/
def drawn (s : State) : State := { s with fresh := s.fresh + 1 }

/-- A free truth value. -/
def freeBit (s : State) : Bool := (Config.freeBits s.fresh).getLsbD 0

/-! ### Access paths (R13, R488) -/

/-- The number under which a path's own pieces are held. -/
def pathIx : Path → Nat
  | .xt => 0
  | .pcie => 1
  | .bmc => 2
/-- What path a holds of its own. -/
def pathOf (s : State) (a : Path) : AccessPath := s.paths.look {} (pathIx a)
def setPath (a : Path) (x : AccessPath) (s : State) : State := { s with paths := s.paths.put (pathIx a) x }
/-- Words snapshot for path a at byte address r and above (R13). -/
def snapWords (a : Path) : Nat → List Word → State → State
  | _, [], s => s
  | r, w :: l, s => snapWords a (r + 4) l (setPath a { pathOf s a with snap := (pathOf s a).snap.put r w } s)

/-! ### A reef transition's hold -/

/-- The participants of a reef transition hold: it has passed its prepare and has yet to restart them (R423, R424). -/
def reefHolds (s : State) : Bool :=
  s.reef.phase == .commit || s.reef.phase == .entering || (s.reef.phase == .voltage && s.reef.raising)

/-! ### Commands that find nothing to act on -/

/-- f applied where c holds; an event that cannot occur in this state leaves it as it is. -/
def onlyIf (c : Bool) (f : State → State) (s : State) : State := if c then f s else s

/-- f applied for each member of a list, first to last. -/
def forAll {α : Type} (f : α → State → State) : List α → State → State
  | [], s => s
  | x :: r, s => forAll f r (f x s)

/-- The numbers 0 to n − 1. -/
def upTo (n : Nat) : List Nat := List.range n

/-! ### Addresses of the repeated blocks (R10) -/

/-- Register at offset o of the framer of trunk port p. -/
def trkR (p o : Nat) : Nat := 0x01000000 + 0x10000 * p + o
/-- Register at offset o of Halyard of trunk port p. -/
def halR (p o : Nat) : Nat := 0x01008000 + 0x10000 * p + o
/-- Register at offset o of Backstay's registers of trunk port p. -/
def bksR (p o : Nat) : Nat := 0x01200100 + 0x40 * p + o
/-- Register at offset o of client block b; block 32 is the management port. -/
def cliR (b o : Nat) : Nat := if b < 32 then 0x02000000 + 0x10000 * b + o else 0x02300000 + o
/-- Register at offset o of the set of sub-port i of client block b. -/
def subR (b i o : Nat) : Nat := cliR b (0x1000 + 0x1000 * i + o)
/-- Register at offset o of serial lane l. -/
def laneR (l o : Nat) : Nat := 0x08000000 + 0x4000 * l + o
/-- Register at offset o of the Waiken sets of trunk port p. -/
def wknR (p o : Nat) : Nat := 0x08500100 + 0x40 * p + o

/-- Whether the terminal has the core domain up: every block outside Heartwood answers and acts (R413, R454). -/
def coreOn (s : State) : Bool := s.boot.coreUp

/-- The present instant on Heartwood's clock, in 12.5 ps (R185): what the core's own timers count, whether or not the time base
runs. -/
def coreNow (s : State) : Nat := 3200 * s.uptime

end Sys2Proof.Machine
end

