-- ==== Sys2Proof/Machine/Ic.lean ====
section
/-! DEFINITION. The interrupt controller (ch. 15): signals, acknowledge, end of interrupt, MSI-X, and its commands. -/
namespace Sys2Proof.Machine
open Sys2Proof

/-- State of source n. -/
def icSrc (s : State) (n : Nat) : IcSource := s.ic.src.look {} n
/-- State of target t. -/
def icTgt (s : State) (t : Nat) : IcTarget := s.ic.tgt.look {} t
/-- State with x as source n. -/
def setIcSrc (n : Nat) (x : IcSource) (s : State) : State := { s with ic := { s.ic with src := s.ic.src.put n x } }
/-- State with x as target t. -/
def setIcTgt (t : Nat) (x : IcTarget) (s : State) : State := { s with ic := { s.ic with tgt := s.ic.tgt.put t x } }

/-- Address of SRC_CFG of source n. -/
def srcCfgR (n : Nat) : Nat := 0x00101000 + 4 * n
/-- Source n's EN (R396). -/
def srcEn (s : State) (n : Nat) : Bool := bitAt s (srcCfgR n) 31
/-- Source n's PRIORITY (R397). -/
def srcPrio (s : State) (n : Nat) : Nat := fld s (srcCfgR n) 5 0
/-- Source n's TARGET; above 21 acts as 21 (R397). -/
def srcTarget (s : State) (n : Nat) : Nat := min (fld s (srcCfgR n) 20 16) 21

/-- Register at offset o of target t. -/
def tgtR (t o : Nat) : Nat := 0x00104000 + 0x80 * t + o
/-- Counter at offset o of target t. -/
def tgtCntR (t o : Nat) : Nat := 0x00106000 + 0x10 * t + o
/-- The running priority of a target: of the top entry, 64 on an empty stack (R398). -/
def IcTarget.running (t : IcTarget) : Nat :=
  match t.stack with
  | [] => 64
  | (_, p) :: _ => p
/-- THRESH of target t; above 64 acts as 64. -/
def tgtThresh (s : State) (t : Nat) : Nat := min (fld s (tgtR t 0) 6 0) 64
/-- Whether target t may signal and deliver at all: core-domain targets need the core and IC_CTL.EN (R409, R411). -/
def tgtEnabled (s : State) (t : Nat) : Bool := 20 ≤ t || (coreOn s && bitAt s 0x00100000 0)

/-- Source n qualifies for target t (R398). -/
def qualifies (s : State) (t n : Nat) : Bool :=
  srcEn s n && !bitAt s (srcCfgR n) 30 && (icSrc s n).pending && !(icSrc s n).active && srcTarget s n == t &&
  decide (srcPrio s n < (icTgt s t).running) && decide (srcPrio s n < tgtThresh s t)

/-- The sources that qualify for target t, by rising number. -/
def qualifying (s : State) (t : Nat) : List Nat := s.ic.src.keys.filter (qualifies s t)

/-- The source of a list with the lowest PRIORITY, then the lowest number (R397, R399). -/
def highest (s : State) : List Nat → Option Nat
  | [] => none
  | n :: r => match highest s r with
    | none => some n
    | some m => if srcPrio s n ≤ srcPrio s m then some n else some m

/-- The consumer of target t is powered as far as its own domain goes: the PCIE domain for targets 16 to 19 (R409). -/
def tgtPowered (s : State) (t : Nat) : Bool := t < 16 || 20 ≤ t || s.boot.domOn.look false 5

/-- The condition under which target t asserts its signal (R398, R403, R409, R411). -/
def tgtSignal (s : State) (t : Nat) : Bool :=
  tgtPowered s t && tgtEnabled s t && !(icTgt s t).frozen && (icTgt s t).stack.length < 16 && !(qualifying s t).isEmpty

/-- IRQ_Nn is driven low: while target 20 + n's condition holds, and IRQ_N0 while WAKE_FAIL is 1 (R407, R433). -/
def irqDriven (s : State) (n : Nat) : Bool := tgtSignal s (20 + n) || (n == 0 && s.reef.wakeFail)

/-- Whether MSI-X vector v is masked by its own bit (R406). -/
def vecMasked (s : State) (v : Nat) : Bool := bitAt s (0x0010800C + 0x10 * v) 0

/-- Vector v's pending bit. -/
def setMsixPend (v : Nat) (b : Bool) (s : State) : State :=
  { s with ic := { s.ic with msixPend := s.ic.msixPend.put v b } }

/-- The message of vector v is sent. -/
def sendMsix (v : Nat) (s : State) : State :=
  emit (.msix v (BitVec.ofNat 64 (reg64 s (0x00108000 + 0x10 * v))) (reg s (0x00108008 + 0x10 * v))) s

/-- A message is requested for target t: discarded without a link, held in the pending bit while masked (R406). -/
def requestMsix (t : Nat) (s : State) : State :=
  if t < 16 ∨ 20 ≤ t ∨ !s.ic.linkUp then s
  else if vecMasked s (t - 16) || s.ic.funcMask then setMsixPend (t - 16) true s
  else sendMsix (t - 16) s

/-- The host targets whose condition was false in `old` and holds now request their messages (R406). -/
def requestRises (old s : State) : State :=
  forAll (fun t x => if tgtSignal x t && !tgtSignal old t then requestMsix t x else x) [16, 17, 18, 19] s

/-- f, and then the messages that conditions risen by it request. -/
def withRises (f : State → State) (s : State) : State := requestRises s (f s)

/-- Whether source n is armed to wake the device from Reef 3 (R408, R428). -/
def wakeArmed (s : State) (n : Nat) : Bool :=
  srcEn s n && bitAt s (srcCfgR n) 29 &&
  match n with
  | 3 => bitAt s 0x00200050 31 && bitAt s 0x00200024 3
  | 4 => bitAt s 0x00200058 31 && bitAt s 0x00200024 4
  | 5 => regN s 0x00200054 != 0 && bitAt s 0x00200024 5
  | 40 => (upTo 8).any (fun k => bitAt s (0x2000 + 0x20 * k) 31) && bitAt s 0x2104 0
  | _ => false

/-- A wake requested at Reef 3, or on the way there for its end; the first is recorded in WAKE_CAUSE, and with it PHASE reads WAKING,
later ones have no further effect (R428, R432, R434). -/
def requestWake (cause : Nat) (s : State) : State :=
  if !s.reef.wakeDue ∧ ((s.reef.level = 3 ∧ s.reef.phase = .idle) ∨ s.reef.phase = .entering) then
    setRegN 0x0020005C (2 ^ 31 + cause) { s with reef := { s.reef with
      wakeDue := true, phase := if s.reef.level = 3 then .waking else s.reef.phase } }
  else s

/-- Source n becomes pending at Reef 3: an armed one requests the wake (R408). -/
def wakeOn (n : Nat) (s : State) : State := if wakeArmed s n then requestWake n s else s

/-- One signal's effect on an enabled source (R395). -/
def IcSource.signalled (x : IcSource) : IcSource :=
  if !x.pending && !x.active then { x with pending := true }
  else { x with pending := true, count := min (x.count + 1) 255 }

/-- A signal of source n (R394, R395, R408). -/
def signalSource (n : Nat) (s : State) : State :=
  if sourceExists n && srcEn s n && (n < 64 || coreOn s) then
    let was := (icSrc s n).pending
    let s1 := requestRises s (setIcSrc n (icSrc s n).signalled s)
    if was then s1 else wakeOn n s1
  else s

/-- PENDING and COUNT of source n cleared (R396). -/
def clearSource (n : Nat) (s : State) : State := setIcSrc n { icSrc s n with pending := false, count := 0 } s

/-- An event latch: bit i of the latch register `ev` is set, and source `src` is signalled once each time the bit goes
from 0 to 1 while its enable in `en` is 1 (R75). -/
def raise (ev en i src : Nat) (s : State) : State :=
  if bitAt s ev i then s
  else
    let s1 := setBit ev i true s
    if bitAt s en i then signalSource src s1 else s1

/-- A read of ACK of target t: the delivery it decides and the word it returns (R399). -/
def ackTarget (t : Nat) (s : State) : State × Nat :=
  let x := icTgt s t
  if x.frozen || !tgtEnabled s t then (bump (tgtCntR t 4) 1 s, 0x3FF)
  else match highest s (qualifying s t) with
    | none => (bump (tgtCntR t 4) 1 s, 0x3FF)
    | some n =>
      if 16 ≤ x.stack.length then (bumpLo (tgtCntR t 8) 1 s, 0x3FF)
      else
        let c := icSrc s n
        let pr := srcPrio s n
        let s1 := setIcSrc n { c with pending := false, count := 0, active := true, on := t } s
        let s2 := setIcTgt t { x with stack := (n, pr) :: x.stack } s1
        (bump (tgtCntR t 0) 1 s2, c.count * 2 ^ 16 + pr * 2 ^ 10 + n)

/-- The request that an acknowledge or EOI leaves behind where the condition still holds (R406). -/
def requestAgain (t : Nat) (s : State) : State := if tgtSignal s t then requestMsix t s else s

/-- The other host targets whose condition the pop has made true, a source having been routed to them while it was in service
(R404, R406). -/
def othersRise (t : Nat) (old s : State) : State :=
  forAll (fun u x => if u != t && tgtSignal x u && !tgtSignal old u then requestMsix u x else x) [16, 17, 18, 19] s

/-- A write to EOI of target t naming source n (R402, R403). -/
def eoiTarget (t n : Nat) (s : State) : State :=
  let x := icTgt s t
  if x.frozen then bump (tgtCntR t 12) 1 s
  else
    let fault := fun (top : Nat) =>
      signalSource 1010 (bumpHi (tgtCntR t 8) 1
        (setIcTgt t { x with frozen := true, faultValid := true, faultTop := top, faultNamed := n } s))
    match x.stack with
    | [] => fault 1023
    | (m, _) :: rest =>
      if m = n then
        let c := icSrc s n
        let c' := { c with active := false,
                           count := if c.pending && c.count != 255 then c.count - 1 else c.count }
        requestAgain t (othersRise t s (setIcTgt t { x with stack := rest } (setIcSrc n c' s)))
      else fault m

/-- THAW of target t (R403). -/
def thawTarget (t : Nat) : State → State :=
  withRises fun s => setIcTgt t { icTgt s t with frozen := false, faultValid := false } s

/-- Whether path may reach the registers of target t (R408, R454). -/
def tgtReached (s : State) (t : Nat) : Bool := 20 ≤ t || coreOn s

/-- ACK_READ: a read of ACK over an access path (R399, R405). -/
def execAckRead (path : Path) (t : Fin 22) (s : State) : Host.Outcome State Fault Refusal :=
  if tgtReached s t then
    let r := ackTarget t s
    .next (emit (.data path [BitVec.ofNat 32 r.2]) (requestAgain t r.1))
  else .next (emit (.data path [0]) s)

/-- EOI_WRITE: a write of EOI over an access path (R402, R403). -/
def execEoiWrite (_path : Path) (t : Fin 22) (val : Word) (s : State) : Host.Outcome State Fault Refusal :=
  .next (onlyIf (tgtReached s t) (eoiTarget t (bits val.toNat 9 0)) s)

/-- SRC_SET_SIGNAL: SRC_SET.SET acts as a signal (R396). -/
def execSrcSetSignal (n : BitVec 10) (s : State) : Host.Outcome State Fault Refusal :=
  .next (onlyIf (coreOn s) (signalSource n.toNat) s)

/-- SRC_SET_CLEAR: SRC_SET.CLR clears PENDING and COUNT (R396). -/
def execSrcSetClear (n : BitVec 10) (s : State) : Host.Outcome State Fault Refusal :=
  .next (onlyIf (coreOn s && sourceExists n.toNat) (clearSource n.toNat) s)

/-- A write of SRC_CFG of source n: reserved sources ignore it, EN 0 clears PENDING and COUNT (R394, R396, R404). -/
def writeSrcCfg (n : Nat) (val : Word) (s : State) : State :=
  let m : Word := if n < 64 then 0xE01F003F else 0xC01F003F
  if sourceExists n && (n < 64 || coreOn s) then
    withRises (fun x =>
      let x1 := setReg (srcCfgR n) (val &&& m) x
      if val.getLsbD 31 then x1 else clearSource n x1) s
  else s

/-- SRC_CFG_WRITE. -/
def execSrcCfgWrite (n : BitVec 10) (val : Word) (s : State) : Host.Outcome State Fault Refusal :=
  .next (writeSrcCfg n.toNat val s)

/-- THAW: from Crosstree or over PCIe; over the BMC SPI target it has no effect (R403). -/
def execThaw (path : Path) (t : Fin 22) (s : State) : Host.Outcome State Fault Refusal :=
  .next (onlyIf (path != .bmc && tgtReached s t) (thawTarget t) s)

/-- Vector v has become unmasked: its pending bit is judged, and without a link its message is discarded (R406). -/
def judgeVector (v : Nat) (s : State) : State :=
  if s.ic.msixPend.look false v then
    let s1 := setMsixPend v false s
    if tgtSignal s (16 + v) && s.ic.linkUp then sendMsix v s1 else s1
  else s

/-- Vector v's own mask bit is cleared, or with none the function mask (R406). -/
def unmaskMsix (v : Option (Fin 4)) (s : State) : State :=
  match v with
  | some k =>
    let s1 := setBit (0x0010800C + 0x10 * k) 0 false s
    if s1.ic.funcMask then s1 else judgeVector k s1
  | none =>
    forAll (fun k x => if vecMasked x k then x else judgeVector k x) [0, 1, 2, 3]
      { s with ic := { s.ic with funcMask := false } }

/-- MSIX_UNMASK. -/
def execMsixUnmask (v : Option (Fin 4)) (s : State) : Host.Outcome State Fault Refusal :=
  .next (onlyIf (coreOn s) (unmaskMsix v) s)

/-- IC_CNT_CLR: every target counter (R412). -/
def icCntClr : State → State := zeroRegs (within 0x00106000 0x160)
def execIcCntClr (s : State) : Host.Outcome State Fault Refusal := .next (onlyIf (coreOn s) icCntClr s)

end Sys2Proof.Machine
end

