-- ==== Sys2Proof/Machine/Trunk.lean ====
section
/-! DEFINITION. What the blocks of a trunk port share: its pieces of state, downstream timing (R26), frame instants
(R27), TMM fields (R76, R83) and the replies' routes (R82), and lookout messages to be sent (R90, R93). -/
namespace Sys2Proof.Machine
open Sys2Proof

/-! ### The pieces of a port's state -/

def framer (s : State) (p : Nat) : Framer := s.framers.look {} p
def setFramer (p : Nat) (f : Framer) (s : State) : State := { s with framers := s.framers.put p f }
def regnOf (s : State) (p : Nat) : Registration := s.regn.look {} p
def setRegn (p : Nat) (r : Registration) (s : State) : State := { s with regn := s.regn.put p r }
def halyard (s : State) (p : Nat) : Halyard := s.halyards.look {} p
def setHalyard (p : Nat) (h : Halyard) (s : State) : State := { s with halyards := s.halyards.put p h }
def guardOf (s : State) (p : Nat) : Guard := s.guards.look {} p
def setGuard (p : Nat) (g : Guard) (s : State) : State := { s with guards := s.guards.put p g }
def lookout (s : State) (n : Nat) : Lookout := s.lookouts.look {} n
def setLookout (n : Nat) (l : Lookout) (s : State) : State := { s with lookouts := s.lookouts.put n l }
def laneOf (s : State) (l : Nat) : Lane := s.lanes.look {} l
def setLane (l : Nat) (x : Lane) (s : State) : State := { s with lanes := s.lanes.put l x }
def waiken (s : State) (p : Nat) : Waiken := s.waikens.look {} p
def setWaiken (p : Nat) (w : Waiken) (s : State) : State := { s with waikens := s.waikens.put p w }
def pmStore (s : State) (p : Nat) : PmStore := s.pm.look {} p
def setPmStore (p : Nat) (x : PmStore) (s : State) : State := { s with pm := s.pm.put p x }

/-! ### Timing -/

/-- The instant now, in 12.5 ps of the free-running counter (R167). -/
def nowOf (s : State) : Nat := s.time.frc
/-- The instant now on the clock that trunk port p recovers from its own receive lanes, in 12.5 ps (R26, R193). -/
def lineNow (s : State) (p : Nat) : Nat := ((coreNow s : Int) + s.drift.look 0 p).toNat
/-- An instant of port p's recovered clock on Heartwood's, as the two stand now, and on the free-running counter. -/
def coreAt (s : State) (p : Nat) (t : Int) : Nat := (coreNow s + (t - lineNow s p)).toNat
def frcAt (s : State) (p : Nat) (t : Int) : Nat := (nowOf s + (t - lineNow s p)).toNat

/-- Trunk port p is dark by a granted darkness (R419). -/
def portDark (s : State) (p : Nat) : Bool := bitAt s 0x00200014 p

/-- The framer of port p is enabled and the port is lit (R66). -/
def framerOn (s : State) (p : Nat) : Bool := bitAt s (trkR p 0) 0 && !portDark s p

/-- Downstream timing of port p (R26). -/
def hasTiming (s : State) (p : Nat) : Bool :=
  framerOn s p && (framer s p).locked && (framer s p).raw &&& 0xF == 0

/-- The defects reported: the highest-ranked raw one (R64). -/
def reported (raw : BitVec 7) : BitVec 7 := raw &&& (0 - raw)

/-- t_rx(N) of port p, by the count E and the instant it was taken at (R27, R49). -/
def tRx (s : State) (p n : Nat) : Nat := (framer s p).rxAt + n * 10000000 - (framer s p).e * 10000000

/-- The EqD in force for upstream frame n: before a change took hold, after it, or the pending one (R100). -/
def eqdAt (eqd old frm : Nat) (pend : Option (Nat × Nat)) (n : Nat) : Nat :=
  match pend with
  | some (v, sf) => if sf ≤ n then v else if n < frm then old else eqd
  | none => if n < frm then old else eqd

/-- The EqD of port p for upstream frame n, as Halyard holds it. -/
def halEqd (s : State) (p n : Nat) : Nat :=
  let r := regnOf s p
  eqdAt r.eqd r.eqdOld r.eqdFrom (r.pend.map fun c => (c.eqd, c.sfEff)) n

/-- The same as Backstay's own copy gives it (R140). -/
def bksEqd (s : State) (p n : Nat) : Nat :=
  let g := guardOf s p
  eqdAt (g.eqd.getD 0) g.eqdOld g.eqdFrom g.pend n

/-- The start of upstream frame n at the pins with EqD q: t_rx(n) + EqD (R27). -/
def upStart (s : State) (p n q : Nat) : Nat := tRx s p n + 5 * q

/-- The last upstream frame below `stop` that has begun by instant t where EqD is q: none below `first` counts. -/
def begunWith (s : State) (p t q first : Nat) (stop : Option Nat) : Nat :=
  let f := framer s p
  let n := ((f.e : Int) + ((t : Int) - f.rxAt - 5 * q) / 10000000).toNat
  let m := match stop with | some k => min n (k - 1) | none => n
  if first ≤ m then m else 0

/-- The latest upstream frame that has begun by instant t, each with its own EqD (R100, R145). -/
def frameBegun (s : State) (p t eqd old frm : Nat) (pend : Option (Nat × Nat)) : Nat :=
  match pend with
  | some (v, sf) => max (begunWith s p t v sf none) (max (begunWith s p t eqd frm (some sf)) (begunWith s p t old 0 (some (min frm sf))))
  | none => max (begunWith s p t eqd frm none) (begunWith s p t old 0 (some frm))

/-- The latest upstream frame that has begun by instant t in Backstay's timing; in the gap before a frame at which EqD grows,
the frame that has ended there (R100, R145; log entry 209). -/
def upFrameAt (s : State) (p t : Nat) : Nat :=
  let g := guardOf s p
  frameBegun s p t (g.eqd.getD 0) g.eqdOld g.eqdFrom g.pend

/-- Instant t lies in the gap between two upstream frames that a growing EqD leaves (R100). -/
def inGap (s : State) (p t : Nat) : Bool :=
  let n := upFrameAt s p t
  decide (upStart s p n (bksEqd s p n) + 10000000 ≤ t)

/-! ### Trunk management messages -/

/-- Field [hi:lo] of a TMM (R76). -/
def tf (t : BitVec 384) (hi lo : Nat) : Nat := bits t.toNat hi lo

/-- A TMM from bits [383:32], with its CRC (R76, R43). -/
def sealTmm (top : Nat) : BitVec 384 :=
  let n := top % 2 ^ 352
  BitVec.ofNat 384 (n * 2 ^ 32 + crc32 (toBytes 44 n))

/-- Whether a TMM passes its CRC-32 (R52). -/
def tmmGood (t : BitVec 384) : Bool := crc32 (toBytes 44 (t.toNat / 2 ^ 32)) == t.toNat % 2 ^ 32

/-- Fields of a TMM's body, each (lowest bit, value), as a number over bits [351:32]. -/
def bodyOf (l : List (Nat × Nat)) : Nat := total (l.map fun x => x.2 * 2 ^ (x.1 - 32))

/-- A TMM of port p with ID, TYPE, SEQ and body fields. -/
def mkTmm (id type seq p : Nat) (body : List (Nat × Nat)) : BitVec 384 :=
  sealTmm (id % 2 ^ 12 * 2 ^ 340 + type % 2 ^ 8 * 2 ^ 332 + seq % 2 ^ 8 * 2 ^ 324 + p % 16 * 2 ^ 320 + bodyOf body % 2 ^ 320)

/-- The device's 64-bit identifier (R503). -/
def devId (s : State) : Nat := reg64 s 0x10008

/-- The TID a port identifies itself with: 4,095 when it holds none (R76). -/
def ownId (s : State) (p : Nat) : Nat := (regnOf s p).tid.getD 4095

/-- A reply of port p to TMM t: TYPE plus 0x80, SEQ copied, STATUS, then the reply's fields (R77). -/
def replyTo (s : State) (p : Nat) (t : BitVec 384) (status : Nat) (body : List (Nat × Nat)) : BitVec 384 :=
  mkTmm (ownId s p) (tf t 371 364 + 0x80) (tf t 363 356) p ((344, status) :: body)

/-- The port's manifest: versions both in the BLUENTICA common set and enabled in RG_CTL (R96, R446). -/
def manifestHas (s : State) (p v : Nat) : Bool :=
  (v == 2 || v == 3) && bitAt s (trkR p 0x400) (7 + v) && bitAt s 0x10144 v

/-! ### Lookout messages to be sent -/

/-- Whether lookout port n's lane is up (R89). -/
def lkoUp (s : State) (n : Nat) : Bool := bitAt s 0x01300004 n

/-- Counter at offset o of lookout port n. -/
def lkoR (n o : Nat) : Nat := 0x01300100 + 0x20 * n + o

/-- An LM with its CRC (R90). -/
def mkLm (s : State) (p : Nat) (allp : Bool) (t : BitVec 384) : List Byte :=
  let l := toBytes 8 (devId s) ++ toBytes 4 (p * 2 ^ 28 + bitN allp * 2 ^ 27) ++ toBytes 48 t.toNat
  l ++ toBytes 4 (crc32 l)

/-- An LM lost on lookout port n: TX_DROP counts and signals (R93). -/
def txDrop (n : Nat) (s : State) : State := raise 0x01300008 0x0130000C 3 387 (bump (lkoR n 0x14) 1 s)

/-- What one keying lasts, from the assertion of the transmit enable to its release: 256 + 25.6 + 64 ns (R92). -/
def keying : Nat := 27648
/-- The release of the enable after the last keying of lookout port n. -/
def keyedUntil (s : State) (n : Nat) : Nat := match (lookout s n).keyedFrom with | some t => t + keying | none => 0

/-- The random delay of the oldest LM of lookout port n starts, at `t` or at the release after the last keying (R93). -/
def startDelayAt (n t : Nat) (s : State) : State :=
  drawn (setLookout n { lookout s n with delayFrom := some (max t (keyedUntil s n)), delayUs := freeVal s % 64 } s)
def startDelay (n : Nat) (s : State) : State := startDelayAt n (coreNow s) s

/-- An untimed LM joins the queue of lookout port n (R93). -/
def queueOn (n : Nat) (lm : List Byte) (s : State) : State :=
  let l := lookout s n
  if 32 ≤ l.queue.length then txDrop n s
  else
    let s1 := setLookout n { l with queue := l.queue ++ [BitVec.ofNat 512 (ofBytes lm)] } s
    if l.queue.isEmpty then startDelay n s1 else s1

/-- An untimed LM of port p is queued on every lookout port whose lane is up, or is lost on both (R93). -/
def queueLm (p : Nat) (allp : Bool) (t : BitVec 384) (s : State) : State :=
  let lm := mkLm s p allp t
  if lkoUp s 0 || lkoUp s 1 then
    forAll (fun n x => if lkoUp x n then queueOn n lm x else x) [0, 1] s
  else txDrop 1 (txDrop 0 s)

/-- An ALERT of port p (R83). -/
def queueAlert (p cause : Nat) (allp : Bool) (sfLast : Nat) (s : State) : State :=
  queueLm p allp (mkTmm (ownId s p) 0x13 0 p [(344, cause), (280, devId s), (229, sfLast)]) s

/-- Version 3, or none accepted yet with version 3 in the manifest: the port's replies go on the lookout (R82, R153). -/
def speaksLookout (s : State) (p : Nat) : Bool :=
  (regnOf s p).version == 3 || ((regnOf s p).version == 0 && manifestHas s p 3)

/-- A TMM of port p that no burst takes: the lookout channel, or the version 2 queue of 16 (R82 items 2 and 3). -/
def routeAway (p : Nat) (t : TmmOut) (s : State) : State :=
  if speaksLookout s p then queueLm p false t.bits s
  else
    let r := regnOf s p
    if 16 ≤ r.out2.length then bump (trkR p 0x450) 1 s
    else setRegn p { r with out2 := r.out2 ++ [t] } s

/-- A reply or unsolicited TMM of port p is queued by its first route (R82): for a burst, or, where there is no lookout to
fall back on, in the version 2 queue, from which bursts and quiet windows take (R104, R105; log entry 176). -/
def queueTmm (p : Nat) (t : BitVec 384) (sf : Nat) (s : State) : State :=
  let r := regnOf s p
  if speaksLookout s p ∧ (r.state = .range ∨ r.state = .operate) then setRegn p { r with out := r.out ++ [⟨t, sf⟩] } s
  else routeAway p ⟨t, sf⟩ s

/-- Replies that waited for a burst of a port that no longer sends any take their next route (R82). -/
def flushOut (p : Nat) (s : State) : State :=
  let l := (regnOf s p).out
  forAll (fun t x => routeAway p t x) l (setRegn p { regnOf s p with out := [] } s)

/-- Replies in the version 2 queue of a port that has come to speak version 3 go on the lookout (R82). -/
def flushOut2 (p : Nat) (s : State) : State :=
  let l := (regnOf s p).out2
  forAll (fun t x => routeAway p t x) l (setRegn p { regnOf s p with out2 := [] } s)

/-! ### Event latches of a trunk port -/

/-- FR_EVENT bit i (R75). -/
def frEvent (p i : Nat) (s : State) : State := raise (trkR p 0x18) (trkR p 0x1C) i (128 + 16 * p + i) s
/-- HAL_EVENT bit i (R139). -/
def halEvent (p i : Nat) (s : State) : State := raise (halR p 0x20) (halR p 0x24) i (128 + 16 * p + 10 + i) s

/-- RG_SUMMARY bit p: an enabled RG_EVENT latch is set. -/
def rgSummary (s : State) (p : Nat) : Bool := reg s (trkR p 0x424) &&& reg s (trkR p 0x428) != 0

/-- f, and a signal of source 388 where it takes port p's RG_SUMMARY bit from 0 to 1 (R106). -/
def withSummary (p : Nat) (f : State → State) (s : State) : State :=
  let s1 := f s
  if rgSummary s1 p && !rgSummary s p then signalSource 388 s1 else s1

/-- RG_EVENT bit i. -/
def rgEvent (p i : Nat) : State → State := withSummary p (setBit (trkR p 0x424) i true)

/-! ### PM counts that come from other blocks (R69, R72) -/

/-- A count of n in both bins that hold the present second. -/
def pmCount (p : Nat) (f : PmBin → PmBin) (s : State) : State :=
  let x := pmStore s p
  setPmStore p { x with cur15 := f x.cur15, cur24 := f x.cur24 } s
/-- Sum of 64 bits, saturating (R72). -/
def sat64 (n : Nat) : Nat := min n (2 ^ 64 - 1)
/-- Sum of 32 bits, saturating. -/
def sat32 (n : Nat) : Nat := min n (2 ^ 32 - 1)
/-- n grants missed (R113). -/
def pmMissed (p n : Nat) : State → State := pmCount p fun b => { b with missed := sat64 (b.missed + n) }
/-- n grants invalid. -/
def pmInvalid (p n : Nat) : State → State := pmCount p fun b => { b with invalid := sat64 (b.invalid + n) }
/-- n envelopes discarded (R72). -/
def pmDiscard (p n : Nat) : State → State := pmCount p fun b => { b with discard := sat64 (b.discard + n) }

end Sys2Proof.Machine
end

