-- ==== Sys2Proof/Machine/TimeOps.lean ====
section
/-! DEFINITION. The reading of the time base and what its other users share (R167 to R178). -/
namespace Sys2Proof.Machine
open Sys2Proof

/-- What anchor a reads at count c, in 2^-16 ns (R167): the elapsed count in 12.5 ps units, 0.8 ns × 65,536 a tick. -/
def readAnchor (a : Anchor) (c : Nat) : Int :=
  let u : Int := (c : Int) - a.c
  a.nt + u * 4096 * (2 ^ 42 + a.rate) / (5 * 2 ^ 42)

/-- The anchor in force at count c: the newest set at or before it (R169). -/
def anchorAt : List Anchor → Nat → Anchor
  | [], _ => { c := 0, nt := 0, rate := 0 }
  | a :: r, c => if a.c ≤ c then a else anchorAt r c

/-- Trunk port p qualifies as a source: in RANGE or OPERATE and not dark (R172). -/
def qualifiesSource (s : State) (p : Nat) : Bool :=
  ((regnOf s p).state == .range || (regnOf s p).state == .operate) && !portDark s p
/-- Phase comes from PPS_IN (SRC_KIND 0b01). -/
def ppsSource (s : State) : Bool := fld s 0x01400000 13 12 == 1
/-- Port p is the current source (TB_STATUS) and still qualifies (R172, R175). -/
def isSource (s : State) (p : Nat) : Bool :=
  !ppsSource s && bitAt s 0x01400004 0 && fld s 0x01400004 7 4 == p && qualifiesSource s p

/-- A waiting change as it will apply: a step only while what it came from is the source (R189). -/
def changeLive (s : State) (c : TimeChange) : TimeChange :=
  if (if c.port = 16 then ppsSource s else isSource s c.port) then c else { c with step := none }

/-- The anchor that a change sets at its instant (R168), after the anchors l: a step makes the stamped instant read as given,
with the new RATE where one applies with it (R175, R189). -/
def newAnchor (l : List Anchor) (c : TimeChange) : Anchor :=
  let old := anchorAt l c.cApp
  let r := c.rate.getD old.rate
  let nt := readAnchor old c.cApp
  match c.step, c.rate with
  | none, _ => { c := c.cApp, nt := nt, rate := r }
  | some (given, stamp), none => { c := c.cApp, nt := nt + (given - readAnchor (anchorAt l stamp) stamp), rate := r }
  | some (given, stamp), some _ =>
    let u : Int := (c.cApp : Int) - stamp
    { c := c.cApp, nt := given + u * 4096 * (2 ^ 42 + r) / (5 * 2 ^ 42), rate := r }

/-- A change does something: a rate, or a step that still applies. -/
def changes (c : TimeChange) : Bool := c.rate.isSome || c.step.isSome

/-- The anchors with those of the waiting changes that apply by count t (R168, R169). -/
def foreseen (t : Nat) : List TimeChange → List Anchor → List Anchor
  | [], l => l
  | c :: r, l => if t < c.cApp then l else foreseen t r (if changes c then newAnchor l c :: l else l)

/-- The reading at count c, with the anchor that is or will be in force then (R169). -/
def readAt (s : State) (c : Nat) : Int :=
  readAnchor (anchorAt (foreseen c (s.time.pend.map (changeLive s)) s.time.anchors) c) c

/-- The reading now. -/
def readNow (s : State) : Int := readAt s (nowOf s)

/-- A second in 2^-16 ns. -/
def ntSecond : Int := 65536000000000

/-- A reading in the network-time format: 64-bit seconds, 32-bit nanoseconds, 16-bit fraction (R18). -/
def ntFormat (nt : Int) : Nat :=
  (nt / ntSecond % 2 ^ 64).toNat * 2 ^ 48 + (nt % ntSecond / 65536).toNat * 2 ^ 16 + (nt % 65536).toNat

/-- TB_STATUS.STATE: 0 UNSET, 1 TRACKING, 2 HOLDOVER (R171). -/
def tbState (s : State) : Nat := fld s 0x01400004 31 30

/-- Network time is held (R171). -/
def timeHeld (s : State) : Bool := tbState s == 1 || tbState s == 2

/-- TB_EVENT bit i (R191). -/
def tbEvent (i : Nat) (s : State) : State := raise 0x01400024 0x01400028 i (400 + i) s

/-- A change of STATE, with its event. -/
def setTbState (v : Nat) (s : State) : State :=
  if tbState s = v then s
  else
    let s1 := tbEvent 0 (setFld 0x01400004 31 30 v s)
    if v = 2 then { s1 with time := { s1.time with holdSince := s1.uptime } } else s1

/-- XTAL_FALLBACK (R170). -/
def onXtal (s : State) : Bool := bitAt s 0x01400004 24

/-- STEP_ARMED (R175). -/
def stepArmed (s : State) : Bool := bitAt s 0x01400004 28
/-- STEP_ARMED set or cleared. -/
def armStep (b : Bool) : State → State := setBit 0x01400004 28 b

/-- A lane's receive half holds lock: ACTIVE, DOZE or PATTERN (R526). -/
def rxLocked (x : Lane) : Bool := 5 ≤ x.rx && x.rx ≤ 7

/-- A cause holds RCLK_OUTn squelched: EN 0, a lane that may not be chosen or has no lock, or raw LOS or LOL on a trunk
port (R184). -/
def rclkCause (s : State) (n : Nat) : Bool :=
  let l := fld s (0x01400060 + 4 * n) 8 0
  let trunk := 256 ≤ l && l < 272
  !bitAt s (0x01400060 + 4 * n) 31 || !(l < 128 || trunk) || !rxLocked (laneOf s l) ||
  (trunk && (framer s (l - 256)).raw &&& 3 != 0)

/-- The ticks, to 3,125, that RCLK_OUTn has been without a cause of squelch, with one more; none while a cause holds
(R184). -/
def rclkRun (s : State) (n : Nat) : Option (Nat × Nat) :=
  if rclkCause s n then none else some (n, min 3125 (s.time.rclkGood.look 0 n + 1))

/-- One tick more without a cause of squelch, for each output (R184). -/
def rclkTick (s : State) : State :=
  { s with time := { s.time with rclkGood := (upTo 2).filterMap (rclkRun s) } }

/-- RCLK_OUTn is squelched. -/
def rclkSquelched (s : State) (n : Nat) : Bool := bitAt s 0x01400068 n

/-- RCLK_OUTn becomes squelched or released, with its event. -/
def setSquelch (n : Nat) (b : Bool) (s : State) : State :=
  if rclkSquelched s n = b then s else tbEvent (8 + n) (setBit 0x01400068 n b s)

/-- Every output with a cause is squelched (R184). -/
def rclkSettle (s : State) : State :=
  forAll (fun n x => if rclkCause x n then setSquelch n true x else x) [0, 1] s

/-- Retention keeps the last reading with the uptime at which it was taken: network time stops being held (R187). -/
def retainTime (s : State) : State :=
  if timeHeld s then
    let n := ntFormat (readNow s)
    setReg64 0x01400080 s.uptime
      (setWide 0x01400074 3 (n / 2 ^ 16) (setRegN 0x01400070 (n % 2 ^ 16) s))
  else s

end Sys2Proof.Machine
end

