-- ==== Sys2Proof/Machine/LaneOps.lean ====
section
/-! DEFINITION. States and events of the serial lanes (R219, R526), as every block that moves a lane uses them. -/
namespace Sys2Proof.Machine
open Sys2Proof

/-- Lane l carries a class: its interrupt source (R192, R219). -/
def laneSource (l : Nat) : Nat :=
  if l < 128 then 112 else if l < 256 then 113 else if l < 272 then 114 else if l < 274 then 115 else if l = 274 then 116 else 117

/-- The LANE_SUM bit of lane l: an enabled LANE_EVENT latch is set. -/
def laneSum (s : State) (l : Nat) : Bool := reg s (laneR l 0x30) &&& reg s (laneR l 0x34) != 0

/-- LANE_EVENT bit i of lane l; its source signals where the LANE_SUM bit goes from 0 to 1 (R219). -/
def laneEvent (l i : Nat) (s : State) : State :=
  let s1 := setBit (laneR l 0x30) i true s
  if laneSum s1 l && !laneSum s l then signalSource (laneSource l) s1 else s1

/-- The combined STATE of two halves (R526): codes FAULT 8, PATTERN 7, DOZE 6, ACTIVE 5. -/
def combine (tx rx : Nat) : Nat :=
  if tx = 8 ∨ rx = 8 then 8
  else if tx = 7 ∨ rx = 7 then 7
  else if (tx = 6 ∧ (rx = 5 ∨ rx = 6)) ∨ (rx = 6 ∧ tx = 5) then 6
  else min (if tx = 6 then 5 else tx) (if rx = 6 then 5 else rx)

/-- STATE of lane l. -/
def laneState (s : State) (l : Nat) : Nat := combine (laneOf s l).tx (laneOf s l).rx

/-- f on lane l, with the ACTIVE event where STATE enters or leaves ACTIVE; a recovered-clock output that uses the lane is
squelched where its receive half loses lock (R184, R219). -/
def laneStep (l : Nat) (f : Lane → Lane) (s : State) : State :=
  let s1 := setLane l (f (laneOf s l)) s
  let s2 := if (laneState s l == 5) != (laneState s1 l == 5) then laneEvent l 1 s1 else s1
  if rxLocked (laneOf s l) && !rxLocked (laneOf s1 l) then rclkSettle s2 else s2

/-- The half of lane l that a WaikenHalf names moves to a state code. -/
def laneHalf (l : Nat) (h : WaikenHalf) (c : Nat) : State → State :=
  laneStep l fun x => match h with
    | .tx => { x with tx := c }
    | .rx => { x with rx := c }

/-- The nine lanes of trunk port p: eight of data and the clock. -/
def setLanes (p : Nat) : List Nat := (upTo 8).map (fun i => 128 + 8 * p + i) ++ [256 + p]

/-! ### Power of trunk ports (R413) -/

/-- Power domain d is switched on or off, with the OPERATION that does it (R413, R426). -/
def setDom (d : Nat) (on : Bool) (s : State) : State :=
  if s.boot.domOn.look false d = on then s
  else emit (.power d on) { s with boot := { s.boot with domOn := s.boot.domOn.put d on } }

/-- A trunk port is disabled: no enable and no lane of it is on (R413). -/
def trunkDisabled (s : State) (p : Nat) : Bool :=
  !bitAt s (trkR p 0) 0 && !bitAt s (trkR p 0x400) 0 && !bitAt s (halR p 0) 0 && !(setLanes p).any fun l => bitAt s (laneR l 0) 0

/-- The domain of trunk port p follows where an enable of it has changed, `was` saying whether the port was disabled before: from the
lanes' start-up on it is on while the port is neither dark nor disabled (R413, R450). -/
def trkFollow (p : Nat) (was : Bool) (s : State) : State :=
  let off := trunkDisabled s p
  if off == was || portDark s p || s.boot.furled || decide (fld s 0x10100 31 28 < 8) then s else setDom (0x20 + p) (!off) s

/-- The trunk port of lane l, for trunk lanes. -/
def trunkOf (l : Nat) : Option Nat :=
  if 128 ≤ l ∧ l < 256 then some ((l - 128) / 8) else if 256 ≤ l ∧ l < 272 then some (l - 256) else none

/-- Lane l has power: its port or block is not dark, and the device is not Furled (R413, R457). -/
def lanePowered (s : State) (l : Nat) : Bool :=
  if l < 128 then !bitAt s 0x00200018 (l / 4) && !s.boot.furled
  else match trunkOf l with
    | some p => !portDark s p && !s.boot.furled
    | none => true

/-- Lane l is in use: for a client lane MODE of its block, or of the 1.6TbE port its block is half of, is not OFF (R220). -/
def laneServed (s : State) (l : Nat) : Bool :=
  128 ≤ l || fld s (cliR (l / 4) 0) 2 0 != 0 || fld s (cliR (l / 4 - l / 4 % 2) 0) 2 0 == 4

/-- The state of a half that its mode or its enable starts or disables; a fault or pattern stays (R220, R221). -/
def restState (on : Bool) (c : Nat) : Nat := if c = 7 ∨ c = 8 then c else if on then 1 else 0

/-- The state of a half that a link takes up or lets go; a fault or pattern stays. -/
def linkCode (up en : Bool) (c : Nat) : Nat := if c = 7 ∨ c = 8 then c else if !en then 0 else if up then 5 else 1

/-- The PCIe lanes, those enabled, carry the link's traffic, or are in its training (R526; log entry 183). -/
def pcieLanes (up : Bool) (s : State) : State :=
  forAll (fun l x => laneStep l (fun y =>
    { y with tx := linkCode up (bitAt x (laneR l 0) 0) y.tx, rx := linkCode up (bitAt x (laneR l 0) 0) y.rx }) x) [275, 276, 277, 278] s

/-- A loss of lock on lane l (R198). -/
def countLockLoss (l : Nat) (s : State) : State := laneEvent l 0 (bump (laneR l 0x10C) 1 s)

end Sys2Proof.Machine
end

