-- ==== Sys2Proof/Machine/CliOps.lean ====
section
/-! DEFINITION. Client sub-ports: modes, rates, links, events, and the PFC frames they send (ch. 08). -/
namespace Sys2Proof.Machine
open Sys2Proof

/-! ### Sub-ports (R220, R223) -/

/-- What sub-port u of block b keeps. -/
def subOf (s : State) (b u : Nat) : SubPort := s.subs.look {} (4 * b + u)
def setSub (b u : Nat) (x : SubPort) (s : State) : State := { s with subs := s.subs.put (4 * b + u) x }

/-- MODE of block b: 0 OFF, 1 200GbE, 2 400GbE, 3 800GbE, 4 1.6TbE (R220). -/
def portMode (s : State) (b : Nat) : Nat := if b < 32 then fld s (cliR b 0) 2 0 else 0
/-- Sub-ports that a mode provides. -/
def modeSubs (m : Nat) : Nat := match m with | 1 => 4 | 2 => 2 | 3 => 1 | 4 => 1 | _ => 0
/-- Block b is the odd half of a 1.6TbE port (R220). -/
def paired (s : State) (b : Nat) : Bool := b < 32 && b % 2 == 1 && portMode s (b - 1) == 4
/-- Sub-port u exists in block b; the management port has sub-port 0 (R236, R239). -/
def subExists (s : State) (b u : Nat) : Bool :=
  if b = 32 then u == 0 else decide (u < modeSubs (portMode s b)) && !paired s b
/-- The sub-port's rate in units of 200 Gb/s. -/
def rateUnits (s : State) (b : Nat) : Nat := match portMode s b with | 2 => 2 | 3 => 4 | 4 => 8 | _ => 1
/-- First queue and number of queues of sub-port u in its block (R220). -/
def subQueues (s : State) (b u : Nat) : Nat × Nat :=
  let n := 64 / max 1 (modeSubs (portMode s b))
  (n * u, n)
/-- The lanes of sub-port u (R6). -/
def subLanes (s : State) (b u : Nat) : List Nat :=
  if b = 32 then [274]
  else
    let n := match portMode s b with | 1 => 1 | 2 => 2 | 3 => 4 | 4 => 8 | _ => 0
    (List.range n).map fun i => 4 * b + n * u + i

/-- The sub-port is enabled: MAC_CTL.EN, and on the management port PORT_CTL.EN as well (R236, R239). -/
def subEn (s : State) (b u : Nat) : Bool :=
  subExists s b u && bitAt s (subR b u 0) 31 && (b != 32 || bitAt s (cliR 32 0) 0)
/-- LINK_UP. -/
def linkUp (s : State) (b u : Nat) : Bool := bitAt s (subR b u 4) 31
/-- Block b is dark by a reef grant (R223). -/
def blockDark (s : State) (b : Nat) : Bool := b < 32 && bitAt s 0x00200018 b
/-- A block that carries lanes of block b's ports is dark: b itself, or the odd block of its 1.6TbE port (R220, R223). -/
def portUnlit (s : State) (b : Nat) : Bool := blockDark s b || (portMode s b == 4 && blockDark s (b + 1))
/-- The sub-port may transmit and receive. -/
def macUp (s : State) (b u : Nat) : Bool := subEn s b u && linkUp s b u && !portUnlit s b
/-- MAX_FRAME within its limits (R224). -/
def maxFrame (s : State) (b u : Nat) : Nat := min (max (fld s (subR b u 0) 13 0) 1518) 16000
/-- The sub-port is a FlexE PHY: SLOTTED, in the 400GbE mode (R239). -/
def subSlotted (s : State) (b u : Nat) : Bool := portMode s b == 2 && bitAt s (subR b u 0) 25
/-- The attachment code of block b: codes 4 to 15 act as 0 (R222). -/
def phyCode (s : State) (b : Nat) : Nat := let c := fld s (cliR b 0) 7 4; if c < 4 then c else 0
/-- The sub-port auto-negotiates or trains its lanes: for codes 2 and 3 always, for 0 and 1 where the interface's clause provides
it (R211, R222). -/
def phyTrained (s : State) (b : Nat) : Bool :=
  b < 32 && (decide (2 ≤ phyCode s b) || Config.phyTrains (portMode s b) (phyCode s b))

/-- PORT_EVENT bit 8u + i of block b; the management port's events signal 1012, a PAIRED block's nothing (R236, R240). -/
def cliEvent (b u i : Nat) (s : State) : State :=
  if paired s b then setBit (cliR b 8) (8 * u + i) true s
  else raise (cliR b 8) (cliR b 0xC) (8 * u + i) (if b = 32 then 1012 else 432 + 8 * b + i) s

/-- Field [hi:lo] of MAC_STATUS becomes v, with event i where it changes. -/
def macStatus (b u hi lo v i : Nat) (s : State) : State :=
  if fld s (subR b u 4) hi lo = v then s else cliEvent b u i (setFld (subR b u 4) hi lo v s)

/-- Transmit LPI ends (R232). -/
def lpiExit (b u : Nat) : State → State := macStatus b u 26 26 0 7

/-! ### Priority flow control (R230, R231) -/

/-- k quanta of 512 bit times at the sub-port's rate, in 12.5 ps (R230). -/
def quanta (s : State) (b k : Nat) : Nat := k * 2048 / (10 * rateUnits s b)
/-- QUANTA and REFRESH, which acts as half of QUANTA where it is 0 or not below it. -/
def pfcQuanta (s : State) (b u : Nat) : Nat := fld s (subR b u 0x10) 31 16
def pfcRefresh (s : State) (b u : Nat) : Nat :=
  let r := fld s (subR b u 0x10) 15 0
  if r = 0 ∨ pfcQuanta s b u ≤ r then pfcQuanta s b u / 2 else r

/-- The address in UC_ENTRY 0, the sub-port's own (R229). -/
def ownMac (s : State) (b u : Nat) : List Byte :=
  toBytes 2 (fld s (subR b u 0x104) 15 0) ++ toBytes 4 (regN s (subR b u 0x100))

/-- Bytes of a frame from its header and payload: padded to 60 and closed with its FCS (R227). -/
def frameWithFcs (l : List Byte) : List Byte :=
  let p := l ++ List.replicate (60 - l.length) 0
  p ++ etherFcs p

/-- The address, type and opcode of a PFC frame. -/
def pfcDest : List Byte := [0x01, 0x80, 0xC2, 0x00, 0x00, 0x01]

/-- Priorities that the sub-port pauses: XOFF_TX. -/
def xoffTx (s : State) (b u : Nat) : BitVec 8 := BitVec.ofNat 8 (fld s (subR b u 4) 15 8)

/-- A PFC frame leaves, out of transmit LPI (R232): every priority in XOFF with QUANTA, every released one with 0 (R231). -/
def sendPfc (b u : Nat) (s : State) : State :=
  let x := subOf s b u
  let now := xoffTx s b u
  let s1 := setSub b u { x with pfcDue := false, pfcOwed := 0, pfcAt := coreNow s } s
  if !macUp s b u then s1
  else
    let vec := now ||| x.pfcOwed
    let times := (List.range 8).flatMap fun i => toBytes 2 (if now.getLsbD i then pfcQuanta s b u else 0)
    let bytes := pfcDest ++ ownMac s b u ++ toBytes 2 0x8808 ++ toBytes 2 0x0101 ++ [0, vec] ++ times
    emit (.frame b u (frameWithFcs bytes)) (bump (subR b u 0x84C) 1
      (setSub b u { subOf (lpiExit b u s1) b u with idleFrom := coreNow s } (lpiExit b u s1)))

/-- A PFC frame goes out at once, or at the end of the frame in transmission (R231). -/
def pfcNow (b u : Nat) (s : State) : State :=
  if (subOf s b u).sending.isSome then setSub b u { subOf s b u with pfcDue := true } s else sendPfc b u s

/-- The priorities in XOFF become `want` (R231). -/
def pfcChange (b u : Nat) (want : BitVec 8) (s : State) : State :=
  let was := xoffTx s b u
  if was = want then s
  else
    let x := subOf s b u
    let s1 := setFld (subR b u 4) 15 8 want.toNat
      (setSub b u { x with pfcOwed := (x.pfcOwed ||| (was &&& ~~~want)) &&& ~~~want } s)
    pfcNow b u s1

/-! ### Ingress FIFO (R226) -/

def fifoOf (s : State) (b : Nat) : List Arrival := s.fifos.look [] b
def setFifo (b : Nat) (l : List Arrival) (s : State) : State := { s with fifos := s.fifos.put b l }
/-- The sub-port's share of the 512 KiB, and what stands in it. -/
def fifoShare (s : State) (b : Nat) : Nat := 524288 / max 1 (modeSubs (portMode s b))
def shareFill (s : State) (b u : Nat) : Nat :=
  total (((fifoOf s b).filter fun a => a.sub == u).map fun a => a.bytes.length)
/-- FIFO pressure: above 75 % full it asserts, below 50 % it clears. -/
def pressureSettle (b u : Nat) (s : State) : State :=
  let x := subOf s b u
  let f := 4 * shareFill s b u
  let v := if 3 * fifoShare s b < f then true else if f < 2 * fifoShare s b then false else x.pressure
  if v = x.pressure then s else setSub b u { x with pressure := v } s

/-! ### Links (R223, R235) -/

/-- The lanes of a sub-port come to state code c, in both halves; one that is off, faulted or in pattern mode stays. -/
def subLaneState (b u c : Nat) (s : State) : State :=
  let at_ := fun (k : Nat) => if k = 0 ∨ k = 7 ∨ k = 8 then k else c
  forAll (fun l x => laneStep l (fun y => { y with tx := at_ y.tx, rx := at_ y.rx }) x) (subLanes s b u) s

/-- LINK_UP falls: event, count, latencies no longer valid (R223, R235). -/
def linkFall (b u : Nat) (s : State) : State :=
  if linkUp s b u then
    let s1 := cliEvent b u 0 (setBit (subR b u 4) 31 false s)
    bumpLo (subR b u 0x860) 1 (setRegN (subR b u 0x60) 0 (setRegN (subR b u 0x64) 0 s1))
  else s

/-- A loss of alignment or a local fault, or a remote fault: one fault state takes the place of the other, as IEEE 802.3 has it
(R223). -/
def linkDown (b u : Nat) (remote : Bool) (s : State) : State :=
  if !subExists s b u then s
  else
    let s1 := linkFall b u s
    if remote then macStatus b u 29 29 1 1 (macStatus b u 30 30 0 1 s1)
    else
      let s2 := subLaneState b u 2 (macStatus b u 30 30 1 1 (macStatus b u 29 29 0 1 s1))
      macStatus b u 25 25 0 7 s2

/-- Lane l can carry its protocol: enabled, no half faulted or in pattern mode, no leg shorted (R214, R216, R223). -/
def laneCarries (s : State) (l : Nat) : Bool :=
  bitAt s (laneR l 0) 0 && !(laneOf s l).short && decide ((laneOf s l).tx < 7) && decide ((laneOf s l).rx < 7)

/-- Link training, where the PHY type has it, has settled the receive polarity of the sub-port's lanes (R212). -/
def trainPolarity (b u : Nat) (s : State) : State :=
  if phyTrained s b then forAll (fun l x => laneStep l (fun y => { y with rxInv := Config.rxSwapped l }) x) (subLanes s b u) s else s

/-- Auto-negotiation or link training of the sub-port is in progress: its PHY type has it, and a lane of it is on its way up, none
of them off or faulted (R222, R239). -/
def training (s : State) (b u : Nat) : Bool :=
  phyTrained s b && subExists s b u && !portUnlit s b && (subLanes s b u).all (laneCarries s) &&
    (subLanes s b u).any fun l => decide ((laneOf s l).rx < 5)

/-- LINK_UP rises, with the latencies measured (R223, R235); a port with a dark block stays down. -/
def linkRise (b u : Nat) (rxLat txLat : BitVec 16) (s : State) : State :=
  if !subExists s b u || linkUp s b u || portUnlit s b || (s.boot.furled && b < 32) || !(subLanes s b u).all (laneCarries s) then s
  else
    let s1 := macStatus b u 30 30 0 1 (macStatus b u 29 29 0 1 (subLaneState b u 5 (trainPolarity b u s)))
    let s2 := setRegN (subR b u 0x60) (2 ^ 31 + rxLat.toNat) (setRegN (subR b u 0x64) (2 ^ 31 + txLat.toNat) s1)
    let s3 := cliEvent b u 0 (setBit (subR b u 4) 31 true s2)
    setSub b u { subOf s3 b u with idleFrom := coreNow s3 } s3

end Sys2Proof.Machine
end

