-- ==== Sys2Proof/Machine/BufOps.lean ====
section
/-! DEFINITION. Storage of frames: use of cells and pages, queues and their rounds, admission, free (ch. 12, R345, R348). -/
namespace Sys2Proof.Machine
open Sys2Proof

/-! ### Frames, queues, rounds -/

def frameOf (s : State) (n : Nat) : Option Stored := if s.buf.frames.has n then some (s.buf.frames.look { bytes := [], owner := 0, pool := 0, hbm := false, queue := 0, gran := 0, refs := 0 } n) else none
def setFrame (n : Nat) (f : Stored) (s : State) : State := { s with buf := { s.buf with frames := s.buf.frames.put n f } }
def queueOf (s : State) (q : Nat) : Queue := s.buf.queues.look {} q
def setQueue (q : Nat) (x : Queue) (s : State) : State := { s with buf := { s.buf with queues := s.buf.queues.put q x } }
def roundOf (s : State) (k : Nat) : List Nat := s.buf.rounds.look [] k
def setRound (k : Nat) (l : List Nat) (s : State) : State := { s with buf := { s.buf with rounds := s.buf.rounds.put k l } }

/-- On-die cells of a frame of L bytes (R326). -/
def cellsOf (f : Stored) : Nat := ceilDiv f.bytes.length 256
/-- Granules of an HBM-resident frame (R326). -/
def granulesOf (f : Stored) : Nat := ceilDiv (32 + f.bytes.length) 64
/-- The frames of a queue, head first. -/
def queueFrames (s : State) (q : Nat) : List Stored := (queueOf s q).frames.filterMap (frameOf s)
/-- On-die cells that a queue holds. -/
def queueCells (s : State) (q : Nat) : Nat := total ((queueFrames s q).map fun f => if f.hbm then 0 else cellsOf f)
/-- The queue holds an HBM-resident frame. -/
def hbmResident (s : State) (q : Nat) : Bool := (queueFrames s q).any (·.hbm)
/-- Every stored frame. -/
def allFrames (s : State) : List Stored := s.buf.frames.map Prod.snd
/-- Pages, by (queue, page of its chain), that a frame occupies a part of. -/
def pagesOf (f : Stored) : List (Nat × Nat) :=
  if f.hbm then (List.range (granulesOf f)).map (fun i => (f.queue, (f.gran + i) / 64)) else []
/-- Distinct pages held by the frames that p picks: those of stored frames, and what waiting ones have taken. -/
def pagesOfAll (s : State) (p : Stored → Bool) : List (Nat × Nat) :=
  (((allFrames s).filter p).flatMap pagesOf ++ (s.buf.waiting.filter fun w => p w.frame).flatMap (·.pages)).eraseDups
/-- Pages of queue q. -/
def queuePages (s : State) (q : Nat) : Nat := (pagesOfAll s fun f => f.queue == q).length
/-- Pages of pool k. -/
def poolPages (s : State) (k : Nat) : Nat := (pagesOfAll s fun f => f.pool == k).length

/-- Cells (0) or pages (1) that the audit is still to return (R339, R472). -/
def withheld (s : State) (tier : Nat) : Nat := total ((s.faults.withheld.filter (·.1 == tier)).map Prod.snd)
/-- On-die cells and pages on the free lists: neither held nor withheld (R332, R472). -/
def freeCells (s : State) : Nat :=
  786432 - total ((allFrames s).map fun f => if f.hbm then 0 else cellsOf f) - total (s.buf.waiting.map (·.got)) - withheld s 0
def freePages (s : State) : Nat := 25165824 - (pagesOfAll s fun _ => true).length - withheld s 1

/-- Pool of owner o (R323). -/
def ownPool (s : State) (o : Nat) : Nat := fld s (0x05002000 + 0x20 * o) 5 0
def ownRsv (s : State) (o : Nat) : Nat := fld s (0x05002004 + 0x20 * o) 19 0
def ownMax (s : State) (o : Nat) : Nat := fld s (0x05002008 + 0x20 * o) 19 0
def lossless (s : State) (o : Nat) : Bool := bitAt s (0x05002000 + 0x20 * o) 31
/-- Register at offset o of pool k. -/
def poolR (k o : Nat) : Nat := 0x05001000 + 0x40 * k + o
/-- Cells that owner o holds (R325). -/
def ownUse (s : State) (o : Nat) : Nat :=
  total ((allFrames s).map fun f => if f.owner == o && !f.hbm then cellsOf f else 0) +
  total (s.buf.waiting.map fun w => if w.frame.owner == o && !w.frame.hbm then w.got else 0)
/-- Owners that hold anything. -/
def owners (s : State) : List Nat := ((allFrames s).map (·.owner) ++ s.buf.waiting.map (·.frame.owner)).eraseDups
/-- Shared use of pool k: what its owners hold beyond their reserves (R325). -/
def poolUse (s : State) (k : Nat) : Nat :=
  total (((owners s).filter fun o => ownPool s o == k).map fun o => ownUse s o - ownRsv s o)

/-- Sub-port of downstream queue k of block b, and its number of queues, by the port mode (R220). -/
def subOfQueue (s : State) (b k : Nat) : Nat :=
  match fld s (cliR b 0) 2 0 with
  | 1 => k / 16
  | 2 => k / 32
  | _ => 0
/-- The queue entry's word 0 of queue q in the scheduler. -/
def schQueueR (q : Nat) : Nat := if q < 65536 then 0x06400000 + 0x20 * q else 0x060C0000 + 0x20 * (q - 65536)
/-- LEVEL of queue q (R348). -/
def queueLevel (s : State) (q : Nat) : Nat := fld s (schQueueR q) 15 13
/-- QUANTUM of queue q in bytes: 0 acts as 1, above 4,096 as 4,096 (R348). -/
def quantum (s : State) (q : Nat) : Nat := 64 * min (max (fld s (schQueueR q) 12 0) 1) 4096
/-- Allocation context that upstream queue q feeds (R345). -/
def queueCtx (s : State) (q : Nat) : Nat := fld s (schQueueR q + 4) 11 0
/-- The round that queue q belongs to: of its context and level, or of its sub-port and level. -/
def roundKey (s : State) (q : Nat) : Nat :=
  if q < 65536 then queueCtx s q * 8 + queueLevel s q
  else
    let j := q - 65536
    32768 + (4 * (j / 64) + subOfQueue s (j / 64) (j % 64)) * 8 + queueLevel s q

/-- Queue q at the tail of its level's round, with fresh set (R348). -/
def joinRound (q : Nat) (s : State) : State :=
  let k := roundKey s q
  setQueue q { queueOf s q with fresh := true } (setRound k ((roundOf s k).filter (· != q) ++ [q]) s)
/-- Queue q out of its round. -/
def leaveRound (q : Nat) (s : State) : State :=
  let k := roundKey s q
  setRound k ((roundOf s k).filter (· != q)) s

/-- The downstream queues of block b change their rounds as f changes its mode: those that hold frames join the rounds of
their new sub-ports in the order of the old ones, with their deficits (R220, R348; DESIGN CHOICE, log entry 199). -/
def rejoinBlock (b : Nat) (f : State → State) (s : State) : State :=
  let ks := ((upTo 32).map (32768 + 32 * b + ·)).filter fun k => !(roundOf s k).isEmpty
  forAll joinRound (ks.flatMap (roundOf s)) (f (forAll (setRound · []) ks s))

/-- A frame joins a queue, and a queue that becomes non-empty its round. -/
def enqueueOn (q n : Nat) (s : State) : State :=
  let x := queueOf s q
  let s1 := setQueue q { x with frames := x.frames ++ [n] } s
  if x.frames.isEmpty then joinRound q s1 else s1

/-- A frame in its place among those of a queue: frames have their numbers in the order in which they joined it. -/
def insertFrame (n : Nat) : List Nat → List Nat
  | [] => [n]
  | m :: r => if n ≤ m then n :: m :: r else m :: insertFrame n r

/-- Frames return unsent to the head of their queue in their original order, whatever returned before them (R130, R136, R349). -/
def returnHead (q : Nat) (l : List Nat) (s : State) : State :=
  let x := queueOf s q
  if l.isEmpty then s
  else
    let s1 := setQueue q { x with frames := l.foldr insertFrame x.frames } s
    if x.frames.isEmpty then joinRound q s1 else s1

/-- A queue that has become empty: deficit 0, fresh, out of its round (R348). -/
def emptied (q : Nat) (s : State) : State :=
  if (queueOf s q).frames.isEmpty then
    leaveRound q (setQueue q { queueOf s q with deficit := 0, fresh := true } s)
  else s

/-! ### Thresholds (R334) -/

def bufEvent (i : Nat) (s : State) : State := raise 0x05000010 0x05000014 i (848 + i) s

/-- Owner o is held in XOFF by a waiting frame of its own (R333). -/
def heldXoff (s : State) (o : Nat) : Bool := s.buf.waiting.any fun w => w.frame.owner == o
/-- The condition that puts owner o in XOFF (R334); a disabled pool puts none there (DEDUCED, log entry 221). -/
def xoffOn (s : State) (o : Nat) : Bool :=
  let u := ownUse s o
  let k := ownPool s o
  bitAt s (poolR k 0) 31 &&
    (fld s (0x0500200C + 0x20 * o) 19 0 ≤ u || (ownRsv s o < u && fld s (poolR k 0xC) 19 0 ≤ poolUse s k))
/-- The condition that ends it (R334). -/
def xoffOff (s : State) (o : Nat) : Bool :=
  let k := ownPool s o
  ownUse s o < fld s (0x05002010 + 0x20 * o) 19 0 && poolUse s k < fld s (poolR k 0x10) 19 0
/-- Owner o is in XOFF. -/
def inXoff (s : State) (o : Nat) : Bool :=
  heldXoff s o || xoffOn s o || (s.buf.xoff.look false o && !xoffOff s o)
/-- Pool k, enabled, stands at or above WARN (R334; DEDUCED, log entry 221). -/
def poolWarn (s : State) (k : Nat) : Bool := bitAt s (poolR k 0) 31 && fld s (poolR k 8) 19 0 ≤ poolUse s k

/-- Sub-ports with PFC enabled or still in XOFF, by 4·block + sub-port. -/
def pfcSubs (s : State) : List Nat :=
  s.regs.keys.filterMap fun a =>
    let o := a % 0x10000
    if 0x02000000 ≤ a ∧ a < 0x02200000 ∧ 0x1000 ≤ o ∧ o < 0x5000 ∧ (o % 0x1000 = 0x14 ∨ o % 0x1000 = 4) then
      some (4 * ((a - 0x02000000) / 0x10000) + (o / 0x1000 - 1))
    else none

/-- Priorities that sub-port u of block b is to pause (R231, R334). -/
def pfcWant (s : State) (b u : Nat) : BitVec 8 :=
  let en := fld s (subR b u 0x14) 15 8
  BitVec.ofNat 8 (total ((upTo 8).map fun i =>
    if en.testBit i && ((subOf s b u).pressure || inXoff s (fld s (0x05006000 + 4 * (32 * b + 8 * u + i)) 8 0)) then 2 ^ i else 0))

/-- PFC follows owners, FIFO pressure and enables (R231). -/
def pfcSettle (s : State) : State :=
  forAll (fun k x => if subExists x (k / 4) (k % 4) then pfcChange (k / 4) (k % 4) (pfcWant x (k / 4) (k % 4)) x else x)
    (pfcSubs s).eraseDups s

/-- The XOFF states of the owners in a list follow their uses (R334). -/
def latchXoff (os : List Nat) (s : State) : State :=
  forAll (fun o x => { x with buf := { x.buf with xoff := x.buf.xoff.put o (inXoff s o) } }) os s

/-- Owner states, PFC and WARN_SUM follow the uses (R334). -/
def bufSettle (s : State) : State :=
  let s1 := pfcSettle (latchXoff (s.buf.xoff.keys ++ owners s).eraseDups s)
  forAll (fun k x =>
    let a := 0x05000018 + 4 * (k / 32)
    let w := poolWarn s k
    if bitAt x a (k % 32) = w then x
    else
      let x1 := setBit a (k % 32) w x
      if w then bufEvent 0 x1 else x1) (upTo 64) s1

/-! ### Free (R329) -/

/-- One reference of frame n is freed; at 0 its cells and pages return to their free lists. A free that would take a
count below 0 frees nothing and is a REFCNT_FAULT. -/
def freeRef (n : Nat) (s : State) : State :=
  match frameOf s n with
  | none => bufEvent 5 (bump 0x05000848 1 s)
  | some f =>
    if f.refs = 0 then bufEvent 5 (bump 0x05000848 1 s)
    else if f.refs = 1 then { s with buf := { s.buf with frames := s.buf.frames.drop n } }
    else setFrame n { f with refs := f.refs - 1 } s

/-! ### Admission (R327, R328, R330, R333) -/

/-- A frame dropped whole for want of room when it asked (R327 order 6). -/
def dropAdmit (k : Nat) (s : State) : State := bufEvent 1 (bump64 (0x05000A00 + 8 * k) 1 (bump64 0x05000810 1 s))

/-- The HBM is available to the buffer manager (R337). -/
def hbmAvail (s : State) : Bool := bitAt s 0x05000004 31

/-- The HBM takes frames: it is available, and no transition to Reef 2 or Reef 3 holds it (R337, R423). -/
def hbmTakes (s : State) : Bool := hbmAvail s && !(reefHolds s && decide (2 ≤ s.reef.target))

/-- Whether queue q may spill one more page of pool k (R327 order 5). -/
def maySpill (s : State) (q k : Nat) : Bool :=
  bitAt s (poolR k 0) 31 && bitAt s 0x05000000 1 && bitAt s (0x05100000 + 0x10 * q) 31 && hbmTakes s &&
  queuePages s q < fld s (0x05100004 + 0x10 * q) 24 0 && poolPages s k < fld s (poolR k 0x18) 24 0

/-- The tier of a frame of owner o for queue q: none where it is dropped, true for HBM (R327). -/
def tierOf (s : State) (q : Option Nat) (o : Nat) : Option Bool :=
  let k := ownPool s o
  let spill : Option Bool := match q with
    | some i => if maySpill s i k then some true else none
    | none => none
  let use := ownUse s o
  let toSpill : Bool := match q with
    | some i => hbmResident s i || decide (fld s (0x05100000 + 0x10 * i) 19 0 ≤ queueCells s i)
    | none => false
  if !bitAt s 0x05000000 0 then none
  else if toSpill then spill
  else if use < ownRsv s o then some false
  else if bitAt s (poolR k 0) 31 && use < ownMax s o && (poolUse s k < fld s (poolR k 0x14) 19 0 || lossless s o) then some false
  else spill

/-- Cells that owner o can take now, of n wanted: reserve, then shared region, never beyond OWN_MAX, and from the free list (R325,
R328, R472). -/
def cellsFree (s : State) (o n : Nat) : Nat :=
  let k := ownPool s o
  let use := ownUse s o
  let fromRsv := ownRsv s o - use
  let rest := if !bitAt s (poolR k 0) 31 then 0 else min (ownMax s o - max use (ownRsv s o)) (fld s (poolR k 4) 19 0 - poolUse s k)
  min (min (min n (ownMax s o - use)) (fromRsv + rest)) (freeCells s)

/-- Bytes staged toward the HBM in one direction (R336). -/
def stagedBytes (s : State) (up : Bool) : Nat :=
  total ((allFrames s).map fun f => if f.staged && (f.queue < 65536) == up then 64 * granulesOf f else 0)

/-- The staging area of its direction has room for frame f (R336). -/
def stageFits (s : State) (f : Stored) : Bool := decide (stagedBytes s (f.queue < 65536) + 64 * granulesOf f ≤ 4194304)

/-- The pages of its place that frame f still needs: those that nothing holds (R326). -/
def pagesMissing (s : State) (f : Stored) : List (Nat × Nat) :=
  let have0 := pagesOfAll s fun g => g.queue == f.queue
  ((pagesOf f).filter fun x => !have0.contains x).eraseDups

/-- How many pages frame f can take now: none while its staging area is full or the HBM is not available (R332, R336, R337). -/
def pagesFree (s : State) (f : Stored) : Nat :=
  if hbmTakes s && stageFits s f then min (fld s (poolR f.pool 0x18) 24 0 - poolPages s f.pool) (freePages s) else 0

/-- Frame f can be written to the HBM now: every page that it needs may be had (R326, R333, R336, R337). -/
def pagesFit (s : State) (f : Stored) : Bool :=
  hbmTakes s && stageFits s f && decide ((pagesMissing s f).length ≤ pagesFree s f)

/-- A cycle in which a frame is kept from its page by a full staging area is counted and raised (R336). -/
def spillStall (s : State) : State := bufEvent 7 (bump64 0x05000828 1 s)

/-- The frame is stored whole and joins its queues (R330: one reference a copy). -/
def storeFrame (f : Stored) (qs : List Nat) (s : State) : State :=
  let n := s.buf.nextFrame
  let s1 := setFrame n { f with refs := qs.length, staged := f.hbm } { s with buf := { s.buf with nextFrame := n + 1 } }
  let s2 := if f.repl then bump64 0x05000818 qs.length s1 else s1
  bufSettle (forAll (fun q x => enqueueOn q n x) qs s2)

/-- A frame is admitted to its tier, and an HBM-resident one has its place in the chain of its queue (R326, R327, R343). -/
def countAdmit (f : Stored) (s : State) : State :=
  if f.hbm then bump64 0x05000808 1 (setQueue f.queue { queueOf s f.queue with nextGran := f.gran + granulesOf f } s)
  else bump64 0x05000800 1 s

/-- A frame gives its place in the chain back, where none has come behind it (R326). -/
def givePlace (f : Stored) (s : State) : State :=
  if f.hbm && (queueOf s f.queue).nextGran == f.gran + granulesOf f then setQueue f.queue { queueOf s f.queue with nextGran := f.gran } s else s

/-- An admitted frame takes its cells or pages, or waits for them as its requester (R328, R333). -/
def takeSpace (req : Nat) (f : Stored) (qs : List Nat) (s : State) : State :=
  let n := cellsOf f
  let free := cellsFree s f.owner n
  let s0 := countAdmit f s
  if (if f.hbm then pagesFit s f else decide (n ≤ free)) then storeFrame f qs s0
  else if fld s (poolR f.pool 0) 15 0 = 0 then
    bufEvent 2 (bump64 (0x05000A00 + 8 * f.pool) 1 (bump 0x05000830 1 (givePlace f s0)))
  else
    let w : Waiting := { requester := req, frame := f, queues := qs, got := if f.hbm then 0 else free, since := coreNow s,
                         pages := (pagesMissing s f).take (pagesFree s f) }
    let s1 := if f.hbm && !stageFits s f then spillStall s0 else s0
    bufSettle (bump 0x05000834 1 { s1 with buf := { s1.buf with waiting := s1.buf.waiting ++ [w] } })

/-- First granule of a frame in the chain of its queue: after the last, or on a new page once that page has been
returned (R326). -/
def nextGranule (s : State) (q : Nat) : Nat :=
  let g := (queueOf s q).nextGran
  let claimed := (s.buf.waiting.filter fun w => w.frame.queue == q).flatMap fun w => pagesOf w.frame
  if (pagesOfAll s (fun f => f.queue == q) ++ claimed).contains (q, g / 64) then g else 64 * ceilDiv g 64

/-- A frame of owner o asks for room for one queue (R327, R328). -/
def admitFrame (req : Nat) (f : Stored) (q : Nat) (s : State) : State :=
  let k := ownPool s f.owner
  match tierOf s (some q) f.owner with
  | none => dropAdmit k s
  | some hbm => takeSpace req { f with pool := k, hbm := hbm, queue := q, gran := if hbm then nextGranule s q else 0 } [q] s

/-- Queues of a replication group's members: those that take a copy, and how many are passed over (R330). -/
def groupMembers (s : State) (base count : Nat) : List Nat × Nat :=
  let all := (List.range count).map fun i =>
    let w := regN s (0x05400000 + 4 * ((base + i) % 65536))
    (w.testBit 31, 65536 + bits w 10 0)
  let takes := all.filter fun x =>
    x.1 && !hbmResident s x.2 && decide (queueCells s x.2 < fld s (0x05100000 + 0x10 * x.2) 19 0)
  (takes.map (·.2), all.length - takes.length)

/-- REPL_DROP counts n. -/
def replDrop (n : Nat) (s : State) : State := if n = 0 then s else bufEvent 3 (bump 0x0500083C n s)

/-- A replicated frame (R330). -/
def admitGroup (req : Nat) (f : Stored) (g : Nat) (s : State) : State :=
  let lo := regN s (0x05300000 + 8 * g)
  let base := fld s (0x05300004 + 8 * g) 15 0
  let count := bits lo 7 0
  let o := bits lo 24 16
  if !lo.testBit 31 || count = 0 || 128 < count then bump 0x0500083C 1 s
  else
    match tierOf s none o with
    | none => dropAdmit (ownPool s o) s
    | some _ =>
      let m := groupMembers s base count
      let s1 := replDrop m.2 s
      if m.1.isEmpty then bump64 0x05000800 1 s1
      else takeSpace req { f with owner := o, pool := ownPool s o, hbm := false, repl := true } m.1 s1

end Sys2Proof.Machine
end

