-- ==== Sys2Proof/Machine/SchOps.lean ====
section
/-! DEFINITION. Selection by deficit round robin, shapers, gates (ch. 13). -/
namespace Sys2Proof.Machine
open Sys2Proof

def schEvent (i : Nat) (s : State) : State := raise 0x06000008 0x0600000C i (880 + i) s
def shaperOf (s : State) (k : Nat) : Shaper := s.sch.shapers.look {} k
def setShaper (k : Nat) (x : Shaper) (s : State) : State := { s with sch := { s.sch with shapers := s.sch.shapers.put k x } }

/-- A shaper has a credit of 0 or more, or is off (R352). -/
def shaperPasses (s : State) (k : Nat) : Bool := let x := shaperOf s k; !x.en || decide (0 ≤ x.credit)
/-- A frame charged n bytes to shaper k (R352). -/
def chargeShaper (k n : Nat) (s : State) : State :=
  let x := shaperOf s k
  if x.en then setShaper k { x with credit := x.credit - 65536 * max ((n : Int) + x.adj) 0 } s else s
/-- The shaper of queue q, where SHP_EN is 1. -/
def queueShaper (s : State) (q : Nat) : Option Nat :=
  if bitAt s (schQueueR q) 31 then some (fld s (schQueueR q) 29 16) else none

/-! ### Gate lists (R358) -/

def operList (s : State) (l : Nat) : GateList := s.sch.oper.look {} l
/-- IDLE_GATES of list l. -/
def idleGates (s : State) (l : Nat) : BitVec 64 := BitVec.ofNat 64 (reg64 s (0x06001014 + 0x40 * l))
/-- Gates of the entry that t ns into the cycle falls in, and its number; the last entry's hold to the cycle's end. -/
def entryAt : List (BitVec 64 × Nat) → Nat → Nat → Option (BitVec 64 × Nat)
  | [], _, _ => none
  | [(g, _)], _, k => some (g, k)
  | (g, i) :: r, t, k => if t < i then some (g, k) else entryAt r (t - i) (k + 1)
/-- Gates of list x at reading t, in ns: idle before BASE and while empty (R358). -/
def gatesOf (idle : BitVec 64) (x : GateList) (t : Int) : BitVec 64 :=
  if t < x.base ∨ x.entries.isEmpty ∨ x.cycle = 0 then idle
  else match entryAt x.entries ((t - x.base).toNat % x.cycle) 0 with
    | some (g, _) => g
    | none => idle
/-- The list that rules at reading t: the operational one, or the pending one from its CHANGE_TIME; one without a CHANGE_TIME rules
once it is operational (R360, R361). -/
def listAt (s : State) (l : Nat) (t : Int) : GateList :=
  match s.sch.change.look none l with
  | some (ct, x) => if ct ≠ 0 ∧ (ct : Int) ≤ t then x else operList s l
  | none => operList s l
/-- Gates of list l at reading t in ns; every list holds IDLE_GATES in UNSET (R362). -/
def gatesAt (s : State) (l : Nat) (t : Int) : BitVec 64 :=
  if timeHeld s then gatesOf (idleGates s l) (listAt s l t) t else idleGates s l
/-- Instants, in ns, within (a, b] at which list l may change its gates: the ends of entries in the cycles met. -/
def edgesOf (x : GateList) (a b : Int) : List Int :=
  if x.cycle = 0 then []
  else
    let c0 := (a - x.base) / (x.cycle : Int)
    let n := ((b - x.base) / (x.cycle : Int) - c0 + 1).toNat
    let offs := (x.entries.foldl (fun (acc : Nat × List Nat) e => (acc.1 + e.2, acc.1 :: acc.2)) (0, [])).2
    ((List.range n).flatMap fun (i : Nat) => offs.map fun (o : Nat) => (x.base : Int) + (c0 + (i : Int)) * x.cycle + (o : Int)).filter
      fun t => decide (a < t) && decide (t ≤ b)
/-- Gate bit k of list l is open throughout the readings a to b in ns (R359, R360). -/
def openThroughout (s : State) (l k : Nat) (a b : Int) : Bool :=
  let ct : List Int := match s.sch.change.look none l with | some (c, _) => [c] | none => []
  let pend : List Int := match s.sch.change.look none l with | some (_, x) => edgesOf x a b | none => []
  (a :: (edgesOf (operList s l) a b ++ pend ++ ct.filter fun t => decide (a < t) && decide (t ≤ b))).all
    fun t => (gatesAt s l t).getLsbD k

/-- The gate list of block b, where one is attached. -/
def blockList (s : State) (b : Nat) : Option Nat :=
  if bitAt s (0x06000100 + 4 * b) 31 then some (fld s (0x06000100 + 4 * b) 5 0) else none
/-- The reading in ns. -/
def nowNs (s : State) : Int := readNow s / 65536
/-- The gate of downstream queue q is open throughout the readings from `a` on; one with no list attached is always open (R358). -/
def gateStays (s : State) (a : Int) (q : Nat) : Bool :=
  let b := (q - 65536) / 64
  match blockList s b with
  | none => false
  | some l => openThroughout s l (q - 65536 - 64 * b) a (nowNs s)
/-- The queues that the guard holds, the readings having moved on from `a`: one whose gate has closed, or has no list any more, is
held no more, since only the gate's opening makes it eligible then (R359). -/
def holdsFrom (a : Int) (s : State) : State :=
  { s with buf := { s.buf with queues := s.buf.queues.adjust fun q x => { x with held := x.held && gateStays s a q } } }

/-! ### Upstream selection (R347, R348) -/

/-- The head frame of queue q is readable: on-die, or the HBM is available (R337, R347). -/
def headReadable (s : State) (q : Nat) : Bool :=
  match (queueFrames s q).head? with
  | some f => !f.hbm || hbmAvail s
  | none => false

/-- Charge of an upstream frame of L bytes (R348). -/
def upCharge (f : Stored) : Nat := 8 + 4 * ceilDiv (f.bytes.length + 128) 4

/-- Queue q of context c is eligible for a grant whose envelope slots span the readings a to b in ns (R347). -/
def upEligible (s : State) (c : Nat) (a b : Int) (q : Nat) : Bool :=
  headReadable s q && bitAt s 0x06000000 0 &&
  (match queueShaper s q with | some k => shaperPasses s k | none => true) &&
  (!bitAt s (0x06080004 + 8 * c) 31 || openThroughout s (fld s (0x06080004 + 8 * c) 5 0) (queueLevel s q) a b)

/-- The first eligible queue of the lowest level of eight rounds from key k on. -/
def firstEligible (s : State) (ok : Nat → Bool) : Nat → Nat → Option Nat
  | _, 0 => none
  | k, n + 1 => match (roundOf s k).find? ok with
    | some q => some q
    | none => firstEligible s ok (k + 1) n

/-- Queue q at the tail of its round after its deficit did not suffice (R348). -/
def toTail (q : Nat) (s : State) : State := joinRound q s

/-- The head frame of queue q is taken at a charge of n: deficit, shaper, counts (R348, R352). -/
def takeHead (q n : Nat) (s : State) : State × Nat :=
  let x := queueOf s q
  let id := x.frames.headD 0
  let s1 := setQueue q { x with frames := x.frames.drop 1, deficit := x.deficit - n } s
  let s2 := match queueShaper s q with | some k => chargeShaper k n s1 | none => s1
  let a := schQueueR q + 0x10
  (emptied q (bump64 (a + 8) n (bump64 a 1 s2)), id)

/-- The selection for one grant of context c by deficit round robin within a budget (R348): the frames taken, in order,
each with its queue. The fuel bounds the rounds of frames larger than the quantum. -/
def selectUp (c : Nat) (a b : Int) : Nat → Nat → State → State × List (Nat × Nat)
  | 0, _, s => (s, [])
  | fuel + 1, budget, s =>
    match firstEligible s (upEligible s c a b) (8 * c) 8 with
    | none => (s, [])
    | some q =>
      let x := queueOf s q
      let s0 := if x.fresh then setQueue q { x with deficit := x.deficit + quantum s q, fresh := false } s else s
      let n := match (queueFrames s q).head? with | some f => upCharge f | none => 0
      if (queueOf s0 q).deficit < n then selectUp c a b fuel budget (toTail q s0)
      else if budget < n then (s0, [])
      else
        let r := takeHead q n s0
        let s1 := bump64 0x06000808 n (bump64 0x06000800 1 r.1)
        let t := selectUp c a b fuel (budget - n) s1
        (t.1, (q, r.2) :: t.2)

/-- Visits enough for any selection: a frame needs at most 253 of the smallest quantum, in each of the queues. -/
def selectFuel (s : State) (c : Nat) : Nat :=
  let qs := (List.range 8).flatMap fun l => roundOf s (8 * c + l)
  (qs.length + 1) * 300 * (1 + total (qs.map fun q => (queueOf s q).frames.length))

end Sys2Proof.Machine
end

