-- ==== Sys2Proof/Machine/ShrOps.lean ====
section
/-! DEFINITION. Shroud's keys, sealing and opening (ch. 14). -/
namespace Sys2Proof.Machine
open Sys2Proof

def shrEvent (i : Nat) (s : State) : State := raise 0x07000008 0x0700000C i (944 + i) s
def portKeys (s : State) (p : Nat) : PortKeys := s.shr.ports.look {} p
def setPortKeys (p : Nat) (k : PortKeys) (s : State) : State := { s with shr := { s.shr with ports := s.shr.ports.put p k } }
def rootKey (s : State) (n : Nat) : Option RootKey := s.shr.roots.look none n
def epochOf (s : State) (p e : Nat) : Option Epoch := (portKeys s p).inst.look none e
/-- Counter at offset o of port p in Shroud. -/
def shrR (p o : Nat) : Nat := 0x07001000 + 0x40 * p + o

/-! ### AES-256-GCM over the AES block function (R368) -/

/-- AES-256 of a block of 16 bytes, and its inverse. -/
def aesEnc (key b : List Byte) : List Byte := toBytes 16 (Config.aesCipher key (BitVec.ofNat 128 (ofBytes b))).toNat
def aesDec (key b : List Byte) : List Byte := toBytes 16 (Config.aesInverse key (BitVec.ofNat 128 (ofBytes b))).toNat

/-- Exclusive or of two byte strings, as long as the shorter. -/
def xorBytes (a b : List Byte) : List Byte := List.zipWith (· ^^^ ·) a b
/-- Counter blocks from n on, encrypted: k blocks of keystream. -/
def ctrStream (key : List Byte) : Nat → Nat → List Byte
  | _, 0 => []
  | n, k + 1 => aesEnc key (toBytes 16 n) ++ ctrStream key ((n + 1) % 2 ^ 128) k
/-- CTR over data from counter block n (SP 800-38A). -/
def ctrCrypt (key : List Byte) (n : Nat) (data : List Byte) : List Byte :=
  xorBytes data (ctrStream key n (ceilDiv data.length 16))
/-- The 32-bit increment of a counter block in GCM. -/
def inc32 (n : Nat) : Nat := n / 2 ^ 32 * 2 ^ 32 + (n + 1) % 2 ^ 32
/-- GCM's counter stream: blocks from n on by the 32-bit increment. -/
def gctrStream (key : List Byte) : Nat → Nat → List Byte
  | _, 0 => []
  | n, k + 1 => aesEnc key (toBytes 16 n) ++ gctrStream key (inc32 n) k
/-- GCTR of SP 800-38D. -/
def gctr (key : List Byte) (n : Nat) (data : List Byte) : List Byte :=
  xorBytes data (gctrStream key n (ceilDiv data.length 16))
/-- One step of the product in GF(2^128) of GCM: the accumulated product and the shifted operand. -/
def gfStep (zv : Nat × Nat) (b : Bool) : Nat × Nat :=
  let z := if b then zv.1 ^^^ zv.2 else zv.1
  (z, if zv.2.testBit 0 then zv.2 / 2 ^^^ 0xE1000000000000000000000000000000 else zv.2 / 2)
/-- The product of two blocks in GCM's field. -/
def gfMul (x y : Nat) : Nat := ((bitsMsb x 128).foldl gfStep (0, y)).1
/-- Bytes padded with zeros to whole blocks. -/
def padBlocks (l : List Byte) : List Byte := l ++ List.replicate (16 * ceilDiv l.length 16 - l.length) 0
/-- GHASH over whole blocks: fuel is their number. -/
def ghash (h : Nat) : Nat → Nat → List Byte → Nat
  | 0, y, _ => y
  | k + 1, y, l => ghash h k (gfMul (y ^^^ ofBytes (l.take 16)) h) (l.drop 16)
/-- GHASH of additional data and ciphertext with their lengths. -/
def ghashOf (key aad ct : List Byte) : Nat :=
  let l := padBlocks aad ++ padBlocks ct ++ toBytes 8 (8 * aad.length) ++ toBytes 8 (8 * ct.length)
  ghash (ofBytes (aesEnc key (List.replicate 16 0))) (l.length / 16) 0 l
/-- The tag of GCM with a 96-bit IV. -/
def gcmTag (key iv aad ct : List Byte) : List Byte :=
  gctr key (ofBytes iv * 2 ^ 32 + 1) (toBytes 16 (ghashOf key aad ct))
/-- GCM's text under a 96-bit IV: encryption and decryption alike. -/
def gcmText (key iv data : List Byte) : List Byte := gctr key (ofBytes iv * 2 ^ 32 + 2) data

/-! ### Derived keys (R376, R377, R378) -/

/-- K(i) of the derivation (R376). -/
def kdfBlock (root : List Byte) (i : Nat) (label : BitVec 192) (dir id epoch lbits : Nat) : List Byte :=
  Config.kmac256 32 root [] (toBytes 4 i ++ [0x53, 0x48, 0x52, 0x4F, 0x55, 0x44, 0x2D, 0x45, 0x4E, 0x56] ++ [0] ++
    toBytes 24 label.toNat ++ [BitVec.ofNat 8 dir] ++ toBytes 2 (id % 4096) ++ [BitVec.ofNat 8 epoch] ++ toBytes 4 lbits)

/-- The derived key of an epoch of a port: DIR 0x01 upstream, 0x00 downstream (R376, R377). -/
def envKey (s : State) (e : Epoch) (epoch : Nat) (up : Bool) (id : Nat) : List Byte :=
  match rootKey s e.root with
  | some r => kdfBlock r.key 1 e.label (bitN up) id epoch 256
  | none => []

/-- Cache entries that are pinned: the upstream keys of transmit and pending epochs (R378). -/
def pinned (s : State) (k : CacheKey) : Bool :=
  match k with
  | .env p up e _ => up && ((portKeys s p).tx == some e || (match (portKeys s p).pend with | some r => r.epoch == e | none => false))
  | .job _ _ _ => false

/-- Room for one more entry: the least recently used that is not pinned leaves (R378). -/
def evict (s : State) (l : List CacheKey) : List CacheKey :=
  if l.length < 64 then l
  else match (l.filter fun k => !pinned s k).getLast? with
    | some v => l.filter (· != v)
    | none => l

/-- A derived key is used: found in the cache, or missed and then derived (R378). The envelope that missed waits for
its key, so one derivation serves every envelope that comes meanwhile. -/
def useKey (k : CacheKey) (s : State) : State :=
  let l := s.shr.cache
  if l.contains k then { s with shr := { s.shr with cache := k :: l.filter (· != k) } }
  else if s.shr.deriv.any (fun d => d.1 == k) then s
  else bump64 0x07002008 1 { s with shr := { s.shr with deriv := s.shr.deriv ++ [(k, none)] } }

/-- An upstream key is to be derived and pinned, and the KEY_ROTATE's reply waits for it (R378, R379). -/
def pinKey (k : CacheKey) (p : Nat) (t : TmmIn) (s : State) : State :=
  { s with shr := { s.shr with
      cache := s.shr.cache.filter (· != k)
      deriv := s.shr.deriv.filter (fun d => d.1 != k) ++ [(k, some (p, t))] } }

/-- Cache entries and derivations that p picks are dropped. -/
def dropKeys (p : CacheKey → Bool) (s : State) : State :=
  { s with shr := { s.shr with
      cache := s.shr.cache.filter fun k => !p k
      deriv := s.shr.deriv.filter fun d => !p d.1 } }

/-- Every epoch, key and replay window of a port removed (R381). -/
def forgetKeys (p : Nat) (s : State) : State :=
  dropKeys (fun k => match k with | .env q _ _ _ => q == p | .job _ _ _ => false)
    (setPortKeys p { portKeys s p with inst := [], tx := none, pend := none, windows := [], former := none } s)

/-! ### Sealing (R367 to R369) -/

/-- IV_HI: the power epoch, or the value drawn where it is unknown (R369). -/
def ivHi (s : State) : Nat := match s.shr.ivHi with | some v => v.toNat | none => regN s 0x108

/-- The transmit epoch of port p for grants of upstream frame n (R380). -/
def txEpochAt (s : State) (p n : Nat) : Option Nat :=
  match (portKeys s p).pend with
  | some r => if r.sf ≤ n then some r.epoch else (portKeys s p).tx
  | none => (portKeys s p).tx

/-- The epoch's key material: a pending rotation's, or the installed. -/
def epochKey (s : State) (p e : Nat) : Option Epoch :=
  match (portKeys s p).pend with
  | some r => if r.epoch = e then some r.key else epochOf s p e
  | none => epochOf s p e

/-- An envelope of plaintext for port p sealed under epoch e: header and payload with pad (R56, R367 to R369). -/
def sealEnvelope (p e dtid stream flags : Nat) (plain : List Byte) (s : State) : State × List Byte :=
  let k := portKeys s p
  let seq := max (k.seq + 1) (s.uptime * 1024) % 2 ^ 64
  let tid := ownId s p
  let len := plain.length + 128
  let hdr := envHeader dtid stream e flags len
  let prefix0 := toBytes 4 (ivHi s) ++ toBytes 8 seq ++ [0x01] ++ toBytes 3 (tid % 4096 * 2 ^ 8)
  let trailer := toBytes 2 (plain.length % 2 ^ 14) ++ [0, 0] ++ toBytes 8 (devId s) ++ List.replicate 84 0
  let key := match epochKey s p e with | some x => envKey s x e true tid | none => []
  let iv := prefix0.take 12
  let ct := gcmText key iv (plain ++ trailer)
  let tag := gcmTag key iv ((toBytes 8 hdr).take 6 ++ prefix0) ct
  let pad := List.replicate (envSize len - 8 - len) 0
  (bump64 (shrR p 0) 1 (useKey (.env p true e tid) (setPortKeys p { k with seq := seq } s)),
    toBytes 8 hdr ++ prefix0 ++ ct ++ tag ++ pad)

/-! ### The downstream effect of a rotation (R380, R382) -/

/-- Upstream timing of port p: downstream timing and a ranged delay (R27). -/
def hasUpstream (s : State) (p : Nat) : Bool := hasTiming s p && (regnOf s p).ranged

/-- The rotation completes: its epoch transmits from now on (R380). -/
def rotationDone (p : Nat) (s : State) : State :=
  let k := portKeys s p
  match k.pend with
  | some r => shrEvent 3 (setPortKeys p { k with tx := some r.epoch, pend := none } s)
  | none => s

/-- EPOCH_DOWNSTREAM_EFFECT at t_rx(SF_EFF): the new keys open, and the epoch's windows are clear (R372, R380). -/
def epochDown (p : Nat) (s : State) : State :=
  let k := portKeys s p
  match k.pend with
  | some r =>
    if r.dn || decide ((framer s p).e < r.sf) then s
    else
      let w := k.windows.filter fun x => x.1 / 8 != r.epoch
      let s1 := dropKeys (fun c => match c with | .env q up e _ => q == p && !up && e == r.epoch | .job _ _ _ => false)
        (setPortKeys p { k with
          inst := k.inst.put r.epoch (some r.key), windows := w, pend := some { r with dn := true }
          former := some (r.epoch, r.sf, epochOf s p r.epoch) } s)
      if hasUpstream s1 p then s1 else rotationDone p s1
  | none => s

/-- The keys under which a header of epoch e in downstream frame n is opened: those before the last rotation where its SF_EFF lies
after n (R380, R382). -/
def headerKey (s : State) (p e n : Nat) : Option Epoch :=
  match (portKeys s p).former with
  | some (e1, sf, k) => if e1 = e ∧ n < sf then k else epochOf s p e
  | none => epochOf s p e

/-- A header of downstream frame n has been delineated: a rotation whose SF_EFF it has reached has taken effect (R382). -/
def headerEpoch (p n : Nat) (s : State) : State :=
  match (portKeys s p).pend with
  | some r => if r.sf ≤ n then epochDown p s else s
  | none => s

/-! ### Opening (R370 to R372) -/

/-- Whether a SEQ passes a replay window: above H, or in it and not yet marked (R372). -/
def windowPasses (w : Option (Nat × BitVec 64)) (seq : Nat) : Bool :=
  match w with
  | none => true
  | some (h, m) => decide (h < seq) || (decide (h < seq + 64) && !m.getLsbD (h - seq))

/-- The window after the delivery of a SEQ. -/
def windowAfter (w : Option (Nat × BitVec 64)) (seq : Nat) : Nat × BitVec 64 :=
  match w with
  | none => (seq, 1)
  | some (h, m) =>
    if h < seq then (seq, (if seq - h < 64 then m <<< (seq - h) else 0) ||| 1)
    else (h, m ||| (1 <<< (h - seq)))

/-- A discard inside Shroud: counter, event and the PM count of discarded envelopes (R370, R371, R72). -/
def shrDiscard (p off ev : Nat) (s : State) : State := pmDiscard p 1 (shrEvent ev (bump (shrR p off) 1 s))

/-- A downstream key is used, unless a rotation has replaced it since its header (R378, R380). -/
def useDown (p e id : Nat) (key : Epoch) (s : State) : State :=
  if epochOf s p e = some key then useKey (.env p false e id) s else s
/-- A delivered SEQ moves the window of its keys, which their successor's window is not (R372, R380). -/
def markSeq (p e entry : Nat) (key : Epoch) (seq : Nat) (s : State) : State :=
  let k := portKeys s p
  let w := k.windows.look none (8 * e + entry)
  if epochOf s p e = some key then setPortKeys p { k with windows := k.windows.put (8 * e + entry) (some (windowAfter w seq)) } s
  else s

/-- Opening an admitted downstream envelope of port p that matched filter entry `entry` holding `id`, under the keys of its
header's instant (R370, R380): the plaintext body, if it is delivered. -/
def openEnvelope (p entry id hdr : Nat) (key : Epoch) (payload : List Byte) (s : State) : State × Option (List Byte) :=
  let e := bits hdr 35 34
  let len := bits hdr 29 16
  let pay := payload.take len
  let seq := ofBytes (slice pay 4 8)
  let w := if epochOf s p e = some key then (portKeys s p).windows.look none (8 * e + entry) else none
  if !bitAt s 0x07000000 0 then (shrDiscard p 0x10 0 s, none)
  else if len < 128 || pay.getD 12 0 != 1 then (shrDiscard p 0x18 2 s, none)
  else if !windowPasses w seq then (shrDiscard p 0x14 1 s, none)
  else
    let s1 := useDown p e id key s
    let k := envKey s key e false id
    let ct := slice pay 16 (len - 32)
    let iv := pay.take 12
    let tag := slice pay (len - 16) 16
    if gcmTag k iv ((toBytes 8 hdr).take 6 ++ pay.take 16) ct != tag then (shrDiscard p 0x10 0 s1, none)
    else
      let plain := gcmText k iv ct
      let flen := bits (ofBytes (slice plain (len - 128) 2)) 13 0
      if flen != len - 128 then (shrDiscard p 0x18 2 s1, none)
      else (bump64 (shrR p 8) 1 (markSeq p e entry key seq s1), some (plain.take (len - 128)))

end Sys2Proof.Machine
end

