-- ==== Sys2Proof/Machine/TsiOps.lean ====
section
/-! DEFINITION. Connection memory and what the trunk ports ask of the time-slot interchange (ch. 09). -/
namespace Sys2Proof.Machine
open Sys2Proof

def tsiEvent (i : Nat) (s : State) : State := raise 0x02400018 0x0240001C i (688 + i) s
def setTsi (t : Tsi) (s : State) : State := { s with tsi := t }
def upConn (s : State) (t : Nat) : UpConn := s.tsi.up.look {} t
def setUpConn (t : Nat) (c : UpConn) (s : State) : State := { s with tsi := { s.tsi with up := s.tsi.up.put t c } }
def dnConn (s : State) (t : Nat) : DnConn := s.tsi.dn.look {} t
def setDnConn (t : Nat) (c : DnConn) (s : State) : State := { s with tsi := { s.tsi with dn := s.tsi.dn.put t c } }

/-- Address of entry e of page q. -/
def pageR (q e : Nat) : Nat := 0x02440000 + 0x10000 * q + 8 * e
/-- The valid entries of page q, rising: number and 64-bit entry (R254). Only entries written can be valid. -/
def pageEntries (s : State) (q : Nat) : List (Nat × Nat) :=
  (s.regs.keys.filterMap fun a =>
    if pageR q 0 ≤ a ∧ a < pageR q 8192 ∧ a % 8 = 4 then
      let e := (a - pageR q 0) / 8
      let w := reg64 s (pageR q e)
      if w.testBit 63 then some (e, w) else none
    else none)
/-- Fields of a connection-memory entry (R254). -/
def cmDown (w : Nat) : Bool := w.testBit 62
def cmSlot (w : Nat) : Nat := bits w 61 49
def cmPort (w : Nat) : Nat := bits w 48 45
def cmAlloc (w : Nat) : Nat := bits w 44 33
def cmDtid (w : Nat) : Nat := bits w 32 21
def cmChannel (w : Nat) : Nat := bits w 20 5
/-- The entry of the active page for slot t in a direction. -/
def activeEntry (s : State) (t : Nat) (down : Bool) : Option Nat :=
  ((pageEntries s s.tsi.active).map Prod.snd).find? fun w => cmSlot w == t && cmDown w == down

/-- Register at offset o of slotted PHY u. -/
def spR (u o : Nat) : Nat := 0x02401000 + 0x10 * u + o
/-- PAGE_CAL bit u of page q (R254). -/
def pageCal (s : State) (q u : Nat) : Bool := (reg64 s (0x02400040 + 8 * q)).testBit u

/-- The pending switch is withdrawn with the CR bits that it alone set (R259, R261). -/
def withdrawSwitch (s : State) : State :=
  forAll (fun u x => setBit (spR u 4) 27 (x.tsi.dueC.contains u) x) (upTo 64)
    (setReg64 0x02400010 0 (setTsi { s.tsi with pend := none } s))

/-- A pending switch is cancelled: SWITCH_MISS (R261). -/
def cancelSwitch (s : State) : State :=
  match s.tsi.pend with
  | none => s
  | some _ => tsiEvent 1 (bumpHi 0x0240012C 1 (withdrawSwitch s))

/-- Port p enters HOLD or leaves registration (R261). -/
def tsiPortGone (p : Nat) (s : State) : State :=
  match s.tsi.pend with
  | some w => if w.port = p then cancelSwitch s else s
  | none => s

/-- Bytes of a rigid container's envelope in a grant's budget (R246, R249). -/
def containerSize (c : Container) : Nat := envSize (c.body.length + 128)

/-- Insertion by cut, then by slot (R249). -/
def insertCut (x : Container × Nat) : List (Container × Nat) → List (Container × Nat)
  | [] => [x]
  | y :: r =>
    if x.1.cut < y.1.cut ∨ (x.1.cut = y.1.cut ∧ x.1.slot ≤ y.1.slot) then x :: y :: r else y :: insertCut x r

/-- The containers that serve (port, ALLOC), oldest cut first and then by slot, each with its entry; those of a connection
that a page switch has ended are still sent (R249, R258). -/
def containersFor (s : State) (p alloc : Nat) : List (Container × Nat) :=
  let all := s.tsi.up.flatMap fun x => x.2.stored.map fun c => (c, c.entry)
  (all.filter fun x => cmPort x.2 == p && cmAlloc x.2 == alloc).foldr insertCut []

/-- As many of them, in order, as the budget holds: those taken and the budget left. -/
def fitContainers : List (Container × Nat) → Nat → List (Container × Nat) × Nat
  | [], b => ([], b)
  | c :: r, b =>
    if containerSize c.1 ≤ b then
      let t := fitContainers r (b - containerSize c.1)
      (c :: t.1, t.2)
    else ([], b)

/-- Containers taken by a commit leave their connections and count (R249). -/
def takeContainers (l : List (Container × Nat)) (s : State) : State :=
  bump64 0x02400100 l.length
    (forAll (fun c x =>
      let u := upConn x c.1.slot
      setUpConn c.1.slot { u with stored := u.stored.filter (· != c.1) } x) l s)

/-- A container joins the others of its connection, first or last; a connection keeps 16 uncommitted ones, and the oldest beyond
them is lost (R248). -/
def storeContainer (c : Container) (first : Bool) (s : State) : State :=
  let u := upConn s c.slot
  let own := u.stored.filter fun x => x.entry == c.entry
  let full := decide (16 ≤ own.length)
  let kept := if full && !first then u.stored.erase (own.headD c) else u.stored
  let s1 := setUpConn c.slot { u with stored := if first then (if full then kept else c :: kept) else kept ++ [c] } s
  if full then tsiEvent 9 (bump 0x02400120 1 s1) else s1

/-- Containers return unsent to the head of their connections (R136, R248). -/
def returnContainers (l : List Container) (s : State) : State := forAll (fun c x => storeContainer c true x) l.reverse s

end Sys2Proof.Machine
end

