-- ==== Sys2Proof/Machine/HalOps.lean ====
section
/-! DEFINITION. What befalls Halyard's held grants, bursts and lanes from outside: missing, cutting, returning frames,
doze (R112, R132 to R136). -/
namespace Sys2Proof.Machine
open Sys2Proof

/-- Counters of missed grants by cause (R112): offsets in the Halyard block. -/
def missDefect : Nat := 0x140
def missState : Nat := 0x144
def missCut : Nat := 0x150
def missLane : Nat := 0x154
def missGuard : Nat := 0x158

/-- n grants missed under the cause at offset o (R112, R113). -/
def countMissed (p o n : Nat) (s : State) : State :=
  if n = 0 then s else halEvent p 1 (pmMissed p n (bump (halR p o) n s))

/-- Registration context bound to (port, ALLOC), if any (R34). -/
def findCtx (s : State) (p alloc : Nat) : Option (Nat × Binding) :=
  (s.contexts.filterMap fun x => x.2.map fun b => (x.1, b)).find? fun x => x.2.port == p && x.2.alloc == alloc

/-- The first slot and the slot after the last of a grant's window, on the continuous slot count (R111). -/
def winFirst (g : Grant) : Int := 20000 * (g.sf : Int) + g.start - (if g.cont then 0 else 2)
def winEnd (g : Grant) : Int := 20000 * (g.sf : Int) + g.start + g.len

/-- The instant at the pins of slot k of the frame of grant g, with the EqD of that frame (R27, R111). -/
def slotAt (s : State) (p : Nat) (g : Grant) (k : Int) : Int :=
  (upStart s p g.sf (halEqd s p g.sf) : Int) + 500 * k

/-- The window of grant g has ended by instant t. -/
def winOver (s : State) (p : Nat) (t : Int) (g : Grant) : Bool := decide (slotAt s p g (g.start + g.len) ≤ t)

/-- Bytes of a fill's envelope in its grant. -/
def fillSize (f : Fill) : Nat :=
  match f.sealed with
  | some b => b.length
  | none => envSize (f.plain.length + 128)

/-- Bytes of a grant's own envelopes: its fills and the idle envelopes placed after them. -/
def contentSize (g : Grant) : Nat := total (g.fill.map fillSize) + 8 * g.idle

/-- The head of the burst in progress among the grants held. -/
def burstHead (gs : List Grant) : Option Grant := gs.find? fun g => !g.cont && g.launched

/-- Where a launched grant's envelopes begin in the run of its chain: after the header's X and the contents of the grants
before it, whatever their slots (R121, R125). -/
def lineBase (gs : List Grant) (g : Grant) : Nat :=
  ((burstHead gs).map (·.headX)).getD 0 +
    total ((gs.filter fun x => x.launched && decide (winFirst x < winFirst g)).map contentSize)

/-- Bytes of slot START on, header bytes X included, of the burst in progress that have left the pins by instant t: in each
codeword of 3.125 ns the 585 data bytes come before the parity (R24, R25). -/
def lineBytes (s : State) (p : Nat) (t : Int) (gs : List Grant) : Nat :=
  match burstHead gs with
  | some h =>
    let d := (t - slotAt s p h (h.start - 1)).toNat
    585 * (d / 250) + min 585 (d % 250 * 5 / 2) - 1170
  | none => 0

/-- Instant t, or where a codeword of the burst in progress is in flight then, the codeword boundary after it or, with `back`, before
it (R100, R135, R136). -/
def codewordEdge (s : State) (p : Nat) (t : Int) (gs : List Grant) (back : Bool) : Int :=
  match burstHead gs with
  | some h =>
    let a := slotAt s p h (h.start - 1)
    if t < a then t else if back then a + (t - a) / 250 * 250 else a + (t - a + 249) / 250 * 250
  | none => t

/-- The fills whose envelopes do not end within `left` bytes. -/
def unsentFrom : Nat → List Fill → List Fill
  | _, [] => []
  | left, f :: r => if fillSize f ≤ left then unsentFrom (left - fillSize f) r else f :: r

/-- The fills of a grant that have not left the pins whole at instant t: all of them before its burst is launched. `gs` are
the grants held. -/
def unsent (s : State) (p : Nat) (t : Int) (gs : List Grant) (g : Grant) : List Fill :=
  if g.launched then unsentFrom (lineBytes s p t gs - lineBase gs g) g.fill else g.fill

/-- Idle envelopes of a grant that have left whole at instant t: those in a damaged frame's place, one by one where it is cut,
those placed after its fills, and behind the last grant of the burst the closing ones, `last` in number (R118, R123, R125, R340). -/
def idleSent (s : State) (p : Nat) (t : Int) (gs : List Grant) (last : Nat) (g : Grant) : Nat :=
  if g.launched then
    let out := g.fill.take (g.fill.length - (unsent s p t gs g).length)
    let sent := lineBytes s p t gs - lineBase gs g
    let part := match g.fill.drop out.length with
      | f :: _ => if f.dropped then (sent - total (out.map fillSize)) / 8 else 0
      | [] => min (g.idle + last) ((sent - total (g.fill.map fillSize)) / 8)
    total ((out.filter (·.dropped)).map fillSize) / 8 + part
  else 0

/-- A rigid container from its fill. -/
def fillContainer (f : Fill) : Container := { cut := f.frame, slot := f.queue, entry := f.entry, body := f.plain }

/-- Fills return unsent, in order, to the heads of their queues or connections, each frame counted in LATE_RETURN; a frame
that a damaged read replaced has been freed (R130, R136). -/
def returnFills (p : Nat) (l : List Fill) (s : State) : State :=
  let frames := l.filter fun f => !f.rigid && !f.dropped
  let s1 := forAll (fun f x => returnHead f.queue [f.frame] x) frames.reverse s
  let s2 := returnContainers ((l.filter (·.rigid)).map fillContainer) s1
  bump (halR p 0x15C) frames.length s2

/-- Envelopes that left: frames freed and counted (R129). -/
def sentFills (p : Nat) (l : List Fill) (s : State) : State :=
  let real := l.filter fun f => !f.dropped
  let s1 := forAll (fun f x => if f.rigid then x else freeRef f.frame x) real s
  bufSettle (bump64 (halR p 0x118) (total (real.map fillSize)) (bump64 (halR p 0x110) real.length s1))

/-- TMMs of headers that did not leave wait again, oldest first (R82, R122). -/
def returnTmms (p : Nat) (ts : List TmmOut) (s : State) : State :=
  let r := regnOf s p
  if ts.isEmpty then s
  else if speaksLookout s p then setRegn p { r with out := ts ++ r.out } s else setRegn p { r with out2 := ts ++ r.out2 } s

/-- The closing idle envelopes that a burst would have, where its last grant is among those of a list: what its area has room
for behind its contents (R123). -/
def closingIdle (gs l : List Grant) : Nat :=
  let chain := gs.filter (·.launched)
  if l.any (fun g => chain.getLast?.any fun z => z.sf == g.sf && z.start == g.start) then
    (1170 * total (chain.map (·.len)) - 100 - ((burstHead gs).map (·.headX)).getD 0 - total (chain.map contentSize)) / 8
  else 0

/-- Grants that leave the queue at instant t, n of them missed, `gs` being those held before: fills, counts, TMMs; what had left the
pins whole is sent. -/
def missGrants (p o n : Nat) (t : Int) (gs l : List Grant) (s : State) : State :=
  let s1 := forAll (fun g x => sentFills p (g.fill.take (g.fill.length - (unsent s p t gs g).length)) x) l s
  let rest := l.flatMap fun g => unsent s p t gs g
  let idle := total (l.map (idleSent s p t gs 0)) +
    (match (l.filter (·.launched)).getLast? with
      | some g => idleSent s p t gs (closingIdle gs l) g - idleSent s p t gs 0 g
      | none => 0)
  let s2 := returnTmms p ((l.filter fun g => !g.launched).flatMap fun g => g.plan.tmms) (returnFills p rest s1)
  countMissed p o n (bump64 (halR p 0x120) idle s2)

/-- The grants of a list whose window has not ended by instant t (R136). -/
def openGrants (s : State) (p : Nat) (t : Int) (l : List Grant) : Nat := (l.filter fun g => !winOver s p t g).length

/-- The grants held at instant t: all of them, but for those of a burst that has left whole by then (R114, R135). -/
def heldGrants (s : State) (p : Nat) (t : Int) (l : List Grant) : Nat :=
  let sent := l.filter (·.launched)
  l.length - (if sent.all (winOver s p t) then sent.length else 0)

/-- The transmit half of a port's 8 data lanes moves from state a to state b (R526). -/
def dataLanesTx (p a b : Nat) (s : State) : State :=
  forAll (fun i x =>
    let l := 128 + 8 * p + i
    if (laneOf x l).tx = a then laneHalf l .tx b x else x) (upTo 8) s

/-- Doze ends: the lanes are driven again (R133, R207). -/
def dozeOut (p : Nat) (s : State) : State :=
  if (halyard s p).dozing then
    dataLanesTx p 6 5 (setWaiken p { waiken s p with dozeTicks := 0, wakeTicks := 64 }
      (setHalyard p { halyard s p with dozing := false, waking := true } s))
  else s

/-- The forced-off path holds the data lanes in electrical idle, outside doze (R148, R208). -/
def forcedOff (s : State) (p : Nat) : Bool :=
  !(halyard s p).dozing && (upTo 8).any fun i => (laneOf s (128 + 8 * p + i)).tx == 6

/-- Doze is entered wherever no burst is in progress and the gap from the last window's end, and from now, to T0 of the next
held burst reaches MIN_GAP, or no burst is held (R132, R134, R207). -/
def dozeIn (p : Nat) (s : State) : State :=
  let h := halyard s p
  let w := waiken s p
  let from0 := max h.idleFrom (lineNow s p : Int) + 500 * (fld s (halR p 0xC) 31 16 : Int)
  let gap := match h.grants.find? (fun g => !g.cont && !g.launched) with
    | some g => decide (from0 ≤ slotAt s p g ((g.start : Int) - 2))
    | none => true
  let answering := (regnOf s p).qws.any fun q => q.launched.isNone &&
    decide ((upStart s p q.sf q.preEqd + 3500 * q.k : Nat) < from0)
  if bitAt s (halR p 0) 1 && !h.txOpen && !h.dozeInhibit && !h.dozing && !w.noDoze && !w.checkDue && w.txStep == 7 &&
      w.version == 2 && gap && !answering && !forcedOff s p then
    dataLanesTx p 5 6 (setWaiken p { w with dozeTicks := 8, wakeTicks := 0 } (setHalyard p { h with dozing := true, waking := false } s))
  else s

/-- Every held grant is missed under the cause at offset o, any burst ends at the next codeword boundary, and the lanes may doze
(R65, R132, R135, R136). -/
def missAll (p o : Nat) (s : State) : State :=
  let h := halyard s p
  let s1 := setHalyard p { h with grants := [], txOpen := false } s
  let t := lineNow s p
  let n := if o = missDefect then heldGrants s p t h.grants else openGrants s p t h.grants
  dozeIn p (missGrants p o n (codewordEdge s p t h.grants false) h.grants h.grants s1)

/-- The burst in progress, cut at once as one under `o1`, and every other held grant under `o2` (R148). A burst that the guard cuts
after its window's end is a missed grant all the same (R136). -/
def cutBurst (p o1 o2 : Nat) (s : State) : State :=
  let h := halyard s p
  let s1 := setHalyard p { h with grants := [], txOpen := false } s
  let t : Int := lineNow s p
  let l := h.grants.filter (·.launched)
  let held := h.grants.filter fun g => !g.launched
  dozeIn p (missGrants p o2 (openGrants s p t held) t h.grants held
    (missGrants p o1 (if l.isEmpty then 0 else max 1 (openGrants s p t l)) t h.grants l s1))

/-- The header of an answer burst has left the pins by now: the delimiter-and-header slot has ended (R104, R119). -/
def headerLeft (s : State) (p : Nat) (q : QuietWindow) : Bool :=
  match q.launched with
  | some t => decide (t + 1000 ≤ lineNow s p)
  | none => false

/-- Idle envelopes of an answer burst that have left whole by now, of the 572 in its 4 slots (R104, R139). -/
def answerIdle (s : State) (p : Nat) (q : QuietWindow) : Nat :=
  match q.launched with
  | some t => min 572 ((lineNow s p - (t + 1000)) * 1170 / 500 / 8)
  | none => 0

/-- A quiet window whose burst does not leave: RG_QW_MISS counts it, its ANNOUNCE is dropped and its waiting replies stay queued
(R104). -/
def loseWindow (p : Nat) (q : QuietWindow) (s : State) : State :=
  let r := regnOf s p
  dozeIn p (bump (trkR p 0x458) 1 (setRegn p { r with qws := r.qws.filter (· != q), out2 := q.took ++ r.out2 } s))

/-- Every quiet window that the port decided on is over: one whose header did not leave counts in RG_QW_MISS once, its ANNOUNCE
is dropped and its waiting replies stay queued; a burst whose header had left is cut (R104). -/
def missAnswer (p : Nat) (s : State) : State :=
  let r := regnOf s p
  if r.qws.isEmpty then s
  else
    let lost := r.qws.filter fun q => !headerLeft s p q
    let s1 := setRegn p { r with qws := [], out2 := lost.flatMap (·.took) ++ r.out2 } s
    let s2 := setHalyard p { halyard s1 p with qwGrants := [], txOpen := (halyard s1 p).txOpen && !r.qws.any (·.launched.isSome) } s1
    let s3 := setGuard p { guardOf s2 p with answers := [], answerOpen := false } s2
    dozeIn p (bump (trkR p 0x458) lost.length (bump64 (halR p 0x120) (total ((r.qws.filter (headerLeft s p)).map (answerIdle s p))) s3))

/-- Loss of downstream timing in Halyard: every map and grant held is discarded, the transmitter closes (R65, R135). -/
def halLost (p : Nat) (s : State) : State :=
  missAnswer p (missAll p missDefect (setHalyard p { halyard s p with maps := [] } s))

end Sys2Proof.Machine
end

