-- ==== Sys2Proof/Machine/Halyard.lean ====
section
/-! DEFINITION. Halyard (ch. 04): map validation, commit, launch, end of a burst, doze, and its commands. -/
namespace Sys2Proof.Machine
open Sys2Proof

/-- The port is in SILENT or its MUZZLED latch is set (R112, R136). -/
def stopped (s : State) (p : Nat) : Bool := (regnOf s p).state == .silent || bitAt s (bksR p 4) 31

/-! ### Map validation (R107 to R115) -/

/-- Entries of a map, 64 bits each (R107). -/
def mapEntries : Nat → List Byte → List Nat
  | 0, _ => []
  | k + 1, l => ofBytes (l.take 8) :: mapEntries k (l.drop 8)

/-- Whether map bytes pass the map's CRC-32 (R107). -/
def mapGood (l : List Byte) : Bool := crc32 (l.take (l.length - 4)) == ofBytes (l.drop (l.length - 4)) && 4 ≤ l.length

/-- A map's entries, where its CRC passes. -/
def goodEntries (l : List Byte) : List Nat := mapEntries ((l.length - 4) / 8) l

/-- A grant entry as a grant of upstream frame sf (R107). -/
def grantOf (sf e : Nat) : Grant :=
  { sf := sf, start := bits e 39 25, len := bits e 24 10, alloc := bits e 51 40, rpt := e.testBit 9, rigid := e.testBit 8,
    ranging := e.testBit 7, ext := e.testBit 6, chain := e.testBit 5, cont := false }

/-- Check 1 of R110. -/
def rangeOk (e : Nat) : Bool := 4 ≤ bits e 24 10 && bits e 39 25 + bits e 24 10 ≤ 20000

/-- The first of checks 1 to 4 of R110 that a grant fails: the offset of its counter. -/
def failsCheck (s : State) (p e : Nat) (g : Grant) : Option Nat :=
  let r := regnOf s p
  if !rangeOk e then some 0x128
  else match findCtx s p g.alloc with
    | none => some 0x12C
    | some (_, b) =>
      if (g.rigid && r.version == 2) || g.rigid != b.rigid || (g.ranging && (g.rigid || g.chain)) then some 0x130
      else if r.state == .range && (!g.ranging || !r.ranged) then some 0x134
      else none

/-- An invalid entry counts once, under its check (R110). -/
def countInvalid (p o : Nat) (s : State) : State := halEvent p 0 (pmInvalid p 1 (bump (halR p o) 1 s))

/-- Grant a ends, with CHAIN set, where grant b starts (R111, R124). -/
def chainsTo (a b : Grant) : Bool :=
  a.chain && ((a.sf == b.sf && a.start + a.len == b.start) ||
    (a.sf + 1 == b.sf && a.start + a.len == 20000 && b.start == 0))

/-- Windows of two grants share a slot (R111). -/
def overlaps (a b : Grant) : Bool := decide (winFirst a < winEnd b) && decide (winFirst b < winEnd a)

/-- A grant in its place by window (R111). -/
def insertGrant (g : Grant) : List Grant → List Grant
  | [] => [g]
  | h :: r => if winFirst g < winFirst h then g :: h :: r else h :: insertGrant g r

/-- One entry of a map that passed checks 1 to 4, in map order: check 5, then the causes of R112, in an order of the model's
own (log entry 175). The list gathers the map's valid grants, newest first. -/
def holdGrant (p : Nat) (ns : List Grant × State) (g : Grant) : List Grant × State :=
  let s := ns.2
  let h := halyard s p
  if h.grants.any (overlaps g) then (ns.1, countInvalid p 0x138 s)
  else if 1024 ≤ ns.1.length then (g :: ns.1, countMissed p 0x148 1 s)
  else if stopped s p then (g :: ns.1, countMissed p missState 1 s)
  else if 131072 ≤ h.grants.length then (g :: ns.1, halEvent p 3 (countMissed p 0x14C 1 s))
  else (g :: ns.1, bump64 (halR p 0x108) 1 (setHalyard p { h with grants := insertGrant g h.grants } s))

/-- The grants held to which a valid grant of a list chains are marked (R124). -/
def markFollowed (p : Nat) (l : List Grant) (s : State) : State :=
  setHalyard p { halyard s p with grants := (halyard s p).grants.map fun a =>
    { a with followed := a.followed || l.any fun g => g.cont && chainsTo a g } } s

/-- The entries of a validated map for upstream frame f (R109 to R114). -/
def validateEntries (p f : Nat) (es : List Nat) (s : State) : State :=
  let tid := (regnOf s p).tid
  let windows := es.filter fun e => bits e 63 52 == 4095 && bits e 51 40 == 0 && rangeOk e && (regnOf s p).qws.any (·.sf == f)
  let s0 := if windows.isEmpty then s else setHalyard p { halyard s p with
    qwGrants := (halyard s p).qwGrants ++ windows.map fun e => (f, bits e 39 25, bits e 24 10) } s
  let own := es.filter fun e => tid == some (bits e 63 52)
  let s1 := forAll (fun e x => match failsCheck s0 p e (grantOf f e) with
    | some o => countInvalid p o x
    | none => x) own s0
  let good := (own.filter fun e => (failsCheck s0 p e (grantOf f e)).isNone).map (grantOf f)
  let preds := (halyard s0 p).grants ++ good
  let settled := good.map fun g => { g with cont := preds.any fun a => chainsTo a g }
  let r := settled.foldl (holdGrant p) ([], s1)
  markFollowed p r.1 r.2

/-- GRANT_MAP_VALIDATION: the oldest map the framer has passed to Halyard is checked and validated (R108, R115). -/
def validateMap (p : Nat) (s : State) : State :=
  let h := halyard s p
  match h.maps with
  | [] => s
  | m :: rest =>
    let s1 := setHalyard p { h with maps := rest } s
    if !bitAt s (halR p 0) 0 then s1
    else match m.bytes with
      | none => countMissed p 0x13C 1 s1
      | some b =>
        if !mapGood b then countMissed p 0x13C 1 s1
        else
          let f := m.sf + 2
          let s2 := validateEntries p f (goodEntries b) (setHalyard p { halyard s1 p with horizon := f } s1)
          -- R208: a grant that becomes held during doze with less than WAKE_LEAD slots of notice starts the exit
          let lead := 500 * (fld s (halR p 0xC) 15 0 : Int)
          if (halyard s2 p).grants.any fun g => !g.committed && !g.cont &&
              decide (slotAt s2 p g ((g.start : Int) - 2) - lead < (lineNow s2 p : Int)) then dozeOut p s2 else s2

def execGrantMapValidation (p : Fin 16) (s : State) : Host.Outcome State Fault Refusal :=
  .next (onlyIf (coreOn s) (validateMap p) s)

/-! ### Commit (R118, R121 to R129) -/

/-- Occupancy of B bytes (R127). -/
def occExp : Nat → Nat → Nat → Nat
  | 0, e, _ => e
  | k + 1, e, b => if b < 4096 * 2 ^ (e - 1) then e else occExp k (e + 1) b
def occCode (b : Nat) : Nat :=
  if b < 2048 then b
  else
    let e := occExp 31 1 b
    let m := ceilDiv b (2 ^ (e - 1)) - 2048
    let code := if m = 2048 then (e + 1) * 2048 else e * 2048 + m
    min code 0xFFFF

/-- Bindings of a port. -/
def bindingsOf (s : State) (p : Nat) : List (Nat × Binding) :=
  (s.contexts.filterMap fun x => x.2.map fun b => (x.1, b)).filter fun x => x.2.port == p

/-- Numbers in rising order without repeats. -/
def insertNat (n : Nat) : List Nat → List Nat
  | [] => [n]
  | m :: r => if n < m then n :: m :: r else if n = m then m :: r else m :: insertNat n r
def sortNat (l : List Nat) : List Nat := l.foldr insertNat []

/-- Occupancy of a report group: envelope bytes of every frame queued for its contexts (R127). -/
def groupBytes (s : State) (p grp : Nat) : Nat :=
  let cs := ((bindingsOf s p).filter fun x => !x.2.rigid && x.2.rpt == grp).map Prod.fst
  total ((s.buf.queues.filter fun x => x.1 < 65536 && cs.contains (queueCtx s x.1)).map fun x =>
    total ((queueFrames s x.1).map upCharge))

/-- Report groups of a burst: of its own allocations, or with RPT every active one from where the last stopped (R126,
R127). -/
def burstGroups (s : State) (p : Nat) (rpt : Bool) (allocs : List Nat) (resume : Nat) : List Nat :=
  let bs := (bindingsOf s p).filter fun x => !x.2.rigid && (rpt || allocs.contains x.2.alloc)
  (sortNat (bs.map fun x => x.2.rpt)).filter fun g => !rpt || resume ≤ g

/-- The oldest k members of a list that a test picks, and the rest in its order. -/
def takeFirst (ok : TmmOut → Bool) : Nat → List TmmOut → List TmmOut × List TmmOut
  | _, [] => ([], [])
  | 0, l => ([], l)
  | k + 1, t :: r =>
    if ok t then let x := takeFirst ok k r; (t :: x.1, x.2) else let x := takeFirst ok (k + 1) r; (x.1, t :: x.2)

/-- Whether R82 routes a TMM to a burst in upstream frame sf: from SF_rx + 2 on, and, where the lookout takes it after that, to
SF_rx + 9. -/
def burstTakes (s : State) (p sf : Nat) (t : TmmOut) : Bool := t.sf + 2 ≤ sf && (!speaksLookout s p || sf ≤ t.sf + 9)

/-- The TMMs that the header of a burst in upstream frame sf takes, up to 8, and the port without them (R82, R122). -/
def takeTmms (s : State) (p sf : Nat) : List TmmOut × Registration :=
  let r := regnOf s p
  let a := takeFirst (burstTakes s p sf) 8 r.out
  let b := takeFirst (burstTakes s p sf) (8 - a.1.length) r.out2
  (a.1 ++ b.1, { r with out := a.2, out2 := b.2 })

/-- An EqD change applies at the start of upstream frame n (R100, R124). -/
def eqdChangesAt (s : State) (p n : Nat) : Bool :=
  let r := regnOf s p
  (match r.pend with | some c => c.sfEff == n | none => false) || (r.eqdFrom == n && n != 0)

/-- The continuation that follows a grant among those held: no chain crosses an EqD change (R124). -/
def nextOf (s : State) (p : Nat) (gs : List Grant) (g : Grant) : Option Grant :=
  gs.find? fun x => x.cont && chainsTo g x && !(g.sf != x.sf && eqdChangesAt s p x.sf)
/-- Its predecessor. -/
def predOf (gs : List Grant) (g : Grant) : Option Grant := gs.find? fun x => chainsTo x g
/-- The grants of the chain from g on; fuel is their number at most. -/
def chainFrom (s : State) (p : Nat) (gs : List Grant) : Nat → Grant → List Grant
  | 0, g => [g]
  | k + 1, g => match nextOf s p gs g with
    | some n => g :: chainFrom s p gs k n
    | none => [g]

/-- The grants that chain one to the next from g on, an EqD change between them or not; fuel is their number at most. -/
def wholeChain (gs : List Grant) : Nat → Grant → List Grant
  | 0, g => [g]
  | k + 1, g => match gs.find? fun x => x.cont && chainsTo g x with
    | some n => g :: wholeChain gs k n
    | none => [g]

/-- The continuations of a burst's chain that an EqD change has parted from it, with all that follow them (R124). -/
def partedFrom (s : State) (p : Nat) (gs : List Grant) (g : Grant) : List Grant :=
  ((wholeChain gs 32768 g).drop (chainFrom s p gs 32768 g).length).map fun x => { x with launched := false }

/-- A list of grants with one replaced by its key: frame and START. -/
def putGrant (g : Grant) (gs : List Grant) : List Grant :=
  gs.map fun x => if x.sf = g.sf ∧ x.start = g.start then g else x
def setGrant (p : Nat) (g : Grant) (s : State) : State :=
  setHalyard p { halyard s p with grants := putGrant g (halyard s p).grants } s
/-- Removal of grants by frame and START. -/
def dropGrants (p : Nat) (l : List Grant) (s : State) : State :=
  setHalyard p { halyard s p with grants := (halyard s p).grants.filter fun x => !l.any fun g => g.sf == x.sf && g.start == x.start } s

/-- The header settled at a burst's commit point: TMMs, groups, truncation, X, and where the next report goes on (R121, R122,
R126). -/
def planHeader (s : State) (p : Nat) (g : Grant) : HeaderPlan × Nat × Nat :=
  let ts := (takeTmms s p g.sf).1
  let allocs := (chainFrom s p (halyard s p).grants 32768 g).map (·.alloc)
  let rs := if g.rpt then (halyard s p).resume else 0
  let gs := burstGroups s p g.rpt allocs rs
  let t := ts.length
  let hLen := 36 + 48 * t + 4 * gs.length
  if g.ext || hLen ≤ 1162 then
    ({ tmms := ts, report := gs.map fun k => (k, 0), trunc := false }, hLen - 1162, 0)
  else
    let kept := gs.take ((1162 - 36 - 48 * t) / 4)
    let stop := (gs.drop kept.length).headD 0
    ({ tmms := ts, report := kept.map fun k => (k, 0), trunc := true }, 0, if g.rpt then stop else rs)

/-- Idle envelopes and the rest where a grant's leftover is filled at once (R118, R125). -/
def fillInPlace (g : Grant) (left : Nat) : Grant := { g with idle := left / 8, rem := left % 8, carry := g.carry }

/-- The body of a frame for an envelope (R367). -/
def fillOf (s : State) (qn : Nat × Nat) : Fill :=
  match frameOf s qn.2 with
  | some f => { frame := qn.2, queue := qn.1, rigid := false, dtid := f.dtid, stream := f.stream, mgmt := f.mgmt, plain := f.bytes, sealed := none, dropped := false }
  | none => { frame := qn.2, queue := qn.1, rigid := false, dtid := 0, stream := 0, mgmt := false, plain := [], sealed := none, dropped := true }

/-- Containers sealed as they are taken: their bytes come from the reserve at once. -/
def sealContainers (p e : Nat) : List (Container × Nat) → State → State × List Fill
  | [], s => (s, [])
  | (c, w) :: r, s =>
    let x := sealEnvelope p e (cmDtid w) (cmChannel w) 8 c.body s
    let t := sealContainers p e r x.1
    (t.1, { frame := c.cut, queue := c.slot, rigid := true, dtid := cmDtid w, stream := cmChannel w, mgmt := false,
            plain := c.body, sealed := some x.2, dropped := false, entry := c.entry } :: t.2)

/-- What a grant's commit takes within its budget (R118, R125, R126, R249, R348, R381). A grant whose context has changed its
RIGID since validation takes neither containers nor frames (log entry 177). -/
def fillGrant (p : Nat) (g : Grant) (carryIn remIn budget : Nat) (s : State) : State × Grant :=
  let own := if g.rigid then budget + remIn else budget + remIn + carryIn
  match findCtx s p g.alloc with
  | none =>
    let g1 := fillInPlace { g with carry := if g.rigid then carryIn else 0, committed := true } own
    (bump (halR p 0x164) 1 s, g1)
  | some (c, b) =>
    let e := if bitAt s 0x07000000 0 then txEpochAt s p g.sf else none
    match e with
    | none =>
      let g1 := fillInPlace { g with carry := if g.rigid then carryIn else 0, committed := true } own
      (shrEvent 5 (bump (shrR p 0x1C) 1 s), g1)
    | some ep =>
      if g.rigid && !b.rigid then (s, fillInPlace { g with carry := carryIn, committed := true } own)
      else if g.rigid then
        let t := fitContainers (containersFor s p g.alloc) own
        let r := sealContainers p ep t.1 (takeContainers t.1 s)
        (r.1, { fillInPlace { g with carry := carryIn, committed := true } t.2 with fill := r.2 })
      else if g.ranging || b.rigid then (s, { g with carry := own, rem := 0, committed := true })
      else
        let a := readAt s (frcAt s p (slotAt s p g g.start)) / 65536
        let z := readAt s (frcAt s p (slotAt s p g (g.start + g.len))) / 65536
        let r := selectUp c a z (selectFuel s c) own s
        let l := r.2.map (fillOf s)
        (r.1, { g with carry := own - total (l.map fillSize), rem := 0, committed := true, fill := l })

/-- The commit of the earliest grant not yet committed (R124, R129). A continuation whose chain does not reach it, or
that lies in a frame at which EqD changes, is missed there. -/
def commitNext (p : Nat) (s : State) : State :=
  let h := halyard s p
  match h.grants.find? (fun g => !g.committed) with
  | none => s
  | some g =>
    let last := (nextOf s p h.grants g).isNone
    if g.cont then
      match predOf (h.grants.filter (·.committed)) g with
      | none => countMissed p missCut 1 (dropGrants p [g] s)
      | some a =>
        if eqdChangesAt s p g.sf && a.sf != g.sf then countMissed p missCut 1 (dropGrants p [g] s)
        else
          let r := fillGrant p g a.carry a.rem (1170 * g.len - (if last then 100 else 0)) s
          setGrant p { r.2 with launched := a.launched } r.1
    else
      let pl := planHeader s p g
      let s0 := setRegn p (takeTmms s p g.sf).2 s
      let s1 := if g.rpt then setHalyard p { halyard s0 p with resume := pl.2.2 } s0 else s0
      let r := fillGrant p { g with headX := pl.2.1 } 0 0 (1170 * g.len - pl.2.1 - (if last then 100 else 0)) s1
      let occ := pl.1.report.map fun x => (x.1, occCode (groupBytes r.1 p x.1))
      setGrant p { r.2 with plan := { pl.1 with report := occ } } r.1

/-- BURST_COMMIT. -/
def execBurstCommit (p : Fin 16) (s : State) : Host.Outcome State Fault Refusal :=
  .next (onlyIf (coreOn s) (commitNext p) s)

/-! ### Reads and the launch deadline (R129, R130, R340) -/

/-- A Halyard read of frame n has returned: its envelope is sealed, or that of a damaged frame, found so now or marked so before, is
replaced and the frame freed (R340), and so one that meets a key entry not restored yet (R473). While SHR_CTL.EN is 0 none is sealed
(R392). -/
def fillRead (p n : Nat) (damaged : Bool) (s : State) : State :=
  match (halyard s p).grants.find? (fun g => g.fill.any fun f => !f.rigid && f.frame == n && f.sealed.isNone) with
  | none => s
  | some g =>
    match g.fill.find? (fun f => !f.rigid && f.frame == n && f.sealed.isNone) with
    | none => s
    | some f =>
      let keys := s.faults.restoring.any fun x => x.1 == 0xB
      let s1 := if keys then drawn s else s
      let bad := damaged || (frameOf s n).any (·.damaged)
      if bad || (keys && freeBit s) then
        let f1 := { f with sealed := some ((List.range (envSize (f.plain.length + 128) / 8)).flatMap fun _ => idleEnvelope), dropped := true }
        bufSettle (freeRef n (setGrant p { g with fill := g.fill.map fun x => if x = f then f1 else x } (if bad then s1 else bump 0x510C 1 s1)))
      else
        match (if bitAt s 0x07000000 0 then txEpochAt s p g.sf else none) with
        | none => s1
        | some e =>
          let r := sealEnvelope p e f.dtid f.stream (if f.mgmt then 4 else 0) f.plain s1
          let f1 := { f with sealed := some r.2 }
          setGrant p { g with fill := g.fill.map fun x => if x = f then f1 else x } r.1

/-- The fills before the first that is not sealed, and the rest. -/
def splitLate : List Fill → List Fill × List Fill
  | [] => ([], [])
  | f :: r => if f.sealed.isSome then let t := splitLate r; (f :: t.1, t.2) else ([], f :: r)

/-- LAUNCH_DEADLINE_MISS: in the earliest committed grant with an envelope that is not in the launch buffer, that
envelope and every later one of the grant return, and idle envelopes take their place (R130). -/
def lateMiss (p : Nat) (s : State) : State :=
  match (halyard s p).grants.find? (fun g => g.committed && g.fill.any fun f => f.sealed.isNone) with
  | none => s
  | some g =>
    let t := splitLate g.fill
    let room := total (t.2.map fillSize)
    let g1 := { g with fill := t.1, idle := g.idle + room / 8 }
    halEvent p 2 (returnFills p t.2 (setGrant p g1 s))

def execLaunchDeadlineMiss (p : Fin 16) (s : State) : Host.Outcome State Fault Refusal :=
  .next (onlyIf (coreOn s) (lateMiss p) s)

/-! ### Launch and end (R119 to R125, R128, R131, R104) -/

/-- The header's bytes: fixed part, TMMs, report entries, CRC-32 (R121). -/
def headerBytes (s : State) (p : Nat) (sf start alloc : Nat) (ranging chained : Bool) (pl : HeaderPlan) (tid t0 : Nat) : List Byte :=
  let h := 36 + 48 * pl.tmms.length + 4 * pl.report.length
  let fixed := tid % 4096 * 2 ^ 244 + p * 2 ^ 240 + sf % 2 ^ 51 * 2 ^ 189 + start % 2 ^ 15 * 2 ^ 174 + alloc % 4096 * 2 ^ 162 +
    pl.report.length * 2 ^ 153 + pl.tmms.length * 2 ^ 149 + bitN pl.trunc * 2 ^ 148 + bitN ranging * 2 ^ 147 +
    bitN chained * 2 ^ 146 + ntFormat (readAt s (frcAt s p t0)) * 2 ^ 32 + h * 2 ^ 16
  let l := toBytes 32 fixed ++ pl.tmms.flatMap (fun t => toBytes 48 t.bits.toNat) ++
    pl.report.flatMap (fun x => toBytes 4 (x.1 * 2 ^ 24 + x.2))
  l ++ toBytes 4 (crc32 l)

/-- k idle envelopes. -/
def idles (k : Nat) : List Byte := (List.range k).flatMap fun _ => idleEnvelope

/-- The grants of a chain marked as launched. -/
def markLaunched (chain : List Grant) (gs : List Grant) : List Grant :=
  gs.map fun x => let inChain : Bool := chain.any fun c => c.sf == x.sf && c.start == x.start
    if inChain then { x with launched := true } else x

/-- Continuations parted from a burst's chain are missed, whatever was committed for them (R112, R124, R136). -/
def missParted (p : Nat) (l : List Grant) (s : State) : State :=
  missGrants p missCut l.length (lineNow s p) l l (dropGrants p l s)

/-- BURST_LAUNCH: the first preamble bit of the next burst leaves at T0 with its header; what an EqD change has parted from its chain
is missed (R124, R128, R131). -/
def launchNext (p : Nat) (s : State) : State :=
  let h := halyard s p
  match h.grants.find? (fun g => !g.cont && !g.launched) with
  | none => s
  | some g =>
    if !g.committed || h.txOpen then s
    else
      let t0 := (slotAt s p g ((g.start : Int) - 2)).toNat
      let chain := chainFrom s p h.grants 32768 g
      let hdr := headerBytes s p g.sf g.start g.alloc g.ranging (1 < chain.length) g.plan (ownId s p) t0
      let s1 := setHalyard p { h with txOpen := true, header := hdr, grants := markLaunched chain h.grants } s
      let s2 := if g.plan.trunc then bump (halR p 0x168) 1 s1 else s1
      missParted p (partedFrom s p h.grants g) (emit (.burst p g.sf g.start hdr) (bump64 (halR p 0x100) 1 s2))

/-- The quiet window that is next to be answered, and the grant that covers its slots 7K to 7K + 5 is held (R104, R109). -/
def nextAnswer (s : State) (p : Nat) : Option QuietWindow :=
  (regnOf s p).qws.find? fun q => q.launched.isNone &&
    (halyard s p).qwGrants.any fun g => g.1 == q.sf && decide (g.2.1 ≤ 7 * q.k) && decide (7 * q.k + 5 < g.2.1 + g.2.2)

/-- A list of quiet windows with q in the place of the first that equals o. -/
def putWindow (o q : QuietWindow) : List QuietWindow → List QuietWindow
  | [] => []
  | x :: r => if x = o then q :: r else x :: putWindow o q r

/-- The version 2 answer burst of R104 is launched at slot 7K: waiting replies, then the ANNOUNCE. Its fine delay is PRE_EQD's
(R128). A window that was decided on in ANNOUNCE is answered also where ASSIGN_ID has put the port in RANGE since, before any
RANGE_SET: it is the quiet window by which R105 routes that reply (R97; DEDUCED, log entry 210). -/
def launchAnswer (p : Nat) (q : QuietWindow) (s : State) : State :=
  let r := regnOf s p
  let h := halyard s p
  if h.txOpen || !hasTiming s p || stopped s p then s
  else
    let took := r.out2.take 8
    let tmms := ((took.map (·.bits)) ++ q.announce.toList).take 8
    let t0 := upStart s p q.sf q.preEqd + 500 * (7 * q.k)
    let hdr := headerBytes s p q.sf (7 * q.k + 2) 0 false false { tmms := tmms.map fun b => ⟨b, q.sf⟩ } 4095 t0
    let q1 := { q with launched := some t0, took := took, header := hdr }
    emit (.burst p q.sf (7 * q.k + 2) hdr) (bump64 (halR p 0x100) 1 (setHalyard p { h with txOpen := true }
      (setWaiken p { waiken s p with phase := q.preEqd % 100 }
        (setRegn p { r with qws := putWindow q q1 r.qws, out2 := r.out2.drop took.length } s))))

def launchBurst (p : Nat) (s : State) : State :=
  match nextAnswer s p with
  | some q => launchAnswer p q s
  | none => launchNext p s

def execBurstLaunch (p : Fin 16) (s : State) : Host.Outcome State Fault Refusal :=
  .next (onlyIf (coreOn s) (launchBurst p) s)

/-- The bytes of a grant in the envelope area before the area's final fill. -/
def grantBytes (g : Grant) : List Byte := g.fill.flatMap (fun f => f.sealed.getD []) ++ idles g.idle

/-- Codewords of a burst from its data bytes: 585 bytes, 468 symbols of 10 bits, each with its 32 parity symbols behind it (R24, R25,
R119). The last one, of 485 bytes, is encoded behind 80 symbols of zeros that are not sent (R120). -/
def codewords : Nat → List Byte → List Byte
  | 0, _ => []
  | k + 1, l =>
    let d := l.take 585
    (toBytes 625 (codeword (BitVec.ofNat 4680 (ofBytes d))).toNat).drop (585 - d.length) ++ codewords k (l.drop 585)

/-- A burst on the line from its header and what follows its delimiter-and-header slot (R119, R120): the preamble slot, the
delimiter, and the scrambled rest with header and fill to byte 1,169. -/
def lineOf (header area : List Byte) : List Byte :=
  let x := header.drop 1162
  let data := header.take 1162 ++ List.replicate (1162 - header.length) 0 ++ x ++ area
  let coded := toBytes 8 0x5D2E83B4C97A106F ++ scramble data
  List.replicate 1250 0xCC ++ codewords (ceilDiv coded.length 585) coded

/-- The end of a version 2 answer burst: its idle envelopes and 4 zero bytes have left (R104, R123). -/
def endAnswer (p : Nat) (q : QuietWindow) (s : State) : State :=
  let r := regnOf s p
  let area := idles 572 ++ [0, 0, 0, 0]
  let s1 := setHalyard p { halyard s p with txOpen := false, idleFrom := upStart s p q.sf q.preEqd + 500 * (7 * q.k + 6) }
    (setWaiken p { waiken s p with phase := r.eqd % 100 } (setRegn p { r with qws := r.qws.filter fun x => x != q } s))
  dozeIn p (emit (.line p q.sf (7 * q.k + 2) (lineOf q.header area)) (emit (.area p q.sf (7 * q.k + 2) area) (bump64 (halR p 0x120) 572 s1)))

/-- The fills that fit within `room` bytes, and the rest: where a continuation was lost after the commit, the area has 100
bytes less than the last grant's budget (R124, R125). -/
def fitFills : Nat → List Fill → List Fill × List Fill
  | _, [] => ([], [])
  | room, f :: r => if fillSize f ≤ room then let x := fitFills (room - fillSize f) r; (f :: x.1, x.2) else ([], f :: r)

/-- BURST_END: the chain's envelope area has left, closed by idle envelopes and 0 to 7 zero bytes; its frames are freed
and its grants leave the queue (R120, R123, R125). -/
def endBurst (p : Nat) (s : State) : State :=
  let h := halyard s p
  match (regnOf s p).qws.find? (·.launched.isSome) with
  | some q => endAnswer p q s
  | none => match h.grants.find? (fun g => !g.cont && g.launched) with
    | none => s
    | some g =>
      let chain := chainFrom s p h.grants 32768 g
      if chain.all (fun x => x.committed && x.fill.all fun f => f.sealed.isSome) then
        let area := 1170 * total (chain.map (·.len)) - 100 - g.headX
        let lastG := (chain.getLast?).getD g
        let before := chain.dropLast.flatMap grantBytes
        let fit := fitFills (area - before.length) lastG.fill
        let body := before ++ grantBytes { lastG with fill := fit.1, idle := min lastG.idle ((area - before.length - total (fit.1.map fillSize)) / 8) }
        let tail := (area - body.length) / 8
        let bytes := body ++ idles tail ++ List.replicate ((area - body.length) % 8) 0
        let fills := chain.dropLast.flatMap (·.fill) ++ fit.1
        let idleN := total (chain.dropLast.map (·.idle)) + (body.length - before.length - total (fit.1.map fillSize)) / 8 + tail +
          total ((fills.filter (·.dropped)).map fillSize) / 8
        let s1 := dropGrants p chain (setHalyard p { h with txOpen := false, idleFrom := slotAt s p lastG (lastG.start + lastG.len) } s)
        let s2 := returnFills p fit.2 (sentFills p fills s1)
        let s3 := bump64 (halR p 0x120) idleN s2
        let s4 := if lastG.chain && !lastG.followed then halEvent p 5 (bump (halR p 0x160) 1 s3) else s3
        let s5 := missParted p (partedFrom s p h.grants g) s4
        dozeIn p (emit (.line p g.sf g.start (lineOf h.header bytes)) (emit (.area p g.sf g.start bytes) s5))
      else s

def execBurstEnd (p : Fin 16) (s : State) : Host.Outcome State Fault Refusal :=
  .next (onlyIf (coreOn s) (endBurst p) s)

/-! ### Doze, lanes and the register commands (R118, R132 to R138, R207) -/

/-- DOZE_EXIT: the data lanes are driven again WAKE_LEAD slots before T0 (R133, R207). -/
def execDozeExit (p : Fin 16) (s : State) : Host.Outcome State Fault Refusal :=
  .next (onlyIf (coreOn s) (dozeOut p) s)

/-- All 8 transmit data lanes of a port are active, and the engine's TX_READY is held by majority (R207). -/
def dataLanesActive (s : State) (p : Nat) : Bool :=
  (upTo 8).all (fun i => (laneOf s (128 + 8 * p + i)).tx == 5) && (waiken s p).txReady

/-- LANE_READINESS_CHECK: data lanes not active one slot before T0 miss the burst (R134). -/
def checkLanes (p : Nat) (s : State) : State :=
  if dataLanesActive s p then s
  else
    let fail := fun x => halEvent p 4 (setHalyard p { halyard x p with dozeInhibit := true } x)
    match nextAnswer s p with
    | some q => loseWindow p q (fail s)
    | none => match (halyard s p).grants.find? (fun g => !g.cont && !g.launched) with
      | none => s
      | some g =>
        let gs := (halyard s p).grants
        let chain := chainFrom s p gs 32768 g
        let t : Int := lineNow s p
        let behind := chain.drop 1 ++ partedFrom s p gs g
        fail (missGrants p missCut behind.length t gs behind (missGrants p missLane 1 t gs [g] (dropGrants p (g :: behind) s)))

def execLaneReadinessCheck (p : Fin 16) (s : State) : Host.Outcome State Fault Refusal :=
  .next (onlyIf (coreOn s) (checkLanes p) s)

/-- A write of GRANT_CTL.EN; 0 misses every held grant and ends any burst (R136). -/
def halEnable (p : Nat) (en : Bool) (s : State) : State :=
  dozeIn p (setBit (halR p 0) 0 en
    (if en then s else missAnswer p (missAll p missState (setHalyard p { halyard s p with maps := [] } s))))

/-- The same with the power of the trunk port (R413). -/
def writeHalEnable (p : Nat) (en : Bool) (s : State) : State := trkFollow p (trunkDisabled s p) (halEnable p en s)

def execHalEnableWrite (p : Fin 16) (en : Bool) (s : State) : Host.Outcome State Fault Refusal :=
  .next (onlyIf (coreOn s) (writeHalEnable p en) s)

/-- A write of DOZE_CTL: DOZE_INHIBIT is cleared and the doze check becomes due (R134, R207). -/
def writeDozeCtl (p : Nat) (v : Word) (s : State) : State :=
  setWaiken p { waiken s p with checkDue := true }
    (setHalyard p { halyard s p with dozeInhibit := false } (setReg (halR p 0xC) v s))

def execDozeCtlWrite (p : Fin 16) (val : Word) (s : State) : Host.Outcome State Fault Refusal :=
  .next (onlyIf (coreOn s) (writeDozeCtl p val) s)

/-- A write of CTX_LOOKUP: CTX_RESULT shows the binding of that ALLOC (R118). -/
def lookupCtx (p alloc : Nat) (s : State) : State :=
  let r := match findCtx s p alloc with
    | some (c, b) => 2 ^ 31 + bitN b.rigid * 2 ^ 30 + c * 2 ^ 16 + b.rpt
    | none => 0
  setRegN (halR p 0x1C) r (setRegN (halR p 0x18) alloc s)

def execCtxLookupWrite (p : Fin 16) (alloc : BitVec 12) (s : State) : Host.Outcome State Fault Refusal :=
  .next (onlyIf (coreOn s) (lookupCtx p alloc.toNat) s)

/-- HAL_CNT_CLR: every Halyard counter of the port (R138). -/
def halCntClr (p : Nat) : State → State := zeroRegs (within (halR p 0x100) 0x6C)
def execHalCntClr (p : Fin 16) (s : State) : Host.Outcome State Fault Refusal := .next (onlyIf (coreOn s) (halCntClr p) s)

end Sys2Proof.Machine
end

