-- ==== Sys2Proof/Machine/FaultLog.lean ====
section
/-! DEFINITION. The fault log's ring in Heartwood retention and the pin summary (R482, R483, R486). -/
namespace Sys2Proof.Machine
open Sys2Proof

/-- FLT_EVENT bit i (R487). -/
def fltEvent (i : Nat) : State → State := raise 0x5010 0x5014 i (56 + i)

/-- Words 0 to 14 of a fault record (R483). -/
def recordWords (cls code wher unit seq addr count detail : Nat) (s : State) : List Nat :=
  let held := timeHeld s
  let n := if held then ntFormat (readNow s) else 0
  [cls * 2 ^ 28 + code % 256 * 2 ^ 20 + wher % 256 * 2 ^ 12 + unit % 4096, seq, regN s 0x108,
    s.uptime % 2 ^ 32, s.uptime / 2 ^ 32 % 2 ^ 32, n / 2 ^ 48 % 2 ^ 32, n / 2 ^ 80 % 2 ^ 32, n / 2 ^ 16 % 2 ^ 32,
    bitN held * 2 ^ 31 + bitN s.faults.xtalInt * 2 ^ 30 + n % 2 ^ 16, addr % 2 ^ 32, addr / 2 ^ 32 % 2 ^ 32,
    count, detail % 2 ^ 32, 0, 0]

/-- A record with its CRC over words 0 to 14, each most significant byte first. -/
def sealRecord (l : List Nat) : List Word :=
  (l ++ [crc32 (l.flatMap (toBytes 4))]).map (BitVec.ofNat 32)

/-- A fault is written to the ring; into a full ring it replaces the oldest record not yet copied (R483). -/
def writeLog (cls code wher unit addr count detail : Nat) (s : State) : State :=
  let f := s.faults
  let full := 256 ≤ f.uncopied
  let f1 := { f with
    ring := f.ring.put f.nextPos (sealRecord (recordWords cls code wher unit f.seq addr count detail s))
    nextPos := (f.nextPos + 1) % 256, seq := f.seq + 1
    uncopied := min 256 (f.uncopied + 1), lost := if full then f.lost + 1 else f.lost }
  let s1 := { s with faults := f1 }
  if full then bump 0x5114 1 s1 else s1

/-- A record of one event with no address and the DETAIL that the spec leaves to the class. -/
def logEvent (cls code wher unit : Nat) (s : State) : State :=
  writeLog cls code wher unit 0 1 (Config.logDetail cls code) s

/-- A muzzle or guard fault (R483 class GUARD). -/
def logGuard (p code : Nat) : State → State := logEvent 0xC code 0 p

/-- PIN_SUM (R486). -/
def pinSum (s : State) : Nat :=
  let drain := (upTo 16).any (fun p => bitAt s (bksR p 8) 1) || fld s 0x3380 31 30 != 0
  let lane := s.lanes.any fun x => x.2.isOpen || x.2.short
  total [bitN s.faults.xtalInt * 128, bitN (bitAt s 0x01400004 24) * 64, bitN s.reef.avsStuck * 32, bitN s.reef.busStuck * 16,
    s.boot.flashFault.toNat * 4, bitN drain * 2, bitN lane]

/-- f, and where `fault` says that it is a new fault of pin class c at unit u, its log record and the PIN event where a
PIN_SUM bit rises (R482, R486). -/
def withPins (c u : Nat) (fault : Bool) (f : State → State) (s : State) : State :=
  let s1 := f s
  if !fault then s1
  else
    let rose := (pinSum s1) &&& ((pinSum s) ^^^ 0xFF) != 0
    let s2 := if rose then fltEvent 4 s1 else s1
    logEvent 6 (Config.logCode 6 c) (Config.pinClass c) u s2

end Sys2Proof.Machine
end

