-- ==== Sys2Proof/Machine/GuardOps.lean ====
section
/-! DEFINITION. What Backstay's own commands and registration share of the transmit guard (R140 to R155). -/
namespace Sys2Proof.Machine
open Sys2Proof

/-- MUZZLED of port p (R149). -/
def muzzled (s : State) (p : Nat) : Bool := bitAt s (bksR p 4) 31
/-- GUARD_FAULT of port p. -/
def guardFault (s : State) (p : Nat) : Bool := bitAt s (bksR p 4) 27

/-- Lane l is in pattern mode: its generator or checker is on (R216). -/
def patternOn (s : State) (l : Nat) : Bool := bitAt s (laneR l 0x20) 31 || bitAt s (laneR l 0x20) 30

/-- Backstay releases TXDIS_N of port p: every condition of R146 holds, and no periodic dry-fire holds it low (R157). -/
def txReleased (s : State) (p : Nat) : Bool :=
  let g := guardOf s p
  bitAt s (bksR p 0) 0 && bitAt s (bksR p 4) 25 && ((g.tid.isSome && g.eqd.isSome) || g.answerOpen) &&
  hasTiming s p && g.closedNow.isEmpty && !g.gateClosed && !muzzled s p && !guardFault s p && !g.clkHold && g.testUntil ≤ lineNow s p &&
  !(upTo 8).any (fun i => patternOn s (128 + 8 * p + i)) && !patternOn s (256 + p)

/-- The upstream frame counts toward a deferral in progress, once: TXDIS_N is released in it (R157). -/
def countDefer (p : Nat) (s : State) : State :=
  let g := guardOf s p
  let n := upFrameAt s p (lineNow s p)
  match g.defer with
  | some (k, m) => if txReleased s p && m != n then setGuard p { g with defer := some (k + 1, n) } s else s
  | none => s

/-- FAULT_SUM bit p: an enabled P_EVENT bit other than MUZZLE is set. -/
def faultSum (s : State) (p : Nat) : Bool := (reg s (bksR p 8) &&& reg s (bksR p 0xC)) >>> 1 != 0

/-- P_EVENT bit i; MUZZLE signals source 16 + p, another bit source 32 where it takes FAULT_SUM from 0 to 1 (R165). -/
def bksEvent (p i : Nat) (s : State) : State :=
  if i = 0 then raise (bksR p 8) (bksR p 0xC) 0 (16 + p) s
  else
    let s1 := setBit (bksR p 8) i true s
    if faultSum s1 p && !faultSum s p then signalSource 32 s1 else s1

/-- The ALERT with CAUSE MUZZLED, where the port's version or manifest has it (R153). -/
def alertMuzzled (p : Nat) (s : State) : State :=
  let s1 := setGuard p { guardOf s p with alertAt := s.uptime } s
  if speaksLookout s p then queueAlert p 1 false ((framer s p).lastSf.getD 0) s1 else s1

/-- MUZZLED is set with its cause, votes and slot, recorded and reported (R149, R150, R153): the frame in which it is set did
not begin with it. In the gap that a growing EqD leaves, that is the frame that has ended there (log entry 209). -/
def setMuzzle (p code votes slot : Nat) (s : State) : State :=
  let n := upFrameAt s p (lineNow s p)
  let sf := if hasTiming s p then n + 2 ^ 63 else (framer s p).lastSf.getD 0
  let s1 := setGuard p { guardOf s p with cleanFrom := n + 1 } (setFld (bksR p 4) 1 0 0 (setBit (bksR p 4) 31 true s))
  let s2 := setReg64 (bksR p 0x18) sf (setRegN (bksR p 0x10) (code * 2 ^ 28 + votes * 2 ^ 25 + slot) s1)
  alertMuzzled p (logGuard p code (bksEvent p 0 s2))

/-- The forced-off path takes the data lanes into electrical idle, without DOZE blocks (R148, R208). -/
def forceOff (p : Nat) (s : State) : State :=
  dataLanesTx p 5 6 (setWaiken p { waiken s p with dozeTicks := 0, wakeTicks := 0 } s)
/-- The forced-off state ends where nothing holds it any more, with the exit sequence of doze, which keeps its own (R161, R208). -/
def forceOn (p : Nat) (s : State) : State :=
  if !muzzled s p && (guardOf s p).pin != some true && forcedOff s p then
    dataLanesTx p 6 5 (setWaiken p { waiken s p with wakeTicks := 64 } s)
  else s

/-- The silence gate closes: TXDIS_N low, Halyard's burst ends, the windows go (R154, R155, R136). A SILENCE that finds it closed
closes it again, and counts (DESIGN CHOICE, log entry 212). -/
def closeGate (p : Nat) (s : State) : State :=
  let s1 := bump (bksR p 0x3C) 1 (setGuard p { guardOf s p with gateClosed := true, gateDue := false, windows := [] } s)
  missAnswer p (missAll p missState s1)

/-- A SILENCE has been decoded: the gate closes at the next slot boundary, or at once without upstream timing (R154). -/
def snoopSilence (p : Nat) (s : State) : State :=
  if hasTiming s p then setGuard p { guardOf s p with gateDue := true } s else closeGate p s

/-- A delivered TMM as Backstay sees it: a SILENCE for the port's TID or 4,094 (R154). -/
def snoop (p : Nat) (t : BitVec 384) (s : State) : State :=
  if tf t 371 364 = 0x0E ∧ (some (tf t 383 372) = (guardOf s p).tid ∨ tf t 383 372 = 4094) then snoopSilence p s else s

/-- The silence gate opens; windows come only from maps validated from now on (R155). -/
def openGate (p : Nat) (s : State) : State :=
  setGuard p { guardOf s p with gateClosed := false, gateDue := false, windows := [] } s

/-- Downstream timing is regained: the frames that count as clean are those that begin from now on (R150). -/
def bksGained (p : Nat) (s : State) : State :=
  setGuard p { guardOf s p with cleanFrom := upFrameAt s p (lineNow s p) + 1 } s

/-- Loss of downstream timing in Backstay (R144, R154). The frames to be held closed are forgotten with the windows (DESIGN CHOICE,
log entry 213). -/
def bksLost (p : Nat) (s : State) : State :=
  let g := guardOf s p
  let s1 := setGuard p { g with windows := [], closed := [], closedNow := [], maps := [], answers := [], answerOpen := false } s
  if g.gateDue then closeGate p s1 else s1

end Sys2Proof.Machine
end

