-- ==== Sys2Proof/Machine/ReefOps.lean ====
section
/-! DEFINITION. The reef manager's request in progress: how it ends, and how it goes on once its darkness is settled (R417 to R422). -/
namespace Sys2Proof.Machine
open Sys2Proof

/-- REEF_EVENT bit i (R436). -/
def reefEvent (i : Nat) : State → State := raise 0x00200020 0x00200024 i i

def setReef (r : Reef) (s : State) : State := { s with reef := r }

/-- The voltage that the board's regulator gives VDD_CORE before start-up, from 0.70 V to 0.85 V (R450). -/
def bootVoltage : Nat := 700 + Config.bootMv % 151

/-- A Voltage write to the VDD_CORE regulator; while PMBus or AVSBus is stuck VDD_CORE is held as it is (R426, R482). -/
def avsWrite (mv : Nat) (s : State) : State :=
  if s.reef.busStuck || s.reef.avsStuck then s else emit (.avs mv) (setReef { s.reef with mv := mv } s)

/-- The core clock of a reef level, in MHz (R415). -/
def clockOf (n : Nat) : Nat := match n with | 0 => 1600 | 1 => 1200 | 2 => 400 | _ => 0

/-- VDD_CORE at the boot voltage and the core at 0.4 GHz; a regulator that has had no command since its power-up is there (R450,
R457). -/
def coreBoot (s : State) : State :=
  let s1 := setReef { s.reef with coreMHz := 400, raising := false, lowerTo := none, vHigh := false } s
  if s.reef.mv = 0 then setReef { s1.reef with mv := bootVoltage } s1
  else if s.reef.mv = bootVoltage then s1 else avsWrite bootVoltage s1

/-- The request in progress ends; LAST_TRANS records its result, reason and block (R422, R435), and a result other than
DONE is logged (R483 class REEF). -/
def reefEnd (result reason block : Nat) (s : State) : State :=
  let r := s.reef
  let s1 := setRegN 0x0020001C (result * 2 ^ 28 + r.origin % 4 * 2 ^ 26 + r.target % 4 * 2 ^ 24 + reason % 256 * 2 ^ 16 + block % 256 * 2 ^ 8)
    (setReef { r with active := false, notice := none, phase := .idle, raising := false } s)
  if result = 1 then s1 else logEvent 0xD (Config.logCode 0xD result) 0 0 s1

/-- A request whose notice is answered goes on: to prepare, or to its end where it changes no level. Toward a higher-numbered level
every darkness of its grant comes first, toward a lower one it starts at once (R421, R422). -/
def reefProceed (s : State) : State :=
  let r := s.reef
  if r.active && r.phase == .notice && r.notice.isNone && (r.dark.isNone || decide (r.target < r.level)) &&
      (r.target != 0 || reg s 0x00200014 == 0) then
    if r.target = r.level then reefEnd 1 0 0 s else setReef { r with phase := .prepare } s
  else s

/-- A pending darkness without what `ports` and `clients` clear from it. -/
def darkLeft (ports : BitVec 16) (clients : BitVec 32) (s : State) : State :=
  match s.reef.dark with
  | some d =>
    let d1 := { d with ports := d.ports &&& ~~~ports, inOper := d.inOper &&& ~~~ports, clients := d.clients &&& ~~~clients }
    let rest := if d1.ports = 0 ∧ d1.clients = 0 then none else some d1
    reefProceed (setReef { s.reef with dark := rest } s)
  | none => s

/-- A pending darkness is cancelled for a port that leaves OPERATE before its instant (R420). -/
def cancelDark (p : Nat) (s : State) : State :=
  match s.reef.dark with
  | some d => if d.inOper.getLsbD p then darkLeft (BitVec.ofNat 16 (2 ^ p)) 0 s else s
  | none => s

end Sys2Proof.Machine
end

