-- ==== Sys2Proof/Machine/RegOps.lean ====
section
/-! DEFINITION. Registration's states and the handling of TMMs that every TMM's meaning shares (R78 to R87). -/
namespace Sys2Proof.Machine
open Sys2Proof

/-! ### States (R84, R86) -/

/-- A timer's milliseconds: 0 acts as 1, above 60,000 as 60,000; in Heartwood ticks (R86). -/
def timerTicks (s : State) (a : Nat) : Nat := 25000 * min (max (fld s a 15 0) 1) 60000

/-- A RANGE_SET with DONE has been accepted and its change is still to come (R86, R99). -/
def donePending (r : Registration) : Bool :=
  let done := fun (c : Option EqdChange) => match c with | some x => x.done && x.confirmed | none => false
  done r.pend || done r.pendOld

/-- The timers at the entry to a state: each runs from its entry in its state alone (R86). -/
def enterTimers (r : Registration) (st : RegState) (now : Nat) : Registration :=
  let r1 := { r with annAt := none, rangeAt := none, holdAt := none }
  match st with
  | .announce => { r1 with annAt := some now }
  | .range => if donePending r then r1 else { r1 with rangeAt := some now }
  | .hold => { r1 with holdAt := some now }
  | _ => r1

/-- The port's STATE becomes st: timers, the STATE event where it changes, and the end of a pending darkness (R86, R420). -/
def setState (p : Nat) (st : RegState) (s : State) : State :=
  let r := regnOf s p
  if r.state = st then s
  else
    let s1 := rgEvent p 0 (setRegn p { enterTimers r st s.uptime with state := st } s)
    if r.state = .operate then cancelDark p s1 else s1

/-- The request that a change came from, as far as its reply needs it. -/
def changeTmm (c : EqdChange) : TmmIn :=
  { bits := mkTmm c.idField 0x06 c.seq 0 [], sf := c.sfRx, lookout := c.lookout }

/-- A pending change as Backstay holds it (R140). -/
def guardPend (c : Option EqdChange) : Option (Nat × Nat) := c.map fun x => (x.eqd, x.sfEff)

/-- The pending change of port p, and the one it is to replace, in Halyard and in Backstay (R99, R140). -/
def setPend (p : Nat) (c old : Option EqdChange) (s : State) : State :=
  setGuard p { guardOf s p with pend := guardPend c } (setRegn p { regnOf s p with pend := c, pendOld := old } s)

/-- The pending EqD change is discarded in Halyard and in Backstay (R87, R101). One that was still to be confirmed cannot be
any more: its request is answered BUSY (R99). -/
def dropEqd (p : Nat) (s : State) : State :=
  let s1 := setPend p none none s
  match (regnOf s p).pend with
  | none => s1
  | some c => if c.confirmed then s1 else queueTmm p (replyTo s1 p (changeTmm c).bits 1 []) c.sfRx s1

/-- A held TIME_SET of the port is discarded without a reply (R189). -/
def dropHeldTime (p : Nat) (s : State) : State :=
  { s with time := { s.time with held := s.time.held.put p none } }

/-- Bindings of the port that p picks are freed (R87, R116). -/
def unbind (f : Binding → Bool) (s : State) : State :=
  { s with contexts := s.contexts.adjust fun _ b => match b with
      | some x => if f x then none else some x
      | none => none }

/-- Address-filter entries at a departure: entry 0 and every entry whose SRC is 1 (R62, R87). -/
def clearFilter (p : Nat) (s : State) : State :=
  forAll (fun k x => if k = 0 || bitAt x (trkR p (0x40 + 4 * k)) 30 then setReg (trkR p (0x40 + 4 * k)) 0 x else x) (upTo 8) s

/-- What a departure takes from the rest of the port: grants, messages, EqD change, filter entries, contexts, keys, the
TSI's use of the port, a held TIME_SET, the fine delay, and Backstay's TID, EqD and gate (R87, R37, R128, R155, R261, R381). A quiet
window that was decided on is missed at once, counted in RG_QW_MISS, also where the port falls from ANNOUNCE to LISTEN (R104; DESIGN
CHOICE, log entry 211). -/
def leaveBehind (p : Nat) (s : State) : State :=
  let s1 := clearFilter p (flushOut p (dropEqd p (missAnswer p (missAll p missState s))))
  let s2 := dropHeldTime p (tsiPortGone p (forgetKeys p (unbind (fun b => b.port == p) s1)))
  openGate p (setGuard p { guardOf s2 p with tid := none, eqd := none, eqdOld := 0, eqdFrom := 0 }
    (setWaiken p { waiken s2 p with phase := 0, stepAt := none } s2))

/-- A port's registration after a departure with the TID `tid` (R87). -/
def Registration.departed (r : Registration) (tid : Option Nat) : Registration :=
  { r with version := 0, tid := none, silence := none, eqd := 0, eqdOld := 0, eqdFrom := 0, ranged := false,
           lastTid := tid.getD r.lastTid, rangeAt := none, releaseAt := none,
           ret := .init, under := .init }

/-- The port leaves registration, or falls back from ANNOUNCE, to LISTEN or INIT (R87). -/
def leave (p : Nat) (st : RegState) (s : State) : State :=
  let tid := (regnOf s p).tid
  let s1 := leaveBehind p s
  let s2 := setRegn p ((regnOf s1 p).departed tid) s1
  setState p st (if tid.isSome then rgEvent p 5 s2 else s2)

/-- To SILENT with a return state (R84, R136). -/
def toSilent (p : Nat) (ret : RegState) (s : State) : State :=
  let s1 := missAnswer p (missAll p missState s)
  flushOut p (setState p .silent (setRegn p { regnOf s1 p with ret := ret } s1))

/-- The port leaves SILENT for its return state when no cause remains (R84, R155). -/
def endSilent (p : Nat) (s : State) : State :=
  let r := regnOf s p
  if r.state = .silent ∧ r.silence = none ∧ !muzzled s p then openGate p (setState p r.ret s) else s

/-- The silence ends; while MUZZLED keeps the port in SILENT the gate opens all the same (R84, R155). -/
def endSilence (p : Nat) (s : State) : State :=
  let r := regnOf s p
  if r.silence.isSome then endSilent p (openGate p (setRegn p { r with silence := none } s)) else s

/-- "Backstay muzzle" (R84, R149). -/
def muzzleRow (p : Nat) (s : State) : State :=
  match (regnOf s p).state with
  | .announce => toSilent p .announce s
  | .range => toSilent p .range s
  | .operate => toSilent p .operate s
  | _ => missAll p missState s

/-- Entry to HOLD with a return state (R84, R101, R189, R261, R93). -/
def toHold (p : Nat) (ret : RegState) (s : State) : State :=
  let r := regnOf s p
  let s1 := dropHeldTime p (tsiPortGone p (dropEqd p s))
  let s2 := flushOut p (setState p .hold (setRegn p { regnOf s1 p with ret := ret, under := r.ret } s1))
  if r.state = .operate ∧ speaksLookout s2 p ∧ (lkoUp s2 0 || lkoUp s2 1) then
    queueAlert p 3 false ((framer s2 p).lastSf.getD 0) s2
  else s2

/-- "Downstream lost" (R84). A release already accepted takes effect at once: no upstream frame ends any more. -/
def downstreamLost (p : Nat) (s : State) : State :=
  let r := regnOf s p
  if r.releaseAt.isSome then leave p .init s
  else match r.state with
    | .listen => leave p .init s
    | .announce => leave p .init s
    | .range => toHold p .range s
    | .operate => toHold p .operate s
    | .silent => toHold p .silent s
    | _ => s

/-- "Downstream acquired" (R84): while RG_CTL.EN is 1. -/
def downstreamAcquired (p : Nat) (s : State) : State :=
  let r := regnOf s p
  if !bitAt s (trkR p 0x400) 0 then s
  else
    let s0 := setRegn p { r with litAt := none } s
    match r.state with
    | .init => setState p .listen s0
    | .hold =>
      if r.ret = .silent then setState p .silent (setRegn p { regnOf s0 p with ret := r.under } s0)
      else if muzzled s p then setState p .silent s0
      else setState p r.ret s0
    | _ => s0

/-- f, and what follows from the port's losing or gaining downstream timing in it (R26, R65, R66, R84). -/
def withTiming (p : Nat) (f : State → State) (s : State) : State :=
  let before := hasTiming s p
  let s1 := f s
  let after := hasTiming s1 p
  if before && !after then downstreamLost p (bksLost p (halLost p s1))
  else if !before && after then downstreamAcquired p (bksGained p s1)
  else s1

/-! ### Handling a TMM (R78 to R81, R85) -/

/-- Whether the terminal knows a TMM's TYPE on this port: in the table, not one it only sends, and of its version (R78). A
reply's TYPE, 0x8C among them, stands in the table's reply column and is none of its types (log entry 174). -/
def knownType (s : State) (p type : Nat) : Bool :=
  let all : List Nat := [0x01, 0x03, 0x05, 0x06, 0x08, 0x09, 0x0A, 0x0E, 0x0F, 0x10, 0x12]
  let v3 : List Nat := [0x07, 0x0B, 0x0C, 0x0D, 0x11]
  all.contains type || (v3.contains type && (regnOf s p).version != 2)

/-- The DEVID field of a TMM that may address a port without a TID (R79, R83). -/
def tmmDevid (t : BitVec 384) : Option Nat :=
  match tf t 371 364 with
  | 0x01 => some (tf t 335 272)
  | 0x03 => some (tf t 351 288)
  | 0x05 => some (tf t 351 288)
  | 0x0E => some (tf t 311 248)
  | 0x10 => some (tf t 343 280)
  | 0x12 => some (tf t 351 288)
  | _ => none

/-- A TMM addressed to 4,095 that a port without a TID discards: its DEVID is not the device's (R79). -/
def notDevice (s : State) (p : Nat) (t : BitVec 384) : Bool :=
  (regnOf s p).tid.isNone && tf t 383 372 == 4095 &&
  match tmmDevid t with
  | some d => !(d == devId s || (tf t 371 364 == 0x01 && d == 2 ^ 64 - 1))
  | none => true

/-- The remembered pair that a TMM matches, within 8,000 frames; HAIL is exempt (R80). -/
def rememberedOf (s : State) (p : Nat) (t : BitVec 384) (sf : Nat) : Option Remembered :=
  (regnOf s p).remembered.find? fun m =>
    tf t 371 364 != 0x01 && m.type == tf t 371 364 && m.seq == tf t 363 356 && sf ≤ m.actedSf + 8000

/-- A TMM acted on is remembered with its reply, among the last 16 (R80). -/
def remember (p : Nat) (t : BitVec 384) (sf : Nat) (reply : Option (BitVec 384)) (s : State) : State :=
  let r := regnOf s p
  let m : Remembered := { type := tf t 371 364, seq := tf t 363 356, reply := reply, actedSf := sf }
  setRegn p { r with remembered := (m :: r.remembered.filter fun x => !(x.type == m.type && x.seq == m.seq)).take 16 } s

/-- TMM t, acted on, is answered with a STATUS and reply fields and remembered with that reply (R80, R82). -/
def answer (p : Nat) (t : TmmIn) (status : Nat) (body : List (Nat × Nat)) (s : State) : State :=
  let rep := replyTo s p t.bits status body
  queueTmm p rep t.sf (remember p t.bits t.sf (some rep) s)

/-- TMM t is answered BUSY with nothing acted on or kept, so that its repeat with the same SEQ is judged afresh (R80, R99,
R151). -/
def answerBusy (p : Nat) (t : TmmIn) (s : State) : State := queueTmm p (replyTo s p t.bits 1 []) t.sf s

/-- A RANGE_SET of the port waits for its confirmation, or a KEY_ROTATE for its key: no later TMM of the port is acted on
before it is answered (R81, R379). -/
def awaitsConfirm (s : State) (p : Nat) : Bool :=
  (match (regnOf s p).pend with
  | some c => !c.confirmed
  | none => false) ||
  s.shr.deriv.any fun d => match d.2 with | some w => w.1 == p | none => false

/-- An input that the state table marks "·": counted, and answered NOT_IN_STATE where it was addressed to the port alone
(R85). A SILENCE that is not acted on reopens the gate (R154). -/
def notInState (p : Nat) (t : TmmIn) (s : State) : State :=
  let r := regnOf s p
  let id := tf t.bits 383 372
  let own := r.tid == some id || (r.tid.isNone && id == 4095 && tmmDevid t.bits == some (devId s))
  let s1 := rgEvent p 1 (bump (trkR p 0x440) 1 s)
  let s2 := if own then queueTmm p (replyTo s1 p t.bits 2 []) t.sf s1 else s1
  if tf t.bits 371 364 = 0x0E ∧ r.silence.isNone then openGate p s2 else s2

/-- The ANNOUNCE timer restarts at a TMM acted on in ANNOUNCE (R86). -/
def restartAnnounce (p : Nat) (s : State) : State :=
  let r := regnOf s p
  if r.state = .announce then setRegn p { r with annAt := some s.uptime } s else s

/-- The TMM at the head of port p's queue, when it is of the given TYPE and no row before it applies: `ok` says whether
the state table lets the port act on it, `act` does so (R52 to R54, R78 to R85). -/
def withTmm (p type : Nat) (ok : State → TmmIn → Bool) (act : TmmIn → State → State) (s : State) : State :=
  match (framer s p).queue with
  | [] => s
  | t :: rest =>
    if tf t.bits 371 364 = type ∧ knownType s p type ∧ !awaitsConfirm s p then
      let s1 := setFramer p { framer s p with queue := rest } s
      if notDevice s1 p t.bits then bump (trkR p 0x448) 1 s1
      else match rememberedOf s1 p t.bits t.sf with
        | some m =>
          let s2 := bump (trkR p 0x44C) 1 s1
          let s3 := match m.reply with
            | some rep => queueTmm p rep t.sf s2
            | none => s2
          if type = 0x0E ∧ (regnOf s3 p).silence.isNone then openGate p s3 else s3
        | none => if ok s1 t then act t (restartAnnounce p s1) else notInState p t s1
    else s

/-- The states in which an input is acted on, among those where the port holds a TID (R84): RANGE and OPERATE, and
SILENT with one of them as its return state. -/
def inService (s : State) (p : Nat) : Bool :=
  let r := regnOf s p
  r.state == .range || r.state == .operate || (r.state == .silent && (r.ret == .range || r.ret == .operate))
/-- OPERATE, or SILENT with ret OPERATE. -/
def inOperation (s : State) (p : Nat) : Bool :=
  let r := regnOf s p
  r.state == .operate || (r.state == .silent && r.ret == .operate)

/-- A frame named by a timed request lies from SF_rx + 2 to SF_rx + 8,000, a request from the lookout needs downstream timing
(R91, R99), and a request that a takeover has delayed past the start of its effect frame is out of range too (R477): upstream
with the delay now in force, or downstream. -/
def frameInReach (up : Bool) (s : State) (p : Nat) (t : TmmIn) (sf : Nat) : Bool :=
  decide (t.sf + 2 ≤ sf) && decide (sf ≤ t.sf + 8000) && (!t.lookout || hasTiming s p) &&
  !(hasTiming s p && decide ((if up then upStart s p sf (halEqd s p sf) else tRx s p sf) ≤ lineNow s p))

end Sys2Proof.Machine
end

