-- ==== Sys2Proof/Machine/Registration.lean ====
section
/-! DEFINITION. Discovery, registration and ranging (ch. 03): the meanings of their TMMs, timers and host effects, with
GRANT_PROFILE's bindings (R116, R117). -/
namespace Sys2Proof.Machine
open Sys2Proof

/-! ### Allocation contexts (R34, R116, R117) -/

/-- Context c is free. -/
def ctxFree (s : State) (c : Nat) : Bool := (s.contexts.look none c).isNone
/-- CTX_HOME of context c. -/
def homeR (c : Nat) : Nat := 0x06080000 + 8 * c
/-- Contexts with a home key. -/
def homed (s : State) : List Nat :=
  s.regs.keys.filterMap fun a =>
    if homeR 0 ≤ a ∧ a < homeR 4096 ∧ a % 8 = 0 ∧ (reg s a).getLsbD 31 then some ((a - homeR 0) / 8) else none
/-- The context that a bind of (port, ALLOC) takes (R117, R346). -/
def chooseCtx (s : State) (p alloc : Nat) : Option Nat :=
  let hs := homed s
  match hs.find? fun c => ctxFree s c && fld s (homeR c) 27 24 == p && fld s (homeR c) 11 0 == alloc with
  | some c => some c
  | none => (upTo 4096).find? fun c => ctxFree s c && !hs.contains c
/-- Context c bound. -/
def bindCtx (c : Nat) (b : Binding) (s : State) : State := { s with contexts := s.contexts.put c (some b) }
/-- Free contexts (R83, FREE_CTX). -/
def freeCtx (s : State) : Nat := 4096 - (s.contexts.filter fun x => x.2.isSome).length

/-- GRANT_PROFILE (R116). -/
def grantProfile (p : Nat) (t : TmmIn) (s : State) : State :=
  let alloc := tf t.bits 349 338
  let b : Binding := { port := p, alloc := alloc, rpt := tf t.bits 337 330, rigid := t.bits.getLsbD 329 }
  let v2 := (regnOf s p).version == 2
  match tf t.bits 351 350, findCtx s p alloc with
  | 0, some _ => answer p t 3 [] s
  | 0, none =>
    if b.rigid && v2 then answer p t 3 [] s
    else match chooseCtx s p alloc with
      | some c => answer p t 0 [] (bindCtx c b s)
      | none => answer p t 4 [] s
  | 1, none => if alloc = 0 then answer p t 3 [] s else answer p t 5 [] s
  | 1, some (c, _) =>
    if alloc = 0 then answer p t 3 [] s
    else answer p t 0 [] { s with contexts := s.contexts.put c none }
  | 2, none => answer p t 5 [] s
  | 2, some (c, _) => if b.rigid && v2 then answer p t 3 [] s else answer p t 0 [] (bindCtx c b s)
  | _, _ => answer p t 3 [] s

def execGrantProfile (p : Fin 16) (s : State) : Host.Outcome State Fault Refusal :=
  .next (onlyIf (coreOn s) (withTmm p 0x0A (fun x _ => inService x p) (grantProfile p)) s)

/-! ### Discovery (R94 to R97, R104, R105) -/

/-- The instant of a timed LM, with the microseconds it has been moved by. -/
def timedAt (x : TimedLm) : Nat := x.base + 80000 * x.k
/-- The first free microsecond from k on: at least 1 µs from every one of the instants given (R95). -/
def freeMicro (base : Nat) (others : List Nat) : Nat → Nat → Nat
  | 0, k => k
  | n + 1, k =>
    let t := base + 80000 * k
    if others.all fun o => t + 80000 ≤ o || o + 80000 ≤ t then k else freeMicro base others n (k + 1)
/-- A timed LM in its place by instant, after those of the same instant (R95). -/
def insertTimed (x : TimedLm) : List TimedLm → List TimedLm
  | [] => [x]
  | y :: r => if timedAt x < timedAt y then x :: y :: r else y :: insertTimed x r
/-- A timed LM joins those that are placed, at its first free microsecond: each of those closes two of them at most. -/
def placeNext (l : List TimedLm) (x : TimedLm) : List TimedLm :=
  l ++ [{ x with k := freeMicro x.base (l.map timedAt) (2 * l.length + 1) x.k }]
/-- A timed LM takes its place among the device's: in the order of their instants, probe replies before ANNOUNCEs, each
moves to the first microsecond free of those placed before it (R95). -/
def placeTimed (x : TimedLm) (l : List TimedLm) : List TimedLm :=
  let all := (l ++ [x]).foldl (fun m y => insertTimed y m) []
  (all.filter (·.probe) ++ all.filter (!·.probe)).foldl placeNext []

/-- The ANNOUNCE to a hail, its K still 0 (R83). -/
def announceTop (s : State) (p : Nat) (t : TmmIn) (k : Nat) : BitVec 384 :=
  mkTmm (ownId s p) 0x81 (tf t.bits 363 356) p
    [(344, 0), (328, tf t.bits 351 336), (264, devId s), (252, k % 4096),
     (244, bitN (manifestHas s p 2) * 4 + bitN (manifestHas s p 3) * 8), (232, (regnOf s p).lastTid), (219, freeCtx s), (168, t.sf)]

/-- The contention positions of a hail, at most `cap` (R83, R104). -/
def hailWindow (t : BitVec 384) (cap : Nat) : Nat := min (max (tf t 263 252) 1) cap

/-- Whether the port answers a hail: r ≤ ANSWER_P for a random byte r (R94). -/
def answersHail (s : State) (t : BitVec 384) : Bool := decide (freeVal s % 256 ≤ tf t 271 264)

/-- To ANNOUNCE at an answer; the timer restarts (R84, R86). -/
def toAnnounce (p : Nat) (s : State) : State := restartAnnounce p (setState p .announce s)

/-- A version 3 hail: answered with a timed ANNOUNCE on the lookout, at most one in a frame (R94). -/
def answerV3 (p : Nat) (t : TmmIn) (s : State) : State :=
  let r := regnOf s p
  if !t.lookout ∧ r.hailSf = some t.sf then s
  else
    let s0 := if t.lookout then s else setRegn p { r with hailSf := some t.sf } s
    let s1 := drawn s0
    if answersHail s0 t.bits then
      let k := freeVal s1 % hailWindow t.bits 4095
      let x : TimedLm := { port := p, probe := false, base := coreAt s p (tRx s p (t.sf + 2)), k := k, tmm := announceTop s p t 0 }
      toAnnounce p { drawn s1 with timed := placeTimed x s.timed }
    else s1

/-- A quiet window decided on, armed in Backstay too (R104, R141). -/
def addWindow (p : Nat) (q : QuietWindow) (s : State) : State :=
  let r := regnOf s p
  let g := guardOf s p
  setGuard p { g with answers := g.answers.filter (· != (q.sf, q.preEqd)) ++ [(q.sf, q.preEqd)] } (setRegn p { r with qws := r.qws ++ [q] } s)

/-- A version 2 hail: the port decides on its answer burst in the quiet window (R104). -/
def answerV2 (p : Nat) (t : TmmIn) (s : State) : State :=
  let r := regnOf s p
  let s1 := drawn s
  let yes := answersHail s t.bits
  if yes || (r.state == .announce && !r.out2.isEmpty) then
    let k := freeVal s1 % hailWindow t.bits 2857
    let q : QuietWindow := { sf := tf t.bits 249 199, k := k, preEqd := tf t.bits 198 167,
                             announce := if yes then some (announceTop s p t k) else none }
    let s2 := addWindow p q (drawn s1)
    if yes then toAnnounce p s2 else s2
  else s1

/-- HAIL (R94, R104): a wake hail is ignored and counted. It is judged afresh each time and never remembered. One from the
lookout has the port's last consistent SF, as it is acted on, for its HAIL_SF. -/
def hail (p : Nat) (t : TmmIn) (s : State) : State :=
  let t1 := if t.lookout then { t with sf := (framer s p).lastSf.getD 0 } else t
  if t1.bits.getLsbD 251 then bump (trkR p 0x444) 1 s
  else if t1.bits.getLsbD 250 then answerV2 p t1 s
  else answerV3 p t1 s

/-- HAIL: a WAKE hail is counted in every state; the ANNOUNCE timer restarts only at an answer. -/
def hailRow (p : Nat) (s : State) : State :=
  match (framer s p).queue with
  | [] => s
  | t :: rest =>
    if tf t.bits 371 364 = 0x01 ∧ !awaitsConfirm s p then
      let s1 := setFramer p { framer s p with queue := rest } s
      if notDevice s1 p t.bits then bump (trkR p 0x448) 1 s1
      else if t.bits.getLsbD 251 ∨ (regnOf s p).state = .listen ∨ (regnOf s p).state = .announce then hail p t s1
      else notInState p t s1
    else s

def execHail (p : Fin 16) (s : State) : Host.Outcome State Fault Refusal :=
  .next (onlyIf (coreOn s) (hailRow p) s)

/-- VERSION_OFFER: the highest version offered and in the manifest (R96). -/
def versionOffer (p : Nat) (t : TmmIn) (s : State) : State :=
  let has := fun v => t.bits.getLsbD (280 + v) && manifestHas s p v
  let chosen := if has 3 then 3 else if has 2 then 2 else 0
  let s0 := setRegn p { regnOf s p with version := chosen } s
  let s1 := if chosen = 3 then flushOut2 p s0 else s0
  if chosen = 0 then answer p t 6 [(280, devId s), (272, 0)] (rgEvent p 4 s1)
  else answer p t 0 [(280, devId s), (272, chosen)] s1

def execVersionOffer (p : Fin 16) (s : State) : Host.Outcome State Fault Refusal :=
  .next (onlyIf (coreOn s) (withTmm p 0x03 (fun x _ => (regnOf x p).state == .announce) (versionOffer p)) s)

/-- An address-filter entry as the head end writes it: SRC 1 (R62, R97). -/
def headFilter (p k : Nat) (valid : Bool) (id : Nat) : State → State :=
  setRegN (trkR p (0x40 + 4 * k)) (bitN valid * 2 ^ 31 + 2 ^ 30 + id)

/-- ASSIGN_ID (R97). -/
def assignId (p : Nat) (t : TmmIn) (s : State) : State :=
  let id := tf t.bits 282 271
  let tidNow := fun (x : State) => [(332, ownId x p)]
  if t.bits.getLsbD 287 then
    let k := tf t.bits 286 284
    if t.bits.getLsbD 283 ∧ id = 4095 then answer p t 3 (tidNow s) (setBit (trkR p 0x60) 0 true s)
    else if k = 0 then answer p t 3 (tidNow s) s
    else answer p t 0 (tidNow s) (headFilter p k (t.bits.getLsbD 283) id s)
  else if id = 4094 ∨ id = 4095 then answer p t 3 (tidNow s) s
  else match chooseCtx s p 0 with
    | none => answer p t 4 (tidNow s) s
    | some c =>
      let s1 := bindCtx c { port := p, alloc := 0, rpt := 0, rigid := false } s
      let s2 := setRegN (trkR p 0x40) (2 ^ 31 + id) s1
      let s3 := setGuard p { guardOf s2 p with tid := some id } s2
      let s4 := setRegn p { regnOf s3 p with tid := some id, eqd := 0, eqdOld := 0, eqdFrom := 0 } s3
      let s5 := setState p .range (rgEvent p 5 (setWaiken p { waiken s4 p with phase := 0 } s4))
      answer p t 0 (tidNow s5) s5

/-- MODE 0 is acted on in ANNOUNCE after an accepted version, MODE 1 in service (R84). -/
def assignOk (p : Nat) (s : State) (t : TmmIn) : Bool :=
  if t.bits.getLsbD 287 then inService s p else (regnOf s p).state == .announce && (regnOf s p).version != 0

def execAssignId (p : Fin 16) (s : State) : Host.Outcome State Fault Refusal :=
  .next (onlyIf (coreOn s) (withTmm p 0x05 (assignOk p) (assignId p)) s)

/-! ### Ranging (R98 to R103) -/

/-- The states in which RANGE_SET and RANGE_PROBE are acted on. -/
def ranging (s : State) (p : Nat) : Bool :=
  let st := (regnOf s p).state
  st == .range || st == .operate || st == .silent

/-- RANGE_SET: checked, and the change written to Halyard and Backstay, each still to confirm it (R99, R101). -/
def rangeSet (p : Nat) (t : TmmIn) (s : State) : State :=
  let r := regnOf s p
  let v := tf t.bits 351 320
  let sf := tf t.bits 319 269
  let done := t.bits.getLsbD 268
  let coarse := t.bits.getLsbD 267
  let cur := halEqd s p sf
  let small := decide (v ≤ cur + 1600) && decide (cur ≤ v + 1600)
  let okArgs := frameInReach true s p t sf && (!coarse || r.state == .range) && ((r.state == .range && coarse) || small) &&
    (!done || r.state == .range || (r.state == .silent && r.ret == .range))
  let c : EqdChange := { eqd := v, sfEff := sf, done := done, confirmed := false, seq := tf t.bits 363 356,
                         idField := tf t.bits 383 372, sfRx := t.sf, lookout := t.lookout }
  if !okArgs then answer p t 3 [] s
  else match r.pend with
    | some old => if sf ≤ old.sfEff then answer p t 1 [] s else setPend p (some c) (some old) s
    | none => setPend p (some c) none s

def execRangeSet (p : Fin 16) (s : State) : Host.Outcome State Fault Refusal :=
  .next (onlyIf (coreOn s) (withTmm p 0x06 (fun x _ => ranging x p) (rangeSet p)) s)

/-- EQD_CONFIRM: both hold the change, OK is queued and a change it replaces is gone, or it is withdrawn from both with BUSY
and the change it was to replace stands again (R99, R101, R86). -/
def eqdConfirm (p : Nat) (both : Bool) (s : State) : State :=
  let r := regnOf s p
  match r.pend with
  | none => s
  | some c =>
    if c.confirmed then s
    else if both then
      let s1 := setGuard p { guardOf s p with eqd := some ((guardOf s p).eqd.getD 0) } s
      let s2 := setRegn p { r with pend := some { c with confirmed := true }, pendOld := none, ranged := true,
                                   rangeAt := if c.done then none else r.rangeAt } s1
      let s3 := if r.pendOld.isSome then bumpHi (trkR p 0x454) 1 s2 else s2
      answer p (changeTmm c) 0 [] s3
    else answerBusy p (changeTmm c) (setPend p r.pendOld none s)

def execEqdConfirm (p : Fin 16) (halyard backstay : Bool) (s : State) : Host.Outcome State Fault Refusal :=
  .next (onlyIf (coreOn s) (eqdConfirm p (halyard && backstay)) s)

/-- Port p's grants without those of a list. -/
def dropCut (p : Nat) (l : List Grant) (s : State) : State :=
  let h := halyard s p
  setHalyard p { h with grants := h.grants.filter fun x => !l.any fun g => g.sf == x.sf && g.start == x.start,
                        txOpen := h.txOpen && !l.any (·.launched) } s

/-- Bursts of the frame before a shrinking change that would still be transmitting at the cut instant are cut there: slots,
grants, event (R100). -/
def cutForEqd (p sf old new : Nat) (s : State) : State :=
  if old ≤ new then s
  else
    let gs := (halyard s p).grants
    let early := gs.any fun g => g.sf == sf && g.start < 2 && !g.cont
    let firstBit := gs.foldl (fun (m : Nat) g => if g.sf == sf && g.start < 2 && !g.cont then max m (2 - g.start) else m) 0
    let cut : Int := (upStart s p sf new : Int) - (if early then 500 * (firstBit : Int) else 0)
    let hit := gs.filter fun g => g.sf + 1 == sf && decide (cut < (upStart s p g.sf old : Int) + 500 * (g.start + g.len : Nat))
    let slots := total (hit.map fun g =>
      let a : Int := (upStart s p g.sf old : Int) + 500 * g.start
      ((a + 500 * g.len - max cut a + 499) / 500).toNat)
    if hit.isEmpty then s
    else
      let s1 := missGrants p missCut hit.length (codewordEdge s p cut gs true) gs hit (dropCut p hit s)
      rgEvent p 3 (bumpLo (trkR p 0x454) slots (dozeIn p s1))

/-- EQD_CHANGE_APPLY: the confirmed change applies at the start of upstream frame SF_EFF, the two lead slots of its first
grant included (R100, R101, R145). -/
def eqdApply (p : Nat) (s : State) : State :=
  let r := regnOf s p
  match r.pend with
  | none => s
  | some c =>
    if !c.confirmed || decide (lineNow s p + 1000 < upStart s p c.sfEff c.eqd) then s
    else
      let s1 := cutForEqd p c.sfEff (halEqd s p (c.sfEff - 1)) c.eqd s
      let g := guardOf s1 p
      let w := waiken s1 p
      let step := if c.eqd % 100 != w.phase then some (upStart s p c.sfEff c.eqd : Int) else w.stepAt
      let s2 := setWaiken p { w with phase := c.eqd % 100, stepAt := step }
        (setGuard p { g with eqdOld := g.eqd.getD 0, eqd := some c.eqd, eqdFrom := c.sfEff, pend := none } s1)
      let r2 := regnOf s2 p
      let s3 := rgEvent p 2 (setRegn p { r2 with eqdOld := r2.eqd, eqd := c.eqd, eqdFrom := c.sfEff, pend := none } s2)
      if !c.done then s3
      else match (regnOf s3 p).state with
        | .range => setState p .operate s3
        | .silent => if (regnOf s3 p).ret = .range then setRegn p { regnOf s3 p with ret := .operate } s3 else s3
        | _ => s3

def execEqdChangeApply (p : Fin 16) (s : State) : Host.Outcome State Fault Refusal :=
  .next (onlyIf (coreOn s) (eqdApply p) s)

/-- RANGE_PROBE: one timed LM at t_rx(SF_REF) + EqD + OFFSET (R103). -/
def rangeProbe (p : Nat) (t : TmmIn) (s : State) : State :=
  let sf := tf t.bits 351 301
  if !frameInReach true s p t sf then answer p t 3 [] s
  else
    let x : TimedLm := { port := p, probe := true, base := coreAt s p (upStart s p sf (halEqd s p sf + tf t.bits 300 269)),
                         k := 0, tmm := t.bits }
    remember p t.bits t.sf none { s with timed := placeTimed x s.timed }

def execRangeProbe (p : Fin 16) (s : State) : Host.Outcome State Fault Refusal :=
  .next (onlyIf (coreOn s) (withTmm p 0x07 (fun x _ => ranging x p) (rangeProbe p)) s)

/-! ### Silence, release, echo (R83, R84, R87, R151) -/

/-- A silence of DURATION frames begins or replaces the one in force (R84). -/
def silencePort (p dur reason : Nat) (s : State) : State :=
  let r := regnOf s p
  let s1 := setRegn p { r with silence := some { left := dur, endless := dur = 0, reason := reason } } s
  match r.state with
  | .announce => toSilent p .announce s1
  | .range => toSilent p .range s1
  | .operate => toSilent p .operate s1
  | _ => s1

/-- The states in which a SILENCE is acted on (R84). -/
def silenceOk (s : State) (p : Nat) : Bool :=
  let st := (regnOf s p).state
  st == .announce || st == .range || st == .operate || st == .silent

def execSilence (p : Fin 16) (s : State) : Host.Outcome State Fault Refusal :=
  .next (onlyIf (coreOn s) (withTmm p 0x0E (fun x _ => silenceOk x p)
    fun t x => answer p t 0 [] (silencePort p (tf t.bits 351 320) (tf t.bits 319 312) x)) s)

/-- The MUZZLED latch is cleared by an accepted UNMUZZLE or host unlock (R149). -/
def clearMuzzle (p : Nat) (s : State) : State := endSilent p (forceOn p (setBit (bksR p 4) 31 false s))

/-- UNMUZZLE (R151): MUZZLE_CLR is judged by what Backstay showed as the TMM was decoded. -/
def unmuzzle (p : Nat) (t : TmmIn) (s : State) : State :=
  let clr := t.bits.getLsbD 350
  if clr && !t.mayClear then answerBusy p t s
  else
    let s1 := if clr then forceOn p (setBit (bksR p 4) 31 false s) else s
    let s2 := if t.bits.getLsbD 351 then endSilence p s1 else s1
    answer p t 0 [] (endSilent p s2)

def execUnmuzzle (p : Fin 16) (s : State) : Host.Outcome State Fault Refusal :=
  .next (onlyIf (coreOn s) (withTmm p 0x0F (fun x _ => (regnOf x p).state == .silent) (unmuzzle p)) s)

/-- RELEASE: accepted, to take effect at the end of upstream frame SF_rx + 2; in HOLD, where no upstream frame runs, at
once (R84, R87). -/
def release (p : Nat) (t : TmmIn) (s : State) : State :=
  let r := regnOf s p
  let s1 := answer p t 0 [] (setRegn p { r with releaseReason := tf t.bits 351 344 } s)
  if r.state = .hold then leave p .init s1
  else setRegn p { regnOf s1 p with releaseAt := some t.sf } s1

def execRelease (p : Fin 16) (s : State) : Host.Outcome State Fault Refusal :=
  .next (onlyIf (coreOn s) (withTmm p 0x10 (fun x _ => silenceOk x p || (regnOf x p).state == .hold) (release p)) s)

/-- RELEASE_EFFECT: upstream frame SF_rx + 2 has ended (R87). -/
def releaseEffect (p : Nat) (s : State) : State :=
  match (regnOf s p).releaseAt with
  | none => s
  | some sf => if upStart s p (sf + 3) (halEqd s p (sf + 3)) ≤ lineNow s p then leave p .listen s else s

def execReleaseEffect (p : Fin 16) (s : State) : Host.Outcome State Fault Refusal :=
  .next (onlyIf (coreOn s) (releaseEffect p) s)

/-- ECHO: the 192 DATA bits returned unchanged (R83). -/
def execEcho (p : Fin 16) (s : State) : Host.Outcome State Fault Refusal :=
  .next (onlyIf (coreOn s) (withTmm p 0x12 (fun x _ => (regnOf x p).state != .init && (regnOf x p).state != .hold)
    fun t x => answer p t 0 [(152, tf t.bits 287 96)] x) s)

/-- TMM_UNKNOWN: a TYPE outside the table, send-only, or outside version 2 is ignored and counted (R78, R38); to 4,095 on a
port without a TID it is discarded and counted as such (R79). -/
def tmmUnknown (p : Nat) (s : State) : State :=
  match (framer s p).queue with
  | [] => s
  | t :: rest =>
    if knownType s p (tf t.bits 371 364) || awaitsConfirm s p then s
    else
      let s1 := setFramer p { framer s p with queue := rest } s
      if notDevice s1 p t.bits then bump (trkR p 0x448) 1 s1 else bump (trkR p 0x444) 1 s1

def execTmmUnknown (p : Fin 16) (s : State) : Host.Outcome State Fault Refusal :=
  .next (onlyIf (coreOn s) (tmmUnknown p) s)

/-! ### Timers and the end of a silence (R84, R86) -/

/-- A timer started at `start` with the value at register a has expired. -/
def expired (s : State) (start : Option Nat) (a : Nat) : Bool :=
  match start with
  | some x => decide (x + timerTicks s a ≤ s.uptime)
  | none => false

/-- ANNOUNCE_TIMER_EXPIRY. -/
def execAnnounceTimerExpiry (p : Fin 16) (s : State) : Host.Outcome State Fault Refusal :=
  .next (onlyIf (coreOn s && !portDark s p && expired s (regnOf s p).annAt (trkR p 0x418)) (leave p .listen) s)

/-- RANGE_TIMER_EXPIRY. -/
def execRangeTimerExpiry (p : Fin 16) (s : State) : Host.Outcome State Fault Refusal :=
  .next (onlyIf (coreOn s && !portDark s p && expired s (regnOf s p).rangeAt (trkR p 0x41C)) (leave p .listen) s)

/-- HOLD_TIMER_EXPIRY. -/
def execHoldTimerExpiry (p : Fin 16) (s : State) : Host.Outcome State Fault Refusal :=
  .next (onlyIf (coreOn s && !portDark s p && expired s (regnOf s p).holdAt (trkR p 0x420)) (leave p .init) s)

/-- The silence in force has run its frames. -/
def silenceOver (s : State) (p : Nat) : Bool :=
  match (regnOf s p).silence with
  | some x => !x.endless && x.left == 0 && (regnOf s p).state != .hold
  | none => false

/-- SILENCE_DURATION_END. -/
def execSilenceDurationEnd (p : Fin 16) (s : State) : Host.Outcome State Fault Refusal :=
  .next (onlyIf (coreOn s && silenceOver s p) (endSilence p) s)

/-- REPLY_LOOKOUT_FALLBACK: the oldest reply that no burst took by the end of upstream frame SF_rx + 9 (R82). -/
def replyFallback (p : Nat) (s : State) : State :=
  let r := regnOf s p
  match r.out.find? (fun t => upStart s p (t.sf + 10) (halEqd s p (t.sf + 10)) ≤ lineNow s p) with
  | none => s
  | some t => if speaksLookout s p then queueLm p false t.bits (setRegn p { r with out := r.out.erase t } s) else s

def execReplyLookoutFallback (p : Fin 16) (s : State) : Host.Outcome State Fault Refusal :=
  .next (onlyIf (coreOn s) (replyFallback p) s)

/-! ### The host's registration commands: effect and status (R84, R85, R88) -/

/-- A host command that the state table marks "·" (R85). -/
def hostNotInState (p : Nat) (s : State) : State := rgEvent p 1 (bump (trkR p 0x440) 1 s)

/-- REG_ENABLE (R84, R88). -/
def regEnable (p : Nat) (en : Bool) (s : State) : State :=
  let s1 := setBit (trkR p 0x400) 0 en s
  trkFollow p (trunkDisabled s p)
    (if en then (if hasTiming s1 p then downstreamAcquired p s1 else s1) else leave p .init s1)

/-- REG_RELEASE: at once (R87, R88). -/
def regRelease (p : Nat) (s : State) : State × Nat :=
  match (regnOf s p).state with
  | .init => (hostNotInState p s, 2)
  | .listen => (hostNotInState p s, 2)
  | .hold => (leave p .init s, 0)
  | _ => (leave p .listen s, 0)

/-- REG_SILENCE: as a SILENCE TMM with reason 0xFF; the gate closes with the command (R88, R154). -/
def regSilence (p dur : Nat) (s : State) : State × Nat :=
  if silenceOk s p then (closeGate p (silencePort p dur 0xFF s), 0) else (hostNotInState p s, 2)

end Sys2Proof.Machine
end

