-- ==== Sys2Proof/Machine/Backstay.lean ====
section
/-! DEFINITION. The transmit guard (ch. 05): windows, cut-off, the MUZZLED latch, dry-fires, faults of the guard, and its
commands. -/
namespace Sys2Proof.Machine
open Sys2Proof

/-! ### Windows (R141 to R145) -/

/-- The instant of slot k of a window's frame, in Backstay's timing (R141, R145). -/
def windowAt (s : State) (p : Nat) (w : Window) (k : Int) : Int :=
  (upStart s p w.sf (w.pre.getD (bksEqd s p w.sf)) : Int) + 500 * k
/-- Start and end of a window. -/
def windowFrom (s : State) (p : Nat) (w : Window) : Int := windowAt s p w w.first
def windowTo (s : State) (p : Nat) (w : Window) : Int := windowAt s p w (w.last + 1)

/-- A window in its place, merged with those of its list that it overlaps or touches (R141). -/
def mergeInto (w : Window) : List Window → List Window
  | [] => [w]
  | x :: r =>
    if w.last + 1 < x.first then w :: x :: r
    else if x.last + 1 < w.first then x :: mergeInto w r
    else mergeInto { w with first := min w.first x.first, last := max w.last x.last } r

/-- The windows that a map's entries give: those for the port's TID, and for an armed version 2 answer (R141). -/
def windowsOf (g : Guard) (f : Nat) (es : List Nat) : List Window :=
  let good := es.filter rangeOk
  let win := fun (pre : Option Nat) (e : Nat) =>
    ({ sf := f, first := (bits e 39 25 : Int) - 2, last := (bits e 39 25 + bits e 24 10 : Nat) - 1, pre := pre } : Window)
  let own := (good.filter fun e => g.tid == some (bits e 63 52)).map (win none)
  let hailed := (g.answers.filter fun a => a.1 == f).flatMap fun a =>
    ((good.filter fun e => bits e 63 52 == 4095 && bits e 51 40 == 0).map (win (some a.2))).foldr mergeInto []
  own.foldr mergeInto [] ++ hailed

/-- Windows that take store: those that have not ended, and for 1 ms more those that have (R143; DESIGN CHOICE, log entry 214). -/
def openWindows (s : State) (p : Nat) : List Window :=
  (guardOf s p).windows.filter fun w => decide ((lineNow s p : Int) ≤ windowTo s p w + 80000000)

/-- Where EqD shrinks at the frame after a window's, the cut instant of R100: no legal interval ends later than TOL after it
(R145). -/
def windowCap (s : State) (p : Nat) (w : Window) : Option Int :=
  let q := bksEqd s p w.sf
  let q' := bksEqd s p (w.sf + 1)
  if w.pre.isSome || q ≤ q' then none
  else
    let early := (guardOf s p).windows.filter fun x => x.sf == w.sf + 1 && x.pre.isNone && decide (x.first < 0)
    some (early.foldl (fun m x => min m (windowFrom s p x)) (upStart s p (w.sf + 1) q' : Int))

/-- The span of a window at the pins, from its first instant to that after its last (R141, R145). -/
def windowSpan (s : State) (p : Nat) (w : Window) : Int × Int :=
  (windowFrom s p w, match windowCap s p w with | some c => min c (windowTo s p w) | none => windowTo s p w)

/-- A span among disjoint ones, merged with those that it overlaps or touches (R141). -/
def mergeSpan (a : Int × Int) : List (Int × Int) → List (Int × Int)
  | [] => [a]
  | x :: r =>
    if a.2 < x.1 then a :: x :: r
    else if x.2 < a.1 then x :: mergeSpan a r
    else mergeSpan (min a.1 x.1, max a.2 x.2) r

/-- The merged windows of port p that a list of its windows makes, whichever maps they come from (R141, R143). -/
def mergedSpans (s : State) (p : Nat) (ws : List Window) : List (Int × Int) := (ws.map (windowSpan s p)).foldr mergeSpan []

/-- BACKSTAY_MAP: the oldest map handed to Backstay (R140, R141, R143, R144, R155). -/
def backstayMap (p : Nat) (s : State) : State :=
  let g := guardOf s p
  match g.maps with
  | [] => s
  | m :: rest =>
    let s1 := setGuard p { g with maps := rest } s
    match m.bytes with
    | none => s1
    | some b =>
      if !mapGood b then bump (bksR p 0x24) 1 s1
      else if g.gateClosed || !hasTiming s p then s1
      else
        let f := m.sf + 2
        let new := windowsOf g f (goodEntries b)
        let old := openWindows s1 p
        if 262144 < (mergedSpans s1 p (old ++ new)).length then
          setGuard p { g with maps := rest, windows := old, closed := g.closed ++ [f] } s1
        else setGuard p { g with maps := rest, windows := old ++ new } s1

def execBackstayMap (p : Fin 16) (s : State) : Host.Outcome State Fault Refusal :=
  .next (onlyIf (coreOn s) (backstayMap p) s)

/-- TOL in 12.5 ps units: below 8 acts as 8 (R142). -/
def guardTol (s : State) : Nat := 5 * max 8 (fld s 0x01200000 3 0)

/-- Instant t lies in the legal interval of some merged window of port p (R142, R145). -/
def legalAt (s : State) (p t : Nat) : Bool :=
  (mergedSpans s p (guardOf s p).windows).any fun w =>
    decide (w.1 - guardTol s ≤ t) && decide ((t : Int) ≤ w.2 + guardTol s)

/-- CLOSED_FRAME: the upstream frame whose windows did not fit begins, or ends, to a tick of the clock; where EqD shrinks the next one
begins before (R100, R143). -/
def closedFrame (p : Nat) (start : Bool) (s : State) : State :=
  let g := guardOf s p
  let n := upFrameAt s p (lineNow s p)
  if start then
    if g.closed.contains n && hasTiming s p then
      bump (bksR p 0x2C) 1 (setGuard p { g with closed := g.closed.erase n, closedNow := g.closedNow ++ [n] } s)
    else s
  else setGuard p { g with closedNow := g.closedNow.filter fun k => decide (lineNow s p + 3200 < upStart s p k (bksEqd s p k) + 10000000) } s

def execClosedFrame (p : Fin 16) (start : Bool) (s : State) : Host.Outcome State Fault Refusal :=
  .next (onlyIf (coreOn s) (closedFrame p start) s)

/-- The interval of an armed answer is over at instant t, or has begun (R146). -/
def answerOver (s : State) (p t : Nat) (a : Nat × Nat) : Bool := decide (upStart s p a.1 a.2 + 10000000 ≤ t)
def answerBegun (s : State) (p t : Nat) (a : Nat × Nat) : Bool := decide (upStart s p a.1 a.2 ≤ t + 32000)

/-- VERSION_2_ANSWER_INTERVAL: it opens 64 slots before upstream frame QW_SF and closes at that frame's end, placed with
PRE_EQD (R146); an answer that has not left by then is missed (R104). -/
def answerInterval (p : Nat) (start : Bool) (s : State) : State :=
  let g := guardOf s p
  let t := lineNow s p
  let left := g.answers.filter fun a => !answerOver s p t a
  let opened : Bool := left.any (answerBegun s p t)
  if start then if opened && hasTiming s p then setGuard p { g with answerOpen := true } s else s
  else
    let done := fun (sf pre : Nat) => answerOver s p t (sf, pre)
    let s1 := forAll (fun q x => if headerLeft s p q then endAnswer p q x else loseWindow p q x)
      ((regnOf s p).qws.filter fun q => done q.sf q.preEqd) s
    let s2 := setHalyard p { halyard s1 p with qwGrants := (halyard s1 p).qwGrants.filter fun x => left.any (·.1 == x.1) } s1
    let open1 := g.windows.filter fun w => w.pre.all fun pre => !done w.sf pre
    setGuard p { guardOf s2 p with answers := left, answerOpen := opened && g.answerOpen, windows := open1 } s2

def execVersion2AnswerInterval (p : Fin 16) (start : Bool) (s : State) : Host.Outcome State Fault Refusal :=
  .next (onlyIf (coreOn s) (answerInterval p start) s)

/-! ### Cut-off and the latch (R148 to R153) -/

/-- CLEAN becomes 0 while MUZZLED is set (R150). -/
def unclean (p : Nat) (s : State) : State := if muzzled s p then setFld (bksR p 4) 1 0 0 s else s

/-- The copies still in service (COPY_OK). -/
def copyOk (s : State) (p i : Nat) : Bool := bitAt s (bksR p 4) (20 + i)
def copiesOk (s : State) (p : Nat) : Nat := total ((upTo 3).map fun i => bitN (copyOk s p i))

/-- The voter cuts on these flags: two of three copies, or either of two (R148, R159). -/
def voterCuts (s : State) (p : Nat) (votes : BitVec 3) : Bool :=
  let n := total ((upTo 3).map fun i => bitN (copyOk s p i && votes.getLsbD i))
  if copiesOk s p = 3 then decide (2 ≤ n) else decide (1 ≤ n)

/-- The upstream slot in which instant t falls (CAUSE.SLOT): in the gap before a frame the last of the frame that has ended, and
inside a version 2 answer interval by Backstay's own EqD (log entry 209). -/
def slotOf (s : State) (p t : Nat) : Nat :=
  let n := upFrameAt s p t
  min 19999 ((t - upStart s p n (bksEqd s p n)) / 500)

/-- The first slot s of upstream frame n such that no window lies in slots s − 8 to s + 8 (R157): slot 0, or the ninth
after a window. -/
def freeSlot (s : State) (p n : Nat) : Option Int :=
  let ws := (guardOf s p).windows.map fun w =>
    let o : Int := 20000 * ((w.sf : Int) - n)
    (w.first + o, w.last + o)
  let ok := fun (k : Int) => decide (0 ≤ k) && decide (k < 20000) &&
    ws.all fun w => decide (w.2 < k - 8) || decide (k + 8 < w.1)
  let cands := (0 :: ws.map fun w => w.2 + 9).filter ok
  cands.foldl (fun m k => match m with | none => some k | some x => some (min x k)) none

/-- A periodic dry-fire is due in upstream frame n (R157): TXDIS_N is released, and the frame's SF is a multiple of 1,000 or an
earlier run has been put off. -/
def runDue (s : State) (p n : Nat) : Bool :=
  txReleased s p && !inGap s p (lineNow s p) && (n % 1000 == 0 || (guardOf s p).defer.isSome)

/-- Where the run due in upstream frame n has its slots s to s + 2, as instants (R157). -/
def runSpan (s : State) (p n : Nat) : Option (Int × Int) :=
  (freeSlot s p n).map fun k =>
    let a : Int := upStart s p n (bksEqd s p n) + 500 * k
    (a, a + 1500)

/-- A violation at instant t discards the periodic run that is under way then, and that ends the deferral count (R157, R162). -/
def discardRun (p t : Nat) (s : State) : State :=
  let n := upFrameAt s p t
  match runSpan s p n with
  | some (a, b) => if runDue s p n && decide (a ≤ t) && decide ((t : Int) < b) then setGuard p { guardOf s p with defer := none } s else s
  | none => s

/-- CUT_OFF: the tap shows the burst enable asserted at an instant, and these copies flag it. Driven low, it is blocked;
inside a legal interval nothing happens; outside every one the cut-off fires (R146, R148, R149). -/
def cutOff (p t : Nat) (votes : BitVec 3) (s : State) : State :=
  if !txReleased s p then bump (bksR p 0x28) 1 (unclean p s)
  else if legalAt s p t || !voterCuts s p votes then s
  else
    let s1 := bump (bksR p 0x20) 1 (discardRun p t s)
    let s2 := setMuzzle p 1 votes.toNat (slotOf s p t) s1
    muzzleRow p (missAnswer p (cutBurst p missGuard missState (forceOff p s2)))

def execCutOff (p : Fin 16) (instant : Nat) (votes : BitVec 3) (s : State) : Host.Outcome State Fault Refusal :=
  .next (onlyIf (coreOn s) (cutOff p instant votes) s)

/-- MUZZLE_ALERT_REPEAT: 25,000,000 ticks after the last, while the latch is set and TX_EN permits (R153). -/
def repeatAlert (p : Nat) (s : State) : State :=
  if muzzled s p && (bitAt s 0x01300000 4 || bitAt s 0x01300000 5) && decide ((guardOf s p).alertAt + 25000000 ≤ s.uptime) then
    alertMuzzled p s
  else s

def execMuzzleAlertRepeat (p : Fin 16) (s : State) : Host.Outcome State Fault Refusal :=
  .next (onlyIf (coreOn s) (repeatAlert p) s)

/-- The upstream frame that has ended last, in Backstay's timing (R100, R150). -/
def frameEnded (s : State) (p : Nat) : Nat :=
  let t := lineNow s p
  if inGap s p t then upFrameAt s p t else upFrameAt s p t - 1

/-- CLEAN_FRAME_COUNT: an upstream frame ends while the latch is set and the port holds downstream timing (R150). It counts
if it also began so, and once. -/
def cleanFrame (p : Nat) (clean : Bool) (s : State) : State :=
  if !muzzled s p || !hasTiming s p then s
  else if !clean then setFld (bksR p 4) 1 0 0 s
  else
    let n := frameEnded s p
    if n < (guardOf s p).cleanFrom then s
    else setGuard p { guardOf s p with cleanFrom := n + 1 } (setFld (bksR p 4) 1 0 (min 3 (fld s (bksR p 4) 1 0 + 1)) s)

def execCleanFrameCount (p : Fin 16) (clean : Bool) (s : State) : Host.Outcome State Fault Refusal :=
  .next (onlyIf (coreOn s) (cleanFrame p clean) s)

/-- The unlock sequence pending on a path. -/
def setUnlock (a : Path) (u : Option (Nat × Nat)) (s : State) : State := setPath a { pathOf s a with unlock := u } s
/-- UNLOCK_REJ. -/
def unlockRej : State → State := setBit 0x01200004 0 true

/-- "Host unlock" (R84, R85, R152): the latch is cleared; where the state table marks the input "·", it also counts. -/
def hostUnlock (p : Nat) (s : State) : State :=
  match (regnOf s p).state with
  | .silent => clearMuzzle p s
  | .hold => clearMuzzle p s
  | _ => let s1 := clearMuzzle p s
    if coreOn s then hostNotInState p s1 else s1

/-- A write of UNLOCK with KEY and PORT on a path (R152). -/
def writeUnlock (a : Path) (key p : Nat) (s : State) : State :=
  if a = .xt then s
  else match (pathOf s a).unlock with
    | none =>
      if key = 0x5EA1 then setUnlock a (some (p, s.uptime)) s
      else if key = 0xA15E then unlockRej s
      else s
    | some (q, t) =>
      if key = 0xA15E ∧ p = q then
        let s1 := setUnlock a none s
        if t + 25000 < s.uptime ∨ guardFault s p then unlockRej s1 else hostUnlock p s1
      else unlockRej (setUnlock a (if key = 0x5EA1 then some (p, s.uptime) else none) s)

def execUnlockFirstWrite (path : Path) (p : Fin 16) (s : State) : Host.Outcome State Fault Refusal :=
  .next (writeUnlock path 0x5EA1 p s)

def execUnlockSecondWrite (path : Path) (p : Fin 16) (s : State) : Host.Outcome State Fault Refusal :=
  .next (writeUnlock path 0xA15E p s)

/-- SILENCE_GATE_CLOSE: the first slot boundary after a SILENCE was decoded (R154). -/
def execSilenceGateClose (p : Fin 16) (s : State) : Host.Outcome State Fault Refusal :=
  .next (onlyIf (coreOn s && (guardOf s p).gateDue) (closeGate p) s)

/-! ### Faults in the guard (R158, R159) -/

/-- GUARD_FAULT is set. -/
def setGuardFault (p : Nat) : State → State := setBit (bksR p 4) 27 true

/-- The copies of a mask are faulted; with two faulted the port is muzzled, with CAUSE TWO_COPIES unless a failed
dry-fire has just recorded its own (R159). CAUSE then holds as VOTES the copies not named by the mask, and the present slot, 0 without
timing (DESIGN CHOICE, log entry 215). -/
def faultCopies (p : Nat) (mask : BitVec 3) (failed : Bool) (s : State) : State :=
  let new := (upTo 3).filter fun i => mask.getLsbD i && copyOk s p i
  let s1 := forAll (fun i x => bksEvent p 3 (bumpLo (bksR p 0x38) 1 (unclean p (logGuard p (Config.logCode 0xC i) (setBit (bksR p 4) (20 + i) false x))))) new s
  if copiesOk s1 p ≤ 1 && !new.isEmpty then
    let s2 := setGuardFault p s1
    if failed then s2 else muzzleRow p (setMuzzle p 3 (7 - mask.toNat) (if hasTiming s p then slotOf s p (lineNow s p) else 0) s2)
  else s1

def execCopyFault (p : Fin 16) (copy : Fin 3) (s : State) : Host.Outcome State Fault Refusal :=
  .next (onlyIf (coreOn s) (faultCopies p (BitVec.ofNat 3 (2 ^ copy.val)) false) s)

/-- LAST_TEST is recorded. -/
def lastTest (p : Nat) (pass : Bool) (f : Firing) : State → State :=
  setRegN (bksR p 0x14) (2 ^ 31 + bitN pass * 2 ^ 30 + f.seen.toNat * 2 ^ 27 + (if f.wasHigh then f.latency.toNat else 0xFF))

/-- A failed dry-fire (R158). -/
def failTest (p : Nat) (f : Firing) (s : State) : State :=
  let s1 := bksEvent p 4 (bumpLo (bksR p 0x34) 1 (setGuardFault p s))
  muzzleRow p (setMuzzle p 2 f.seen.toNat (if hasTiming s p then slotOf s p (lineNow s p) else 0) s1)

/-- The ball is found held low. -/
def lowSeen (p : Nat) (s : State) : State := bksEvent p 1 (setGuard p { guardOf s p with pin := some false } s)

/-- The ball held low by the board at an injection: no failed dry-fire, only PIN_FAULT, with its record where it was not known yet
(R156, R161, R482). -/
def heldLow (p : Nat) (s : State) : State := withPins 1 p ((guardOf s p).pin != some false) (lowSeen p) s

/-- The firings made: up to the first that does not meet its bound, four at most (R156). -/
def firingsMade : List Firing → List Firing
  | [] => []
  | f :: r => if f.wasHigh && f.fellInTime then f :: firingsMade r else [f]

/-- The copies that did not flag in firing i though injected: copy i alone in firings 1 to 3, all three in firing 4. -/
def quietCopies (i : Nat) (f : Firing) : BitVec 3 :=
  let injected : BitVec 3 := if i < 3 then BitVec.ofNat 3 (2 ^ i) else 7
  injected &&& ~~~f.seen

/-- Fewer than two copies flag in the firing that uses the voter (R158). -/
def tooFew (i : Nat) (f : Firing) : Bool :=
  i == 3 && decide (total ((upTo 3).map fun k => bitN (f.seen.getLsbD k)) < 2)

/-- The sequence of R156: TXDIS_N low, TEST_PASSED cleared, the firings; `retest` for one started by P_CTL.RETEST. -/
def dryFire (p : Nat) (retest : Bool) (shots : List Firing) (s : State) : State :=
  let made := firingsMade (shots.take 4)
  let s0 := setBit (bksR p 4) 25 false s
  match made.getLast? with
  | none => s0
  | some f =>
    let i := made.length - 1
    let met := f.wasHigh && f.fellInTime && !tooFew i f
    let pass := met && made.length == 4
    let s1 := lastTest p pass f s0
    if !f.wasHigh then heldLow p s1
    else
      let s2 := forceOn p (setGuard p { guardOf s1 p with pin := none } s1)
      if pass then
        let s3 := bump (bksR p 0x30) 1 (setBit (bksR p 4) 25 true s2)
        let s4 := if retest then setFld (bksR p 4) 22 20 7 (setBit (bksR p 4) 27 false s3) else s3
        faultCopies p (quietCopies i f) false s4
      else if met then s2
      else faultCopies p (quietCopies i f) true (failTest p f s2)

/-- DRY_FIRE_STARTUP: the port's transmit clock lane has become active (R156). -/
def execDryFireStartup (p : Fin 16) (shots : List Firing) (s : State) : Host.Outcome State Fault Refusal :=
  .next (onlyIf (coreOn s && (laneOf s (256 + p)).tx == 5) (dryFire p false shots) s)

/-- RETEST: only while TXDIS_N is driven low (R158). -/
def execRetest (p : Fin 16) (shots : List Firing) (s : State) : Host.Outcome State Fault Refusal :=
  .next (onlyIf (coreOn s && !txReleased s p) (dryFire p true shots) s)

/-- PERIODIC_DRY_FIRE: due in a frame whose SF is a multiple of 1,000, or in the frames after one that had no free slot
(R157). Without a free slot the deferral count starts. TXDIS_N is low until slot s + 3. -/
def periodicDryFire (p : Nat) (f : Firing) (s : State) : State :=
  let g := guardOf s p
  let n := upFrameAt s p (lineNow s p)
  if !runDue s p n then s
  else match runSpan s p n with
    | none => countDefer p (setGuard p { g with defer := some (g.defer.getD (0, n + 1)) } s)
    | some run =>
      let s1 := setGuard p { g with defer := none, testUntil := run.2.toNat, pin := if f.wasHigh then none else g.pin } s
      let seen := total ((upTo 3).map fun k => bitN (f.seen.getLsbD k))
      let s2 := lastTest p (f.wasHigh && f.fellInTime && seen == 3) f s1
      if !f.wasHigh then heldLow p s2
      else if f.fellInTime && seen == 3 then bump (bksR p 0x30) 1 s2
      else if f.fellInTime && seen == 2 then faultCopies p (7 &&& ~~~f.seen) false s2
      else faultCopies p (7 &&& ~~~f.seen) true (failTest p f s2)

def execPeriodicDryFire (p : Fin 16) (shot : Firing) (s : State) : Host.Outcome State Fault Refusal :=
  .next (onlyIf (coreOn s) (periodicDryFire p shot) s)

/-- DRY_FIRE_DEFER: 8,000 counted frames without a run (R157). -/
def deferDryFire (p : Nat) (s : State) : State :=
  let s1 := countDefer p s
  match (guardOf s1 p).defer with
  | some (k, m) => if 8000 ≤ k then
      bksEvent p 5 (bumpHi (bksR p 0x34) 1 (setGuard p { guardOf s1 p with defer := some (0, m) } s1)) else s1
  | none => s1

def execDryFireDefer (p : Fin 16) (s : State) : Host.Outcome State Fault Refusal :=
  .next (onlyIf (coreOn s) (deferDryFire p) s)

/-- CLOCK_FAULT (R160). -/
def clockFault (p : Nat) (s : State) : State :=
  if (guardOf s p).clkHold then s
  else logGuard p (Config.logCode 0xC 3) (bksEvent p 2 (bumpHi (bksR p 0x38) 1 (unclean p (setGuard p { guardOf s p with clkHold := true } s))))

def execClockFault (p : Fin 16) (s : State) : Host.Outcome State Fault Refusal :=
  .next (onlyIf (coreOn s) (clockFault p) s)

def execClockFaultClear (p : Fin 16) (s : State) : Host.Outcome State Fault Refusal :=
  .next (onlyIf (coreOn s) (fun x => setGuard p { guardOf x p with clkHold := false } x) s)

/-- TXDIS_PIN_FAULT: held high while driven low, with GUARD_FAULT; held low while released (R161). A ball at the level that
Backstay gives it is not held at the other one any more. -/
def pinFault (p : Nat) (high : Bool) (s : State) : State :=
  if high = txReleased s p then
    if (guardOf s p).pin = some (!high) then setGuard p { guardOf s p with pin := none } s else s
  else
    let s1 := logGuard p (Config.logCode 0xC 4) (bksEvent p 1 (setGuard p { guardOf s p with pin := some high } s))
    if high then forceOff p (setGuardFault p s1) else s1

def execTxdisPinFault (p : Fin 16) (high : Bool) (s : State) : Host.Outcome State Fault Refusal :=
  .next (withPins 1 p (high != txReleased s p) (pinFault p high) s)

/-- BKS_CNT_CLR: every Backstay counter (R164). -/
def bksCntClr : State → State := zeroRegs fun a => within 0x01200100 0x400 a && decide (0x20 ≤ a % 0x40)
def execBksCntClr (s : State) : Host.Outcome State Fault Refusal := .next (bksCntClr s)

end Sys2Proof.Machine
end

