-- ==== Sys2Proof/Machine/Client.lean ====
section
/-! DEFINITION. Client ports (ch. 08) and downstream egress (R350, R351, R359): modes, links, PFC, low-power idle, frames
sent, transmit stamps. -/
namespace Sys2Proof.Machine
open Sys2Proof

/-! ### PORT_CTL and MAC_CTL (R221, R232) -/

/-- A write refused in block b: MODE_REJ (R221). -/
def modeRej (b : Nat) (s : State) : State := cliEvent b 0 6 (setBit (cliR b 4) 31 true s)

/-- CNT_CLR: every counter of every sub-port of block b. -/
def cliCntClr (b : Nat) : State → State :=
  zeroRegs fun a => (upTo 4).any fun u => within (subR b u 0x800) 0x64 a

/-- The links of the block's sub-ports fall, with a local fault (R221, R223). -/
def blockDown (b : Nat) (s : State) : State :=
  forAll (fun u x => if subExists x b u then linkDown b u false x else x) (upTo 4) s
/-- The lanes of block b, and of its pair where one of the modes is 1.6TbE, at the first bring-up step, or disabled where
their block is OFF now (R220, R221). -/
def blockLanes (b : Nat) (wide : Bool) (s : State) : State :=
  forAll (fun l x => laneStep l (fun y =>
      let on := bitAt x (laneR l 0) 0 && laneServed x l && lanePowered x l
      { y with tx := restState on y.tx, rx := restState on y.rx }) x)
    ((upTo (if wide then 8 else 4)).map (4 * b + ·)) s

/-- A write of PORT_CTL (R221, R239): MODE and PHY, the latter until the lock. A write that leaves both as they are is
no change of mode. -/
def writePortCtl (b : Nat) (v : Word) (s : State) : State :=
  if b = 32 then
    let s1 := setBit (cliR 32 0) 0 (v.getLsbD 0) s
    if v.getLsbD 31 then cliCntClr 32 s1 else s1
  else
    let a := cliR b 0
    let m := bits v.toNat 2 0
    let ph := if bitAt s 0x10108 0 then fld s a 7 4 else bits v.toNat 7 4
    let same := m == portMode s b && ph == fld s a 7 4
    let off := fun (c : Nat) => (upTo 4).all fun u => !bitAt s (subR c u 0) 31
    let ok : Bool := decide (m ≤ 4) && off b && (m != 4 || (b % 2 == 0 && portMode s (b + 1) == 0 && off (b + 1)))
    if paired s b || !(same || ok) then modeRej b s
    else
      let s1 := setBit (cliR b 4) 31 false s
      let s2 := if same then s1
        else
          blockLanes b (m == 4 || portMode s b == 4) (blockDown b (rejoinBlock b (fun x => setFld a 7 4 ph (setFld a 2 0 m x)) (blockDown b s1)))
      if v.getLsbD 31 then cliCntClr b s2 else s2

def execPortModeWrite (b : Fin 32) (val : Word) (s : State) : Host.Outcome State Fault Refusal :=
  .next (onlyIf (coreOn s) (writePortCtl b val) s)

def execCliCntClr (b : Fin 33) (s : State) : Host.Outcome State Fault Refusal := .next (onlyIf (coreOn s) (cliCntClr b) s)

/-- The sub-port's PHY type defines low-power idle: LPI_OK (R232). -/
def lpiOk (s : State) (b u : Nat) : Bool :=
  b != 32 && subExists s b u && Config.phyLpi (portMode s b) (phyCode s b)

/-- A write of MAC_CTL (R221, R224, R232, R239): LPI_EN needs LPI_OK, SLOTTED the 400GbE mode and an open lock; each
refused part leaves its field and sets CFG_REJ. -/
def writeMacCtl (b u : Nat) (v : Word) (s : State) : State :=
  if paired s b then modeRej b s
  else if !subExists s b u then s
  else
    let a := subR b u 0
    let m : Word := if b = 32 then 0xF4003FFF else 0xFC003FFF
    let lpiBad := v.getLsbD 27 && b != 32 && !lpiOk s b u
    let locked := bitAt s 0x10108 0 || b == 32
    let slotBad := v.getLsbD 25 && !locked && portMode s b != 2
    let w := v &&& m
    let w := if lpiBad && !bitAt s a 27 then w &&& ~~~(0x08000000 : Word) else w
    let slot := if locked || slotBad then bitAt s a 25 else v.getLsbD 25
    let s1 := setBit a 25 slot (setReg a w s)
    let s2 := if bitAt s1 a 27 then s1 else lpiExit b u s1
    if lpiBad || slotBad then cliEvent b u 6 (setBit (subR b u 4) 24 true s2)
    else setBit (subR b u 4) 24 false s2

/-! ### Links -/

def execLinkDown (b : Fin 33) (sub : Fin 4) (remote : Bool) (s : State) : Host.Outcome State Fault Refusal :=
  .next (onlyIf (coreOn s) (linkDown b sub remote) s)

/-! ### PFC received (R230) -/

/-- A valid PFC frame: 64 bytes with its FCS, MAC Control with opcode 0x0101. -/
def validPfc (l : List Byte) : Bool :=
  l.length == 64 && l.take 6 == pfcDest && ofBytes (slice l 12 2) == 0x8808 && ofBytes (slice l 14 2) == 0x0101

/-- Priorities paused, as XOFF_RX shows them. -/
def showPause (b u : Nat) (s : State) : State :=
  macStatus b u 23 16 (total ((subOf s b u).pause.keys.map fun i => 2 ^ i)) 3 s

/-- A valid PFC frame loads the pause timers of its enabled priorities; a time of 0 ends a pause. -/
def rxPfc (b u : Nat) (l : List Byte) (s : State) : State :=
  let vec := (l.getD 17 0).toNat
  let en := fld s (subR b u 0x14) 7 0
  let s1 := bump (subR b u 0x848) 1 s
  let x := subOf s1 b u
  let p := (upTo 8).foldl (fun (acc : Tab Nat) i =>
    if vec.testBit i && en.testBit i then
      let t := ofBytes (slice l (18 + 2 * i) 2)
      if t = 0 then acc.drop i else acc.put i (coreNow s + quanta s b t)
    else acc) x.pause
  showPause b u (setSub b u { x with pause := p } s1)

def execPfcRx (b : Fin 32) (sub : Fin 4) (bytes : List Byte) (s : State) : Host.Outcome State Fault Refusal :=
  .next (onlyIf (coreOn s && macUp s b sub && validPfc bytes) (rxPfc b sub bytes) s)

/-- A pause timer reaches 0. -/
def pauseEnd (b u i : Nat) (s : State) : State :=
  let x := subOf s b u
  if x.pause.has i && decide (x.pause.look 0 i ≤ coreNow s) then
    showPause b u (setSub b u { x with pause := x.pause.drop i } s)
  else s

def execPfcPauseExpiry (b : Fin 32) (sub : Fin 4) (prio : Fin 8) (s : State) : Host.Outcome State Fault Refusal :=
  .next (onlyIf (coreOn s) (pauseEnd b sub prio) s)

/-- The PFC frame repeats every REFRESH quanta while a priority is in XOFF (R231). -/
def pfcRepeat (b u : Nat) (s : State) : State :=
  if xoffTx s b u != 0 && decide ((subOf s b u).pfcAt + quanta s b (pfcRefresh s b u) ≤ coreNow s) then pfcNow b u s else s

def execPfcRefresh (b : Fin 32) (sub : Fin 4) (s : State) : Host.Outcome State Fault Refusal :=
  .next (onlyIf (coreOn s) (pfcRepeat b sub) s)

/-! ### Egress (R350, R351, R359) -/

/-- Downstream queue indexes of sub-port u. -/
def subQueueIds (s : State) (b u : Nat) : List Nat :=
  let q := subQueues s b u
  (List.range q.2).map fun i => 65536 + 64 * b + q.1 + i
/-- Some queue of the sub-port holds a frame. -/
def subHasFrame (s : State) (b u : Nat) : Bool := (subQueueIds s b u).any fun q => !(queueOf s q).frames.isEmpty

/-- The priority PFC_QMAP gives queue k of the block (R230, R239). -/
def queuePrio (s : State) (b u k : Nat) : Nat :=
  let i := 4 * (k % 8)
  fld s (subR b u (0x20 + 4 * (k / 8))) (i + 2) i

/-- Wire time of a frame of L bytes, in ns rounded up (R359). -/
def wireNs (s : State) (b len : Nat) : Nat := ceilDiv ((max len 64 + 20) * 8) (200 * rateUnits s b)

/-- The gate of queue k lets a frame of L bytes start; with GUARD_EN the frame also ends before the gate closes. -/
def gateLets (s : State) (b k len : Nat) : Bool :=
  match blockList s b with
  | none => true
  | some l =>
    (gatesAt s l (nowNs s)).getLsbD k &&
      (!(listAt s l (nowNs s)).guardEn || openThroughout s l k (nowNs s) (nowNs s + wireNs s b len - 1))

/-- Head frame's length. -/
def headLen (s : State) (q : Nat) : Nat := match (queueFrames s q).head? with | some f => f.bytes.length | none => 0

/-- The shaper of sub-port u (R351). -/
def subShaper (s : State) (b u : Nat) : Option Nat :=
  let a := 0x06000200 + 4 * (4 * b + u)
  if bitAt s a 31 then some (fld s a 13 0) else none
def passes (s : State) (k : Option Nat) : Bool := match k with | some i => shaperPasses s i | none => true

/-- Queue q could start but for its gate list (R350). -/
def dnReady (s : State) (b u q : Nat) : Bool :=
  let k := q - 65536 - 64 * b
  macUp s b u && bitAt s 0x06000000 0 && headReadable s q && !(subOf s b u).pause.has (queuePrio s b u k) &&
  passes s (queueShaper s q) && passes s (subShaper s b u)
/-- Queue q may start a frame at the xMII now (R350). -/
def dnEligible (s : State) (b u q : Nat) : Bool :=
  dnReady s b u q && !(queueOf s q).held && gateLets s b (q - 65536 - 64 * b) (headLen s q)

/-- The queues whose head the guard holds are ineligible from now on; each such frame is counted once (R359). -/
def countHolds (b u : Nat) (s : State) : State :=
  forAll (fun q x =>
    let k := q - 65536 - 64 * b
    let y := queueOf x q
    let isHeld := dnReady x b u q && (match blockList x b with | some l => (gatesAt x l (nowNs x)).getLsbD k | none => false) &&
      !gateLets x b k (headLen x q)
    if isHeld && !y.held then
      bump 0x06000830 (bitN (y.counted != y.frames.head?)) (setQueue q { y with held := true, counted := y.frames.head? } x)
    else x) (subQueueIds s b u) s

/-- The choice of one frame by deficit round robin without a budget, charged L (R348, R351): its queue. -/
def selectDn (ok : State → Nat → Bool) (key : Nat) : Nat → State → State × Option Nat
  | 0, s => (s, none)
  | fuel + 1, s =>
    match firstEligible s (ok s) key 8 with
    | none => (s, none)
    | some q =>
      let x := queueOf s q
      let s0 := if x.fresh then setQueue q { x with deficit := x.deficit + quantum s q, fresh := false } s else s
      if (queueOf s0 q).deficit < headLen s q then selectDn ok key fuel (toTail q s0) else (s0, some q)

/-- The round key of sub-port u (R348). -/
def subRound (b u : Nat) : Nat := 32768 + (4 * b + u) * 8
/-- Visits enough for any choice of one frame. -/
def dnFuel (s : State) (b u : Nat) : Nat := 300 * (1 + (subQueueIds s b u).length)

/-- EGRESS_SELECT (R351): the chosen queue's head frame starts at the xMII, or is discarded as oversize (R227). -/
def egress (b u : Nat) (s : State) : State :=
  if !macUp s b u || subSlotted s b u || (subOf s b u).sending.isSome || (subOf s b u).pfcDue then s
  else
    let s0 := countHolds b u s
    let r := selectDn (fun x q => dnEligible x b u q) (subRound b u) (dnFuel s0 b u) s0
    match r.2 with
    | none => r.1
    | some q =>
      let len := headLen r.1 q
      let t := takeHead q len r.1
      let s2 := match subShaper t.1 b u with | some k => chargeShaper k len t.1 | none => t.1
      if maxFrame s2 b u < len then bufSettle (freeRef t.2 (bump (subR b u 0x850) 1 s2))
      else lpiExit b u (bump64 0x06000810 1 (setSub b u { subOf s2 b u with sending := some (t.2, q) } s2))

def execEgressSelect (b : Fin 32) (sub : Fin 4) (s : State) : Host.Outcome State Fault Refusal :=
  .next (onlyIf (coreOn s) (egress b sub) s)

/-- The bytes at the xMII: padded, with a fresh FCS, inverted where the frame is DAMAGED (R224, R227). -/
def wireBytes (f : Stored) : List Byte :=
  let l := f.bytes.take (f.bytes.length - 4)
  let p := l ++ List.replicate (60 - l.length) 0
  p ++ (if f.damaged then (etherFcs p).map (~~~ ·) else etherFcs p)

/-- A transmit stamp is pushed, or lost on a full FIFO (R234). -/
def pushStamp (b u tag instant : Nat) (s : State) : State :=
  let x := subOf s b u
  if 16 ≤ x.stamps.length then cliEvent b u 5 (bump (subR b u 0x85C) 1 s)
  else cliEvent b u 4 (setSub b u { x with stamps := x.stamps ++ [(tag, readAt s instant, !timeHeld s)] } s)

/-- A frame of the sub-port has been sent: counts, and a waiting PFC frame follows it. -/
def sentFrame (b u len : Nat) (s : State) : State :=
  let s1 := bump64 (subR b u 0x810) 1 (bump64 (subR b u 0x818) len s)
  let s2 := setSub b u { subOf s1 b u with sending := none, idleFrom := coreNow s1 } s1
  if (subOf s2 b u).pfcDue then sendPfc b u s2 else s2

/-! ### The management port (R227, R228, R234, R236) -/

/-- A frame of Crosstree's crosses the management port's xMII, or is discarded as oversize; one that asked for a stamp gets it. -/
def mgtFrame (l : List Byte) (s : State) : State :=
  if maxFrame s 32 0 < l.length then bump (subR 32 0 0x850) 1 s
  else
    let s1 := emit (.frame 32 0 l) s
    let s2 := match Config.stampRequest s.fresh with
      | some tag => pushStamp 32 0 tag.toNat (nowOf s) s1
      | none => s1
    drawn (sentFrame 32 0 l.length s2)

/-- The frames of Crosstree's leave while the management port is up; while it is down they wait (R228). -/
def mgtDrain (s : State) : State :=
  if macUp s 32 0 then forAll mgtFrame s.xt.waitTx { s with xt := { s.xt with waitTx := [] } } else s

/-- Crosstree hands the management port a frame. -/
def mgtQueue (l : List Byte) (s : State) : State := mgtDrain { s with xt := { s.xt with waitTx := s.xt.waitTx ++ [l] } }

def execLinkUp (b : Fin 33) (sub : Fin 4) (rxLat txLat : BitVec 16) (s : State) : Host.Outcome State Fault Refusal :=
  .next (onlyIf (coreOn s) (fun x => mgtDrain (linkRise b sub rxLat txLat x)) s)

def execMacCtlWrite (b : Fin 33) (sub : Fin 4) (val : Word) (s : State) : Host.Outcome State Fault Refusal :=
  .next (onlyIf (coreOn s) (fun x => mgtDrain (pfcSettle (writeMacCtl b sub val x))) s)

/-- FRAME_TX_COMPLETE: the last byte has crossed the xMII and the reference is freed (R227, R234, R329). -/
def txComplete (b u instant : Nat) (s : State) : State :=
  match (subOf s b u).sending with
  | none => s
  | some (n, _) =>
    match frameOf s n with
    | none => sentFrame b u 0 s
    | some f =>
      let w := wireBytes f
      let s1 := emit (.frame b u w) s
      let s2 := if f.damaged then bump (subR b u 0x854) 1 s1 else s1
      let s3 := match f.tsTag with | some tag => pushStamp b u tag instant s2 | none => s2
      bufSettle (freeRef n (sentFrame b u w.length s3))

def execFrameTxComplete (b : Fin 32) (sub : Fin 4) (instant : Nat) (s : State) : Host.Outcome State Fault Refusal :=
  .next (onlyIf (coreOn s) (txComplete b sub instant) s)

/-- TX_DOWN_DISCARD: the head frame that normal service would take next is discarded (R228). -/
def downDiscard (b u : Nat) (s : State) : State :=
  if !subExists s b u || macUp s b u || !bitAt s (subR b u 0) 26 then s
  else if b = 32 then
    if s.xt.waitTx.isEmpty then s
    else bump (subR 32 0 0x858) 1 { s with xt := { s.xt with waitTx := s.xt.waitTx.drop 1 } }
  else
    let r := selectDn (fun x q => !(queueOf x q).frames.isEmpty) (subRound b u) (dnFuel s b u) s
    match r.2 with
    | none => r.1
    | some q =>
      let t := takeHead q (headLen r.1 q) r.1
      bufSettle (freeRef t.2 (bump (subR b u 0x858) 1 t.1))

def execTxDownDiscard (b : Fin 33) (sub : Fin 4) (s : State) : Host.Outcome State Fault Refusal :=
  .next (onlyIf (coreOn s) (downDiscard b sub) s)

/-! ### Low-power idle (R232) -/

/-- A gate of one of the sub-port's queues opens within the PHY's wake time. -/
def gateOpensSoon (s : State) (b u : Nat) : Bool :=
  match blockList s b with
  | none => false
  | some l =>
    let a := nowNs s
    let e := a + (Config.phyWake (portMode s b) (phyCode s b) * 125 / 10000 : Nat)
    let edges := edgesOf (operList s l) a e ++ (match s.sch.change.look none l with | some (ct, x) => (ct : Int) :: edgesOf x a e | none => [])
    edges.any fun t => decide (a < t) && decide (t ≤ e) &&
      (subQueueIds s b u).any fun q => (gatesAt s l t).getLsbD (q - 65536 - 64 * b) && !(gatesAt s l (t - 1)).getLsbD (q - 65536 - 64 * b)

/-- LPI_ENTRY. -/
def lpiEntry (b u : Nat) (s : State) : State :=
  let x := subOf s b u
  if macUp s b u && bitAt s (subR b u 0) 27 && lpiOk s b u && !bitAt s (subR b u 4) 26 && x.sending.isNone && !x.pfcDue &&
      !subHasFrame s b u && decide (x.idleFrom + 80000 * fld s (subR b u 0x18) 15 0 ≤ coreNow s) && !gateOpensSoon s b u then
    bumpHi (subR b u 0x860) 1 (macStatus b u 26 26 1 7 s)
  else s

def execLpiEntry (b : Fin 32) (sub : Fin 4) (s : State) : Host.Outcome State Fault Refusal :=
  .next (onlyIf (coreOn s) (lpiEntry b sub) s)

def execReceiveLpiChange (b : Fin 32) (sub : Fin 4) (on : Bool) (s : State) : Host.Outcome State Fault Refusal :=
  .next (onlyIf (coreOn s && linkUp s b sub && lpiOk s b sub) (macStatus b sub 25 25 (bitN on) 7) s)

/-! ### Transmit stamps (R234) -/

/-- The five words of the oldest transmit stamp; zeros where the FIFO is empty. -/
def stampWords (x : SubPort) : List Word :=
  match x.stamps with
  | [] => [0, 0, 0, 0, 0]
  | (tag, nt, unset) :: _ =>
    let n := ntFormat nt
    [BitVec.ofNat 32 (2 ^ 31 + bitN unset * 2 ^ 30 + tag % 2 ^ 16), BitVec.ofNat 32 (n % 2 ^ 16), BitVec.ofNat 32 (n / 2 ^ 16),
      BitVec.ofNat 32 (n / 2 ^ 48), BitVec.ofNat 32 (n / 2 ^ 80)]

/-- A read of TS_TX word 0: the oldest entry is popped and snapshot for the path (R13, R234). -/
def popStamp (path : Path) (b u : Nat) (s : State) : State × Word :=
  let x := subOf s b u
  let w := stampWords x
  (snapWords path (subR b u 0x40) w (setSub b u { x with stamps := x.stamps.drop 1 } s), w.headD 0)

def execTsTxPop (path : Path) (b : Fin 33) (sub : Fin 4) (s : State) : Host.Outcome State Fault Refusal :=
  .next (if coreOn s && subExists s b sub then
      let r := popStamp path b sub s
      emit (.data path [r.2]) r.1
    else emit (.data path [0]) s)

end Sys2Proof.Machine
end

