-- ==== Sys2Proof/Machine/Buffer.lean ====
section
/-! DEFINITION. The buffer manager's own commands (ch. 12): limits, flush, completed reads and writes, audit. -/
namespace Sys2Proof.Machine
open Sys2Proof

/-! ### Limits (R324, R335, R342) -/

/-- Reserves of all owners and shared regions of enabled pools, in cells; pages of enabled pools (R324). -/
def cellsPlanned (s : State) : Nat :=
  total ((upTo 512).map (ownRsv s)) + total ((upTo 64).map fun k => if bitAt s (poolR k 0) 31 then fld s (poolR k 4) 19 0 else 0)
def pagesPlanned (s : State) : Nat :=
  total ((upTo 64).map fun k => if bitAt s (poolR k 0) 31 then fld s (poolR k 0x18) 24 0 else 0)
/-- The four shares of HBM_SHARE together (R335). -/
def sharesOf (w : Nat) : Nat := bits w 31 24 + bits w 23 16 + bits w 15 8 + bits w 7 0

/-- CFG_REJ set by the register at a (R324, R335, R338). -/
def cfgRej (a : Nat) (s : State) : State :=
  bufEvent 9 (setBit 0x05000004 29 true { s with buf := { s.buf with rejBy := a } })
/-- CFG_REJ cleared by an accepted write of the register that set it. -/
def cfgAccepted (a : Nat) (s : State) : State := if s.buf.rejBy = a then setBit 0x05000004 29 false s else s

/-- The writable bits of a buffer-manager register. -/
def bufMask (a : Nat) : Word := match rowOf a with | some (d, _) => d.rwMask | none => 0

/-- A register of pools, owners, queues or shares, whose write is checked (R324, R335). -/
def isLimit (a : Nat) : Bool :=
  a == 0x05000020 || within 0x05001000 0x1000 a || within 0x05002000 0x4000 a || within 0x05100000 0x108000 a

/-- A write of a limit: with no effect where it would break a sum; it frees nothing (R324, R335). -/
def writeLimit (a : Nat) (v : Word) (s : State) : State :=
  if bufMask a = 0 then s
  else
    let held := fun (x : State) => latchXoff ((upTo 512).filter (inXoff x)) x
    let s1 := setReg a (v &&& bufMask a) (held s)
    let ok := if a = 0x05000020 then decide (sharesOf v.toNat ≤ 100)
      else decide (cellsPlanned s1 ≤ 786432) && decide (pagesPlanned s1 ≤ 25165824)
    if ok then bufSettle (held (cfgAccepted a s1)) else cfgRej a s

def execBufLimitWrite (addr val : Word) (s : State) : Host.Outcome State Fault Refusal :=
  .next (onlyIf (coreOn s && isLimit addr.toNat) (writeLimit addr.toNat val) s)

/-! ### Flush (R338) -/

/-- A write of QFLUSH with GO: the queue's frames of this instant leave it and wait to be discarded. -/
def qflush (q : Nat) (s : State) : State :=
  if s.buf.flush.isSome then cfgRej 0x05000030 s
  else if 67584 ≤ q then s
  else
    let l := (queueOf s q).frames
    let s1 := cfgAccepted 0x05000030 { s with buf := { s.buf with flush := some l } }
    emptied q (setQueue q { queueOf s1 q with frames := [] } s1)

def execQflush (q : Nat) (s : State) : Host.Outcome State Fault Refusal := .next (onlyIf (coreOn s) (qflush q) s)

/-- QFLUSH_DONE: the frames are freed and counted. -/
def qflushDone (s : State) : State :=
  match s.buf.flush with
  | none => s
  | some l =>
    let s1 := forAll freeRef l { s with buf := { s.buf with flush := none } }
    bufSettle (bufEvent 8 (bump64 0x05000820 l.length s1))

def execQflushDone (s : State) : Host.Outcome State Fault Refusal := .next (onlyIf (coreOn s) qflushDone s)

/-! ### Reads and staged writes (R336, R340) -/

/-- Frame n is DAMAGED: marked where it is being sent, and counted (R340). -/
def markDamaged (n : Nat) (s : State) : State :=
  match frameOf s n with
  | none => s
  | some f =>
    if f.damaged then s else bufEvent 6 (bump 0x05000840 1 (setFrame n { f with damaged := true } s))

/-- Port whose burst waits for frame n. -/
def readingPort (s : State) (n : Nat) : Option Nat :=
  (upTo 16).find? fun p => (halyard s p).grants.any fun g => g.fill.any fun f => !f.rigid && f.frame == n && f.sealed.isNone
/-- Frame n is in transmission at a client MAC. -/
def inEgress (s : State) (n : Nat) : Bool := s.subs.any fun x => match x.2.sending with | some (m, _) => m == n | none => false

/-- BUFFER_READ_COMPLETE: of a frame that Halyard or a client MAC reads. -/
def readComplete (n : Nat) (damaged : Bool) (s : State) : State :=
  match readingPort s n with
  | some p => fillRead p n damaged (if damaged then markDamaged n s else s)
  | none => if damaged && inEgress s n then markDamaged n s else s

def execBufferReadComplete (frame : Nat) (damaged : Bool) (s : State) : Host.Outcome State Fault Refusal :=
  .next (onlyIf (coreOn s) (readComplete frame damaged) s)

/-- The oldest staged frame's write to the HBM is complete; none is while the HBM is not available (R336, R337). -/
def unstage (s : State) : State :=
  if !hbmAvail s then s else match s.buf.frames.find? fun x => x.2.staged with
  | some (n, f) => setFrame n { f with staged := false } s
  | none => s

/-- Every staged write is completed (R337, R423). -/
def unstageAll (s : State) : State :=
  { s with buf := { s.buf with frames := s.buf.frames.adjust fun _ f => { f with staged := false } } }

def execSpillWriteComplete (s : State) : Host.Outcome State Fault Refusal := .next (onlyIf (coreOn s) unstage s)

/-! ### Audit (R476) -/

/-- Cells (0) or pages (1) become unreachable until the audit (R339, R472). -/
def leak (tier n : Nat) (s : State) : State :=
  let w := s.faults.withheld ++ [(tier, n)]
  setRegN 0x05000048 (min (total (w.map Prod.snd)) (2 ^ 25 - 1)) { s with faults := { s.faults with withheld := w } }

/-- BUFFER_AUDIT: at most once in 10 s, what has leaked returns to the free lists. -/
def audit (s : State) : State :=
  let n := total (s.faults.withheld.map Prod.snd)
  if n = 0 ∨ (s.faults.auditAt ≠ 0 ∧ s.uptime < s.faults.auditAt + 250000000) then s
  else
    let s1 := { s with faults := { s.faults with withheld := [], auditAt := s.uptime } }
    fltEvent 6 (writeLog 0xB (Config.logCode 0xB 0) 0x02 0 0 n (Config.logDetail 0xB 0) (bump 0x5110 n (setRegN 0x05000048 0 s1)))

def execBufferAudit (s : State) : Host.Outcome State Fault Refusal := .next (onlyIf (coreOn s) audit s)

/-- BUF_CNT_CLR (R343). -/
def bufCntClr : State → State := zeroRegs fun a => within 0x05000800 0x4C a || within 0x05000A00 0x200 a

def execBufCntClr (s : State) : Host.Outcome State Fault Refusal := .next (onlyIf (coreOn s) bufCntClr s)

end Sys2Proof.Machine
end

