-- ==== Sys2Proof/Machine/Memory.lean ====
section
/-! DEFINITION. Byte-addressed memories in one canonical form: rising addresses, no entry equal to what an unlisted
address reads as (d: 0x00 for host and Crosstree memory, 0xFF for flash; DESIGN CHOICE, unsafe: log entry 3). -/
namespace Sys2Proof.Machine
open Sys2Proof

/-- The byte at address a of a memory whose unlisted bytes read d. -/
def memByte (d : Byte) : List Host.Cell → Nat → Byte
  | [], _ => d
  | (k, x) :: r, a => if a < k then d else if a = k then x else memByte d r a

/-- Memory with byte v at address a. -/
def memSet (d : Byte) : List Host.Cell → Nat → Byte → List Host.Cell
  | [], a, v => if v = d then [] else [(a, v)]
  | (k, x) :: r, a, v =>
    if a < k then (if v = d then (k, x) :: r else (a, v) :: (k, x) :: r)
    else if a = k then (if v = d then r else (a, v) :: r)
    else (k, x) :: memSet d r a v

/-- n bytes from address a. -/
def memRead (d : Byte) (m : List Host.Cell) : Nat → Nat → List Byte
  | _, 0 => []
  | a, n + 1 => memByte d m a :: memRead d m (a + 1) n

/-- Memory with bytes written from address a on. -/
def memWrite (d : Byte) : List Host.Cell → Nat → List Byte → List Host.Cell
  | m, _, [] => m
  | m, a, v :: r => memWrite d (memSet d m a v) (a + 1) r

/-- Every address from lo on is listed in rising order with a value other than d. -/
def memWfFrom (d : Byte) : Nat → List Host.Cell → Bool
  | _, [] => true
  | lo, (k, x) :: r => decide (lo ≤ k) && x != d && memWfFrom d (k + 1) r

/-- The canonical form of a memory. -/
def memWf (d : Byte) (m : List Host.Cell) : Bool := memWfFrom d 0 m

end Sys2Proof.Machine
end

