-- ==== Sys2Proof/Machine/Dma.lean ====
section
/-! DEFINITION. Memories that the device reads and writes as a requester: host memory over PCIe and Crosstree's own
(R303, R383, R464). -/
namespace Sys2Proof.Machine
open Sys2Proof

/-- n bytes at address a of host memory (tgt false) or Crosstree's (tgt true). -/
def dmaRead (tgt : Bool) (a n : Nat) (s : State) : List Byte := memRead 0 (if tgt then s.xtMem else s.hostMem) a n

/-- Bytes written at address a of the target. -/
def dmaWrite (tgt : Bool) (a : Nat) (l : List Byte) (s : State) : State :=
  if l.isEmpty then s
  else if tgt then { s with xtMem := memWrite 0 s.xtMem a l }
  else emit (.hostWrite a l) { s with hostMem := memWrite 0 s.hostMem a l }

/-- The target can be reached: host memory needs the PCIe link. -/
def dmaOk (tgt : Bool) (s : State) : Bool := tgt || s.ic.linkUp

/-- Words of a byte string: the first byte in bits [31:24], the last word padded with zero bytes (R528). -/
def wordsOf (l : List Byte) : List Nat :=
  (List.range (ceilDiv l.length 4)).map fun i =>
    let c := slice l (4 * i) 4
    ofBytes (c ++ List.replicate (4 - c.length) 0)

/-- The bytes that words spell. -/
def bytesOfWords (l : List Nat) : List Byte := l.flatMap (toBytes 4)

end Sys2Proof.Machine
end

