-- ==== Sys2Proof/Machine/Mailbox.lean ====
section
/-! DEFINITION. The mailbox (R459, R460, R528): what a request is, how it is judged and how it is answered; the in-band
channel uses the same layout (R498). -/
namespace Sys2Proof.Machine
open Sys2Proof

/-- A request: its header fields and its body in words from word 2 on. -/
structure MbRequest where
  ver : Nat
  code : Nat
  tag : Nat
  len : Nat
  body : List Nat
  deriving DecidableEq, Repr

/-- The answer of a command: the state it leaves, its status, its reply body, and the LEN of that body where it does not
fill whole words (R528). -/
structure MbAnswer where
  state : State
  status : Nat
  body : List Nat := []
  len : Option Nat := none

/-- LEN of the reply. -/
def MbAnswer.bytes (a : MbAnswer) : Nat := a.len.getD (4 * a.body.length)

/-- A status without a body. -/
def mbStatus (n : Nat) (s : State) : MbAnswer := { state := s, status := n }

/-- Register at offset o of mailbox instance i. -/
def xtR (i o : Nat) : Nat := 0x0A000000 + 0x10000 * i + o

/-- Word k of a request's body (counting from word 2). -/
def MbRequest.arg (r : MbRequest) (k : Nat) : Nat := r.body.getD k 0
/-- A 64-bit argument at word k, low word first (R528). -/
def MbRequest.arg64 (r : MbRequest) (k : Nat) : Nat := r.arg k + 2 ^ 32 * r.arg (k + 1)

/-- The request in instance i's buffer. -/
def requestOf (s : State) (i : Nat) : MbRequest :=
  let w0 := regN s (xtR i 0x1000)
  let w1 := regN s (xtR i 0x1004)
  { ver := bits w0 31 24, code := bits w0 15 0, tag := bits w1 31 16, len := bits w1 15 0
    body := (List.range (bits w1 15 0 / 4)).map fun k => regN s (xtR i (0x1008 + 4 * k)) }

/-- Commands of every version, and whether version 1 has them (R461); none for a code no version defines. -/
def mbDefined (code : Nat) : Option Bool :=
  if [0x0001, 0x0010, 0x0011, 0x0012, 0x0013, 0x0014, 0x0015, 0x0018].contains code then some true
  else if [0x0040, 0x0041, 0x0042, 0x0043, 0x0050, 0x0051, 0x0052, 0x0060, 0x0070, 0x0071, 0x0072, 0x0073, 0x0080].contains code
    then some false
  else none

/-- Words of a command's fixed arguments (R528). -/
def mbFixed (code : Nat) : Nat :=
  match code with
  | 0x0010 => 2 | 0x0011 => 3 | 0x0012 => 4 | 0x0013 => 2 | 0x0014 => 3
  | 0x0040 => 2 | 0x0041 => 1 | 0x0042 => 2 | 0x0043 => 1 | 0x0050 => 2
  | 0x0060 => 3 | 0x0070 => 12 | 0x0071 => 1 | 0x0072 => 8 | 0x0080 => 3
  | _ => 0

/-- STAGE of BOOT_STATUS (R450). -/
def bootStage (s : State) : Nat := fld s 0x10100 31 28

/-- Whether a version is spoken: the MAILBOX common set, or version 1 alone in Furled (R458, R460). -/
def mbVersion (s : State) (v : Nat) : Bool := if s.boot.furled then v == 1 else decide (v < 16) && bitAt s 0x1014C v

/-- The status with which a request is turned away before its command runs (R459, R460, R528); none where it is executed. Until
READY REEF_SET is answered BUSY (R454; log entry 201). -/
def mbJudge (s : State) (r : MbRequest) : Option Nat :=
  if !s.boot.furled && bootStage s ≤ 6 then some 1
  else if !mbVersion s r.ver then some 6
  else if r.len % 4 ≠ 0 ∨ 4088 < r.len then some 3
  else match mbDefined r.code with
    | none => some 3
    | some v1 =>
      if r.ver = 1 ∧ !v1 then some 3
      else if r.len < 4 * mbFixed r.code then some 3
      else if !s.boot.furled && bootStage s < 14 && !v1 then some (if r.code = 0x80 then 1 else 2)
      else none

/-- MB_EVENT bit b of instance i (R466). -/
def mbEvent (i b : Nat) (s : State) : State := raise (xtR i 8) (xtR i 0xC) b (1000 + i) s

/-- Words written from byte address a on. -/
def setWords (a : Nat) : List Nat → State → State
  | [], s => s
  | w :: r, s => setWords (a + 4) r (setRegN a w s)

/-- The two words of a reply's header (R460). -/
def replyHead (r : MbRequest) (status len : Nat) : List Nat :=
  [r.ver * 2 ^ 24 + status % 256 * 2 ^ 16 + r.code, r.tag * 2 ^ 16 + len % 2 ^ 16]

/-- Instance i's reply: MB_RSP, BUSY cleared, REPLY set and raised (R459). -/
def mbReply (i : Nat) (r : MbRequest) (a : MbAnswer) : State :=
  let s1 := setWords (xtR i 0x2000) (replyHead r a.status a.bytes ++ a.body) a.state
  mbEvent i 0 (setBit (xtR i 4) 30 true (setBit (xtR i 4) 31 false s1))

/-- MB_DOORBELL.GO (R459). -/
def mbGo (i : Nat) (s : State) : State :=
  if bitAt s (xtR i 4) 31 then mbEvent i 1 (setBit (xtR i 4) 29 true s)
  else
    let s1 := setBit (xtR i 4) 29 false (setBit (xtR i 4) 30 false (setBit (xtR i 4) 31 true s))
    let r := requestOf s1 i
    match mbJudge s1 r with
    | some st => mbReply i r (mbStatus st s1)
    | none => { s1 with xt := { s1.xt with requests := s1.xt.requests ++ [i] } }

/-- The request at the head of the queue is executed with f and answered with g, if it is instance i's and carries this
code (R459, R498); Crosstree holds during a reef transition (R423). The recovery monitor of Furled serves version 1 alone, a request
of version 2 that waited at the furl gets VERSION (R458). -/
def mbRunThen (i code : Nat) (g : State → State) (f : MbRequest → State → MbAnswer) (s : State) : State :=
  match s.xt.requests with
  | [] => s
  | h :: rest =>
    let r := requestOf s i
    if h ≠ i ∨ r.code ≠ code ∨ reefHolds s then s
    else
      let s1 := { s with xt := { s.xt with requests := rest } }
      if s.boot.furled && r.ver != 1 then mbReply i r (mbStatus 6 s1)
      else
        let a := f r s1
        g (mbReply i r { a with state := bump (0x0A020100 + 4 * i) 1 a.state })

/-- A request executed and answered. -/
def mbRun (i code : Nat) : (MbRequest → State → MbAnswer) → State → State := mbRunThen i code id

def execMbDoorbell (i : Fin 2) (s : State) : Host.Outcome State Fault Refusal := .next (onlyIf (coreOn s) (mbGo i) s)

end Sys2Proof.Machine
end

