-- ==== Sys2Proof/Machine/Parse.lean ====
section
/-! DEFINITION. The parse graph (R265 to R275, R287): parsing a frame, and changing the graph. -/
namespace Sys2Proof.Machine
open Sys2Proof

def pgEvent (i : Nat) : State → State := raise 0x03000008 0x0300000C i (720 + i)

/-! ### Nodes, transitions, fields (R267, R268) -/

/-- Word w of node n, and of transition entry e, in the active bank. -/
def nodeWord (s : State) (n w : Nat) : Nat := (s.pg.active.look 0 (0x03001000 + 0x40 * n + 4 * w)).toNat
def transWord (s : State) (e w : Nat) : Nat := (s.pg.active.look 0 (0x03008000 + 0x10 * e + 4 * w)).toNat

/-- The field of w bits from bit o of the header at byte h; none where it reaches the limit (R269). -/
def fieldAt (l : List Byte) (limit h o w : Nat) : Option Nat :=
  let a := 8 * h + o
  if 8 * limit < a + w then none
  else
    let n := ceilDiv (a + w) 8 - a / 8
    some (ofBytes (slice l (a / 8) n) / 2 ^ (8 * n - a % 8 - w) % 2 ^ w)

/-- The parse result (R269 to R275). -/
structure Parsed where
  containers : Tab Nat := []
  vlans : List Nat := []
  mpls : List Nat := []
  /-- Layer slots recorded: node and offset. -/
  layers : Tab (Nat × Nat) := []
  nodes : Nat := 0
  last : Nat := 0
  truncated : Bool := false
  frag : Bool := false
  conflict : Bool := false
  deriving DecidableEq, Repr

/-- The first valid entry from e on that matches the select field: END and NEXT (R268). -/
def findTrans (s : State) (f : Nat) : Nat → Nat → Option (Bool × Nat)
  | _, 0 => none
  | e, k + 1 =>
    let w := transWord s e 2
    if w.testBit 31 && (f &&& transWord s e 1) == (transWord s e 0 &&& transWord s e 1) then some (w.testBit 8, bits w 7 0)
    else findTrans s f (e + 1) k

/-- The frame limit: the length less the FCS (R265). -/
def frameLimit (l : List Byte) : Nat := l.length - 4

/-- The next node (R268, step 8); none where the parse ends. -/
def nextNode (s : State) (l : List Byte) (h n : Nat) : Option Nat :=
  let w0 := nodeWord s n 0
  let w5 := nodeWord s n 5
  let k := min (bits w0 20 16) 16
  let b := bits w0 10 0
  if !w5.testBit 31 || decide (2048 < b + k) then none
  else match fieldAt l (frameLimit l) h (bits w5 23 15) (bits w5 28 24 + 1) with
    | none => none
    | some f => match findTrans s f b k with
      | some (false, m) => some m
      | _ => none

/-- The extractions of node n (R269). -/
def extractions (s : State) (l : List Byte) (limit h n : Nat) (c : Tab Nat) : Tab Nat :=
  (upTo 4).foldl (fun acc k =>
    let w := nodeWord s n (6 + k)
    if w.testBit 31 then
      match fieldAt l limit h (bits w 21 13) (bits w 26 22 + 1) with
      | some v => acc.put (bits w 30 27) v
      | none => acc
    else acc) c

/-- The length of node n's header (R267); none where its field lies beyond the limit. -/
def headerLen (s : State) (l : List Byte) (limit h n : Nat) : Option Nat :=
  let w1 := nodeWord s n 1
  let w2 := nodeWord s n 2
  if w1.testBit 31 then
    (fieldAt l limit h (bits w1 23 15) (bits w1 27 24 + 1)).map fun f => f * 2 ^ bits w1 29 28 + bits w2 7 0
  else some (bits w2 7 0)

/-- The limit after the TL check of a header from h to e (R272); none where it fails. -/
def tlLimit (s : State) (l : List Byte) (limit h e n : Nat) : Option Nat :=
  let w := nodeWord s n 3
  if !w.testBit 31 then some limit
  else match fieldAt l limit h (bits w 24 16) 16 with
    | none => none
    | some f =>
      let d := h + f + bits w 7 0
      if limit < d ∨ d < e then none else some d

/-- Node n is a fragment's (R273). -/
def isFragment (s : State) (l : List Byte) (limit h n : Nat) : Bool :=
  let w0 := nodeWord s n 0
  let w4 := nodeWord s n 4
  w0.testBit 27 || (w0.testBit 28 && w4.testBit 31 &&
    (match fieldAt l limit h (bits w4 24 16) 16 with | some f => (f &&& bits w4 15 0) != 0 | none => false))

/-- The walk over the headers in R270's order; the fuel bounds the nodes. -/
def parseFrom (s : State) (l : List Byte) : Nat → Nat → Nat → Nat → Parsed → Parsed
  | 0, _, _, _, r => r
  | k + 1, limit, h, n, r =>
    let w0 := nodeWord s n 0
    if !w0.testBit 31 then r
    else if r.nodes = 16 ∨ (r.vlans.length = 4 ∧ w0.testBit 30) ∨ (r.mpls.length = 8 ∧ w0.testBit 29) then { r with truncated := true }
    else match headerLen s l limit h n with
      | none => { r with conflict := true }
      | some len =>
        if len < bits (nodeWord s n 2) 15 8 ∨ limit < h + len then { r with conflict := true }
        else if 512 < h + len then { r with truncated := true }
        else match tlLimit s l limit h (h + len) n with
          | none => { r with conflict := true }
          | some lim =>
            let tag := ofBytes (slice l (h - 2) (min 2 h)) * 2 ^ 16 + ofBytes (slice l h 2)
            let r1 := { r with
              nodes := r.nodes + 1, last := n
              layers := if w0.testBit 26 then r.layers.put (bits w0 25 23) (n, h) else r.layers
              vlans := if w0.testBit 30 then r.vlans ++ [tag] else r.vlans
              mpls := if w0.testBit 29 then r.mpls ++ [ofBytes (slice l h 4)] else r.mpls
              containers := extractions s l lim h n r.containers }
            if isFragment s l lim h n then { r1 with frag := true }
            else match nextNode s l h n with
              | none => r1
              | some m => parseFrom s l k lim (h + len) m r1

/-- A frame parsed from its start node: its frame limit leaves out the FCS (R265, R287). -/
def parseFrame (s : State) (a : Arrival) : Parsed := parseFrom s a.bytes 17 (frameLimit a.bytes) 0 a.start {}

/-! ### Word sources (R275) -/

/-- META0, META1 and FLAGS of a parsed arrival. -/
def meta0 (a : Arrival) (r : Parsed) : Nat :=
  (if a.up then a.block * 2 ^ 26 + a.sub * 2 ^ 24 else 2 ^ 31 + a.port * 2 ^ 20) + r.vlans.length * 2 ^ 17 + r.mpls.length * 2 ^ 13
def meta1 (a : Arrival) : Nat := if a.up then 0 else a.stream * 2 ^ 16 + a.dtid * 2 ^ 4 + a.entry
def validMask (r : Parsed) : Nat := total (r.containers.keys.map fun k => 2 ^ k)
def flagsWord (r : Parsed) : Nat :=
  bitN r.truncated * 2 ^ 31 + bitN r.frag * 2 ^ 30 + r.nodes * 2 ^ 25 + r.last * 2 ^ 17 + validMask r
def layerWord (r : Parsed) (k : Nat) : Nat :=
  if r.layers.has k then let x := r.layers.look (0, 0) k; 2 ^ 31 + x.1 * 2 ^ 18 + x.2 else 0

/-- The word that a source code names. -/
def wordSource (a : Arrival) (r : Parsed) (code : Nat) : Nat :=
  if code < 0x10 then r.containers.look 0 code
  else if code < 0x14 then r.vlans.getD (code - 0x10) 0
  else if code < 0x1C then r.mpls.getD (code - 0x14) 0
  else if code = 0x1C then meta0 a r
  else if code = 0x1D then meta1 a
  else if code = 0x1E then flagsWord r
  else if 0x20 ≤ code ∧ code < 0x28 then layerWord r (code - 0x20)
  else 0

/-! ### Changing the graph (R287) -/

/-- Address a lies in node or transition memory. -/
def pgMemory (a : Nat) : Bool := within 0x03001000 0x4000 a || within 0x03008000 0x8000 a

/-- WR_REJ (R287). -/
def pgRej (s : State) : State := pgEvent 1 { s with pg := { s.pg with wrRej := true } }

/-- The bits of a word of node or transition memory: its reserved bits read 0 (R12, R267, R268). -/
def pgBits (a : Nat) : Word := match rowOf a with | some (d, _) => d.rwMask | none => 0

/-- A write to node or transition memory: to the shadow bank, or rejected while the copy runs. -/
def writePgMemory (a : Nat) (v : Word) (s : State) : State :=
  if s.pg.copyBusy then pgRej s else setReg a (v &&& pgBits a) { s with pg := { s.pg with wrRej := false } }

/-- The registers with node and transition memory as the active bank has it. -/
def pgShadow (s : State) : Tab Word :=
  s.pg.active.foldl (fun (t : Tab Word) x => Tab.put t x.1 x.2)
    (s.regs.adjust fun a v => if pgMemory a then s.pg.active.look 0 a else v)

/-- COMMIT: the shadow bank becomes active and the former active bank the shadow, until it is copied over. -/
def pgCommit (s : State) : State :=
  if s.pg.copyBusy then pgRej s
  else
    let shadow := s.regs.filter fun x => pgMemory x.1
    pgEvent 0 { s with regs := pgShadow s, pg := { active := shadow, bank := !s.pg.bank, copyBusy := true, wrRej := false } }

/-- PG_COPY_DONE: the shadow bank equals the active one. -/
def pgCopyDone (s : State) : State :=
  if s.pg.copyBusy then
    { s with regs := pgShadow s, pg := { s.pg with copyBusy := false } }
  else s

def execPgCommit (s : State) : Host.Outcome State Fault Refusal := .next (onlyIf (coreOn s) pgCommit s)
def execPgCopyDone (s : State) : Host.Outcome State Fault Refusal := .next (onlyIf (coreOn s) pgCopyDone s)
def pgCntClr : State → State := zeroRegs (within 0x03000200 0x20)
def execPgCntClr (s : State) : Host.Outcome State Fault Refusal := .next (onlyIf (coreOn s) pgCntClr s)

end Sys2Proof.Machine
end

