-- ==== Sys2Proof/Machine/Tables.lean ====
section
/-! DEFINITION. Hash tables as Canopy and the classifier keep them: candidate buckets, search, placement by relocation,
eviction, walks (R298 to R302, R306, R278). -/
namespace Sys2Proof.Machine
open Sys2Proof

/-- CRC-32C of R279 over words, each most significant bit first. -/
def crc32c (seed : Nat) (l : List Nat) : Nat := (l.flatMap fun w => bitsMsb w 32).foldl (crcStep 32 0x1EDC6F41) seed

/-- Buckets of a table in each tier (0 where it does not use the tier), and its seeds (R297, R299). -/
structure TableShape where
  onB : Nat
  hbmB : Nat
  seedA : Nat
  seedB : Nat
  seedF : Nat
  deriving DecidableEq, Repr

def TableShape.nb (c : TableShape) (hbm : Bool) : Nat := if hbm then c.hbmB else c.onB
/-- A tier's entries. -/
def HashTable.tier (t : HashTable) (hbm : Bool) : Tab Entry := if hbm then t.hbm else t.on
def HashTable.setTier (t : HashTable) (hbm : Bool) (x : Tab Entry) : HashTable :=
  if hbm then { t with hbm := x } else { t with on := x }
/-- The entry at a position, if one is valid. -/
def HashTable.atPos (t : HashTable) (hbm : Bool) (p : Nat) : Option Entry :=
  if (t.tier hbm).has p then some ((t.tier hbm).look { key := [], result := 0 } p) else none
def HashTable.putPos (t : HashTable) (hbm : Bool) (p : Nat) (e : Entry) : HashTable := t.setTier hbm ((t.tier hbm).put p e)
def HashTable.dropPos (t : HashTable) (hbm : Bool) (p : Nat) : HashTable := t.setTier hbm ((t.tier hbm).drop p)

/-- The two candidate buckets of a key in a tier (R299). -/
def TableShape.buckets (c : TableShape) (hbm : Bool) (key : List Nat) : Nat × Nat :=
  let n := c.nb hbm
  let a := crc32c c.seedA key * n / 2 ^ 32
  let b := crc32c c.seedB key * n / 2 ^ 32
  (a, if b = a then (a + 1) % max n 1 else b)

/-- The eight positions of a bucket. -/
def bucketPos (b : Nat) : List Nat := (List.range 8).map fun i => 8 * b + i
/-- The positions of a key's candidate buckets, A first; none where the tier is not used. -/
def TableShape.positions (c : TableShape) (hbm : Bool) (key : List Nat) : List Nat :=
  if c.nb hbm = 0 then [] else let x := c.buckets hbm key; (bucketPos x.1 ++ bucketPos x.2).eraseDups

/-- A key's fingerprint (R299). -/
def TableShape.finger (c : TableShape) (key : List Nat) : Nat :=
  let f := crc32c c.seedF key % 2 ^ 16
  if f = 0 then 1 else f

/-- HBM positions that a search of a key reads: those whose held fingerprint equals the key's (R299, R300). -/
def HashTable.hbmReads (t : HashTable) (c : TableShape) (key : List Nat) : List Nat :=
  (c.positions true key).filter fun p => match t.atPos true p with | some e => e.finger == c.finger key | none => false

/-- Where a search finds a key in a tier: on-die among its candidate positions, in the HBM tier among those read (R300). -/
def HashTable.findIn (t : HashTable) (c : TableShape) (hbm : Bool) (key : List Nat) : Option (Bool × Nat × Entry) :=
  (if hbm then t.hbmReads c key else c.positions false key).findSome? fun p => match t.atPos hbm p with
    | some e => if e.key = key then some (hbm, p, e) else none
    | none => none

/-- Where a key stands: on-die first, then in the HBM tier where that may be read (R300). -/
def HashTable.find (t : HashTable) (c : TableShape) (readHbm : Bool) (key : List Nat) : Option (Bool × Nat × Entry) :=
  match t.findIn c false key with
  | some x => some x
  | none => if readHbm then t.findIn c true key else none

/-- Positions among a list that are free. -/
def HashTable.free (t : HashTable) (hbm : Bool) (l : List Nat) : List Nat := l.filter fun p => (t.atPos hbm p).isNone

/-- The other candidate bucket of the entry at a position (R301). -/
def TableShape.other (c : TableShape) (hbm : Bool) (e : Entry) (b : Nat) : Nat :=
  let x := c.buckets hbm e.key
  if x.1 = b then x.2 else x.1

/-- The paths of at most k relocations that free a position of bucket b, each as its moves (from, to), nearest first (R301). -/
def HashTable.paths (t : HashTable) (c : TableShape) (hbm : Bool) : Nat → Nat → List (List (Nat × Nat))
  | 0, _ => []
  | k + 1, b => (bucketPos b).flatMap fun p => match t.atPos hbm p with
    | none => []
    | some e =>
      let o := c.other hbm e b
      if o = b then []
      else ((t.free hbm (bucketPos o)).map fun f => [(p, f)]) ++
        ((t.paths c hbm k o).filter fun l => !(l.any fun m => m.1 == p || m.2 == p)).map fun l => (p, (l.headD (p, p)).1) :: l

/-- One relocation. -/
def HashTable.move (t : HashTable) (hbm : Bool) (m : Nat × Nat) : HashTable :=
  match t.atPos hbm m.1 with
  | some e => (t.putPos hbm m.2 e).dropPos hbm m.1
  | none => t

/-- The relocations of a path, from its far end backward. -/
def HashTable.movePath (t : HashTable) (hbm : Bool) (l : List (Nat × Nat)) : HashTable := l.reverse.foldl (fun x m => x.move hbm m) t

/-- What a placement did: the table, the relocations with their tier, the entry evicted. -/
structure Placed where
  table : HashTable
  hbm : Bool
  pos : Nat
  moves : List (Nat × Nat)
  evicted : Option (Bool × Nat × Entry)
  deriving DecidableEq, Repr

/-- The member of a non-empty list that a free value picks: the spec leaves the choice open. -/
def pickOf {α : Type} (n : Nat) (l : List α) : Option α := l[n % max 1 l.length]?

/-- Placement in a tier's free position (R301 step 2). -/
def HashTable.placeFree (t : HashTable) (c : TableShape) (hbm : Bool) (e : Entry) (n : Nat) : Option Placed :=
  (pickOf n (t.free hbm (c.positions hbm e.key))).map fun p => ⟨t.putPos hbm p e, hbm, p, [], none⟩

/-- Placement by relocations in a tier (R301 step 3). -/
def HashTable.placeMoved (t : HashTable) (c : TableShape) (hbm : Bool) (e : Entry) (n : Nat) : Option Placed :=
  if c.nb hbm = 0 then none
  else
    let x := c.buckets hbm e.key
    let all := t.paths c hbm 3 x.1 ++ (if x.2 = x.1 then [] else t.paths c hbm 3 x.2)
    (pickOf n all).map fun l =>
      let p := (l.headD (0, 0)).1
      ⟨(t.movePath hbm l).putPos hbm p e, hbm, p, l, none⟩

/-- Age of an entry (R311). -/
def HashTable.age (t : HashTable) (e : Entry) : Nat := (t.now + 65536 - e.stamp) % 65536

/-- The candidates for eviction: valid, not static, by rising tier and position (R302). -/
def HashTable.victims (t : HashTable) (c : TableShape) (key : List Nat) : List (Bool × Nat × Entry) :=
  [false, true].flatMap fun hbm =>
    ((c.positions hbm key).mergeSort (· ≤ ·)).filterMap fun p => match t.atPos hbm p with
      | some e => if e.isStatic then none else some (hbm, p, e)
      | none => none

/-- The first of greatest age. -/
def HashTable.oldest (t : HashTable) (l : List (Bool × Nat × Entry)) : Option (Bool × Nat × Entry) :=
  l.foldl (fun best x => match best with
    | none => some x
    | some b => if t.age b.2.2 < t.age x.2.2 then some x else best) none

/-- Placement by eviction (R302). -/
def HashTable.placeEvict (t : HashTable) (c : TableShape) (oldest : Bool) (e : Entry) (n : Nat) : Option Placed :=
  let l := t.victims c e.key
  (if oldest then t.oldest l else pickOf n l).map fun v => ⟨t.putPos v.1 v.2.1 e, v.1, v.2.1, [], some v⟩

/-- A new key's placement, with eviction where `evict` says by which policy (R301, R302). -/
def HashTable.place (t : HashTable) (c : TableShape) (e : Entry) (evict : Option Bool) (n : Nat) : Option Placed :=
  (t.placeFree c false e n).orElse fun _ => (t.placeFree c true e n).orElse fun _ =>
  (t.placeMoved c false e n).orElse fun _ => (t.placeMoved c true e n).orElse fun _ =>
  match evict with
  | some oldest => t.placeEvict c oldest e n
  | none => none

/-! ### Walks (R306) -/

/-- A key matches KEY under KEY_MASK. -/
def keyMatches (key mask k : List Nat) : Bool :=
  (List.zipWith (· &&& ·) k mask) == (List.zipWith (· &&& ·) (key ++ List.replicate (k.length - key.length) 0) mask)

/-- The number under which a walk orders a position: on-die positions, then HBM ones. -/
def TableShape.order (c : TableShape) (hbm : Bool) (p : Nat) : Nat := if hbm then 8 * c.onB + p else p

/-- What a walk owes the entry of a key, where it has crossed the cursor. -/
def Walk.mark (w : Walk) (key : List Nat) : Option WalkMark := (w.log.find? fun x => x.1 == key).map Prod.snd
def Walk.setMark (w : Walk) (key : List Nat) (m : WalkMark) : Walk := { w with log := (key, m) :: w.log.filter fun x => x.1 != key }

/-- An entry has crossed the cursor back from ahead: not returned yet it is still owed; returned once before it was ahead, it stands
where the rule takes it for returned. -/
def WalkMark.goneBehind : Option WalkMark → WalkMark
  | some .again => .plain
  | some .twice => .twice
  | _ => .behind
/-- The same from behind to ahead: one returned once would come a second time, one not returned comes as any other ahead. -/
def WalkMark.goneAhead : Option WalkMark → WalkMark
  | some .behind => .plain
  | some .twice => .twice
  | _ => .again

/-- A relocation as a walk's log records it where it crosses the cursor (R306; log entry 87). -/
def Walk.crossed (w : Walk) (a b : Nat) (key : List Nat) : Walk :=
  let back := decide (w.cursor ≤ a) && decide (b < w.cursor)
  if w.lost || !(back || (decide (a < w.cursor) && decide (w.cursor ≤ b))) then w
  else if 16384 ≤ w.logged then { w with lost := true, log := [] }
  else { w.setMark key (if back then .goneBehind (w.mark key) else .goneAhead (w.mark key)) with logged := w.logged + 1 }

/-- The entries of a table with their order, ascending. -/
def HashTable.ordered (t : HashTable) (c : TableShape) : List (Nat × Entry) :=
  t.on ++ t.hbm.map fun x => (8 * c.onB + x.1, x.2)

/-- The walk after it has returned the entry of a key, a second time where `moved`. -/
def Walk.returned (w : Walk) (x : Entry × Bool) : Walk := w.setMark x.1.key (if x.2 then .twice else .plain)

/-- A step of a walk: up to n entries, each with whether it is its second return, the walk after it, whether the end was
reached. Entries that moved behind the cursor unseen come first; one already returned twice is passed over (R306). -/
def HashTable.walkStep (t : HashTable) (c : TableShape) (w : Walk) (n : Nat) : List (Entry × Bool) × Walk × Bool :=
  let fits := (t.ordered c).filter fun x => keyMatches w.key w.mask x.2.key
  let owed := (fits.filter fun x => decide (x.1 < w.cursor) && w.mark x.2.key == some .behind).map fun x => (x.2, false)
  let ahead := fits.filter fun x => decide (w.cursor ≤ x.1) && w.mark x.2.key != some .twice
  let left := n - owed.length
  let got := owed.take n ++ (ahead.take left).map fun x => (x.2, w.mark x.2.key == some .again)
  let rest := ahead.drop left
  let cur := match rest.head? with | some x => x.1 | none => 8 * (c.onB + c.hbmB)
  let marked := got.filter fun x => (w.mark x.1.key).isSome
  (got, { marked.foldl Walk.returned w with cursor := cur }, rest.isEmpty && (owed.drop n).isEmpty)

end Sys2Proof.Machine
end

