-- ==== Sys2Proof/Machine/Classify.lean ====
section
/-! DEFINITION. The classifier (R276 to R290): rule tables, hash profiles and indirection, exception classes, copies. -/
namespace Sys2Proof.Machine
open Sys2Proof

def clsEvent (i : Nat) : State → State := raise 0x03100008 0x0310000C i (728 + i)
def setCls (f : Classifier → Classifier) (s : State) : State := { s with cls := f s.cls }

/-! ### Rule tables (R276 to R278) -/

/-- Register at offset o of rule table t. -/
def ruleR (t o : Nat) : Nat := 0x03100100 + 0x40 * t + o
def ruleOn (s : State) (t : Nat) : Bool := bitAt s (ruleR t 0) 31
/-- WORDS: 0 acts as 1, above 10 as 10. -/
def ruleWords (s : State) (t : Nat) : Nat := min (max (fld s (ruleR t 0) 27 24) 1) 10
def ruleTable (s : State) (t : Nat) : HashTable := s.cls.tables.look {} t
def setRuleTable (t : Nat) (x : HashTable) : State → State := setCls fun c => { c with tables := c.tables.put t x }
/-- A rule table is one tier of buckets of eight entries, 512 of them to a unit of SIZE. -/
def ruleShape (s : State) (t : Nat) : TableShape :=
  { onB := 512 * fld s (ruleR t 0) 8 0, hbmB := 0
    seedA := (Config.ruleSeed t false).toNat, seedB := (Config.ruleSeed t true).toNat, seedF := 0 }

/-- A write of TBL_CTL: refused with CAP_REJ where the enabled tables would exceed 256 units, and without effect where SIZE or WORDS
changes while EN is 1; such a change empties the table (R276). -/
def writeRuleCtl (t : Nat) (v : Word) (s : State) : State :=
  let a := ruleR t 0
  let w := v &&& 0xEF0001FF
  let change := (w &&& 0x0F0001FF) != (reg s a &&& 0x0F0001FF)
  let s1 := setReg a w s
  let sizes := total ((upTo 16).map fun k => if ruleOn s1 k then fld s1 (ruleR k 0) 8 0 else 0)
  if 256 < sizes then clsEvent 0 (setCls (fun c => { c with capRej := true }) s)
  else if change && ruleOn s t then s
  else
    let s2 := setCls (fun c => { c with capRej := false }) s1
    if change then setRuleTable t {} s2 else s2

def execClsTblCtlWrite (t : Fin 16) (val : Word) (s : State) : Host.Outcome State Fault Refusal :=
  .next (onlyIf (coreOn s) (writeRuleCtl t val) s)

/-- Source code i of a pair of source registers at a. -/
def sourceCode (s : State) (a i : Nat) : Nat :=
  if i < 5 then fld s a (6 * i + 5) (6 * i) else fld s (a + 4) (6 * (i - 5) + 5) (6 * (i - 5))

/-- A frame's key in rule table t. -/
def ruleKeyOf (s : State) (t : Nat) (a : Arrival) (r : Parsed) : List Nat :=
  (upTo (ruleWords s t)).map fun i => wordSource a r (sourceCode s (ruleR t 8) i) &&& regN s (ruleR t (0x10 + 4 * i))

/-- The result of table t for a frame, and whether it was a hit (R277). -/
def ruleSearch (s : State) (t : Nat) (a : Arrival) (r : Parsed) : Nat × Bool :=
  let need := fld s (ruleR t 4) 15 0
  if validMask r &&& need ≠ need then (reg64 s (ruleR t 0x38), false)
  else match (ruleTable s t).find (ruleShape s t) false (ruleKeyOf s t a r) with
    | some x => (x.2.2.result.toNat, true)
    | none => (reg64 s (ruleR t 0x38), false)

/-- The merged rule result (R277). -/
structure RuleResult where
  drop : Bool := false
  classes : List Nat := []
  meter : Option Nat := none
  tc : Option Nat := none
  hash : Option Nat := none
  stream : Option Nat := none
  deriving DecidableEq, Repr

/-- A later, higher-numbered table's result over an earlier merge. -/
def RuleResult.merge (m : RuleResult) (w : Nat) : RuleResult :=
  { drop := m.drop || w.testBit 63
    classes := if w.testBit 62 && decide (8 ≤ bits w 61 56) then m.classes ++ [bits w 61 56] else m.classes
    meter := if w.testBit 55 then some (bits w 54 37) else m.meter
    tc := if w.testBit 36 then some (bits w 35 33) else m.tc
    hash := if w.testBit 32 then some (bits w 31 26) else m.hash
    stream := if w.testBit 25 then some (bits w 24 9) else m.stream }

/-- Every table enabled for the frame's direction searched, its hits and misses counted, the results merged. -/
def classifyFrame (a : Arrival) (r : Parsed) (s : State) : State × RuleResult :=
  if !bitAt s 0x03100000 0 then (s, {})
  else
    let ts := (upTo 16).filter fun t => ruleOn s t && bitAt s (ruleR t 0) (if a.up then 30 else 29)
    let found := ts.map fun t => (t, ruleSearch s t a r)
    (forAll (fun x y => bump64 (0x03100600 + 0x10 * x.1 + (if x.2.2 then 0 else 8)) 1 y) found s,
      found.foldl (fun m x => m.merge x.2.1) {})

/-! ### The classifier's ring (R278) -/

/-- A rule command completes. -/
def ruleEnd (status : Nat) (existed ended : Bool) (rcount handle : Nat) (result : BitVec 64) (s : State) : State :=
  clsEvent 5 (emit (.ruleDone status existed ended rcount handle result) s)

/-- The opcode, table or key of a rule command is not one that the ring can act on. -/
def ruleBad (s : State) (c : RuleCommand) : Bool :=
  c.other || decide (16 ≤ c.table.toNat) || !ruleOn s c.table.toNat || (c.key.drop (ruleWords s c.table.toNat)).any (· != 0)

/-- A command's key, or mask, at the table's width. -/
def ruleKey (s : State) (t : Nat) (l : List Word) : List Nat := (upTo (ruleWords s t)).map fun i => (l.getD i 0).toNat

/-- The relocations of a placement as the walks over that table log them. -/
def logMoves (c : TableShape) (t : HashTable) (table : Nat) (hbm : Bool) (moves : List (Nat × Nat)) (ws : Tab Walk) : Tab Walk :=
  ws.adjust fun _ w =>
    if w.table = table then
      moves.foldl (fun w m => match t.atPos hbm m.1 with
        | some e => w.crossed (c.order hbm m.1) (c.order hbm m.2) e.key
        | none => w) w
    else w

/-- An entry goes into rule table t, in the place of the one with its key or into a free position; whether there was one, or none where
there is no room: rule entries are never evicted. -/
def rulePut (t : Nat) (e : Entry) (s : State) : State × Option Bool :=
  let x := ruleTable s t
  let sh := ruleShape s t
  match x.find sh false e.key with
  | some f => (setRuleTable t (x.putPos false f.2.1 e) s, some true)
  | none => match x.place sh e none (freeVal s) with
    | none => (drawn s, none)
    | some p =>
      (setRuleTable t p.table (setCls (fun k => { k with walks := logMoves sh x t false p.moves k.walks }) (drawn s)), some false)

/-- The rule entries of the configuration image go into their tables; whether each is taken (R289, R452). -/
def loadRules : List (Nat × List Word × BitVec 64) → State → State × Bool
  | [], s => (s, true)
  | (t, k, v) :: r, s =>
    if 16 ≤ t ∨ !ruleOn s t then (s, false)
    else
      let x := rulePut t { key := ruleKey s t k, result := v.setWidth 96 } s
      if x.2.isNone then (x.1, false) else loadRules r x.1

/-- A rule command; one that meets an entry of the rule tables not restored yet ends with FAULT and changes nothing, which is free while
there is one (R470; log entry 232). -/
def ruleTake (f : State → State) (s : State) : State :=
  if s.faults.restoring.any fun x => x.1 == 7 then (if freeBit s then ruleEnd 9 false false 0 0 0 (drawn s) else f (drawn s)) else f s

/-- INSERT: update in place, placement, or NO_ROOM. -/
def ruleInsert (c : RuleCommand) (s : State) : State :=
  let t := c.table.toNat
  if ruleBad s c then ruleEnd 3 false false 0 0 0 s
  else
    let x := rulePut t { key := ruleKey s t c.key, result := c.result.setWidth 96 } s
    match x.2 with
    | some existed => ruleEnd 0 existed false 0 0 0 x.1
    | none => ruleEnd 4 false false 0 0 0 x.1

def execRuleInsert (c : RuleCommand) (s : State) : Host.Outcome State Fault Refusal := .next (onlyIf (coreOn s) (ruleTake (ruleInsert c)) s)

/-- DELETE. -/
def ruleDelete (c : RuleCommand) (s : State) : State :=
  let t := c.table.toNat
  if ruleBad s c then ruleEnd 3 false false 0 0 0 s
  else match (ruleTable s t).find (ruleShape s t) false (ruleKey s t c.key) with
    | some f => ruleEnd 0 false false 0 0 0 (setRuleTable t ((ruleTable s t).dropPos false f.2.1) s)
    | none => ruleEnd 5 false false 0 0 0 s

def execRuleDelete (c : RuleCommand) (s : State) : Host.Outcome State Fault Refusal := .next (onlyIf (coreOn s) (ruleTake (ruleDelete c)) s)

/-- A handle left for 1 s of core time is free again (R306). -/
def walkHeld (s : State) (w : Walk) : Bool := decide (coreNow s < w.used + 80000000000)

/-- One command's step of walk h of a rule table: its entries are written, and the command completes. -/
def ruleWalk (h : Nat) (w : Walk) (c : RuleCommand) (s : State) : State :=
  let x := (ruleTable s w.table).walkStep (ruleShape s w.table) w c.count.toNat
  let bytes := x.1.flatMap fun e => Config.ruleImage e.1.key (e.1.result.setWidth 64) e.2
  let w1 := { x.2.1 with used := coreNow s }
  let s1 := setCls (fun k => { k with walks := if c.endWalk then k.walks.drop h else k.walks.put h w1 }) s
  ruleEnd 0 false x.2.2 x.1.length h 0 (dmaWrite c.outTgt c.outAddr.toNat bytes s1)

/-- SEARCH: exact, or with WALK a walk on a free handle. -/
def ruleSearchCmd (c : RuleCommand) (s : State) : State :=
  let t := c.table.toNat
  if ruleBad s c then ruleEnd 3 false false 0 0 0 s
  else if !c.walk then
    match (ruleTable s t).find (ruleShape s t) false (ruleKey s t c.key) with
    | some f => ruleEnd 0 false false 0 0 (f.2.2.result.setWidth 64) s
    | none => ruleEnd 5 false false 0 0 0 s
  else
    match pickOf (freeVal s) ((upTo 8).filter fun h => !(s.cls.walks.has h && walkHeld s (s.cls.walks.look ⟨0, [], [], 0, [], 0, false, 0⟩ h))) with
    | none => ruleEnd 1 false false 0 0 0 (drawn s)
    | some h => ruleWalk h { table := t, key := ruleKey s t c.key, mask := ruleKey s t c.keyMask } { c with endWalk := false } (drawn s)

def execRuleSearch (c : RuleCommand) (s : State) : Host.Outcome State Fault Refusal := .next (onlyIf (coreOn s) (ruleTake (ruleSearchCmd c)) s)

/-- NEXT: a walk goes on, or has ended because its log overflowed. -/
def ruleNext (c : RuleCommand) (s : State) : State :=
  let h := c.handle.toNat
  let w := s.cls.walks.look ⟨0, [], [], 0, [], 0, false, 0⟩ h
  if c.other then ruleEnd 3 false false 0 h 0 s
  else if !(s.cls.walks.has h && walkHeld s w) then ruleEnd 5 false false 0 h 0 s
  else if w.lost then ruleEnd 0xA false false 0 h 0 (setCls (fun k => { k with walks := k.walks.drop h }) s)
  else if !ruleOn s w.table then ruleEnd 3 false false 0 h 0 s
  else ruleWalk h w c s

def execRuleNext (c : RuleCommand) (s : State) : Host.Outcome State Fault Refusal := .next (onlyIf (coreOn s) (ruleTake (ruleNext c)) s)

/-! ### Hash profiles and indirection (R279 to R282) -/

def profR (h o : Nat) : Nat := 0x03103000 + 0x40 * h + o
def indR (h i : Nat) : Nat := 0x03200000 + 0x8000 * h + 8 * i
def profOn (s : State) (h : Nat) : Bool := bitAt s (profR h 0) 31
def repairOn (s : State) (h : Nat) : Bool := bitAt s (profR h 0) 30

/-- A pair of positions put in order (R279); a pair of equal positions, or of one that is not hashed, changes nothing. -/
def sortPair (l : List Nat) (x y : Nat) : List Nat :=
  if x = y ∨ l.length ≤ x ∨ l.length ≤ y then l
  else (l.set x (min (l.getD x 0) (l.getD y 0))).set y (max (l.getD x 0) (l.getD y 0))

/-- A frame's index into profile h's indirection (R279). -/
def hashIndex (s : State) (h : Nat) (a : Arrival) (r : Parsed) : Nat :=
  let n := min (max (fld s (profR h 0) 19 16) 1) 10
  let l := (upTo n).map fun i => wordSource a r (sourceCode s (profR h 8) i) &&& regN s (profR h (0x10 + 4 * i))
  let l1 := if bitAt s (profR h 0) 29 then
      sortPair (sortPair l (fld s (profR h 0) 15 12) (fld s (profR h 0) 11 8)) (fld s (profR h 0) 7 4) (fld s (profR h 0) 3 0)
    else l
  let c := crc32c (regN s (profR h 4)) l1
  bits c 11 0 ^^^ bits c 31 20

/-- The queue that an entry gives a frame bound for an upstream queue or for a client queue; none where it is INVALID,
unusable or out of range (R280). -/
def entryQueue (s : State) (a : Arrival) (toTrunk : Bool) (w : Nat) : Option Nat :=
  let q := bits w 15 0
  match bits w 63 62 with
  | 1 => if toTrunk then some q
    else if q < 2048 ∧ !paired s (q / 64) then some q else none
  | 2 =>
    match findCtx s (bits w 51 48) (bits w 47 36) with
    | some c => if a.up && toTrunk && queueCtx s q == c.1 then some q else none
    | none => none
  | _ => none

/-- Trunk port p is usable for load spreading (R281). -/
def pathUsable (s : State) (p : Nat) : Bool := (regnOf s p).state == .operate && !portDark s p
def usablePorts (s : State) : BitVec 16 := BitVec.ofNat 16 (total ((upTo 16).map fun p => if pathUsable s p then 2 ^ p else 0))

/-- Home entry i of profile h. -/
def homeEntry (s : State) (h i : Nat) : Nat := s.cls.home.look 0 (4096 * h + i)
/-- Entries of profile h that are not all zero in the live table or in the home copy. -/
def profEntries (s : State) (h : Nat) : List Nat :=
  ((s.regs.keys.filter fun a => within (indR h 0) 0x8000 a).map (fun a => (a - indR h 0) / 8) ++
    (s.cls.home.keys.filter fun k => k / 4096 == h).map (· % 4096)).eraseDups
/-- The live table of profile h becomes its home copy (R282). -/
def takeHome (h : Nat) (s : State) : State :=
  let es := profEntries s h
  setCls (fun c => { c with home := es.foldl (fun t i => Tab.put t (4096 * h + i) (reg64 s (indR h i))) c.home }) s

/-- A home entry is a PATH on a usable port, or a QUEUE. -/
def homeGood (ok : BitVec 16) (w : Nat) : Bool :=
  bits w 63 62 == 1 || (bits w 63 62 == 2 && ok.getLsbD (bits w 51 48))

/-- What the live entry of home entry i becomes under R281. -/
def repaired (s : State) (ok : BitVec 16) (h i : Nat) : Nat :=
  let w := homeEntry s h i
  if bits w 63 62 = 2 ∧ !ok.getLsbD (bits w 51 48) then
    match ((List.range 4096).map fun k => homeEntry s h ((i + 1 + k) % 4096)).find? (homeGood ok) with
    | some x => x
    | none => w
  else w

/-- The repair of profile h: entries changed, or PROFILE_DEAD where no home entry is on a usable port. -/
def repairProfile (ok : BitVec 16) (h : Nat) (s : State) : State :=
  let es := (profEntries s h).filter fun i => bits (homeEntry s h i) 63 62 == 2
  if !(es.any fun i => ok.getLsbD (bits (homeEntry s h i) 51 48)) then clsEvent 4 s
  else
    let changed := es.filter fun i => reg64 s (indR h i) != repaired s ok h i
    bump 0x0310400C changed.length (forAll (fun i x => setReg64 (indR h i) (repaired s ok h i) x) changed s)

/-- INDIRECTION_REPAIR, when the usable ports have changed. -/
def repairAll (s : State) : State :=
  let ok := usablePorts s
  if ok = s.cls.usable then s
  else
    let s1 := forAll (repairProfile ok) ((upTo 64).filter (repairOn s)) s
    clsEvent 3 (setCls (fun c => { c with usable := ok }) s1)

def execIndirectionRepair (s : State) : Host.Outcome State Fault Refusal := .next (onlyIf (coreOn s) repairAll s)

/-- A write of HP_CTL (R282). -/
def writeHpCtl (h : Nat) (v : Word) (s : State) : State :=
  let s1 := setReg (profR h 0) (v &&& 0xE00FFFFF) s
  if repairOn s1 h && !repairOn s h then takeHome h s1 else s1

def execHpCtlWrite (h : Fin 64) (val : Word) (s : State) : Host.Outcome State Fault Refusal :=
  .next (onlyIf (coreOn s) (writeHpCtl h val) s)

/-- Address a lies in indirection memory; its profile. -/
def isIndirection (a : Nat) : Bool := within 0x03200000 0x200000 a
/-- A write on path `path` of a word of indirection memory: the high word waits for the low one, which commits both without
their reserved bits; on a profile that is being repaired either is refused (R12, R13, R280, R282). -/
def writeIndirection (path : Path) (a : Nat) (v : Word) (s : State) : State :=
  let h := (a - 0x03200000) / 0x8000
  let x := pathOf s path
  if repairOn s h then
    setPath path { x with high := x.high.drop (a - a % 8 + 4) } (setCls (fun c => { c with indRej := true }) s)
  else if a % 8 = 4 then setPath path { x with high := x.high.put a v } s
  else
    let hi := x.high.look (reg s (a + 4)) (a + 4)
    setReg a (v &&& 0xFFFF) (setReg (a + 4) (hi &&& 0xC00FFFF0) (setPath path { x with high := x.high.drop (a + 4) }
      (setCls (fun c => { c with indRej := false }) s)))

def execIndEntryWrite (path : Path) (addr val : Word) (s : State) : Host.Outcome State Fault Refusal :=
  .next (onlyIf (coreOn s && isIndirection addr.toNat && addr.toNat % 4 == 0) (writeIndirection path addr.toNat val) s)

/-- IND_WRITE: home entries, and the live ones under R281 (R282, R528). -/
def cmdIndWrite (r : MbRequest) (s : State) : MbAnswer :=
  let h := r.arg 0
  let first := r.arg 1
  let n := r.arg 2
  if 64 ≤ h ∨ 4096 < first + n ∨ r.len < 12 + 8 * n then mbStatus 3 s
  else
    let ok := usablePorts s
    let home := (upTo n).foldl (fun t k => Tab.put t (4096 * h + first + k) (r.arg64 (3 + 2 * k) &&& 0xC00FFFF00000FFFF)) s.cls.home
    let s1 := setCls (fun c => { c with home := home }) s
    mbStatus 0 (forAll (fun k x => setReg64 (indR h (first + k)) (repaired s1 ok h (first + k)) x) (upTo n) s1)

def execIndWrite (i : Fin 2) (s : State) : Host.Outcome State Fault Refusal := .next (onlyIf (coreOn s) (mbRun i 0x60 cmdIndWrite) s)

/-! ### Exception classes (R283 to R286) -/

def excR (c o : Nat) : Nat := 0x03101000 + 0x10 * c + o
def excCnt (c i : Nat) : State → State := bump (0x03102000 + 0x10 * c + 4 * i) 1

/-- The tokens of class c, in millionths, at this microsecond (R285). -/
def tokensNow (s : State) (c : Nat) : Nat :=
  let cap := 1000000 * max 1 (fld s (excR c 8) 15 0)
  match s.cls.tokens.look none c with
  | none => cap
  | some (n, t) => min cap (n + fld s (excR c 4) 21 0 * (coreNow s / 80000 - t))
/-- Class c's bucket holds n millionths now. -/
def setTokens (c n : Nat) (s : State) : State :=
  setCls (fun k => { k with tokens := k.tokens.put c (some (n, coreNow s / 80000)) }) s
/-- The bucket as it stands, before RATE or BURST changes. -/
def settleTokens (c : Nat) (s : State) : State := setTokens c (tokensNow s c) s

/-- A write of EXC_CTL sets the action and fills the bucket (R285). -/
def writeExcCtl (c : Nat) (v : Word) (s : State) : State :=
  setCls (fun k => { k with tokens := k.tokens.put c none }) (setReg (excR c 0) (v &&& 0xC0003FFF) s)

def execExcCtlWrite (c : Fin 64) (val : Word) (s : State) : Host.Outcome State Fault Refusal :=
  .next (onlyIf (coreOn s) (writeExcCtl c val) s)

/-- ACTION of class c; LEN_CONFLICT is never forwarded (R274). -/
def excAction (s : State) (c : Nat) : Nat :=
  let a := fld s (excR c 0) 31 30
  if c = 0 then (if a = 0 then 1 else if a = 3 then 2 else a) else a
/-- DROP over TRAP over COPY over NONE. -/
def strength (a : Nat) : Nat := match a with | 1 => 3 | 2 => 2 | 3 => 1 | _ => 0

/-- Bytes of a copy under COPY_LEN. -/
def copyBytes (s : State) (c : Nat) (l : List Byte) : List Byte :=
  let n := fld s (excR c 0) 13 0
  if n = 0 then l else l.take (min (max n 64) 16000)

/-- One copy toward Crosstree charged to class c: a token, then a place in the queue of 4,096 (R284 to R286). -/
def sendCopy (c : Nat) (x : Copy) (s : State) : State :=
  let n := tokensNow s c
  if n < 1000000 then clsEvent 1 (excCnt c 3 s)
  else
    let s1 := setTokens c (n - 1000000) s
    if 4096 ≤ s1.cls.cpu.length then clsEvent 2 (bump 0x03104008 1 s1)
    else excCnt c 2 (setCls (fun k => { k with cpu := k.cpu ++ [{ x with cls := c, bytes := copyBytes s c x.bytes }] }) s1)

/-- What a copy of an arrival carries (R286). -/
def copyOf (s : State) (a : Arrival) (r : Parsed) : Copy :=
  { cls := 0, down := !a.up, words := [meta0 a r, meta1 a, flagsWord r] ++ (upTo 8).map (layerWord r)
    stamp := if a.up then readAt s a.stamp else 0, unset := a.up && a.unset, length := a.bytes.length, bytes := a.bytes }

/-- The decision of R284 over the raised classes: the state after counts and a copy, and whether the frame is forwarded. -/
def decide284 (raised : List Nat) (ruleDrop : Bool) (x : Copy) (s : State) : State × Bool :=
  let l := raised.eraseDups
  let s1 := forAll (fun c y => excCnt c 0 y) l s
  let top := l.foldl (fun m c => max m (strength (excAction s c))) 0
  let s2 := match (l.filter fun c => strength (excAction s c) == top).min? with
    | none => s1
    | some c =>
      let y := excCnt c 1 s1
      if top = 2 ∨ top = 1 then sendCopy c x y else y
  (s2, decide (top ≤ 1) && !ruleDrop)

/-- CLS_CNT_CLR (R290). -/
def clsCntClr : State → State :=
  zeroRegs fun a => within 0x03100600 0x100 a || within 0x03102000 0x400 a || within 0x03104000 0x10 a

def execClsCntClr (s : State) : Host.Outcome State Fault Refusal := .next (onlyIf (coreOn s) clsCntClr s)

end Sys2Proof.Machine
end

