-- ==== Sys2Proof/Machine/CanOps.lean ====
section
/-! DEFINITION. Canopy's tables and events, the prefix TCAM and the result caches (R297 to R318), as frames and commands
use them. -/
namespace Sys2Proof.Machine
open Sys2Proof

def canEvent (i : Nat) : State → State := raise 0x04000008 0x0400000C i (784 + i)
def tcamEvent (i : Nat) : State → State := raise 0x04100008 0x0410000C i (800 + i)
def setCan (f : Canopy → Canopy) (s : State) : State := { s with can := f s.can }

/-! ### Tables (R297 to R300) -/

/-- Register at offset o of Canopy table t, and counter at offset o of its set. -/
def canR (t o : Nat) : Nat := 0x04002000 + 0x40 * t + o
def canCnt (t o : Nat) : Nat := 0x04004100 + 0x40 * t + o
def canTable (s : State) (t : Nat) : HashTable := s.can.tables.look {} t
def setCanTable (t : Nat) (x : HashTable) : State → State := setCan fun c => { c with tables := c.tables.put t x }
def canOnT (s : State) (t : Nat) : Bool := bitAt s (canR t 0) 31
def tierOn (s : State) (t : Nat) : Bool := fld s (canR t 0) 30 29 != 2
def tierHbm (s : State) (t : Nat) : Bool := bitAt s (canR t 0) 30
/-- Key words of table t. -/
def canWords (s : State) (t : Nat) : Nat := fld s (canR t 0) 1 0 + 1
/-- Buckets and seeds of table t. -/
def canShape (s : State) (t : Nat) : TableShape :=
  { onB := if tierOn s t then 1024 * fld s (canR t 4) 8 0 else 0
    hbmB := if tierHbm s t then 1024 * fld s (canR t 4) 26 16 else 0
    seedA := regN s (canR t 8), seedB := regN s (canR t 0xC), seedF := regN s (canR t 0x10) }
/-- Units of a tier that the enabled tables have together, those for which `also` holds counted with them. -/
def canUnits (s : State) (hbm : Bool) (also : Nat → Bool) : Nat :=
  total ((upTo 16).map fun t =>
    if !(canOnT s t || also t) then 0 else if hbm then (if tierHbm s t then fld s (canR t 4) 26 16 else 0)
    else if tierOn s t then fld s (canR t 4) 8 0 else 0)

/-- An entry that the flush filter treats as absent (R307). -/
def flushHides (s : State) (t : Nat) (owner : Nat) (isStatic : Bool) : Bool :=
  match s.can.flush with
  | some f => f.table == t && (owner &&& f.mask) == (f.owner &&& f.mask) && (!isStatic || f.statics)
  | none => false

/-- A search of table t: its counts, and where the key stands (R300, R307, R320, R321). -/
def canSearch (t : Nat) (key : List Nat) (s : State) : State × Option (Bool × Nat × Entry) :=
  let x := canTable s t
  let c := canShape s t
  let onDie := (x.findIn c false key).isSome
  let reads := if onDie || !hbmAvail s then 0 else (x.hbmReads c key).length
  let found := (x.find c (hbmAvail s) key).bind fun y => if flushHides s t y.2.2.owner y.2.2.isStatic then none else some y
  let s1 := bump64 (canCnt t 0) 1 (if reads = 0 then s else bump64 0x04004018 reads s)
  (if found.isSome then bump64 (canCnt t 8) 1 s1 else s1, found)

/-- A hit's stamp becomes NOW (R311). -/
def refresh (t : Nat) (f : Bool × Nat × Entry) (s : State) : State :=
  let x := canTable s t
  setCanTable t (x.putPos f.1 f.2.1 { f.2.2 with stamp := x.now }) s

/-! ### Events (R310) -/

/-- Records that the event FIFO has room for. -/
def eventRoom (s : State) : Nat := 32768 - s.can.events.length
/-- A record is posted. -/
def postEvent (type t : Nat) (hbm : Bool) (e : Entry) (s : State) : State :=
  let w := type * 2 ^ 28 + t * 2 ^ 24 + bitN hbm * 2 ^ 23 + e.owner
  let r := e.result.toNat
  let rec0 := w :: ((upTo 4).map fun i => e.key.getD i 0) ++ [r / 2 ^ 64, r / 2 ^ 32 % 2 ^ 32, r % 2 ^ 32]
  let s1 := bump64 0x04004020 1 (setCan (fun c => { c with events := c.events ++ [rec0] }) s)
  let n := s1.can.events.length
  let s2 := if n = fld s1 0x04000010 14 0 then canEvent 1 s1 else s1
  if n = 32768 then canEvent 2 s2 else s2

/-- An entry's 32-byte image (R298); MOVED in a walk's second return. -/
def entryImage (e : Entry) (moved : Bool) : List Byte :=
  let flags := 2 ^ 15 + bitN e.isStatic * 2 ^ 14 + bitN e.learned * 2 ^ 13 + bitN moved * 2 ^ 12 + e.owner % 2 ^ 12
  (upTo 4).flatMap (fun i => toBytes 4 (e.key.getD i 0)) ++ toBytes 12 e.result.toNat ++ toBytes 2 e.stamp ++ toBytes 2 flags

/-! ### Placement by INSERT and by learning (R301, R302, R310, R320) -/

/-- How a placement ended: done, no room, no room for its events, or in need of the HBM tier that cannot be read. -/
inductive PlaceEnd where
  | done | noRoom | noEvents | needsHbm
  deriving DecidableEq, Repr

/-- A key that is not in the table is placed; `evict` permits eviction and `events` is what else the action posts. -/
def placeNew (t : Nat) (e : Entry) (evict : Bool) (events : Nat) (s : State) : State × PlaceEnd :=
  let x := canTable s t
  let c := canShape s t
  let onDie := (x.placeFree c false e 0).isSome
  if !hbmAvail s && c.hbmB != 0 && (!onDie || !(x.hbmReads c e.key).isEmpty) then (s, .needsHbm)
  else match x.place c e (if evict then some (bitAt s (canR t 0) 28) else none) (freeVal s) with
    | none => (s, .noRoom)
    | some p =>
      let need := events + (if p.evicted.isSome then 1 else 0)
      if eventRoom s < need then (s, .noEvents)
      else
        let s1 := setCan (fun k => { k with walks := logMoves c x t p.hbm p.moves k.walks }) (drawn s)
        let s2 := setCanTable t p.table s1
        match p.evicted with
        | some v => (bump (canCnt t 0x1C) 1 (postEvent 4 t v.1 v.2.2 s2), .done)
        | none => (s2, .done)

/-! ### Learning (R308, R309) -/

/-- LRN_DEFER counted and raised. -/
def learnDefer (t : Nat) (s : State) : State := canEvent 3 (bump (canCnt t 0x24) 1 s)

/-- A learn of a frame waits in the queue of 1,024. -/
def queueLearn (l : Learn) (s : State) : State :=
  if s.can.learns.any (fun x => x.table == l.table && x.key == l.key) then s
  else if 1024 ≤ s.can.learns.length then learnDefer l.table s
  else setCan (fun c => { c with learns := c.learns ++ [l] }) s

/-- The queue a learned result names (R308). -/
def learnQueue (s : State) (tpl block sub : Nat) : Nat :=
  let q := subQueues s block sub
  64 * block + q.1 + bits tpl 53 48 % max 1 q.2

/-! ### The prefix TCAM (R314 to R317) -/

def tcamOn (s : State) : Bool := bitAt s 0x04100000 0
/-- Bank that steering value v of a family names (R315). -/
def steerBank (s : State) (v6 : Bool) (v : Nat) : Nat :=
  fld s ((if v6 then 0x04102000 else 0x04101000) + 4 * (v / 4)) (8 * (v % 4) + 5) (8 * (v % 4))
def addrWidth (v6 : Bool) : Nat := if v6 then 128 else 32
/-- Leading 12 bits of an address. -/
def steerValue (v6 : Bool) (addr : Nat) : Nat := addr / 2 ^ (addrWidth v6 - 12) % 4096
/-- Steering values that a prefix covers. -/
def coveredValues (p : Prefix) : List Nat :=
  if 12 ≤ p.len then [steerValue p.v6 p.addr]
  else (List.range (2 ^ (12 - p.len))).map (steerValue p.v6 p.addr + ·)
/-- Banks that a prefix lies in. -/
def prefixBanks (s : State) (p : Prefix) : List Nat := ((coveredValues p).map (steerBank s p.v6)).eraseDups
/-- A prefix takes a pair of slots (R314). -/
def Prefix.pair (p : Prefix) : Bool := p.v6 && decide (64 < p.len)
/-- Two prefixes are one: family, VRF, length and address. -/
def Prefix.same (p q : Prefix) : Bool := p.v6 == q.v6 && p.vrf == q.vrf && p.len == q.len && p.addr == q.addr
/-- A prefix matches an address. -/
def Prefix.covers (p : Prefix) (v6 : Bool) (vrf addr : Nat) : Bool :=
  p.v6 == v6 && p.vrf == vrf && addr / 2 ^ (addrWidth v6 - p.len) == p.addr / 2 ^ (addrWidth v6 - p.len)

/-- A bank: the used slots, rising, each with its prefix and whether it is a pair's tail. -/
abbrev TcamBank := Tab (Prefix × Bool)
def bankOf (s : State) (b : Nat) : TcamBank := s.can.banks.look [] b
def setBank (b : Nat) (x : TcamBank) : State → State := setCan fun c => { c with banks := c.banks.put b x }
/-- Heads of a bank, in slot order. -/
def heads (x : TcamBank) : List (Nat × Prefix) := x.filterMap fun y => if y.2.2 then none else some (y.1, y.2.1)
/-- The longest match of an address in a bank: the lowest-numbered slot that matches (R316). -/
def bankMatch (x : TcamBank) (v6 : Bool) (vrf addr : Nat) : Option Prefix :=
  ((heads x).find? fun y => y.2.covers v6 vrf addr).map Prod.snd
/-- A prefix at a slot, with its tail. -/
def putSlot (x : TcamBank) (n : Nat) (p : Prefix) : TcamBank :=
  if p.pair then (Tab.put (Tab.put x n (p, false)) (n + 1) (p, true)) else Tab.put x n (p, false)
/-- A prefix out of a bank. -/
def dropPrefix (p : Prefix) (x : TcamBank) : TcamBank := x.filter fun y => !y.2.1.same p
/-- The bank packed from slot 0 in its order: what a chain of moves may always reach. -/
def packed (x : TcamBank) : TcamBank :=
  ((heads x).foldl (fun (acc : TcamBank × Nat) y => (putSlot acc.1 acc.2 y.2, acc.2 + if y.2.pair then 2 else 1)) ([], 0)).1

/-- Slots of the moves from the free position `free` up to `at_`, filled by the first entry of each shorter group in
turn; `step` is 2 among pairs. Length 0 to 128 gives at most 129 groups. -/
def chainMoves (x : TcamBank) (at_ : Nat) : Nat → Nat → TcamBank
  | 0, _ => x
  | k + 1, free =>
    if free ≤ at_ then x
    else
      let above := (heads x).filter fun y => decide (at_ ≤ y.1) && decide (y.1 < free)
      match above.getLast? with
      | none => x
      | some l =>
        match above.find? fun y => y.2.len == l.2.len with
        | none => x
        | some f => chainMoves (putSlot (x.filter fun y => !(y.1 == f.1 || (y.2.2 && y.1 == f.1 + 1))) free f.2) at_ k f.1

/-- A slot opened at position at_ by taking the nearest free single slot below it; none where there is none. -/
def openSingle (x : TcamBank) (at_ : Nat) : Option TcamBank :=
  ((List.range (16384 - at_)).map (at_ + ·)).find? (fun n => !Tab.has x n) |>.map (chainMoves x at_ 130)

/-- End of the entries at least as long as len. -/
def groupEnd (x : TcamBank) (len : Nat) : Nat :=
  ((heads x).filter fun y => decide (len ≤ y.2.len)).foldl (fun m y => max m (y.1 + if y.2.pair then 2 else 1)) 0

/-- A prefix placed in a bank as R317 prepares it. -/
def placePrefix (x : TcamBank) (p : Prefix) : Option TcamBank :=
  let e := groupEnd x p.len
  if !p.pair then (openSingle x e).map fun y => putSlot y e p
  else
    let pEnd := groupEnd x 65
    match ((List.range ((pEnd - e) / 2)).map fun i => e + 2 * i).find? fun n => !Tab.has x n && !Tab.has x (n + 1) with
    | some n => some (putSlot (chainMoves x e 130 n) e p)
    | none =>
      match openSingle x pEnd with
      | none => none
      | some y =>
        let held := putSlot y pEnd { p with len := 64 }
        (openSingle held (pEnd + 1)).map fun z =>
          let z1 := z.filter fun y => y.1 != pEnd
          putSlot (chainMoves z1 e 130 pEnd) e p

/-- The same with holes above taken in by packing; none where the bank has no free position. -/
def placeInBank (x : TcamBank) (p : Prefix) : Option TcamBank := (placePrefix x p).orElse fun _ => placePrefix (packed x) p

/-- A prefix placed in each of several banks, or in none. -/
def placeAll (s : State) (p : Prefix) : List Nat → Option (List (Nat × TcamBank))
  | [] => some []
  | b :: r => match placeInBank (bankOf s b) p, placeAll s p r with
    | some x, some l => some ((b, x) :: l)
    | _, _ => none

/-- A commit, delete or result update: both caches are empty and it is counted (R318). -/
def tcamCommit (s : State) : State := bump 0x04103024 1 (setCan (fun c => { c with caches := [] }) s)

/-- A prefix's KEY as a walk sees it: VRF and family in word 0, the address in words 1 to 3 (R306); and its length and what of the
address those words do not hold, by which a walk tells prefixes apart. -/
def prefixKey (p : Prefix) : List Nat :=
  [p.vrf + bitN p.v6 * 2 ^ 31, p.addr / 2 ^ 64 % 2 ^ 32, p.addr / 2 ^ 32 % 2 ^ 32, p.addr % 2 ^ 32, p.len, p.addr / 2 ^ 96]

/-- The prefixes that walks return, each at its slot of the lowest-numbered bank that holds it (R306). -/
def walkPrefixes (s : State) : List (Nat × Prefix) :=
  s.can.banks.flatMap fun b => ((heads b.2).filter fun y => (prefixBanks s y.2).min? == some b.1).map fun y => (16384 * b.1 + y.1, y.2)

/-- A walk of the TCAM as the prefixes move between two states. -/
def walkMoved (was is : List (Nat × Prefix)) (w : Walk) : Walk :=
  was.foldl (fun w x =>
    let y := (is.find? fun y => y.2.same x.2).map Prod.fst
    if y.getD x.1 = x.1 then w else w.crossed x.1 (y.getD x.1) (prefixKey x.2)) w

/-- The relocations between two states as the TCAM's walks log them. -/
def tcamMoved (old new : State) : State :=
  let was := walkPrefixes old
  let is := walkPrefixes new
  setCan (fun c => { c with walks := c.walks.adjust fun _ w => if w.table = 16 then walkMoved was is w else w }) new

/-- Lines of a set of a result cache: a cache's 65,536 entries are split into as many sets as lines allow, a power of two (R318; log
entry 96). -/
def cacheLines : Nat := 2 ^ (Config.cacheWays % 17)
/-- The set for an address and direction (R318). -/
def cacheKey (up v6 : Bool) (vrf addr : Nat) : Nat := 2 * (Config.cacheSet v6 vrf addr % (65536 / cacheLines)) + bitN up

/-- Stage 4: cache, then TCAM, for a frame (R292, R318, R319). -/
def stage4 (up v6 : Bool) (vrf addr : Nat) (s : State) : State × Option (BitVec 96) :=
  if !tcamOn s then (s, none)
  else
    let k := cacheKey up v6 vrf addr
    let lines := s.can.caches.look [] k
    match lines.find? fun l => l.v6 == v6 && l.vrf == vrf && l.addr == addr with
    | some l =>
      let s1 := setCan (fun c => { c with caches := c.caches.put k (l :: lines.filter (· != l)) }) s
      (bump64 (if up then 0x04103010 else 0x04103018) 1 s1, some l.result)
    | none =>
      let b := steerBank s v6 (steerValue v6 addr)
      let s1 := bump64 (if up then 0x04103000 else 0x04103008) 1
        (setCan (fun c => { c with window := c.window.put b (c.window.look 0 b + 1) }) s)
      match bankMatch (bankOf s b) v6 vrf addr with
      | none => (s1, none)
      | some p =>
        let line : CacheLine := { v6 := v6, vrf := vrf, addr := addr, result := p.result }
        (if p.result.getLsbD 92 then s1 else setCan (fun c => { c with caches := c.caches.put k ((line :: lines).take cacheLines) }) s1,
          some p.result)

end Sys2Proof.Machine
end

