-- ==== Sys2Proof/Machine/Canopy.lean ====
section
/-! DEFINITION. The commands of Canopy and of the prefix TCAM (R297 to R322): registers, rings, walks, flush, learning,
aging, steering. -/
namespace Sys2Proof.Machine
open Sys2Proof

/-! ### Registers (R297, R317, R322) -/

def canCapRej (s : State) : State := canEvent 7 s

/-- A write of a table's TBL_CTL or TBL_SIZE: without effect where the enabled tables, with a table whose size is written,
would exceed a total, with CAP_REJ (DEDUCED, log entry 82), or where TIER, WORDS_M1 or a size changes while EN is 1; such a change
empties the table (R297). Its other registers are plain. -/
def writeCanTbl (a : Nat) (v : Word) (s : State) : State :=
  let t := (a - 0x04002000) / 0x40
  let w := v &&& bufMask a
  if bufMask a = 0 then s
  else if (a - 0x04002000) % 0x40 < 8 then
    let change := if a % 0x40 = 0 then (w &&& 0x60000003) != (reg s a &&& 0x60000003) else w != reg s a
    let s1 := setReg a w s
    let also := fun u => u == t && a % 0x40 == 4
    if 256 < canUnits s1 false also ∨ 1024 < canUnits s1 true also then canCapRej s
    else if change && canOnT s t then s
    else if change then setCanTable t { canTable s t with on := [], hbm := [] } s1 else s1
  else setReg a w s

/-- Address a lies in the registers of the Canopy tables. -/
def isCanTbl (a : Nat) : Bool := within 0x04002000 0x400 a && a % 4 == 0

def execCanTblWrite (addr val : Word) (s : State) : Host.Outcome State Fault Refusal :=
  .next (onlyIf (coreOn s && isCanTbl addr.toNat) (writeCanTbl addr.toNat val) s)

/-- A write of STEER4 or STEER6 (R317). -/
def writeSteer (a : Nat) (v : Word) (s : State) : State :=
  if tcamOn s then tcamEvent 2 (setCan (fun c => { c with tcamRej := true }) s)
  else setReg a (v &&& 0x3F3F3F3F) (setCan (fun c => { c with tcamRej := false }) s)

def execSteerRegWrite (v6 : Bool) (k : Fin 1024) (val : Word) (s : State) : Host.Outcome State Fault Refusal :=
  .next (onlyIf (coreOn s) (writeSteer ((if v6 then 0x04102000 else 0x04101000) + 4 * k) val) s)

def canCntClr : State → State := zeroRegs (within 0x04004000 0x500)
def tcamCntClr : State → State := zeroRegs (within 0x04103000 0x28)
def execCanCntClr (s : State) : Host.Outcome State Fault Refusal := .next (onlyIf (coreOn s) canCntClr s)
def execTcamCntClr (s : State) : Host.Outcome State Fault Refusal := .next (onlyIf (coreOn s) tcamCntClr s)

/-- SKEW_WINDOW: a bank took more than 1/8 of the searches of the microsecond (R319). -/
def skewWindow (s : State) : State :=
  let all := total (s.can.window.map Prod.snd)
  let s1 := setCan (fun c => { c with window := [], windowFrom := s.uptime }) s
  if s.uptime < s.can.windowFrom + 25 then s
  else if s.can.window.any fun x => decide (all < 8 * x.2) then tcamEvent 0 (bump 0x04103020 1 s1) else s1

def execSkewWindow (s : State) : Host.Outcome State Fault Refusal := .next (onlyIf (coreOn s) skewWindow s)

/-! ### Rings (R303 to R305) -/

def ringProdR (r : Nat) : Nat := 0x04003000 + 0x10 * r
def ringConsR (r : Nat) : Nat := 0x04003004 + 0x10 * r
/-- Word w of descriptor d of ring r. -/
def descR (r d w : Nat) : Nat := 0x04080000 + 0x10000 * r + 64 * d + 4 * w
/-- Pending descriptors of ring r. -/
def ringWaiting (s : State) (r : Nat) : Nat := (regN s (ringProdR r) + 1024 - regN s (ringConsR r)) % 1024

def canWrRej (s : State) : State := canEvent 6 (setCan (fun c => { c with wrRej := true }) s)
def canAccepted : State → State := setCan fun c => { c with wrRej := false }

/-- The engine may go on with a ring's command: no sweep runs (R307), no reef transition holds (R423). -/
def engineFree (s : State) : Bool := s.can.flush.isNone && s.reef.phase != .prepare && !reefHolds s
/-- The engine has a command that it has begun (R305, R307). -/
def engineBusy (s : State) : Bool := !engineFree s || s.can.scan.isSome

/-- The ring whose turn it is: the one whose AGE_SCAN waits, or the next with a pending descriptor after the ring served last
(R305). -/
def ringTurn (s : State) : Option Nat := match s.can.scan with
  | some x => some x.1
  | none => ((upTo 8).map fun i => (s.can.lastRing + 1 + i) % 8).find? fun r => ringWaiting s r != 0

/-- The descriptor at the head of ring r, on that ring's turn; none is started while a reef transition holds (R305, R423). -/
def ringHead (s : State) (r : Nat) : Option Nat :=
  if ringTurn s = some r ∧ !reefHolds s then some (regN s (ringConsR r)) else none

/-- Descriptor d of ring r completes: word 1, RING_CONS, RING_DONE (R303). -/
def ringDone (r d status : Nat) (existed ended : Bool) (rcount : Nat) (s : State) : State :=
  let w := 2 ^ 31 + bitN existed * 2 ^ 30 + bitN ended * 2 ^ 29 + status * 2 ^ 16 + min rcount 65535
  canEvent 0 (setRegN (ringConsR r) ((d + 1) % 1024) (setRegN (descR r d 1) w (setCan (fun c => { c with lastRing := r }) s)))

/-- Descriptors that no opcode takes end with BAD_ARG on their ring's turn (R304, R305). The fuel is more than the rings hold. -/
def ringSkip : Nat → State → State
  | 0, s => s
  | k + 1, s => match ringTurn s with
    | none => s
    | some r =>
      let d := regN s (ringConsR r)
      let w := regN s (descR r d 0)
      let op := bits w 31 24
      if engineFree s && (op == 0 || decide (7 < op) || decide (16 < bits w 23 19)) then
        ringSkip k (ringDone r d 3 false false 0 s)
      else s

/-- A write of RING_PROD (R303). -/
def writeRingProd (r : Nat) (v : Word) (s : State) : State :=
  let n := v.toNat % 1024
  if (n + 1024 - regN s (ringConsR r)) % 1024 < ringWaiting s r then canWrRej s
  else ringSkip 8192 (setRegN (ringProdR r) n (canAccepted s))

def execRingProdWrite (r : Fin 8) (val : Word) (s : State) : Host.Outcome State Fault Refusal :=
  .next (onlyIf (coreOn s) (writeRingProd r val) s)

/-- A write of a descriptor's word, without effect while the descriptor is pending (R303). -/
def writeDescriptor (r off : Nat) (v : Word) (s : State) : State :=
  if (off / 16 + 1024 - regN s (ringConsR r)) % 1024 < ringWaiting s r then canWrRej s
  else setReg (descR r 0 0 + 4 * off) v (canAccepted s)

def execDescriptorWrite (r : Fin 8) (off : Fin 16384) (val : Word) (s : State) : Host.Outcome State Fault Refusal :=
  .next (onlyIf (coreOn s) (writeDescriptor r off val) s)

/-- A command as its descriptor gives it (R303). -/
structure RingCommand where
  ring : Nat
  desc : Nat
  table : Nat
  flags : Nat
  count : Nat
  len : Nat
  handle : Nat
  v6 : Bool
  owner : Nat
  mask : Nat
  bank : Nat
  key : List Nat
  result : BitVec 96
  keyMask : List Nat
  out : Nat
  outTgt : Bool
  deriving DecidableEq, Repr

/-- The command that the words w of a descriptor spell (R303). -/
def commandFrom (r d : Nat) (w : Nat → Nat) : RingCommand :=
  { ring := r, desc := d, table := bits (w 0) 23 19, flags := bits (w 0) 18 16, count := bits (w 0) 15 0
    len := bits (w 2) 31 24, handle := bits (w 2) 23 16, v6 := (w 2).testBit 15, owner := bits (w 2) 11 0
    mask := bits (w 3) 27 16, bank := bits (w 3) 5 0, key := (upTo 4).map fun i => w (4 + i)
    result := BitVec.ofNat 96 (w 8 * 2 ^ 64 + w 9 * 2 ^ 32 + w 10), keyMask := (upTo 4).map fun i => w (8 + i)
    out := w 12 + 2 ^ 32 * w 13, outTgt := (w 14).testBit 0 }
/-- The command of descriptor d of ring r. -/
def commandOf (s : State) (r d : Nat) : RingCommand := commandFrom r d fun i => regN s (descR r d i)

/-- The command at the head of ring r, on that ring's turn, is executed with f where its opcode and FLAGS are p's; what comes
next and cannot be one is passed over. -/
def ringRun (r op : Nat) (p : Nat → Bool) (f : RingCommand → State → State) (s : State) : State :=
  let s0 := ringSkip 8192 s
  match ringHead s0 r with
  | none => s0
  | some d =>
    let w := regN s0 (descR r d 0)
    if !engineFree s0 || bits w 31 24 != op || !p (bits w 18 16) then s0
    else ringSkip 8192 (f (commandOf s0 r d) s0)

/-- The command completes with a status and nothing else. -/
def ringEnd (c : RingCommand) (status : Nat) (s : State) : State := ringDone c.ring c.desc status false false 0 s

/-- A key with bits beyond the width of its table (R304). -/
def keyBad (s : State) (c : RingCommand) : Bool := (c.key.drop (canWords s c.table)).any (· != 0)
/-- The key at the table's width. -/
def ringKey (s : State) (c : RingCommand) : List Nat := c.key.take (canWords s c.table)
/-- The prefix a descriptor names. -/
def ringPrefix (c : RingCommand) : Prefix :=
  { v6 := c.v6, vrf := c.owner, addr := c.key.foldl (fun a w => a * 2 ^ 32 + w) 0, len := c.len, result := c.result }
/-- A prefix that cannot be: LEN too long, address bits beyond LEN or beyond its family's width. -/
def prefixBad (p : Prefix) : Bool :=
  decide (addrWidth p.v6 < p.len) || decide (2 ^ addrWidth p.v6 ≤ p.addr) || p.addr % 2 ^ (addrWidth p.v6 - p.len) != 0

/-! ### INSERT, DELETE, SEARCH (R301, R304, R317) -/

/-- The bank and slot at which a prefix stands. -/
def findPrefix (s : State) (p : Prefix) : Option Prefix :=
  (prefixBanks s p).findSome? fun b => ((heads (bankOf s b)).find? fun y => y.2.same p).map Prod.snd
/-- Every bank with its entries rewritten. -/
def mapBanks (f : TcamBank → TcamBank) : State → State := setCan fun c => { c with banks := c.banks.adjust fun _ x => f x }

/-- INSERT into the TCAM: its status, and whether the prefix was there. -/
def tcamInsert (c : RingCommand) (s : State) : State × Nat × Bool :=
  let p := ringPrefix c
  if prefixBad p then (s, 3, false)
  else if (findPrefix s p).isSome then
    let put := fun (x : TcamBank) => x.map fun y => if y.2.1.same p then (y.1, (p, y.2.2)) else y
    (tcamCommit (mapBanks put s), 0, true)
  else match placeAll s p (prefixBanks s p) with
    | none => (tcamEvent 1 s, 4, false)
    | some l => (tcamMoved s (tcamCommit (forAll (fun x => setBank x.1 x.2) l s)), 0, false)

/-- The status of an INSERT whose placement ended so (R302, R310, R320). -/
def placeStatus : PlaceEnd → Nat
  | .done => 0
  | .noRoom => 4
  | .noEvents => 1
  | .needsHbm => 1

/-- INSERT into a Canopy table: its status, and whether the key was there. -/
def canInsert (c : RingCommand) (s : State) : State × Nat × Bool :=
  let t := c.table
  let x := canTable s t
  let e : Entry := { key := ringKey s c, result := c.result, stamp := x.now, isStatic := c.flags.testBit 0, owner := c.owner,
                     finger := (canShape s t).finger (ringKey s c) }
  if keyBad s c then (s, 3, false)
  else match x.find (canShape s t) (hbmAvail s) e.key with
    | some f => (setCanTable t (x.putPos f.1 f.2.1 e) s, 0, true)
    | none =>
      let y := placeNew t e true 0 s
      (y.1, placeStatus y.2, false)

/-- INSERT without a ring: what becomes of the entry (R301, R302, R317). -/
def putEntry (c : RingCommand) (s : State) : State × Nat × Bool := if c.table = 16 then tcamInsert c s else canInsert c s

/-- INSERT. -/
def insertCmd (c : RingCommand) (s : State) : State :=
  let x := putEntry c s
  ringDone c.ring c.desc x.2.1 x.2.2 false 0 x.1

/-- The entries and prefixes of the configuration image go into their tables, each as its INSERT descriptor gives it; whether every one
is taken (R321, R452). -/
def loadEntries : List (List Word) → State → State × Bool
  | [], s => (s, true)
  | d :: l, s =>
    let c := commandFrom 0 0 fun i => (d.getD i 0).toNat
    let x := if 16 < c.table then (s, 3, false) else putEntry c s
    if x.2.1 = 0 then loadEntries l x.1 else (x.1, false)

def execInsert (r : Fin 8) (s : State) : Host.Outcome State Fault Refusal :=
  .next (onlyIf (coreOn s) (ringRun r 1 (fun _ => true) insertCmd) s)

def deleteCmd (c : RingCommand) (s : State) : State :=
  if c.table = 16 then
    let p := ringPrefix c
    if prefixBad p then ringEnd c 3 s
    else if (findPrefix s p).isNone then ringEnd c 5 s
    else ringEnd c 0 (tcamCommit (mapBanks (dropPrefix p) s))
  else if keyBad s c then ringEnd c 3 s
  else match (canTable s c.table).find (canShape s c.table) (hbmAvail s) (ringKey s c) with
    | some f => ringEnd c 0 (setCanTable c.table ((canTable s c.table).dropPos f.1 f.2.1) s)
    | none => ringEnd c 5 s

def execDelete (r : Fin 8) (s : State) : Host.Outcome State Fault Refusal :=
  .next (onlyIf (coreOn s) (ringRun r 2 (fun _ => true) deleteCmd) s)

/-- RESULT, STAMP and FLAGS returned in words 8 to 11. -/
def ringResult (c : RingCommand) (result : BitVec 96) (stampFlags : Nat) (s : State) : State :=
  let n := result.toNat
  setWords (descR c.ring c.desc 8) [n / 2 ^ 64, n / 2 ^ 32 % 2 ^ 32, n % 2 ^ 32, stampFlags] s

def searchCmd (c : RingCommand) (s : State) : State :=
  if c.table = 16 then
    let p := ringPrefix c
    if prefixBad p then ringEnd c 3 s
    else match findPrefix s p with
      | some q => ringEnd c 0 (ringResult c q.result 0x8000 s)
      | none => ringEnd c 5 s
  else if keyBad s c then ringEnd c 3 s
  else
    let x := canSearch c.table (ringKey s c) s
    match x.2 with
    | some f =>
      let e := f.2.2
      let flags := 2 ^ 15 + bitN e.isStatic * 2 ^ 14 + bitN e.learned * 2 ^ 13 + e.owner
      ringEnd c 0 (ringResult c e.result (e.stamp * 2 ^ 16 + flags) x.1)
    | none => ringEnd c 5 x.1

def execSearch (r : Fin 8) (s : State) : Host.Outcome State Fault Refusal :=
  .next (onlyIf (coreOn s) (ringRun r 3 (fun f => !f.testBit 0 && !f.testBit 1) searchCmd) s)

/-- The longest match of an address in the TCAM, with its LEN. -/
def searchLpmCmd (c : RingCommand) (s : State) : State :=
  let p := ringPrefix c
  if c.table ≠ 16 ∨ 2 ^ addrWidth c.v6 ≤ p.addr then ringEnd c 3 s
  else match bankMatch (bankOf s (steerBank s c.v6 (steerValue c.v6 p.addr))) c.v6 c.owner p.addr with
    | some q => ringEnd c 0 (ringResult c q.result 0x8000 (setFld (descR c.ring c.desc 2) 31 24 q.len s))
    | none => ringEnd c 5 s

def execSearchLpm (r : Fin 8) (s : State) : Host.Outcome State Fault Refusal :=
  .next (onlyIf (coreOn s) (ringRun r 3 (fun f => !f.testBit 0 && f.testBit 1) searchLpmCmd) s)

/-! ### Walks (R306) -/

/-- What a walk of table t goes over: the table, or the TCAM's prefixes by bank and slot. -/
def walkView (s : State) (t : Nat) : HashTable :=
  if t = 16 then
    { on := (walkPrefixes s).map fun x => (x.1, { key := prefixKey x.2, result := x.2.result, stamp := 256 * x.2.len }) }
  else canTable s t
def walkShape (s : State) (t : Nat) : TableShape := if t = 16 then ⟨131072, 0, 0, 0, 0⟩ else canShape s t

/-- The walk can read every tier of its table. -/
def walkReads (s : State) (t : Nat) : Bool := t == 16 || hbmAvail s || (canShape s t).hbmB == 0
/-- FLUSH_PORT and AGE_SCAN wait at Reef 2, whatever tiers the table uses (R320). -/
def sweepReads (s : State) (t : Nat) : Bool := s.reef.level != 2 && walkReads s t

/-- One command's step of walk h: its entries' images are written from OUT_ADDR on. -/
def walkCmd (h : Nat) (w : Walk) (release : Bool) (c : RingCommand) (s : State) : State :=
  if !dmaOk c.outTgt s then ringEnd c 9 s
  else
    let x := (walkView s w.table).walkStep (walkShape s w.table) w c.count
    let w1 := { x.2.1 with used := coreNow s }
    let s1 := setCan (fun k => { k with walks := if release then k.walks.drop h else k.walks.put h w1 }) s
    let s2 := dmaWrite c.outTgt c.out (x.1.flatMap fun e => entryImage e.1 e.2) s1
    ringDone c.ring c.desc 0 false x.2.2 x.1.length (setFld (descR c.ring c.desc 2) 23 16 h s2)

def noWalk : Walk := { table := 0, key := [], mask := [] }

/-- SEARCH with WALK: a walk starts on a free handle (R306); a KEY beyond the table's width is BAD_ARG (R304). -/
def walkStartCmd (c : RingCommand) (s : State) : State :=
  if c.table != 16 && keyBad s c then ringEnd c 3 s
  else if !walkReads s c.table then s
  else match pickOf (freeVal s) ((upTo 8).filter fun h => !s.can.walks.has h) with
    | none => ringEnd c 1 (drawn s)
    | some h => walkCmd h { table := c.table, key := c.key, mask := c.keyMask } false c (drawn s)

def execWalkStart (r : Fin 8) (s : State) : Host.Outcome State Fault Refusal :=
  .next (onlyIf (coreOn s) (ringRun r 3 (fun f => f.testBit 0) walkStartCmd) s)

def nextCmd (c : RingCommand) (s : State) : State :=
  let w := s.can.walks.look noWalk c.handle
  if !s.can.walks.has c.handle then ringEnd c 5 s
  else if w.lost then canEvent 5 (ringEnd c 0xA (setCan (fun k => { k with walks := k.walks.drop c.handle }) s))
  else if !walkReads s w.table then s
  else walkCmd c.handle w (c.flags.testBit 0) c s

def execNext (r : Fin 8) (s : State) : Host.Outcome State Fault Refusal :=
  .next (onlyIf (coreOn s) (ringRun r 4 (fun _ => true) nextCmd) s)

/-- WALK_HANDLE_TIMEOUT: 1 s of core time without a NEXT. -/
def walkTimeout (h : Nat) (s : State) : State :=
  if s.can.walks.has h && !walkHeld s (s.can.walks.look noWalk h) then
    canEvent 5 (setCan (fun k => { k with walks := k.walks.drop h }) s)
  else s

def execWalkHandleTimeout (h : Fin 8) (s : State) : Host.Outcome State Fault Refusal :=
  .next (onlyIf (coreOn s) (walkTimeout h) s)

/-! ### FLUSH_PORT (R307) -/

def flushCmd (c : RingCommand) (s : State) : State :=
  if c.table = 16 then ringEnd c 3 s
  else if !sweepReads s c.table then s
  else setCan (fun k => { k with flush := some ⟨c.ring, c.table, c.owner, c.mask, c.flags.testBit 0⟩ }) s

def execFlushPort (r : Fin 8) (s : State) : Host.Outcome State Fault Refusal :=
  .next (onlyIf (coreOn s) (ringRun r 5 (fun _ => true) flushCmd) s)

/-- The sweep ends: what the filter hides is removed, and the command completes. -/
def sweepDone (s : State) : State :=
  match s.can.flush with
  | none => s
  | some f =>
    let x := canTable s f.table
    let keep := fun (y : Nat × Entry) => !flushHides s f.table y.2.owner y.2.isStatic
    let y := { x with on := x.on.filter keep, hbm := x.hbm.filter keep }
    let n := x.on.length + x.hbm.length - (y.on.length + y.hbm.length)
    let s1 := setCan (fun k => { k with flush := none }) (setCanTable f.table y s)
    let s2 := ringDone f.ring (regN s1 (ringConsR f.ring)) 0 false false n s1
    ringSkip 8192 s2

def execFlushSweepDone (s : State) : Host.Outcome State Fault Refusal := .next (onlyIf (coreOn s) sweepDone s)

/-! ### Aging (R311 to R313) -/

def ageTicks (s : State) (t : Nat) : Nat := 25000 * min (max (fld s (canR t 0x14) 9 0) 1) 1000
def ageLimit (s : State) (t : Nat) : Nat := max 1 (fld s (canR t 0x14) 30 16)

/-- AGE_CLOCK_TICK: NOW has advanced by 1 for every TICK ms of Heartwood time since it last did (R311). -/
def ageTick (t : Nat) (s : State) : State :=
  let x := canTable s t
  let d := ageTicks s t
  let start := max x.tickAt s.can.ageFrom
  let k := (s.uptime - start) / d
  if k = 0 then s else setCanTable t { x with now := (x.now + k) % 65536, tickAt := start + k * d } s

def execAgeClockTick (t : Fin 16) (s : State) : Host.Outcome State Fault Refusal := .next (onlyIf (coreOn s) (ageTick t) s)

/-- Buckets of a table over both tiers, and bucket b of them as its tier and its number there. -/
def allBuckets (c : TableShape) : Nat := c.onB + c.hbmB
def bucketAt (c : TableShape) (b : Nat) : Bool × Nat := if b < c.onB then (false, b) else (true, b - c.onB)

/-- The due entries of a bucket, by position. -/
def dueIn (s : State) (t : Nat) (b : Bool × Nat) : List (Nat × Entry) :=
  let x := canTable s t
  (bucketPos b.2).filterMap fun p => match x.atPos b.1 p with
    | some e => if !e.isStatic && decide (ageLimit s t ≤ x.age e) then some (p, e) else none
    | none => none

/-- One due entry removed by compare-and-clear, or reported under DRY. -/
def ageEntry (t : Nat) (dry hbm : Bool) (y : Nat × Entry) (s : State) : State :=
  if dry then postEvent 5 t hbm y.2 s
  else postEvent 3 t hbm y.2 (bump (canCnt t 0x18) 1 (setCanTable t ((canTable s t).dropPos hbm y.1) s))

/-- AGE_SCAN's bucket steps over k buckets, the first from position i on: each due entry in turn, until no bucket is left or the event
FIFO has no room for the next. The rest is what it waits with: buckets left, entries so far, position (R312). -/
def scanFrom (t : Nat) (dry : Bool) : Nat → Nat → Nat → State → State × Nat × Nat × Nat
  | 0, n, _, s => (s, 0, n, 0)
  | k + 1, n, i, s =>
    let c := canShape s t
    let b := bucketAt c (canTable s t).cursor
    let due := (dueIn s t b).filter fun y => decide (i ≤ y.1 % 8)
    let s1 := forAll (ageEntry t dry b.1) (due.take (eventRoom s)) s
    match due.drop (eventRoom s) with
    | y :: _ => (s1, k + 1, n + eventRoom s, y.1 % 8)
    | [] =>
      let x := canTable s1 t
      scanFrom t dry k (n + due.length) 0 (setCanTable t { x with cursor := (x.cursor + 1) % max 1 (allBuckets c) } s1)

def ageScanCmd (c : RingCommand) (s : State) : State :=
  if c.table = 16 then ringEnd c 3 s
  else if !sweepReads s c.table then s
  else
    let x := canTable s c.table
    let fresh := s.can.scan.isNone
    let s1 := if fresh && (c.flags.testBit 1 || decide (allBuckets (canShape s c.table) ≤ x.cursor))
      then setCanTable c.table { x with cursor := 0 } s else s
    let at_ := s.can.scan.getD (c.ring, if allBuckets (canShape s c.table) = 0 then 0 else c.count, 0, 0)
    let y := scanFrom c.table (c.flags.testBit 0) at_.2.1 at_.2.2.1 at_.2.2.2 s1
    if y.2.1 = 0 then ringDone c.ring c.desc 0 false false y.2.2.1 (setCan (fun k => { k with scan := none }) y.1)
    else setCan (fun k => { k with scan := some (c.ring, y.2) }) y.1

def execAgeScan (r : Fin 8) (s : State) : Host.Outcome State Fault Refusal :=
  .next (onlyIf (coreOn s) (ringRun r 6 (fun _ => true) ageScanCmd) s)

/-- Entries a second that the automatic scanners are to examine, in all (R313). -/
def agePace (s : State) : Nat :=
  total ((upTo 16).map fun t =>
    if bitAt s (canR t 0) 24 then 8 * allBuckets (canShape s t) * 50000000 / (ageLimit s t * ageTicks s t) else 0)

/-- AGE_SCANNER_BUCKET: the automatic scanner's next bucket; it passes over the HBM tier while that is not read, and
waits where the event FIFO has no room. -/
def autoAge (t : Nat) (s : State) : State :=
  let c := canShape s t
  if !bitAt s (canR t 0) 24 || allBuckets c == 0 then s
  else
    let n := if hbmAvail s then allBuckets c else c.onB
    let x := canTable s t
    let cur := if x.auto < n then x.auto else 0
    let s0 := if 400000000 < agePace s then canEvent 4 s else s
    if n = 0 then s0
    else
      let b := bucketAt c cur
      let due := dueIn s t b
      let s1 := forAll (ageEntry t false b.1) (due.take (eventRoom s)) s0
      if eventRoom s < due.length then s1
      else setCanTable t { canTable s1 t with auto := (cur + 1) % n } s1

def execAgeScannerBucket (t : Fin 16) (s : State) : Host.Outcome State Fault Refusal := .next (onlyIf (coreOn s) (autoAge t) s)

/-! ### STEER (R317) -/

def steerCmd (c : RingCommand) (s : State) : State :=
  let v := c.key.getD 3 0
  if c.table ≠ 16 ∨ 4096 ≤ v ∨ (c.key.take 3).any (· != 0) then ringEnd c 3 s
  else
    let old := steerBank s c.v6 v
    let a := (if c.v6 then 0x04102000 else 0x04101000) + 4 * (v / 4)
    let turned := setFld a (8 * (v % 4) + 5) (8 * (v % 4)) c.bank s
    if old = c.bank then ringEnd c 0 s
    else
      let ps := ((heads (bankOf s old)).map Prod.snd).filter fun p => p.v6 == c.v6 && (coveredValues p).contains v
      let new := ps.filter fun p => !((heads (bankOf s c.bank)).any fun y => y.2.same p)
      match new.foldl (fun (x : Option TcamBank) p => x.bind fun b => placeInBank b p) (some (bankOf s c.bank)) with
      | none => ringEnd c 4 (tcamEvent 1 s)
      | some b =>
        let gone := ps.filter fun p => !(prefixBanks turned p).contains old
        let left := gone.foldl (fun x p => dropPrefix p x) (bankOf s old)
        ringEnd c 0 (tcamMoved s (tcamCommit (setBank old left (setBank c.bank b turned))))

def execSteer (r : Fin 8) (s : State) : Host.Outcome State Fault Refusal :=
  .next (onlyIf (coreOn s) (ringRun r 7 (fun _ => true) steerCmd) s)

/-! ### LEARN (R308 to R310) -/

/-- Class LEARN raised by a learn that could not be made: its copy alone (R295, R308). -/
def learnFailed (l : Learn) (s : State) : State := (decide284 [6] false l.copy s).1

/-- A key that is not there, or that a flush hides, is learned. -/
def learnNew (l : Learn) (s : State) : State :=
  let x := canTable s l.table
  let e : Entry := { key := l.key, result := l.result, stamp := x.now, learned := true, owner := l.owner,
                     finger := (canShape s l.table).finger l.key }
  let made := fun (y : State) =>
    let f := (canTable y l.table).find (canShape y l.table) true l.key
    bump (canCnt l.table 0x10) 1 (postEvent 1 l.table (f.map (·.1) |>.getD false) e y)
  match x.find (canShape s l.table) (hbmAvail s) l.key with
  | some f => if eventRoom s < 1 then learnDefer l.table s else made (setCanTable l.table (x.putPos f.1 f.2.1 e) s)
  | none =>
    let y := placeNew l.table e (bitAt s (canR l.table 0) 27) 1 s
    match y.2 with
    | .done => made y.1
    | .noRoom => learnFailed l (bump (canCnt l.table 0x20) 1 y.1)
    | .noEvents => learnDefer l.table y.1
    | .needsHbm => learnDefer l.table y.1

/-- A learn applied to its table. -/
def learnApply (l : Learn) (s : State) : State :=
  let x := canTable s l.table
  if flushHides s l.table l.owner false then bump (canCnt l.table 0x24) 1 s
  else match (x.find (canShape s l.table) (hbmAvail s) l.key).filter fun f => !flushHides s l.table f.2.2.owner f.2.2.isStatic with
    | none => learnNew l s
    | some f =>
      let e := f.2.2
      if e.owner = l.owner then (if bitAt s (canR l.table 0) 25 then refresh l.table f s else s)
      else if e.isStatic then learnFailed l s
      else if eventRoom s < 1 then learnDefer l.table s
      else
        let q := bits l.result.toNat 63 48
        let res := BitVec.ofNat 96 (withBits e.result.toNat 63 48 q)
        let e1 := { e with result := res, owner := l.owner, stamp := x.now }
        bump (canCnt l.table 0x14) 1 (postEvent 2 l.table f.1 e1 (setCanTable l.table (x.putPos f.1 f.2.1 e1) s))

/-- LEARN: the oldest learn that waits. -/
def learnStep (s : State) : State :=
  match s.can.learns with
  | [] => s
  | l :: r => learnApply l (setCan (fun c => { c with learns := r }) s)

def execLearn (s : State) : Host.Outcome State Fault Refusal := .next (onlyIf (coreOn s) learnStep s)

/-! ### EVT_POP (R310) -/

/-- A read of EVT_POP word 0 on a path: the reader that CONSUMER names pops the oldest record, any other gets zeros. -/
def popEvent (path : Path) (s : State) : State × Word :=
  let named := bitAt s 0x04000010 31 == (path != .xt)
  let rec0 := if named then s.can.events.headD [] else []
  let words := (upTo 8).map fun i => BitVec.ofNat 32 (rec0.getD i 0)
  let s1 := if named then setCan (fun c => { c with events := c.events.tail }) s else s
  (snapWords path 0x04000020 words s1, words.headD 0)

def execEvtPopRead (path : Path) (s : State) : Host.Outcome State Fault Refusal :=
  .next (onlyIf (coreOn s) (fun x => let y := popEvent path x; emit (.data path [y.2]) y.1) s)

end Sys2Proof.Machine
end

