-- ==== Sys2Proof/Machine/Framer.lean ====
section
/-! DEFINITION. The trunk framer (ch. 02): alignment, frames, defects, address filter, and its commands. -/
namespace Sys2Proof.Machine
open Sys2Proof

/-- The frame pattern (R41). -/
def framePattern : BitVec 64 := 0xA6F13C580E97D24B
def bitLos : Nat := 0
def bitLol : Nat := 1
def bitLof : Nat := 2
def bitLosf : Nat := 3
def bitLod : Nat := 4
def bitKeyf : Nat := 5
def bitSd : Nat := 6

/-- HUNT_TOL; above 7 acts as 7. -/
def huntTol (s : State) (p : Nat) : Nat := min (fld s (trkR p 0) 7 4) 7
/-- LOCK_TOL. -/
def lockTol (s : State) (p : Nat) : Nat := fld s (trkR p 0) 11 8

/-! ### Defects (R63, R64, R66) -/

/-- The raw defects of port p become `raw`: every change of a reported state raises its event, and a defect reported at
any time counts for the second (R64, R67). -/
def setRaws (p : Nat) (raw : BitVec 7) (s : State) : State :=
  let f := framer s p
  let old := reported f.raw
  let new := reported raw
  let s1 := setFramer p { f with raw := raw } s
  let s2 := setPmStore p { pmStore s1 p with secRep := (pmStore s1 p).secRep ||| new } s1
  forAll (fun i x => if old.getLsbD i != new.getLsbD i then frEvent p i x else x) (upTo 7) s2

/-- Raw defect i of port p is set or cleared, while the port is enabled and lit. -/
def setRaw (p i : Nat) (b : Bool) (s : State) : State :=
  if framerOn s p then
    let m : BitVec 7 := BitVec.ofNat 7 (2 ^ i)
    setRaws p (if b then (framer s p).raw ||| m else (framer s p).raw &&& ~~~m) s
  else s

/-- The header at the front of the envelope run, 0 where its 8 bytes are not all there. -/
def frontHeader (l : List Byte) : Nat := if l.length < 8 then 0 else ofBytes (l.take 8)

/-- An envelope of the run has begun in SYNC and will not be received whole there: its header has been delineated, and it is
not an idle one (R59; log entry 164). -/
def envelopeCut (f : Framer) : Bool :=
  f.delin == .sync && 8 ≤ f.run.length && envHeaderGood (frontHeader f.run) && bits (frontHeader f.run) 29 16 != 0

/-- The frames that n bytes of a run still reach back to. -/
def reachBack : Nat → List (Nat × Nat) → List (Nat × Nat)
  | _, [] => []
  | n, (sf, k) :: r => if n = 0 then [] else (sf, k) :: reachBack (n - k) r

/-- The downstream frame that the byte d bytes before a run's end came in. -/
def frameFrom : Nat → List (Nat × Nat) → Nat
  | _, [] => 0
  | d, (sf, k) :: r => if d < k then sf else frameFrom (d - k) r

/-- The downstream frame in which the header at the front of the run was delineated: that of its last byte (R382). -/
def frontFrame (f : Framer) : Nat := frameFrom (f.run.length - 8) f.runFrames

/-- Delineation returns to HUNT, to go on in `run`; a return from SYNC counts once, and the envelope cut by it is discarded
(R58, R59). -/
def toHunt (p : Nat) (run : List Byte) (s : State) : State :=
  let f := framer s p
  let s1 := setFramer p { f with delin := .hunt, run := run, head := none } s
  let s2 := if f.delin = .sync then bump (trkR p 0x23C) 1 s1 else s1
  if envelopeCut f then pmDiscard p 1 (bump (trkR p 0x230) 1 s2) else s2

/-- Lock is dropped and raw LOF set; on a port that is hunting already, its candidates are released (R48, R58; log entry 165). -/
def dropLock (p : Nat) (s : State) : State :=
  let s1 := toHunt p [] s
  setRaw p bitLof true (setFramer p { framer s1 p with locked := false, missRun := 0, trackers := [], clrLen := 0, incRun := 0 } s1)

/-- Raw LOS or LOL is raised: lock is dropped in the same cycle (R48, R63). -/
def raiseLoss (p i : Nat) (s : State) : State :=
  if framerOn s p then rclkSettle (withTiming p (fun x => dropLock p (setRaw p i true x)) s) else s

/-- The 9 receive lanes of a port are active (R63, R526: ACTIVE is 5). -/
def rxLanesActive (s : State) (p : Nat) : Bool :=
  (upTo 8).all (fun i => (laneOf s (128 + 8 * p + i)).rx == 5) && (laneOf s (256 + p)).rx == 5

/-- The raw defects of a port at the moment it is enabled or lit: LOF, and LOS and LOL as they stand (R66). -/
def firstRaws (s : State) (p : Nat) : BitVec 7 :=
  BitVec.ofNat 7 (4 + 2 * bitN (!rxLanesActive s p) + bitN (waiken s p).noLight)

/-- The framer of port p starts: LOF raw, nothing locked (R66). -/
def startFramer (p : Nat) (s : State) : State :=
  let s1 := setFramer p { ({} : Framer) with queue := (framer s p).queue } s
  setRaws p (firstRaws s1 p) s1

/-- The framer of port p stops, disabled or dark: every defect falls to 0 and raises no event (R66). An envelope that it had begun
is discarded (R59). -/
def stopFramer (p : Nat) (s : State) : State :=
  let s1 := if envelopeCut (framer s p) then pmDiscard p 1 (bump (trkR p 0x230) 1 s) else s
  setReg64 (trkR p 8) 0 (setFramer p { ({} : Framer) with queue := (framer s p).queue } s1)

/-- Optical input is lost, or the receive clock lane idle: raw LOS rises (R63). -/
def lightLost (p : Nat) (s : State) : State := raiseLoss p bitLos (setWaiken p { waiken s p with noLight := true } s)

def execLosRaise (p : Fin 16) (s : State) : Host.Outcome State Fault Refusal := .next (onlyIf (coreOn s) (lightLost p) s)

/-- LOS_CLEAR: the engine has reported optical input throughout 125 µs; while its last report by majority is OPT_LOS, raw LOS stays
(R63, R198). -/
def execLosClear (p : Fin 16) (s : State) : Host.Outcome State Fault Refusal :=
  .next (onlyIf (coreOn s && !(waiken s p).optLos)
    (fun x => withTiming p (setRaw p bitLos false) (setWaiken p { waiken x p with noLight := false } x)) s)

/-- LOL_CLEAR: the 9 lanes have been active for 125 µs (R63). -/
def execLolClear (p : Fin 16) (s : State) : Host.Outcome State Fault Refusal :=
  .next (onlyIf (coreOn s && rxLanesActive s p) (withTiming p (setRaw p bitLol false)) s)

/-- FORCE_HUNT (R48). -/
def execForceHunt (p : Fin 16) (s : State) : Host.Outcome State Fault Refusal :=
  .next (onlyIf (coreOn s && framerOn s p) (withTiming p (dropLock p)) s)

/-- A write of FR_CTL.EN (R66): with EN 0 the port's timing, if it has any, is lost in that cycle. -/
def frEnable (p : Nat) (en : Bool) (s : State) : State :=
  if bitAt s (trkR p 0) 0 = en then s
  else if en then
    let s1 := setBit (trkR p 0) 0 true s
    if portDark s p then s1 else rclkSettle (startFramer p s1)
  else
    let s1 := withTiming p (fun x => setFramer p { framer x p with locked := false } x) s
    rclkSettle (setBit (trkR p 0) 0 false (stopFramer p s1))

/-- The same with the power of the trunk port (R413). -/
def writeFrEn (p : Nat) (en : Bool) (s : State) : State := trkFollow p (trunkDisabled s p) (frEnable p en s)

def execFrCtlEnWrite (p : Fin 16) (en : Bool) (s : State) : Host.Outcome State Fault Refusal :=
  .next (onlyIf (coreOn s) (writeFrEn p en) s)

/-- FR_CNT_CLR: every framer counter and, with them, the registration counters (R74, ch. 03 registers). -/
def frCntClr (p : Nat) : State → State := zeroRegs fun a => within (trkR p 0x200) 0x68 a || within (trkR p 0x440) 0x1C a
def execFrCntClr (p : Fin 16) (s : State) : Host.Outcome State Fault Refusal := .next (onlyIf (coreOn s) (frCntClr p) s)

/-- LOD_CHANGE: 10 µs out of SYNC, or in it (R63). -/
def execLodChange (p : Fin 16) (s : State) : Host.Outcome State Fault Refusal :=
  .next (onlyIf (coreOn s) (fun x => setRaw p bitLod ((framer x p).delin != .sync) x) s)

/-- KEYF_CHANGE: frames with and without key-epoch discards, in runs (R63). -/
def keyfChange (p : Nat) (s : State) : State :=
  let f := framer s p
  if 2 ≤ f.keyfRun then setRaw p bitKeyf true s
  else if 8 ≤ f.keyfClean then setRaw p bitKeyf false s
  else s

def execKeyfChange (p : Fin 16) (s : State) : Host.Outcome State Fault Refusal :=
  .next (onlyIf (coreOn s) (keyfChange p) s)

/-- SD_WINDOW: the window of 8 frames that ends with this frame, if all were received locked (R63, R525). -/
def sdWindow (p : Nat) (s : State) : State :=
  let f := framer s p
  if f.locked && f.sdFrames == 8 then
    let above := if regN s (trkR p 0x20) < f.sdMetric then f.sdOver + 1 else 0
    let below := if f.sdMetric < regN s (trkR p 0x24) then f.sdUnder + 1 else 0
    let s1 := setFramer p { f with sdFrames := 0, sdMetric := 0, sdOver := above, sdUnder := below } s
    if 3 ≤ above then setRaw p bitSd true s1 else if 10 ≤ below then setRaw p bitSd false s1 else s1
  else s

def execSdWindow (p : Fin 16) (s : State) : Host.Outcome State Fault Refusal :=
  .next (onlyIf (coreOn s) (sdWindow p) s)

/-! ### Alignment (R45 to R47) -/

/-- A sighting: given to the first free tracker of 4, or counted as ignored (R45). -/
def sighting (p pos : Nat) (w : BitVec 64) (s : State) : State :=
  let f := framer s p
  if !framerOn s p || f.locked || decide (huntTol s p < mismatches w framePattern) then s
  else match (upTo 4).find? fun k => (f.trackers.look none k).isNone with
    | some k => bump (trkR p 0x248) 1 (setFramer p { f with trackers := f.trackers.put k (some { pos := pos, run := 0 }) } s)
    | none => bump (trkR p 0x24C) 1 s

def execSighting (p : Fin 16) (pos : Nat) (bits : BitVec 64) (s : State) : Host.Outcome State Fault Refusal :=
  .next (onlyIf (coreOn s) (sighting p pos bits) s)

/-- The data bytes of a frame from byte 8 on, with the errors that codeword k came with (R25). -/
def spoil (k : Nat) (e : BitVec 5000) (l : List Byte) : List Byte :=
  let d := (toBytes 585 (e.toNat / 2 ^ 320)).drop (if k = 0 then 8 else 0)
  let a := 585 * k - 8
  l.take a ++ List.zipWith (· ^^^ ·) (slice l a d.length) d ++ l.drop (a + d.length)
/-- The data bytes as the decoder gives them: a codeword with more than 16 symbols in error is not corrected (R24). -/
def decoded (rx : RxFrame) : List Byte :=
  (rx.cwErr.filter fun x => 16 < symErrs x.2).foldl (fun l x => spoil x.1 x.2 l) rx.bytes
/-- The bytes of a frame from byte 8 on, decoded and descrambled (R24, R44). -/
def plainOf (rx : RxFrame) : List Byte := scramble (decoded rx)
/-- The frame header, 128 bits (R42). -/
def headerOf (b : List Byte) : Nat := ofBytes (b.take 16)
/-- Whether the header passes its HEC. -/
def headerGood (h : Nat) : Bool := hec16 (bitsMsb (h / 2 ^ 16) 112) == h % 2 ^ 16

/-- The TMMs of a frame, 48 bytes each (R51, R52). -/
def tmmsOf : Nat → List Byte → List (BitVec 384)
  | 0, _ => []
  | k + 1, l => BitVec.ofNat 384 (ofBytes (l.take 48)) :: tmmsOf k (l.drop 48)

/-- Whether a TMM's destination is an occupied filter entry, 4,094, or 4,095 on a port without a TID (R52). -/
def tmmOurs (s : State) (p : Nat) (t : BitVec 384) : Bool :=
  let id := tf t 383 372
  id == 4094 || (id == 4095 && (regnOf s p).tid.isNone) ||
  (upTo 8).any fun k => bitAt s (trkR p (0x40 + 4 * k)) 31 && fld s (trkR p (0x40 + 4 * k)) 11 0 == id

/-- A TMM that passed its checks joins the port's queue of 128, or is dropped (R54); what an UNMUZZLE is judged by is noted with it
(R151), and Backstay sees it too, dropped or not (R154; DEDUCED, log entry 216). -/
def deliverTmm (p : Nat) (t : TmmIn) (s : State) : State :=
  let f := framer s p
  let t1 := { t with mayClear := fld s (bksR p 4) 1 0 == 3 && !guardFault s p }
  let s1 := if 128 ≤ f.queue.length then frEvent p 9 (bump (trkR p 0x260) 1 s)
    else bump (trkR p 0x264) 1 (setFramer p { f with queue := f.queue ++ [t1] } s)
  snoop p t.bits s1

/-- One TMM of a frame is examined (R52, R53). -/
def examineTmm (p sf : Nat) (t : BitVec 384) (s : State) : State :=
  if !tmmGood t then bump (trkR p 0x254) 1 s
  else if !tmmOurs s p t then bump (trkR p 0x258) 1 s
  else deliverTmm p { bits := t, sf := sf, lookout := false } s

/-- The overhead of a frame is delivered: the first 64 TMMs, and the map to Halyard and to Backstay (R51 to R55). -/
def deliverOverhead (p sf : Nat) (b : List Byte) (s : State) : State :=
  let h := headerOf b
  let n := bits h 76 70
  let g := bits h 69 57
  let tmms := tmmsOf (min n 64) (b.drop 16)
  let s1 := forAll (fun t x => examineTmm p sf t x) tmms s
  let s2 := if 64 < n then frEvent p 9 (bump (trkR p 0x25C) (n - 64) s1) else s1
  let m : MapIn := { sf := sf, bytes := some (slice b (16 + 48 * n) (8 * g + 4)) }
  setGuard p { guardOf s2 p with maps := (guardOf s2 p).maps ++ [m] }
    (setHalyard p { halyard s2 p with maps := (halyard s2 p).maps ++ [m] } s2)

/-- A locked frame of which no map is delivered (R108). -/
def noMap (p sf : Nat) (s : State) : State :=
  setHalyard p { halyard s p with maps := (halyard s p).maps ++ [{ sf := sf, bytes := none }] } s

/-- The last consistent SF (R49). -/
def setSf (p sf : Nat) (s : State) : State :=
  setReg64 (trkR p 8) sf (setFramer p { framer s p with lastSf := some sf } s)

/-- The receive stamp of frame E is kept, with those of the 15 frames before it (R174). -/
def keepStamp (p stamp : Nat) (s : State) : State :=
  let f := framer s p
  setFramer p { f with stamps := (f.e, stamp) :: f.stamps.filter fun x => f.e ≤ x.1 + 15 && x.1 < f.e } s

/-- The codewords of a frame that the decoder corrected, by their symbol errors: up to 16 each (R24). -/
def fixedCws (rx : RxFrame) : List Nat := (rx.cwErr.map fun x => symErrs x.2).filter fun e => 1 ≤ e && e ≤ 16
/-- The symbols corrected in a frame, the codewords they lay in, and the codewords beyond correction (R24). -/
def corrSym (rx : RxFrame) : Nat := total (fixedCws rx)
def corrCw (rx : RxFrame) : Nat := (fixedCws rx).length
def uncorrCw (rx : RxFrame) : Nat := (rx.cwErr.filter fun x => 17 ≤ symErrs x.2).length

/-- What the FEC decoder did in a frame: counters and PM (R67, R72). -/
def countFec (p : Nat) (rx : RxFrame) (s : State) : State :=
  let s1 := bump64 (trkR p 0x210) (uncorrCw rx) (bump64 (trkR p 0x208) (corrCw rx) (bump64 (trkR p 0x200) (corrSym rx) s))
  let x := pmStore s1 p
  let add := fun (b : PmBin) => { b with corrCw := sat64 (b.corrCw + corrCw rx), uncorrCw := sat64 (b.uncorrCw + uncorrCw rx) }
  setPmStore p { x with cur15 := add x.cur15, cur24 := add x.cur24, secUncorr := x.secUncorr + uncorrCw rx } s1

/-- The frame E joins the SD window: a window begins at a multiple of 8 and goes on with the next E only (R63, R525). -/
def Framer.addSd (f : Framer) (rx : RxFrame) : Framer :=
  let m := corrSym rx + 17 * uncorrCw rx
  if f.e % 8 == 0 then { f with sdMetric := m, sdFrames := 1, sdNext := f.e + 1 }
  else if f.sdNext == f.e && f.sdFrames != 0 then
    { f with sdMetric := f.sdMetric + m, sdFrames := f.sdFrames + 1, sdNext := f.e + 1 }
  else { f with sdMetric := 0, sdFrames := 0 }

/-- The frame just judged joins the SD window of its port, if the port is still locked. -/
def countSd (p : Nat) (rx : RxFrame) (s : State) : State :=
  if (framer s p).locked then setFramer p ((framer s p).addSd rx) s else s

/-- The payload area of a frame whose header is good: from byte 28 + 48T + 8G on (R41, R51). -/
def payloadOf (b : List Byte) : List Byte := b.drop (20 + 48 * bits (headerOf b) 76 70 + 8 * bits (headerOf b) 69 57)

/-- The payload of a good frame goes on with the port's envelope run (R57). -/
def addPayload (p : Nat) (b : List Byte) (s : State) : State :=
  let f := framer s p
  setFramer p { f with run := f.run ++ payloadOf b, runFrames := (f.e, (payloadOf b).length) :: reachBack f.run.length f.runFrames } s

/-- Lock is reached: E and t_rx from the frame that completed it, the other trackers released, the runs restarted, and the
delivery begins with this frame, its payload from byte P on in HUNT (R46, R47, R50, R525). -/
def reachLock (p : Nat) (rx : RxFrame) (s : State) : State :=
  let b := plainOf rx
  let sf := bits (headerOf b) 127 77
  let losf := (framer s p).raw.getLsbD bitLosf
  let s1 := withTiming p (fun x =>
    let f := framer x p
    setSf p sf (setRaw p bitLof false (setFramer p { f with
      locked := true, trackers := [], missRun := 0, e := sf, rxAt := rx.line, incRun := 0, clrLen := bitN losf, clrNext := sf + 1,
      stamps := [], delin := .hunt, run := payloadOf b, runFrames := [(sf, (payloadOf b).length)], head := none, sdMetric := 0, sdFrames := 0, sdOver := 0, sdUnder := 0 } x))) s
  let s2 := countSd p rx (countFec p rx s1)
  if losf then s2 else deliverOverhead p sf b (keepStamp p rx.stamp s2)

/-- TRACKER_CHECK: at a tracker's sighting the header's HEC is checked, and from the second on the pattern too (R46). While
raw LOS or LOL is set, no tracker is checked (log entry 169). -/
def trackerCheck (p k : Nat) (rx : RxFrame) (s : State) : State :=
  let f := framer s p
  match f.trackers.look none k with
  | none => s
  | some t =>
    if !framerOn s p || f.locked || f.raw.getLsbD bitLos || f.raw.getLsbD bitLol then s
    else
      let seen := t.run == 0 || decide (mismatches rx.pattern framePattern ≤ huntTol s p)
      if seen && headerGood (headerOf (plainOf rx)) then
        if 2 ≤ t.run then reachLock p rx s
        else setFramer p { f with trackers := f.trackers.put k (some { pos := t.pos + 200000000, run := t.run + 1 }) } s
      else setFramer p { f with trackers := f.trackers.put k none } s

def execTrackerCheck (p : Fin 16) (k : Fin 4) (rx : RxFrame) (s : State) : Host.Outcome State Fault Refusal :=
  .next (onlyIf (coreOn s) (trackerCheck p k rx) s)

/-! ### Frames while locked (R48 to R51, R55) -/

/-- A frame's key-epoch discards join the runs of R63 as the frame ends; the runs go on over a loss of lock (log entry 168). -/
def endKeyFrame (p : Nat) (s : State) : State :=
  let f := framer s p
  setFramer p (if f.keyfNow then { f with keyfNow := false, keyfRun := f.keyfRun + 1, keyfClean := 0 }
    else { f with keyfRun := 0, keyfClean := f.keyfClean + 1 }) s

/-- A silence's frame counts, outside HOLD (R84). -/
def countSilence (p : Nat) (s : State) : State :=
  let r := regnOf s p
  match r.silence with
  | some x => if r.state = .hold then s else setRegn p { r with silence := some { x with left := x.left - 1 } } s
  | none => s

/-- Delineation hunts from byte 24 of a frame on, whose payload start is not known (R51, R58). -/
def huntFrame (p : Nat) (b : List Byte) (s : State) : State :=
  let s1 := toHunt p (b.drop 16) s
  setFramer p { framer s1 p with runFrames := [((framer s p).e, (b.drop 16).length)] } s1

/-- A missed frame: its payload start is unknown, so delineation hunts from its byte 24 on (R48, R51, R58). It brings no map
(R108). In the counts of R50 it is skipped as a frame whose header failed its HEC is (log entry 166). -/
def missFrame (p : Nat) (b : List Byte) (s : State) : State :=
  let f := framer s p
  let s1 := huntFrame p b (bump (trkR p 0x244) 1 (setFramer p { f with missRun := f.missRun + 1, clrNext := f.clrNext + 1 } s))
  noMap p f.e (if 4 ≤ f.missRun + 1 then withTiming p (dropLock p) s1 else s1)

/-- A header that fails its HEC while locked: no map of the frame is used, and delineation hunts from byte 24 (R39, R49 to
R51, R58). -/
def badHeader (p : Nat) (b : List Byte) (s : State) : State :=
  let f := framer s p
  noMap p f.e (huntFrame p b (bump (trkR p 0x240) 1 (setFramer p { f with clrNext := f.clrNext + 1 } s)))

/-- A passing header while raw LOSF is set: the run of 3 that clears it (R50). With its third header E takes its SF, the frame
becomes the port's last consistent one, and receive stamps begin anew with it (R174; log entry 167). -/
def losfHeader (p sf stamp : Nat) (b : List Byte) (s : State) : State :=
  let f := framer s p
  let run := if f.clrLen != 0 && sf == f.clrNext then f.clrLen + 1 else 1
  let s1 := if sf = f.e then setSf p sf s else bump (trkR p 0x250) 1 s
  let s2 := setFramer p { framer s1 p with clrLen := run, clrNext := sf + 1 } s1
  if 3 ≤ run then
    let s3 := withTiming p (fun x => setSf p sf (setRaw p bitLosf false
      (setFramer p { framer x p with
        e := sf, clrLen := 0, incRun := 0, stamps := []
        runFrames := (framer x p).runFrames.map fun y => (if y.1 = f.e then sf else y.1, y.2) } x))) s2
    deliverOverhead p sf b (keepStamp p stamp s3)
  else noMap p f.e s2

/-- A passing header with raw LOSF clear: consistent or not (R49, R50). -/
def goodHeader (p sf : Nat) (b : List Byte) (s : State) : State :=
  let f := framer s p
  if sf = f.e then
    deliverOverhead p sf b (setSf p sf (setFramer p { f with incRun := 0 } s))
  else
    let s1 := bump (trkR p 0x250) 1 (setFramer p { f with incRun := f.incRun + 1 } s)
    noMap p f.e (if 2 ≤ f.incRun + 1 then
      withTiming p (fun x => setRaw p bitLosf true (setFramer p { framer x p with clrLen := 1, clrNext := sf + 1 } x)) s1
    else s1)

/-- DOWNSTREAM_FRAME: the next expected pattern position of a locked port (R48 to R57). -/
def downstreamFrame (p : Nat) (rx : RxFrame) (s : State) : State :=
  let f0 := framer s p
  if !framerOn s p || !f0.locked then s
  else
    let found := decide (mismatches rx.pattern framePattern ≤ lockTol s p)
    let b := plainOf rx
    let s1 := countSilence p (endKeyFrame p s)
    let f := framer s1 p
    let s2 := countFec p rx (setFramer p { f with e := f.e + 1, rxAt := if found then rx.line else f.rxAt + 10000000 } s1)
    countDefer p (countSd p rx (
      if !found then missFrame p b s2
      else
        let f2 := framer s2 p
        let losf := f2.raw.getLsbD bitLosf
        let s3 := setFramer p { f2 with missRun := 0 } s2
        let s4 := if losf then s3 else keepStamp p rx.stamp s3
        let sf := bits (headerOf b) 127 77
        if !headerGood (headerOf b) then badHeader p b s4
        else if losf then losfHeader p sf rx.stamp b (addPayload p b s4)
        else goodHeader p sf b (addPayload p b s4)))

def execDownstreamFrame (p : Fin 16) (rx : RxFrame) (s : State) : Host.Outcome State Fault Refusal :=
  .next (onlyIf (coreOn s) (downstreamFrame p rx) s)

/-! ### The address filter's registers (R62) -/

/-- A host write of filter entry k: entry 0 and ID 4,095 are rejected, SRC becomes 0 (R62). -/
def writeFilter (p k : Nat) (v : Word) (s : State) : State :=
  if k = 0 ∨ (v.getLsbD 31 ∧ bits v.toNat 11 0 = 4095) then setBit (trkR p 0x60) 0 true s
  else setReg (trkR p (0x40 + 4 * k)) (v &&& 0x80000FFF) s

def execAfEntryWrite (p : Fin 16) (k : Fin 8) (val : Word) (s : State) : Host.Outcome State Fault Refusal :=
  .next (onlyIf (coreOn s) (writeFilter p k val) s)

end Sys2Proof.Machine
end

