-- ==== Sys2Proof/Machine/Pm.lean ====
section
/-! DEFINITION. Performance monitoring of a trunk port (R67 to R73): seconds, bins and the PM record. -/
namespace Sys2Proof.Machine
open Sys2Proof

/-- Seconds are counted for port p: core power, and the port is not dark (R71). -/
def pmCounting (s : State) (p : Nat) : Bool := coreOn s && !portDark s p

/-! ### Seconds (R67) -/

/-- The second that ends is an SES. -/
def secSes (s : State) (p : Nat) : Bool :=
  let x := pmStore s p
  x.secRep &&& 0x1F != 0 || decide (regN s (trkR p 0x28) ≤ x.secUncorr)

/-- The second that ends is an ES. -/
def secEs (s : State) (p : Nat) : Bool :=
  let x := pmStore s p
  secSes s p || x.secRep &&& 0x3F != 0 || decide (1 ≤ x.secUncorr)

/-- The counts of one second change in a bin. -/
def PmBin.addSec (b : PmBin) (es ses uas : Nat) : PmBin :=
  { b with es := sat32 (b.es + es), ses := sat32 (b.ses + ses), uas := sat32 (b.uas + uas) }

/-- The n-th member of a list changed by f. -/
def mapAt {α : Type} (f : α → α) : Nat → List α → List α
  | _, [] => []
  | 0, x :: r => f x :: r
  | n + 1, x :: r => x :: mapAt f n r

/-- f on the bins, of both lengths, that hold a second (R70: the adjustment lands there). -/
def adjustBins (f : PmBin → PmBin) (x : PmSec) (m : PmStore) : PmStore :=
  let m1 := if x.end15 = 0 then { m with cur15 := f m.cur15 } else { m with end15 := mapAt f (x.end15 - 1) m.end15 }
  if x.end24 = 0 then { m1 with cur24 := f m1.cur24 } else { m1 with end24 := mapAt f (x.end24 - 1) m1.end24 }

/-- f on the bins of every second of a run. -/
def adjustRun (f : PmSec → PmBin → PmBin) : List PmSec → PmStore → PmStore
  | [], m => m
  | x :: r, m => adjustRun f r (adjustBins (f x) x m)

/-- A second of an SES or not joins the runs, with what its availability adds to ES, SES and UAS (R67). -/
def classify (es ses : Bool) (m : PmStore) : PmStore :=
  let now : PmSec := { es := es }
  if m.uaTime then
    let m1 := adjustBins (fun b => b.addSec 0 0 1) now m
    if ses then { m1 with goodRun := [] }
    else if 9 ≤ m.goodRun.length then
      let run := m.goodRun ++ [now]
      let m2 := adjustRun (fun x b => { b with uas := b.uas - 1, es := sat32 (b.es + bitN x.es) }) run m1
      { m2 with goodRun := [], uaTime := false }
    else { m1 with goodRun := m.goodRun ++ [now] }
  else
    let m1 := adjustBins (fun b => b.addSec (bitN es) (bitN ses) 0) now m
    if !ses then { m1 with sesRun := [] }
    else if 9 ≤ m.sesRun.length then
      let run := m.sesRun ++ [now]
      let m2 := adjustRun (fun _ b => { b with uas := sat32 (b.uas + 1), es := b.es - 1, ses := b.ses - 1 }) run m1
      { m2 with sesRun := [], uaTime := true }
    else { m1 with sesRun := m.sesRun ++ [now] }

/-- One second and its defect seconds in a bin. -/
def PmBin.countSec (rep : BitVec 7) (b : PmBin) : PmBin :=
  { b with seconds := sat32 (b.seconds + 1),
           ds := (upTo 7).map fun i => sat32 (b.ds.getD i 0 + bitN (rep.getLsbD i)) }

/-- The number of the second that now runs: of network time once it is held, of uptime from power-on before (R68). -/
def secondNo (s : State) : Nat :=
  if timeHeld s then (readNow s / ntSecond % 2 ^ 64).toNat else s.uptime / 25000000

/-- PM_SECOND: the second that ends is counted, if counting ran from its beginning (R67, R68, R71; log entry 171). -/
def pmSecond (p : Nat) (s : State) : State :=
  let m := pmStore s p
  let m1 := if m.secWhole then
      classify (secEs s p) (secSes s p) { m with cur15 := m.cur15.countSec m.secRep, cur24 := m.cur24.countSec m.secRep }
    else m
  setPmStore p { m1 with secRep := reported (framer s p).raw, secUncorr := 0, secNo := secondNo s, secWhole := true } s

/-- A second has ended that port p has not counted. -/
def secondDue (s : State) (p : Nat) : Bool := pmCounting s p && secondNo s != (pmStore s p).secNo

def execPmSecond (p : Fin 16) (s : State) : Host.Outcome State Fault Refusal :=
  .next (onlyIf (secondDue s p) (pmSecond p) s)

/-! ### Bins (R69 to R71) -/

/-- A new current bin of port p, beginning now (R70). -/
def newBin (s : State) (p : Nat) : PmBin :=
  { valid := true, unaligned := !timeHeld s, incomplete := portDark s p, dark := portDark s p,
    startNt := if timeHeld s then (readNow s / ntSecond % 2 ^ 64).toNat else 0,
    epoch := regN s 0x108, startUp := s.uptime }

/-- The seconds of the runs lie one bin further back. -/
def runBack (day : Bool) (l : List PmSec) : List PmSec :=
  l.map fun x => if day then { x with end24 := x.end24 + 1 } else { x with end15 := x.end15 + 1 }

/-- The number of the quarter-hour, or of the day, that now runs (R70). -/
def binNo (day : Bool) (s : State) : Nat := secondNo s / (if day then 86400 else 900)

/-- The current bin of one length ends and waits to be closed; f marks it, g the new one. -/
def endBin (p : Nat) (day : Bool) (f g : PmBin → PmBin) (s : State) : State :=
  let m := pmStore s p
  let m1 := { m with sesRun := runBack day m.sesRun, goodRun := runBack day m.goodRun }
  let b := g (newBin s p)
  let fin := fun (x : PmBin) => { f x with endUp := s.uptime }
  setPmStore p (if day then { m1 with end24 := fin m.cur24 :: m.end24, cur24 := b, no24 := binNo true s }
    else { m1 with end15 := fin m.cur15 :: m.end15, cur15 := b, no15 := binNo false s }) s

/-- The boundary at which a port's current bin ends has come (R70). -/
def binDue (p : Nat) (day : Bool) (s : State) : Bool :=
  binNo day s != (if day then (pmStore s p).no24 else (pmStore s p).no15)

def execPmBinEnd (p : Fin 16) (day : Bool) (s : State) : Host.Outcome State Fault Refusal :=
  .next (onlyIf (coreOn s && binDue p day s) (endBin p day id id) s)

/-- PM_BIN_CLOSE: the oldest ended bin becomes the most recent past bin, the oldest past one is dropped, and the bin
event is raised (R70). -/
def closeBin (p : Nat) (day : Bool) (s : State) : State :=
  let m := pmStore s p
  if day then
    match m.end24.getLast? with
    | some b => frEvent p 8 (setPmStore p { m with end24 := m.end24.dropLast, past24 := (b :: m.past24).take 1 } s)
    | none => s
  else
    match m.end15.getLast? with
    | some b => frEvent p 7 (setPmStore p { m with end15 := m.end15.dropLast, past15 := (b :: m.past15).take 96 } s)
    | none => s

/-- The oldest ended bin of a length ended 10 s ago, 250,000,000 Heartwood ticks (R70). -/
def closeDue (p : Nat) (day : Bool) (s : State) : Bool :=
  match (if day then (pmStore s p).end24 else (pmStore s p).end15).getLast? with
  | some b => b.endUp + 250000000 ≤ s.uptime
  | none => false

def execPmBinClose (p : Fin 16) (day : Bool) (s : State) : Host.Outcome State Fault Refusal :=
  .next (onlyIf (coreOn s && closeDue p day s) (closeBin p day) s)

/-- Marks of the bins ended and begun when network time is acquired or stepped (R70, R178). -/
def markAcq (b : PmBin) : PmBin := { b with incomplete := true, timeAcq := true }

/-- The second in progress is no whole one any more: the next begins with the next number (R68). -/
def brokenSecond (p : Nat) (s : State) : State :=
  setPmStore p { pmStore s p with secNo := secondNo s, secWhole := false } s

/-- Network time is acquired, or stepped while held: the current bins of every port end, and new ones begin (R70, R178). -/
def pmAcquire (s : State) : State :=
  forAll (fun p x => brokenSecond p (endBin p true markAcq markAcq (endBin p false markAcq markAcq x))) (upTo 16) s

/-- Counting of port p stops for a reason that f marks; the runs of consecutive seconds end with it, while unavailable time
goes on (R71; log entry 172). -/
def pmStop (p : Nat) (f : PmBin → PmBin) (s : State) : State :=
  let m := pmStore s p
  let g := fun b => { f b with incomplete := true }
  setPmStore p { m with cur15 := g m.cur15, cur24 := g m.cur24, sesRun := [], goodRun := [], secRep := 0, secUncorr := 0, secWhole := false } s

/-- Power returns without network time held: the interrupted bins end at this instant (R71). -/
def pmRestore (s : State) : State :=
  forAll (fun p x => endBin p true id id (endBin p false id id x)) (upTo 16) s

/-- The core is up: seconds are counted from the next one that begins (R71). -/
def pmStart (s : State) : State := forAll brokenSecond (upTo 16) s

/-- Stage 2 has read the power epoch: the current bins of a power-on take it as the epoch at their start (R19, R69). -/
def pmEpoch (n : Nat) (s : State) : State :=
  let g := fun (b : PmBin) => if b.epoch = 0 then { b with epoch := n } else b
  forAll (fun p x => setPmStore p { pmStore x p with cur15 := g (pmStore x p).cur15, cur24 := g (pmStore x p).cur24 } x) (upTo 16) s

/-- PM_CLR_CUR: the counts of both current bins are zeroed (R71); what lay in them is adjusted no more. -/
def clearCur (p : Nat) (s : State) : State :=
  let m := pmStore s p
  let z := fun (b : PmBin) => { b with
    incomplete := true, cleared := true, seconds := 0, es := 0, ses := 0, uas := 0, ds := [],
    corrCw := 0, uncorrCw := 0, missed := 0, invalid := 0, discard := 0 }
  let far := fun (x : PmSec) => { x with
    end15 := if x.end15 = 0 then 1000 else x.end15, end24 := if x.end24 = 0 then 1000 else x.end24 }
  setPmStore p { m with cur15 := z m.cur15, cur24 := z m.cur24,
                        sesRun := m.sesRun.map far, goodRun := m.goodRun.map far } s

def execPmClrCur (p : Fin 16) (s : State) : Host.Outcome State Fault Refusal :=
  .next (onlyIf (coreOn s) (clearCur p) s)

/-! ### The record (R72, R73) -/

/-- The words of a 64-bit count, least significant first. -/
def twoWords (n : Nat) : List Word := [BitVec.ofNat 32 n, BitVec.ofNat 32 (n / 2 ^ 32)]

/-- FLAGS of a bin. -/
def PmBin.flags (b : PmBin) : Nat :=
  bitN b.valid * 2 ^ 31 + bitN b.incomplete * 2 ^ 30 + bitN b.unaligned * 2 ^ 29 + bitN b.power * 2 ^ 28 +
  bitN b.timeAcq * 2 ^ 27 + bitN b.dark * 2 ^ 26 + bitN b.cleared * 2 ^ 25

/-- The PM record of a bin, 32 words (R69). -/
def PmBin.words (b : PmBin) : List Word :=
  let w := BitVec.ofNat 32
  [w b.flags, 0] ++ twoWords b.startNt ++ [w b.epoch] ++ twoWords b.startUp ++ [w b.seconds, w b.es, w b.ses, w b.uas] ++
  (upTo 7).map (fun i => w (b.ds.getD i 0)) ++ twoWords b.corrCw ++ twoWords b.uncorrCw ++ twoWords b.missed ++
  twoWords b.invalid ++ twoWords b.discard ++ [0, 0, 0, 0]

/-- The bin that PM_SEL.BIN selects; one not filled has VALID 0 (R73). -/
def selectedBin (m : PmStore) (bin : Nat) : Option PmBin :=
  if bin = 0 then some m.cur15
  else if bin ≤ 96 then m.past15[bin - 1]?
  else if bin = 128 then some m.cur24
  else if bin = 129 then m.past24[0]?
  else none

/-- Words of a list written to consecutive registers from a on. -/
def putWords : Nat → List Word → State → State
  | _, [], s => s
  | a, w :: r, s => putWords (a + 4) r (setReg a w s)

/-- PM_SEL_WRITE: the selected record is copied into PM_DATA (R73). -/
def selectPm (p bin : Nat) (s : State) : State :=
  let rec32 := match selectedBin (pmStore s p) bin with
    | some b => b.words
    | none => List.replicate 32 0
  putWords (trkR p 0xC0) rec32 (setRegN (trkR p 0x80) bin s)

def execPmSelWrite (p : Fin 16) (bin : Byte) (s : State) : Host.Outcome State Fault Refusal :=
  .next (onlyIf (coreOn s) (selectPm p bin.toNat) s)

end Sys2Proof.Machine
end

