-- ==== Sys2Proof/Machine/Resets.lean ====
section
/-! DEFINITION. Core-domain reset and the entry to Furled, and what is lost and kept in each (R410, R431, R455 to R457, R479). -/
namespace Sys2Proof.Machine
open Sys2Proof

/-! ### Domains and the start -/

/-- Domain d is switched on; HBM, trunk and client domains by the codes of R413. -/
def domOn (s : State) (d : Nat) : Bool := s.boot.domOn.look false d
def hbmDoms : List Nat := [0x10, 0x11, 0x12, 0x13]
def trkDoms : List Nat := (upTo 16).map (0x20 + ·)
def cliDoms : List Nat := (upTo 32).map (0x40 + ·)

/-- READY rises (R455). -/
def raiseReady (s : State) : State := emit (.ready true) { s with boot := { s.boot with ready := true } }

/-- READY falls (R455). -/
def lowerReady (s : State) : State :=
  if s.boot.ready then emit (.ready false) { s with boot := { s.boot with ready := false } } else s

/-- STAGE and KIND of BOOT_STATUS. -/
def setStage (n : Nat) : State → State := setFld 0x10100 31 28 n
def bootKind (s : State) : Nat := fld s 0x10100 27 26

/-- BOOT_EVENT bit i (R466). -/
def bootEvent (i : Nat) : State → State := raise 0x10170 0x10174 i (48 + i)

/-- BUF_STATUS.HBM_AVAIL (R337). -/
def setHbmAvail (b : Bool) : State → State := setBit 0x05000004 31 b

/-! ### Interrupt controller at a core-domain reset (R410) -/

/-- Core-domain sources are reset, targets 0 to 19 emptied, and a Heartwood source on one of those stacks is pending. -/
def icReset (i : Interrupts) : Interrupts :=
  let keep := fun (x : Nat × IcSource) =>
    if x.2.active && x.2.on < 20 then (x.1, { x.2 with active := false, pending := true }) else x
  { src := (i.src.filter fun x => x.1 < 64).map keep, tgt := i.tgt.filter fun x => 20 ≤ x.1, linkUp := i.linkUp
    funcMask := i.funcMask, bar0 := i.bar0, readRequest := i.readRequest }

/-! ### What a core-domain reset leaves -/

/-- A port's registration keeps only the TID it held, as LAST_TID (R87, R479). -/
def regnReset (r : Registration) : Registration := { lastTid := r.tid.getD r.lastTid }

/-- Backstay's copies are cleared; its clock check, its dry-fire deferral and what the board does to the ball stay (R479). -/
def guardReset (g : Guard) : Guard := { pin := g.pin, clkHold := g.clkHold, defer := g.defer, alertAt := g.alertAt }

/-- Everything outside Heartwood is as at reset: Heartwood's registers, the PM store, the retained lane settings,
the fuses and the flash stay (R410, R431, R465, R479). -/
def coreLost (s : State) : State :=
  { s with
    regs := s.regs.filter fun x => domainOf x.1 == .heartwood || x.1 == 0x01300004
    ic := icReset s.ic
    framers := [], timed := [], lookouts := [], halyards := [], contexts := []
    regn := s.regn.map fun x => (x.1, regnReset x.2)
    guards := s.guards.map fun x => (x.1, guardReset x.2)
    time := {}
    lanes := [], waikens := [], tsi := {}, subs := [], fifos := [], shrOut := []
    pg := {}, cls := {}, can := { ageFrom := s.uptime }, buf := {}, sch := {}
    shr := { fuses := s.shr.fuses, ivHi := s.shr.ivHi, ivWeak := s.shr.ivWeak }
    reef := { s.reef with level := 0, target := 0, phase := .idle, active := false, notice := none, dark := none,
                          parkAt := none, wakeDue := false, wakeRetry := false, timerFrom := none }
    boot := { s.boot with coreUp := false, furled := false, flashBusy := false, tbDue := false, coreTries := 0 }
    faults := { s.faults with pairs := s.faults.pairs.map fun x => (x.1, { x.2 with down := false }), owners := [], restoring := []
                              withheld := [], passed := [], scrubAt := s.faults.scrubAt.filter fun x => x.1 == 14 }
    xt := {}, xtMem := [] }

/-- The PM bins of every port stop counting; `f` marks why (R71). -/
def pmStopAll (f : PmBin → PmBin) (s : State) : State :=
  if s.boot.coreUp then forAll (fun p => pmStop p f) (upTo 16) s else s

/-- Reset of the core domain with CAUSE of LAST_RESET, reported as PG_FAULT; the warm start that follows begins at stage 3, which needs
the flashes' domain on, the core at its boot voltage and clock (R450, R451, R453, R479, R480; log entry 230). -/
def coreReset (cause : Nat) (s : State) : State :=
  let s1 := lowerReady (retainTime (pmStopAll (fun b => { b with power := true }) s))
  let s2 := setReg 0x00200018 0 (setReg 0x00200014 0 (setBit 0x5004 31 false (setReg 0x10108 0 (coreLost s1))))
  let s3 := setRegN 0x5018 (cause * 2 ^ 28) (setFld 0x10100 20 18 0 (setFld 0x10100 27 25 2 (setStage 3 s2)))
  reefEvent 8 (setDom 4 true (coreBoot { s3 with boot := { s3.boot with trial := false } }))

/-- A reset command or a fault resets the core domain: nothing is there to reset before start-up has read the flashes,
and a fault does not end Furled (R450, R451, R458). -/
def warmStart (cause : Nat) (s : State) : State :=
  onlyIf (3 ≤ bootStage s && (!s.boot.furled || cause == 2 || cause == 3)) (coreReset cause) s

/-- Shroud's random IV_HI, drawn once where the power epoch reads 0 after power-on (R369). -/
def drawIvHi (s : State) : State :=
  if regN s 0x108 = 0 ∧ s.shr.ivHi = none then
    shrEvent 10 (drawn { s with shr := { s.shr with ivHi := some (BitVec.ofNat 32 (freeVal s)), ivWeak := true } })
  else s

/-- The core is out of reset: PM counts again, and where network time is not held the interrupted bins end (R71). -/
def coreRise (s : State) : State :=
  if s.boot.coreUp then s
  else
    let s1 := drawIvHi { s with boot := { s.boot with coreUp := true } }
    pmStart (if (pmStore s1 0).cur15.incomplete && !timeHeld s1 then pmRestore s1 else s1)

/-! ### Furled (R457) -/

/-- Lanes of trunk ports and client blocks are unpowered: no state but the first, and no lock that a recovered-clock output
could use (R184). -/
def lanesOff (p : Nat → Bool) (s : State) : State :=
  rclkSettle { s with lanes := s.lanes.adjust fun l x => if p l then {} else x }

/-- What Furled clears, and that it holds (R457, R458). -/
def furledState (s : State) : State :=
  { s with shr := { s.shr with roots := [], ports := [], cache := [], deriv := [] }
           waikens := [], lookouts := []
           boot := { s.boot with furled := true, coreUp := true } }

/-- The device enters Furled with a reason, and DETAIL of its record: dark on the trunk, reachable, waiting for an image (R457,
R458). The recovery monitor enables the management port that it serves. -/
def furlWith (reason detail : Nat) (s : State) : State :=
  if s.boot.furled then s
  else
    let s1 := forAll (fun p x => withTiming p (fun y => if framerOn y p then dropLock p y else y) (setBit (bksR p 0) 0 false x)) (upTo 16) s
    let s2 := forAll (fun b x => forAll (fun u y => if linkUp y b u then linkDown b u false y else y) (upTo 4) x) (upTo 32) s1
    let s3 := forAll (fun d => setDom d false) (cliDoms ++ trkDoms ++ hbmDoms) (forAll (fun d => setDom d true) [3, 4, 5, 6, 2] (lanesOff (· < 272) s2))
    let s4 := lowerReady (setReg 0x10108 0 (setHbmAvail false s3))
    let s5 := setRegN 0x10104 reason (setStage 15 (coreBoot s4))
    let s6 := furledState s5
    let s7 := if s6.boot.strapMgt then setBit (laneR 274 0) 0 true (setBit (cliR 32 0) 0 true (setBit (subR 32 0 0) 31 true s6)) else s6
    bootEvent 1 (writeLog 8 reason 0 0 0 1 detail s7)

/-- Furled with the DETAIL that the spec leaves to the class. -/
def furl (reason : Nat) : State → State := furlWith reason (Config.logDetail 8 reason)

end Sys2Proof.Machine
end

