-- ==== Sys2Proof/Machine/Flash.lean ====
section
/-! DEFINITION. The two flashes (R437 to R439, R449): their bytes and the record areas. -/
namespace Sys2Proof.Machine
open Sys2Proof

/-- A flash can be used: its domain is on and it is not faulty (R449). -/
def flashUp (s : State) (f : Nat) : Bool := domOn s 4 && !s.boot.flashFault.getLsbD f
/-- The bytes of flash f. -/
def flashOf (s : State) (f : Nat) : List Host.Cell := s.flash.look [] f
/-- Bytes written to flash f at address a. -/
def flashPut (f a : Nat) (l : List Byte) (s : State) : State :=
  { s with flash := s.flash.put f (memWrite 0xFF (flashOf s f) a l) }
/-- n bytes of flash f from address a erased: they read as ones. -/
def flashErase (f a n : Nat) (s : State) : State :=
  { s with flash := s.flash.put f ((flashOf s f).filter fun c => !within a n c.1) }

/-! ### Record areas of a flash (R439) -/

/-- Entry k of the record area at byte address a. -/
def entryBytes (m : List Host.Cell) (a k : Nat) : List Byte := memRead 0xFF m (a + 64 * k) 64

/-- The number a big-endian field of n bytes at byte i of a byte string holds. -/
def fieldBe (l : List Byte) (i n : Nat) : Nat := ofBytes (slice l i n)

/-- An entry is valid: its CRC-32 matches. -/
def entryValid (l : List Byte) : Bool := fieldBe l 60 4 == crc32 (l.take 60)

/-- The record of the area at a: sequence number and first payload word of the valid entry with the highest sequence
number. -/
def lastRecord (m : List Host.Cell) (a : Nat) : Option (Nat × Nat) :=
  (upTo 1024).foldl (fun best k =>
    let e := entryBytes m a k
    if entryValid e then
      match best with
      | some (q, _) => if q < fieldBe e 0 4 then some (fieldBe e 0 4, fieldBe e 4 4) else best
      | none => some (fieldBe e 0 4, fieldBe e 4 4)
    else best) none

/-- The first entry of the area at a that is blank, so that an entry can be appended there. -/
def blankEntry (m : List Host.Cell) (a : Nat) : Option Nat :=
  (upTo 1024).find? fun k => (entryBytes m a k).all (· == 0xFF)

/-- The 64 bytes of an entry. -/
def makeEntry (seq w : Nat) : List Byte :=
  let l := toBytes 4 seq ++ toBytes 4 w ++ List.replicate 52 0
  l ++ toBytes 4 (crc32 l)

/-- A record with payload word w is appended to the area at a of flash f; a full area is erased first (R439). -/
def appendRecord (f a w : Nat) (s : State) : State :=
  let m := flashOf s f
  let seq := match lastRecord m a with | some (q, _) => q + 1 | none => 1
  match blankEntry m a with
  | some k => flashPut f (a + 64 * k) (makeEntry seq w) s
  | none => flashPut f a (makeEntry seq w) (flashErase f a 65536 s)

/-- The flashes that can be read and written now. -/
def goodFlashes (s : State) : List Nat := [0, 1].filter (flashUp s)

/-- A flash write is in progress until the next tick (R423; log entry 227). -/
def flashWrites (s : State) : State := { s with boot := { s.boot with flashBusy := true } }

end Sys2Proof.Machine
end

