-- ==== Sys2Proof/Machine/Lookout.lean ====
section
/-! DEFINITION. The lookout channel (R89 to R95, R103, R430): lanes, received and transmitted messages. -/
namespace Sys2Proof.Machine
open Sys2Proof

/-- LKO_EVENT bit i (R106). -/
def lkoEvent (i : Nat) (s : State) : State := raise 0x01300008 0x0130000C i (384 + i) s

/-- Lookout port n's receiver is enabled (LKO_CTL.EN), and so is its lane (R431). -/
def lkoHears (s : State) (n : Nat) : Bool := bitAt s 0x01300000 n && bitAt s (laneR (272 + n) 0) 0

/-- The state of a half of a lookout lane that has, or has not, block lock; off, a pattern or a fault it stays (R213, R216, R526). -/
def lockCode (up : Bool) (c : Nat) : Nat := if c = 0 ∨ c = 7 ∨ c = 8 then c else if up then 5 else 2

/-- LOOKOUT_LANE_UP_CHANGE: block lock gained or lost (R89); at Reef 3 the receiver alone keeps it (R431). -/
def laneUp (n : Nat) (up : Bool) (s : State) : State :=
  if (up && !lkoHears s n) || lkoUp s n == up then s
  else
    let s1 := setBit 0x01300004 n up s
    if coreOn s then
      let s2 := laneStep (272 + n) (fun x => { x with tx := lockCode up x.tx, rx := lockCode up x.rx }) s1
      lkoEvent n (if up then s2 else countLockLoss (272 + n) s2)
    else s1

def execLookoutLaneUpChange (n : Fin 2) (up : Bool) (s : State) : Host.Outcome State Fault Refusal :=
  .next (laneUp n up s)

/-! ### Reception (R90, R91, R430) -/

/-- Fields of an LM (R90). -/
def lmDev (l : BitVec 512) : Nat := bits l.toNat 511 448
def lmPort (l : BitVec 512) : Nat := bits l.toNat 447 444
def lmAllp (l : BitVec 512) : Bool := l.getLsbD 443
def lmTmm (l : BitVec 512) : BitVec 384 := BitVec.ofNat 384 (bits l.toNat 415 32)
/-- The LM passes its CRC and its TMM passes its own. -/
def lmGood (l : BitVec 512) : Bool :=
  crc32 (toBytes 60 (l.toNat / 2 ^ 32)) == l.toNat % 2 ^ 32 && tmmGood (lmTmm l)
/-- A device identifier that addresses this device: its own, or all ones. -/
def namesUs (s : State) (d : Nat) : Bool := d == devId s || d == 2 ^ 64 - 1

/-- A TMM delivered from the lookout to port p's registration (R91). -/
def lmToPort (p : Nat) (t : BitVec 384) (s : State) : State :=
  if tmmOurs s p t then deliverTmm p { bits := t, sf := (framer s p).lastSf.getD 0, lookout := true } s
  else bump (trkR p 0x258) 1 s

/-- The LM equals one delivered from the other lookout port within the preceding 1 ms (R91). -/
def lmCopy (s : State) (n : Nat) (l : BitVec 512) : Bool :=
  (lookout s (1 - n)).recent.any fun x => x.1 == l && decide (s.uptime ≤ x.2 + 25000)

/-- An LM received at Reef 0 to Reef 2 (R91). -/
def lmReceived (n : Nat) (l : BitVec 512) (s : State) : State :=
  if !lmGood l then lkoEvent 2 (bump (lkoR n 0x04) 1 s)
  else if !namesUs s (lmDev l) then bump (lkoR n 0x0C) 1 s
  else if lmCopy s n l then bump (lkoR n 0x08) 1 s
  else
    let k := lookout s n
    let s1 := setLookout n { k with recent := (l, s.uptime) :: k.recent.filter fun x => decide (s.uptime ≤ x.2 + 25000) } s
    let s2 := bump (lkoR n 0x00) 1 s1
    if lmAllp l then forAll (fun p x => lmToPort p (lmTmm l) x) (upTo 16) s2 else lmToPort (lmPort l) (lmTmm l) s2

/-- The LM is a wake hail (R430). -/
def wakeHail (s : State) (l : BitVec 512) : Bool :=
  let t := lmTmm l
  let want := fld s 0x00200058 15 0
  lmGood l && namesUs s (lmDev l) && tf t 371 364 == 0x01 && t.getLsbD 251 && namesUs s (tf t 335 272) &&
  (tf t 351 336 == want || want == 0xFFFF)

/-- LOOKOUT_LM_RECEIVED: to registration, or at Reef 3 to the wake-hail matcher. -/
def execLookoutLmReceived (n : Fin 2) (lm : BitVec 512) (s : State) : Host.Outcome State Fault Refusal :=
  .next (if s.reef.level = 3 then onlyIf (lkoHears s n && wakeHail s lm) (raise 0x00200020 0x00200024 4 4) s
    else onlyIf (coreOn s && lkoHears s n) (lmReceived n lm) s)

/-! ### Transmission (R92 to R95) -/

/-- What of a keying lies before the first bit of its /S/ block: 256 ns. -/
def keyLead : Nat := 20480
/-- The device may transmit on lookout port n: TX_EN, its lane is up, and the driver is neither disabled nor taken by the pattern
generator (R93, R213, R214, R216). -/
def mayKey (s : State) (n : Nat) : Bool :=
  bitAt s 0x01300000 (4 + n) && lkoUp s n && !s.boot.furled && !(laneOf s (272 + n)).short && !(laneOf s (272 + n)).isOpen &&
  !bitAt s (laneR (272 + n) 0x20) 31

/-- A timed LM whose keying an untimed keying from t on would overlap, or end less than 1 µs before (R93). -/
def inTheWay (s : State) (t : Nat) : Option TimedLm :=
  s.timed.find? fun x => decide (t < timedAt x + (keying - keyLead)) && decide (timedAt x < t + keying + 80000 + keyLead)

/-- The oldest LM leaves the queue of lookout port n, and the next one's delay starts. -/
def nextLm (n : Nat) (s : State) : State :=
  let l := lookout s n
  let s1 := setLookout n { l with queue := l.queue.drop 1, delayFrom := none } s
  if (lookout s1 n).queue.isEmpty then s1 else startDelay n s1

/-- LM_DELAY_END (R93). -/
def lmDelayEnd (n : Nat) (s : State) : State :=
  let l := lookout s n
  match l.queue, l.delayFrom with
  | lm :: _, some t =>
    if coreNow s < t + 80000 * l.delayUs then s
    else if coreNow s < keyedUntil s n then startDelay n s
    else if !mayKey s n then nextLm n (txDrop n s)
    else match inTheWay s (coreNow s) with
      | some x => startDelayAt n (timedAt x + (keying - keyLead)) s
      | none =>
        let s1 := emit (.lm n (toBytes 64 lm.toNat) none) (bump (lkoR n 0x10) 1 s)
        nextLm n (setLookout n { lookout s1 n with keyedFrom := some (coreNow s) } s1)
  | _, _ => s

def execLmDelayEnd (n : Fin 2) (s : State) : Host.Outcome State Fault Refusal :=
  .next (onlyIf (coreOn s) (lmDelayEnd n) s)

/-- The timed LM with the earliest instant. -/
def earliest : List TimedLm → Option TimedLm
  | [] => none
  | x :: r => match earliest r with
    | some y => if timedAt x ≤ timedAt y then some x else some y
    | none => some x

/-- The TMM of a timed LM as it is sent: the ANNOUNCE with the K used (R95), the probe reply with TX_TIME (R103). -/
def timedTmm (s : State) (x : TimedLm) : BitVec 384 :=
  if x.probe then replyTo s x.port x.tmm 0 [(232, ntFormat (readAt s (nowOf s + timedAt x - coreNow s)))]
  else sealTmm (x.tmm.toNat / 2 ^ 32 + x.k % 4096 * 2 ^ 220)

/-- A timed LM keyed on lookout port n. -/
def keyTimed (n : Nat) (x : TimedLm) (t : BitVec 384) (s : State) : State :=
  if mayKey s n then
    let s1 := emit (.lm n (mkLm s x.port false t) (some (timedAt x))) (bump (lkoR n 0x10) 1 s)
    setLookout n { lookout s1 n with keyedFrom := some (timedAt x - keyLead) } s1
  else s

/-- A probe's reply is what a duplicate of it gets from now on (R80). -/
def rememberProbe (x : TimedLm) (t : BitVec 384) (s : State) : State :=
  let r := regnOf s x.port
  setRegn x.port { r with remembered := r.remembered.map fun m =>
    if m.type == 0x07 && m.seq == tf x.tmm 363 356 then { m with reply := some t } else m } s

/-- TIMED_LM_SEND: the earliest timed LM, at its instant, on every lookout port whose lane is up (R23, R94, R103). -/
def sendTimed (s : State) : State :=
  match earliest s.timed with
  | none => s
  | some x =>
    if coreNow s + keyLead < timedAt x then s
    else
      let t := timedTmm s x
      let s1 := keyTimed 1 x t (keyTimed 0 x t { s with timed := s.timed.erase x })
      if x.probe then rememberProbe x t s1 else s1

def execTimedLmSend (s : State) : Host.Outcome State Fault Refusal :=
  .next (onlyIf (coreOn s) sendTimed s)

/-- LKO_TXEN_FORCED_RELEASE: the enable is released after 1 µs of continuous keying, and counted (R92). -/
def forcedRelease (n : Nat) (s : State) : State :=
  bump 0x01300118 1 (setLookout n { lookout s n with keyedFrom := some (coreNow s - keying) } s)

def execLkoTxenForcedRelease (n : Fin 2) (s : State) : Host.Outcome State Fault Refusal :=
  .next (onlyIf (coreOn s) (forcedRelease n) s)

/-- LKO_CNT_CLR (R106). -/
def lkoCntClr : State → State := zeroRegs (within 0x01300100 0x40)
def execLkoCntClr (s : State) : Host.Outcome State Fault Refusal := .next (onlyIf (coreOn s) lkoCntClr s)

/-- TX_KEYED of lookout port n. -/
def lkoKeyed (s : State) (n : Nat) : Bool :=
  match (lookout s n).keyedFrom with
  | some t => decide (t ≤ coreNow s) && decide (coreNow s < t + keying)
  | none => false

end Sys2Proof.Machine
end

