-- ==== Sys2Proof/Machine/Lanes.lean ====
section
/-! DEFINITION. Serial lanes and the Waiken lane protocol (ch. 07): enabling, bring-up, control blocks, retrains, doze
checks, opens and shorts, patterns and injections. -/
namespace Sys2Proof.Machine
open Sys2Proof

/-! ### The Waiken sets (R193, R200) -/

/-- WKN_EVENT bit i of port p; source 118 signals where an enabled bit goes from 0 to 1 (R219). -/
def wknEvent (p i : Nat) (s : State) : State := raise (wknR p 8) (wknR p 0xC) i 118 s

/-- FAULT of port p becomes code c; a new fault raises FAULT, and VERSION its own event too. -/
def wknFault (p c : Nat) (s : State) : State :=
  let s1 := setWaiken p { waiken s p with fault := c } s
  if c = 0 ∨ (waiken s p).fault = c then s1
  else if c = 4 then wknEvent p 2 (wknEvent p 1 s1) else wknEvent p 1 s1

/-- State code of a half whose set has completed k steps (R200, lane state codes). -/
def stepCode (k : Nat) : Nat :=
  if k ≤ 1 then 1 else if k = 2 then 2 else if k ≤ 4 then 3 else if k ≤ 6 then 4 else 5

/-- The set of a port is active in both directions (WKN_EVENT.UP). -/
def wknUp (s : State) (p : Nat) : Bool := (waiken s p).rxStep == 7 && (waiken s p).txStep == 7

/-- Steps completed by a half. -/
def setStep (w : Waiken) (h : WaikenHalf) (k : Nat) : Waiken :=
  match h with | .rx => { w with rxStep := k } | .tx => { w with txStep := k }

/-- A half's set stands at k completed steps: its nine lanes' state, except faulted or pattern halves, and UP. -/
def toStep (p : Nat) (h : WaikenHalf) (k : Nat) (s : State) : State :=
  let s1 := setWaiken p (setStep (waiken s p) h k) s
  let s2 := forAll (fun l x =>
    let c := match h with | .rx => (laneOf x l).rx | .tx => (laneOf x l).tx
    if c = 0 ∨ c = 7 ∨ c = 8 then x else laneHalf l h (stepCode k) x) (setLanes p) s1
  if wknUp s p != wknUp s2 p then wknEvent p 0 s2 else s2

/-- A retrain is counted on every lane of the set (R204). -/
def countRetrain (p : Nat) : State → State := forAll (fun l x => bump (laneR l 0x114) 1 x) (setLanes p)

/-- Doze ends without an exit: the transmit set retrains (R208). -/
def dozeDrop (p : Nat) (s : State) : State := setHalyard p { halyard s p with dozing := false, waking := false } s

/-- The receive set goes back to k completed steps, with raw LOL (R63, R198). -/
def rxBack (p k : Nat) (s : State) : State :=
  if (waiken s p).rxStep ≤ k then s else raiseLoss p bitLol (toStep p .rx k s)
/-- The transmit set goes back to k completed steps. -/
def txBack (p k : Nat) (s : State) : State :=
  if (waiken s p).txStep ≤ k then s else toStep p .tx k (dozeDrop p s)

/-- Both sets return to step 1, a retrain counted once (R204). -/
def restartSets (p : Nat) (s : State) : State :=
  let s1 := toStep p .tx 0 (dozeDrop p (toStep p .rx 0 s))
  raiseLoss p bitLol (countRetrain p (setWaiken p { waiken s1 p with step2At := none, proposal := none, capRound := [] } s1))

/-- The version that WKN_CTL.MODE sets; in automatic mode the one tried now (R210). -/
def wknMode (s : State) (p : Nat) : Nat := match fld s (wknR p 0) 1 0 with | 1 => 2 | 2 => 1 | _ => 0

/-- Every lane of the port is enabled, and none is open or shorted (R200, R213, R214). -/
def setReady (s : State) (p : Nat) : Bool :=
  (setLanes p).all fun l => bitAt s (laneR l 0) 0 && !(laneOf s l).isOpen && !(laneOf s l).short

/-- The eight values are a permutation of 0 to 7 (R202). -/
def isOrder (l : List (Fin 16)) : Bool := l.length == 8 && (upTo 8).all fun i => l.any fun x => x.val == i

/-- Step 4's corrections of the receive lanes (R202). -/
def rxCorrect (p : Nat) (r : TrainResult) (s : State) : State :=
  let s1 := forAll (fun i x =>
    let l := 128 + 8 * p + i
    setLane l { laneOf x l with rxInv := r.inverted.getLsbD i, rxId := (r.laneIds.getD i 0).val } x) (upTo 8) s
  setLane (256 + p) { laneOf s1 (256 + p) with rxInv := r.clockInverted } s1

/-- Step 5's corrections of the transmit lanes: input j reports the lane it receives (R202). -/
def txCorrect (p : Nat) (r : TrainResult) (s : State) : State :=
  forAll (fun j x =>
    let l := 128 + 8 * p + (r.txSeen.getD j 0).val
    setLane l { laneOf x l with txPos := j, txInv := r.txInverted.getLsbD j, txTrained := true } x) (upTo 8) s

/-- The highest version in the engine's OFFER, the WAIKEN common set and WKN_CTL; 0 where none is (R203). -/
def chooseWaiken (s : State) (p offer : Nat) : Nat :=
  let has := fun v => offer.testBit v && bitAt s 0x10148 v && bitAt s (wknR p 0) (8 + v)
  if has 2 then 2 else if has 1 then 1 else 0

/-- Engine capability word i, as it stands in WKN_CAPi. -/
def capWord (s : State) (p i : Nat) : Nat := regN s (wknR p (0x20 + 4 * i))

/-- CHOSEN follows the engine's OFFER; none raises VERSION (R203). -/
def rechoose (p : Nat) (s : State) : State :=
  let c := chooseWaiken s p (bits (capWord s p 0) 15 8)
  let s1 := setWaiken p { waiken s p with chosen := c } s
  if c = 0 then wknEvent p 2 (wknFault p 4 s1) else if (waiken s p).fault = 4 then wknFault p 0 s1 else s1

/-- The rates the engine offers (word 2): the next above the present one (R209). -/
def nextRate (s : State) (p : Nat) : Option Nat :=
  let w := capWord s p 2
  let r := (waiken s p).rate
  if r = 0 ∧ w.testBit 25 then some 1 else if r < 2 ∧ w.testBit 26 then some 2 else none

/-- Step 6 for the receive set, one round of the engine's words: they stand in WKN_CAP, and it is complete when two rounds in a
row are identical and word 0 echoes CHOSEN (R203). Under version 1 the next rate is then proposed, 64 ticks ahead (R209). -/
def capStep (p : Nat) (caps : List Word) (s : State) : State :=
  let n := if (waiken s p).version = 1 then 4 else 6
  let again : Bool := (waiken s p).capRound == caps.take n
  let s0 := setWaiken p { waiken s p with capRound := caps.take n } s
  let s1 := rechoose p (forAll (fun i x => setReg (wknR p (0x20 + 4 * i)) (caps.getD i 0) x) (upTo n) s0)
  let c := (waiken s1 p).chosen
  if c = 0 ∨ bits (capWord s1 p 0) 7 0 ≠ c ∨ !again then s1
  else
    let s2 := toStep p .rx 6 (setWaiken p { waiken s1 p with capRound := [] } s1)
    let w := waiken s2 p
    let s3 := if n = 4 then setWaiken p { w with proposal := (nextRate s2 p).map fun r => (r, (w.tick + 64) % 65536) } s2 else s2
    if n = 6 ∧ 36 < capWord s3 p 5 + max 8 (fld s 0x01200000 3 0) then wknFault p 8 s3 else s3

/-- One step of the receive set completes (R200 to R203). -/
def rxStep (p : Nat) (r : TrainResult) (s : State) : State :=
  match (waiken s p).rxStep with
  | 0 =>
    let m := wknMode s p
    let v := if m = 0 then max 1 (if (waiken s p).version = 0 then 2 else (waiken s p).version) else m
    toStep p .rx 1 (setWaiken p { waiken s p with version := v, rate := if v = 1 then 0 else 2,
                                                  step2At := some s.uptime, attemptAt := s.uptime } s)
  | 1 => wknFault p 0 (toStep p .rx 2 (setWaiken p { waiken s p with step2At := none, clockLost := false } s))
  | 2 => toStep p .rx 3 (setWaiken p { waiken s p with clockLost := false } s)
  | 3 =>
    if !isOrder r.laneIds then wknFault p 2 s
    else if !r.skewOk then wknFault p 3 s
    else wknFault p 0 (toStep p .rx 4 (rxCorrect p r s))
  | 4 => toStep p .rx 5 s
  | 5 => capStep p r.caps s
  | 6 =>
    if (waiken s p).rate != 2 then s
    else toStep p .rx 7 (setWaiken p { waiken s p with sendRq := false, checkDue := true } s)
  | _ => s

/-- One step of the transmit set completes: its own receiver has finished that step (R200, R202). -/
def txStep (p : Nat) (r : TrainResult) (s : State) : State :=
  let k := (waiken s p).txStep
  if (waiken s p).rxStep ≤ k ∨ 7 ≤ k then s
  else if k = 4 then
    if (r.txSeen.headD 0).val = 15 then
      setLane (256 + p) { laneOf s (256 + p) with txInv := r.txInverted.getLsbD 0, txTrained := true } s
    else if isOrder r.txSeen then toStep p .tx 5 (txCorrect p r s) else s
  else if k = 6 then dozeIn p (toStep p .tx 7 s)
  else toStep p .tx (k + 1) s

/-- WAIKEN_BRINGUP_STEP. -/
def bringupStep (p : Nat) (h : WaikenHalf) (r : TrainResult) (s : State) : State :=
  if !setReady s p then s
  else match h with
    | .rx => rxStep p r s
    | .tx => txStep p r s

/-- The sets of trunk port p run: core and port are powered. -/
def trunkLive (s : State) (p : Nat) : Bool := coreOn s && lanePowered s (256 + p)

/-- f on port p's sets; from stage 13 on Crosstree sets FR_CTL.EN when it makes the receive set active (R452). -/
def withFramerEn (p : Nat) (f : State → State) (s : State) : State :=
  let s1 := f s
  if (waiken s1 p).rxStep == 7 && (waiken s p).rxStep != 7 && fld s 0x10100 31 28 == 14 then writeFrEn p true s1 else s1

def execWaikenBringupStep (p : Fin 16) (half : WaikenHalf) (found : TrainResult) (s : State) : Host.Outcome State Fault Refusal :=
  .next (onlyIf (trunkLive s p) (withFramerEn p (bringupStep p half found)) s)

/-- WAIKEN_TIMEOUT: step 2 has waited 100 ms (R200). -/
def waikenTimeout (p : Nat) (s : State) : State :=
  match (waiken s p).step2At with
  | some t => if (waiken s p).rxStep = 1 ∧ t + 2500000 ≤ s.uptime then wknFault p 1 s else s
  | none => s

def execWaikenTimeout (p : Fin 16) (s : State) : Host.Outcome State Fault Refusal :=
  .next (onlyIf (trunkLive s p) (waikenTimeout p) s)

/-- WAIKEN_CAP_RETRY: step 6 is repeated while no version is common (R203). -/
def execWaikenCapRetry (p : Fin 16) (s : State) : Host.Outcome State Fault Refusal :=
  .next (onlyIf (trunkLive s p && (waiken s p).rxStep == 5 && (waiken s p).chosen == 0) (rechoose p) s)

/-- A rate and its switch tick as bits [23:0] of word 2 carry them; the rate is given by its bit among the rates (log entry 181). -/
def proposalWord (x : Nat × Nat) : Nat := 2 ^ x.1 * 2 ^ 16 + x.2

/-- The port's tick count has come to tick x of its 16 bits (R197, R209). -/
def tickReached (w : Waiken) (x : Nat) : Bool := decide ((w.tick + 65536 - x % 65536) % 65536 < 32768)

/-- WAIKEN_RATE_SWITCH: at the agreed tick of version 1, its proposal echoed by the engine, both sides switch rate and repeat
steps 3 to 6; an engine without 220 Gb/s leaves the port at the last rate, with RATE (R209). -/
def rateSwitch (p : Nat) (s : State) : State :=
  let w := waiken s p
  if w.version ≠ 1 ∨ w.rxStep ≠ 6 ∨ w.txStep ≠ 6 ∨ w.rate = 2 then s
  else match w.proposal with
    | some x =>
      if capWord s p 2 % 2 ^ 24 = proposalWord x ∧ tickReached w x.2 then
        toStep p .tx 2 (toStep p .rx 2 (setWaiken p { w with rate := x.1, proposal := none } s))
      else s
    | none => wknFault p 5 s

def execWaikenRateSwitch (p : Fin 16) (s : State) : Host.Outcome State Fault Refusal :=
  .next (onlyIf (trunkLive s p) (rateSwitch p) s)

/-- WAIKEN_VERSION_ATTEMPT: automatic mode, 20 ms without symbol lock (R210). -/
def versionAttempt (p : Nat) (s : State) : State :=
  let w := waiken s p
  if wknMode s p ≠ 0 ∨ w.rxStep = 0 ∨ 4 ≤ w.rxStep ∨ s.uptime < w.attemptAt + 500000 then s
  else
    let v := 3 - w.version
    let s1 := setWaiken p { w with version := v, rate := if v = 1 then 0 else 2, attemptAt := s.uptime,
                                   step2At := some (w.step2At.getD s.uptime) } s
    bump (wknR p 0x10) 1 (toStep p .tx (min 1 w.txStep) (toStep p .rx 1 s1))

def execWaikenVersionAttempt (p : Fin 16) (s : State) : Host.Outcome State Fault Refusal :=
  .next (onlyIf (trunkLive s p) (versionAttempt p) s)

/-! ### Control blocks and loss of lock (R197, R198, R204) -/

/-- A control block is accepted: SYNC, a KIND in use, HEC (R197, R198). -/
def blockGood (b : BitVec 125) : Bool :=
  let n := b.toNat
  bits n 124 113 == 0xB4E && 1 ≤ bits n 108 105 && bits n 108 105 ≤ 5 && hec16 (bitsMsb (bits n 112 16) 97) == bits n 15 0

/-- Bit i by majority of the accepted blocks. -/
def majority (l : List (BitVec 125)) (i : Nat) : Bool := l.length < 2 * (l.filter fun b => b.getLsbD i).length

/-- The receive set has lost lock: to step 3 with RQ_TRAIN in the device's blocks, a retrain counted; under version 1 both sets
return to the start at 55 Gb/s (R204, R209). -/
def setLost (p : Nat) (clock : Bool) (s : State) : State :=
  let w := waiken s p
  let w1 := { w with clockLost := w.clockLost || clock }
  if w.version = 1 then restartSets p (setWaiken p { w1 with rate := 0 } s)
  else raiseLoss p bitLol (countRetrain p (rxBack p 2 (setWaiken p { w1 with sendRq := true } s)))

/-- Lane l of port p holds a lock that it can lose: a data lane from symbol lock on, and under version 1 after a rate switch, the
clock lane from step 2 on (R198, R200, R209). -/
def holdsLock (s : State) (p l : Nat) : Bool :=
  let w := waiken s p
  let least := if 256 ≤ l ∨ (w.version = 1 ∧ w.rate ≠ 0) then 2 else 3
  decide (least ≤ w.rxStep)

/-- LANE_LOCK_LOSS (R198). -/
def lockLoss (p l : Nat) (s : State) : State :=
  if holdsLock s p l then setLost p (decide (256 ≤ l)) (setLane l { laneOf s l with failRun := 0 } (countLockLoss l s)) else s

def execLaneLockLoss (p : Fin 16) (lane : Fin 9) (s : State) : Host.Outcome State Fault Refusal :=
  .next (onlyIf (coreOn s) (lockLoss p (if lane.val < 8 then 128 + 8 * p.val + lane.val else 256 + p.val)) s)

/-- One lane's block of a tick: a failed one counts, and after 4 in a row the lane loses lock (R198). -/
def laneBlock (p i : Nat) (b : BitVec 125) (s : State) : State :=
  let l := 128 + 8 * p + i
  if blockGood b then setLane l { laneOf s l with failRun := 0 } s
  else
    let s1 := bump (laneR l 0x110) 1 (setLane l { laneOf s l with failRun := (laneOf s l).failRun + 1 } s)
    if (laneOf s1 l).failRun = 4 then countLockLoss l s1 else s1

/-- The engine's request to retrain the transmit set: to step 3; ignored under version 1 (R204, R209). -/
def engineRetrain (p : Nat) (s : State) : State :=
  if (waiken s p).version = 1 then s else countRetrain p (txBack p 2 s)

/-- The status fields by majority of at least 5 accepted lanes; OPT_LOS raises raw LOS (R63, R198). -/
def takeStatus (p : Nat) (good : List (BitVec 125)) (s : State) : State :=
  if good.length < 5 then s
  else
    let w := waiken s p
    let m := majority good
    let s1 := setWaiken p { w with optLos := m 38, loUnlock := m 37, txReady := m 36, txFault := m 35, innerDeg := m 34,
                                   rqTrain := m 42 } s
    let s2 := if m 38 && !((framer s1 p).raw.getLsbD bitLos) then lightLost p s1 else s1
    if m 42 && !w.rqTrain then engineRetrain p s2 else s2

/-- Under version 1 the engine's echo of word 2 stands in WKN_CAP2 as a CAP block with that index brings it (R203, R209). -/
def takeEcho (p : Nat) (good : List (BitVec 125)) (s : State) : State :=
  let w := waiken s p
  match good.find? fun b => bits b.toNat 108 105 == 2 && bits b.toNat 41 39 == 2 with
  | some b => if w.version = 1 ∧ w.rxStep = 6 ∧ 5 ≤ good.length then setRegN (wknR p 0x28) (bits b.toNat 74 43) s else s
  | none => s

/-- Capability word i that the device sends (R203, R205). -/
def deviceWord (s : State) (p i : Nat) : Nat :=
  let w := waiken s p
  let offer := total ([1, 2].map fun v => bitN (bitAt s 0x10148 v && bitAt s (wknR p 0) (8 + v)) * 2 ^ (8 + v))
  match i with
  | 0 => 0x57A1 * 2 ^ 16 + offer + w.chosen
  | 1 => 0x1A470096
  | 2 => 7 * 2 ^ 24 + (if w.version = 1 then (w.proposal.map proposalWord).getD 0 else 0)
  | 3 => 8 * 2 ^ 16 + 64
  | 4 => 700
  | _ => 0

/-- KIND of the device's blocks, where its data lanes carry any: none before TP2 and none in electrical idle; the 16 ticks of step 7
are ACTIVE ones (R197, R200, R201, R207 to R209). -/
def ownKind (s : State) (p : Nat) : Option Nat :=
  let w := waiken s p
  if w.txStep < 3 then none
  else if w.txStep < 5 then some 1
  else if w.txStep = 5 ∨ (w.txStep = 6 ∧ w.rate ≠ 2) then some 2
  else if w.dozeTicks ≠ 0 then some 4
  else if (laneOf s (128 + 8 * p)).tx = 6 then none
  else if w.wakeTicks ≠ 0 then some 5
  else some 3

/-- The start of the tick that instant t comes nearest to, on the transmit set's grid: upstream slot boundaries, with the fine delay
that the set applies now (R128, R195). -/
def tickNear (s : State) (p : Nat) (t : Int) : Int :=
  let a : Int := upStart s p (framer s p).e (waiken s p).phase
  a + (t + 250 - a) / 500 * 500

/-- The start of the tick that the next control blocks announce: the one after the tick announced last, or, where that lies more
than some ticks of the clock away, the tick that follows now (R195; log entry 217). -/
def nextTick (s : State) (p : Nat) : Int :=
  let now : Int := lineNow s p
  match (waiken s p).sentAt with
  | some a => let t := tickNear s p (a + 500); if (t - now).natAbs ≤ 3700 then t else tickNear s p (now + 500)
  | none => tickNear s p (now + 500)

/-- The span at the pins of the burst in progress, or of the next one committed, from its first preamble bit to the end of its last
slot; an answer burst has six slots (R104, R111, R119). -/
def burstSpan (s : State) (p : Nat) : Option (Int × Int) :=
  let h := halyard s p
  match ((regnOf s p).qws.find? (·.launched.isSome)).orElse fun _ => nextAnswer s p with
  | some q => let a : Int := upStart s p q.sf q.preEqd + 3500 * q.k; some (a, a + 3000)
  | none => ((burstHead h.grants).orElse fun _ => h.grants.find? fun g => !g.cont && g.committed).map fun g =>
      let z := ((chainFrom s p h.grants 32768 g).getLast?).getD g
      (slotAt s p g ((g.start : Int) - 2), slotAt s p z (z.start + z.len))

/-- BEN, EDGE and EDGE_POS for the tick that starts at instant t: the burst enable spans its burst's slots and falls at data bit
1,150 of the last (R120, R197, R199). -/
def ownEnable (s : State) (p : Nat) (t : Int) : Nat × Nat × Nat :=
  match burstSpan s p with
  | some (a, z) =>
    if decide (t + 250 < a) || decide (z ≤ t + 250) then (0, 0, 0)
    else if z ≤ t + 750 then (1, 1, 1150) else (1, 0, 0)
  | none => (0, 0, 0)

/-- STEP: with the tick that starts at instant t comes the frame start at which the fine part of EqD changes, the data lanes awake
(R206). -/
def ownStep (s : State) (p : Nat) (t : Int) : Bool :=
  match (waiken s p).stepAt with
  | some a => decide (a ≤ t + 250) && !(halyard s p).dozing
  | none => false

/-- The device's control block on data lane i, of a KIND, before its tick (R197). -/
def ownBlock (s : State) (p kind : Nat) (t : Int) (i : Nat) : BitVec 125 :=
  let w := waiken s p
  let e := ownEnable s p t
  let idx := w.tick % 8
  let top := 0xB4E * 2 ^ 97 + i * 2 ^ 93 + kind * 2 ^ 89 + w.tick % 65536 * 2 ^ 73 + e.1 * 2 ^ 72 + e.2.1 * 2 ^ 71 + e.2.2 * 2 ^ 60 +
    bitN (ownStep s p t) * 2 ^ 59 + deviceWord s p idx * 2 ^ 27 + bitN w.sendRq * 2 ^ 26 + idx * 2 ^ 23
  BitVec.ofNat 125 (top * 2 ^ 16 + hec16 (bitsMsb top 97))

/-- The device's own blocks of a tick leave, where its lanes carry any; its tick count moves on (R197, R207). -/
def sendBlocks (p : Nat) (s : State) : State :=
  let w := waiken s p
  let t := nextTick s p
  let past := match w.stepAt with | some a => decide (a ≤ t + 250) | none => false
  let w1 := { w with tick := (w.tick + 1) % 65536, dozeTicks := w.dozeTicks - 1, wakeTicks := w.wakeTicks - bitN (w.dozeTicks == 0),
                     sentAt := some t, stepAt := if past then none else w.stepAt }
  match ownKind s p with
  | some k => emit (.blocks p ((upTo 8).map (ownBlock s p k t))) (setWaiken p w1 s)
  | none => setWaiken p w1 s

/-- What the control blocks of one tick bring, once the receive set has symbol lock (R198). -/
def takeBlocks (p : Nat) (bs : List (BitVec 125)) (s : State) : State :=
  if (waiken s p).rxStep < 4 then s
  else
    let s1 := forAll (fun (x : Nat × BitVec 125) y => laneBlock p x.1 x.2 y) ((upTo 8).zip bs) s
    let gone := (upTo 8).filter fun i => (laneOf s1 (128 + 8 * p + i)).failRun == 4
    let s2 := forAll (fun i x => setLane (128 + 8 * p + i) { laneOf x (128 + 8 * p + i) with failRun := 0 } x) gone s1
    let good := bs.filter blockGood
    takeStatus p good (takeEcho p good (if gone.isEmpty then s2 else setLost p false s2))

/-- WAIKEN_CONTROL_BLOCK: the control blocks of one tick, received and sent. -/
def controlBlock (p : Nat) (t : ControlTick) (s : State) : State := takeBlocks p (t.blocks.take 8) (sendBlocks p s)

def execWaikenControlBlock (p : Fin 16) (tick : ControlTick) (s : State) : Host.Outcome State Fault Refusal :=
  .next (onlyIf (trunkLive s p) (controlBlock p tick) s)

/-- DOZE_CHECK: DOZE_CTL against the engine's doze times (R207); version 1 never dozes (R209). -/
def dozeCheck (p : Nat) (s : State) : State :=
  let lead := fld s (halR p 0xC) 15 0
  let gap := fld s (halR p 0xC) 31 16
  let dzIn := bits (capWord s p 3) 31 16
  let dzOut := bits (capWord s p 3) 15 0
  let ok := decide (max 64 dzOut + 16 ≤ lead) && decide (8 + dzIn + max 64 dzOut + 16 ≤ gap) && dzOut != 0 &&
    (waiken s p).version == 2
  dozeIn p (setWaiken p { waiken s p with noDoze := !ok, checkDue := false } s)

def execDozeCheck (p : Fin 16) (s : State) : Host.Outcome State Fault Refusal :=
  .next (onlyIf (coreOn s && (waiken s p).checkDue) (dozeCheck p) s)

/-- TX_PLL_SOURCE_CHANGE: the receive clock lane while it is active, else the reference (R194). -/
def execTxPllSourceChange (p : Fin 16) (s : State) : Host.Outcome State Fault Refusal :=
  .next (onlyIf (coreOn s) (fun x => setWaiken p { waiken x p with pllOnClock := decide (2 ≤ (waiken x p).rxStep) && !(waiken x p).clockLost } x) s)

/-! ### Enabling, opens and shorts (R200, R204, R213, R214) -/

/-- The state in which a half of lane l starts: its class's first, or for a PCIe lane of a link that is up the link's traffic (R526;
log entry 183). -/
def firstState (s : State) (l : Nat) : Nat :=
  if (275 ≤ l && s.ic.linkUp) || ((l == 272 || l == 273) && lkoUp s (l - 272)) then 5 else 1

/-- Where the transmit half of lane l rests out of service: a fault while an open or a short is latched, a pattern while its
generator is on, else its class's first state or off (R213, R214, R216, R526). -/
def txRest (s : State) (l : Nat) (x : Lane) : Nat :=
  if x.isOpen || x.short then 8 else if bitAt s (laneR l 0x20) 31 then 7
  else if bitAt s (laneR l 0) 0 && lanePowered s l && laneServed s l then firstState s l else 0
/-- The same of its receive half. -/
def rxRest (s : State) (l : Nat) : Nat :=
  if bitAt s (laneR l 0x20) 30 then 7 else if bitAt s (laneR l 0) 0 && lanePowered s l && laneServed s l then firstState s l else 0
/-- Both halves of lane l at rest. -/
def restLane (l : Nat) (s : State) : State := laneStep l (fun x => { x with tx := txRest s l x, rx := rxRest s l }) s

/-- LANE_ENABLE: EN starts the lane's bring-up, or stops it and drops its corrections (R202, R204). -/
def enableLane (l : Nat) (en : Bool) (s : State) : State :=
  if bitAt s (laneR l 0) 0 = en then s
  else
    let s1 := setBit (laneR l 0) 0 en s
    let x := laneOf s1 l
    let s2 := if en then s1 else setLane l { x with rxInv := false, txInv := false, txTrained := false, rxId := 0, txPos := 0,
                                                    isOpen := false, failRun := 0 } s1
    let s3 := restLane l s2
    match trunkOf l with
    | some p => if en then s3 else restartSets p s3
    | none => s3

/-- The same with the power of the lane's trunk port (R413). -/
def enablePort (l : Nat) (en : Bool) (s : State) : State :=
  match trunkOf l with
  | some p => trkFollow p (trunkDisabled s p) (enableLane l en s)
  | none => enableLane l en s

def execLaneEnable (l : Fin 279) (en : Bool) (s : State) : Host.Outcome State Fault Refusal :=
  .next (onlyIf (coreOn s) (enablePort l en) s)

/-- The set's OPEN or SHORT fault falls with its last cause (Waiken fault codes). -/
def clearPairFault (l : Nat) (s : State) : State :=
  match trunkOf l with
  | some p =>
    let c := (waiken s p).fault
    let still := (setLanes p).any fun k => if c = 6 then (laneOf s k).isOpen else (laneOf s k).short
    if (c = 6 ∨ c = 7) ∧ !still then wknFault p 0 s else s
  | none => s

/-- RETRAIN: SHORT is cleared and bring-up restarts (R204, R214). -/
def retrain (l : Nat) (s : State) : State :=
  if !lanePowered s l then s else
  let s0 := setLane l { laneOf s l with short := false, isOpen := false } s
  let s1 := clearPairFault l (restLane l s0)
  match trunkOf l with
  | some p => restartSets p s1
  | none => bump (laneR l 0x114) 1 s1

def execRetrain (l : Fin 279) (s : State) : Host.Outcome State Fault Refusal :=
  .next (onlyIf (coreOn s) (retrain l) s)

/-- LANE_CNT_CLR: the lane's counters, and with a clock lane's WKN_ATTEMPTS (ch. 07 registers). -/
def laneCntClr (l : Nat) : State → State :=
  zeroRegs fun a => within (laneR l 0x100) 0x1C a || (decide (256 ≤ l ∧ l < 272) && a == wknR (l - 256) 0x10)
def execLaneCntClr (l : Fin 279) (s : State) : Host.Outcome State Fault Refusal := .next (onlyIf (coreOn s) (laneCntClr l) s)

/-- RECEIVER_DETECT: the far-end termination is found or not; an open pair holds a trunk set in bring-up (R213). PCIe
transmitters have their own procedure. -/
def detect (l : Nat) (found : Bool) (s : State) : State :=
  let x := laneOf s l
  if !bitAt s (laneR l 0) 0 || 275 ≤ l then s
  else if found then
    if x.isOpen then clearPairFault l (laneStep l (fun y => { y with isOpen := false, tx := txRest s l { y with isOpen := false } }) s) else s
  else
    let s1 := laneStep l (fun y => { y with isOpen := true, tx := 8 }) s
    let s2 := if x.isOpen then s1 else laneEvent l 2 s1
    match trunkOf l with
    | some p => txBack p 0 (wknFault p 6 s2)
    | none => s2

def execReceiverDetect (l : Fin 279) (found : Bool) (s : State) : Host.Outcome State Fault Refusal :=
  .next (onlyIf (coreOn s) (withPins 0 l (!found && !(laneOf s l).isOpen && bitAt s (laneR l 0) 0 && l < 275) (detect l found)) s)

/-- LEG_SHORT: the driver is disabled and SHORT latched; a trunk transmit set is held at step 1 (R214). -/
def legShort (l : Nat) (s : State) : State :=
  let s1 := laneEvent l 3 (laneStep l (fun y => { y with short := true, tx := 8 }) s)
  match trunkOf l with
  | some p => txBack p 0 (wknFault p 7 s1)
  | none => s1

def execLegShort (l : Fin 279) (s : State) : Host.Outcome State Fault Refusal :=
  .next (onlyIf (coreOn s) (withPins 0 l (!(laneOf s l).short) (legShort l)) s)

/-! ### Patterns and injections (R215 to R217) -/

/-- The sub-ports of the client block of lane l that use the lane, by the block's mode, or that of its pair (R220). -/
def laneMacs (s : State) (l : Nat) : List Nat :=
  let b := l / 4
  let pair := b - b % 2
  if fld s (cliR pair 0) 2 0 = 4 then [subR pair 0 0]
  else match fld s (cliR b 0) 2 0 with
    | 1 => [subR b (l % 4) 0]
    | 2 => [subR b (l % 4 / 2) 0]
    | 3 => [subR b 0 0]
    | _ => []

/-- Lane l carries no traffic in a direction (R216): for client and management lanes no MAC that uses it is enabled. -/
def laneIdle (s : State) (l : Nat) (tx : Bool) : Bool :=
  match trunkOf l with
  | some p => if tx then !bitAt s (halR p 0) 0 else !bitAt s (trkR p 0) 0
  | none =>
    if l < 128 then (laneMacs s l).all fun a => !bitAt s a 31
    else if l < 274 then !bitAt s 0x01300000 ((l - 272) + if tx then 4 else 0)
    else if l = 274 then !bitAt s (subR 32 0 0) 31
    else !s.ic.linkUp

/-- A write of PAT_CTL is accepted (R216): clock lanes take SQUARE only. -/
def patOk (s : State) (l : Nat) (v : Word) : Bool :=
  (!v.getLsbD 31 || laneIdle s l true) && (!v.getLsbD 30 || laneIdle s l false) &&
  (!(v.getLsbD 31 || v.getLsbD 30) || trunkOf l != some (l - 256) || l < 256 || bits v.toNat 29 27 == 4)

/-- PAT_CTL_WRITE (R216). -/
def writePat (l : Nat) (v : Word) (s : State) : State :=
  if !patOk s l v then setLane l { laneOf s l with patRej := true } s
  else
    let a := laneR l 0x20
    let wasGen := bitAt s a 31
    let wasChk := bitAt s a 30
    let gen := v.getLsbD 31
    let chk := v.getLsbD 30
    let lost := (laneOf s l).patLock && !chk
    let s0 := setReg a (v &&& 0xFFF00000) s
    let x0 := laneOf s l
    let s1 := laneStep l (fun x => { x with
        patRej := false, patLock := x.patLock && chk, patRun := if chk then x.patRun else 0, patWin := if chk then x.patWin else []
        tx := if gen != wasGen then txRest s0 l x0 else x.tx
        rx := if chk != wasChk then rxRest s0 l else x.rx }) s0
    let s2 := if lost then laneEvent l 4 s1 else s1
    match trunkOf l with
    | some p =>
      let s3 := if gen && !wasGen then txBack p 0 s2 else s2
      if chk && !wasChk then rxBack p 0 s3 else s3
    | none => s2

def execPatCtlWrite (l : Fin 279) (val : Word) (s : State) : Host.Outcome State Fault Refusal :=
  .next (onlyIf (coreOn s) (writePat l val) s)

/-- A checker at work: in lock or not, its run, the errors of its last 1,024 bits, and since a report began the bits and errors it
has counted and whether its lock has changed (R215). -/
structure Checker where
  locked : Bool
  run : Nat
  win : List Nat
  bits : Nat := 0
  errs : Nat := 0
  flipped : Bool := false

/-- g bits without error: they count in lock, and out of lock after the 64th of their run, which brings it (R215). -/
def goodBits (g : Nat) (c : Checker) : Checker :=
  if c.locked then { c with bits := c.bits + g, win := (c.win.map (· + g)).filter (· < 1024) }
  else if 64 ≤ c.run + g then { c with locked := true, run := 0, win := [], bits := c.bits + (c.run + g - 64), flipped := true }
  else { c with run := c.run + g }

/-- One bit in error: in lock it counts, and the 64th within 1,024 bits ends lock; out of lock the run is broken (R215). -/
def errBit (c : Checker) : Checker :=
  if c.locked then
    let win := 0 :: (c.win.map (· + 1)).filter (· < 1024)
    let c1 := { c with bits := c.bits + 1, errs := c.errs + 1, win := win }
    if 64 ≤ win.length then { c1 with locked := false, run := 0, win := [], flipped := true } else c1
  else { c with run := 0 }

/-- A report's e errors among its good bits: it does not say where they lie, and each place is free (R215; log entry 182). -/
def checkBits : Nat → Nat → Checker → State → Checker × State
  | 0, good, c, s => (goodBits good c, s)
  | e + 1, good, c, s =>
    let g := freeVal s % (good + 1)
    checkBits e (good - g) (errBit (goodBits g c)) (drawn s)

/-- PATTERN_LOCK_CHANGE: n bits with e errors that the checker has seen since the last report (R215). -/
def patternLock (l n e : Nat) (s : State) : State :=
  if !bitAt s (laneR l 0x20) 30 then s
  else
    let x := laneOf s l
    let r := checkBits (min e n) (n - e) { locked := x.patLock, run := x.patRun, win := x.patWin } s
    let c := r.1
    let s1 := setLane l { x with patLock := c.locked, patRun := c.run, patWin := c.win } r.2
    let s2 := bump (laneR l 0x108) c.errs (bump64 (laneR l 0x100) c.bits s1)
    if c.flipped then laneEvent l 4 s2 else s2

def execPatternLockChange (l : Fin 279) (bits errs : Nat) (s : State) : Host.Outcome State Fault Refusal :=
  .next (onlyIf (coreOn s) (patternLock l bits errs) s)

/-- An injection has a stream to act on: the generator's pattern, or live traffic where that is accepted (R217). -/
def injectable (s : State) (l : Nat) : Bool :=
  bitAt s (laneR l 0x20) 31 || (bitAt s (laneR l 0x20) 20 && (l < 256 || l == 274))

/-- n bits of the lane's transmit stream are inverted, or the injection is lost while a previous one is still in flight (R217). -/
def inject (l n : Nat) (s : State) : State :=
  if !injectable s l then s
  else if (laneOf s l).injBusy then bump (laneR l 0x118) 1 s
  else emit (.inverted l n (!bitAt s (laneR l 0x20) 31)) (setLane l { laneOf s l with injBusy := true } s)

/-- A write of INJ (R217, R218). -/
def writeInj (l : Nat) (v : Word) (s : State) : State :=
  let s1 := if v.getLsbD 31 then inject l 1 s else s
  if v.getLsbD 30 then inject l (bits v.toNat 9 0 + 1) s1 else s1

def execInjSingle (l : Fin 279) (s : State) : Host.Outcome State Fault Refusal := .next (onlyIf (coreOn s) (inject l 1) s)

def execInjBurst (l : Fin 279) (len : BitVec 10) (s : State) : Host.Outcome State Fault Refusal :=
  .next (onlyIf (coreOn s) (inject l (len.toNat + 1)) s)

end Sys2Proof.Machine
end

