-- ==== Sys2Proof/Machine/Reef.lean ====
section
/-! DEFINITION. The reef manager (ch. 16): requests, darkness by agreement, transitions, Reef 3 and waking. -/
namespace Sys2Proof.Machine
open Sys2Proof

/-! ### Ports and blocks, dark and lit (R420, R421) -/

/-- Upstream frames from SF_EFF on: the grants still held are discarded, counted by the port (R420). -/
def discardGrants (p : Nat) (s : State) : State :=
  let gs := (halyard s p).grants
  let t : Int := lineNow s p
  let s1 := forAll (fun g x => sentFills p (g.fill.take (g.fill.length - (unsent s p t gs g).length)) x) gs s
  let s2 := returnTmms p ((gs.filter fun g => !g.launched).flatMap fun g => g.plan.tmms)
    (returnFills p (gs.flatMap (unsent s p t gs)) s1)
  bump (0x00200120 + 4 * p) (openGrants s p t gs)
    (setHalyard p { halyard s2 p with maps := [], grants := [], txOpen := false, dozing := false, waking := false } s2)

/-- Trunk port p goes dark: closed, unpowered, its registration kept and no timer running (R66, R71, R420). -/
def goDark (p : Nat) (s : State) : State :=
  let s1 := stopFramer p (bksLost p (missAnswer p (discardGrants p s)))
  let s2 := setWaiken p {} (lanesOff (fun l => (setLanes p).contains l) s1)
  let s3 := pmStop p (fun b => { b with dark := true }) (setRegn p { regnOf s2 p with darkAt := some s.uptime, litAt := none } s2)
  reefEvent 6 (rclkSettle (setDom (0x20 + p) false (setBit 0x00200014 p true s3)))

/-- A registration timer that stood still for n ticks. -/
def timerLater (n : Nat) (t : Option Nat) : Option Nat := t.map (· + n)

/-- The lanes of a list are at their first states, those that are enabled (R200, R223). -/
def lanesFirst (ls : List Nat) (s : State) : State := forAll restLane ls s

/-- Trunk port p is lit again: powered, where it is not disabled (R413), its lanes at the start of bring-up, its framer enabled, its timers going on (R421). -/
def lightPort (p : Nat) (s : State) : State :=
  if !portDark s p then s
  else
    let r := regnOf s p
    let n := s.uptime - r.darkAt.getD s.uptime
    let s0 := setBit 0x00200014 p false s
    let s1 := if trunkDisabled s p then s0 else setDom (0x20 + p) true s0
    let s2 := setRegn p { r with darkAt := none, litAt := some s.uptime, annAt := timerLater n r.annAt,
                                 rangeAt := timerLater n r.rangeAt, holdAt := timerLater n r.holdAt } s1
    let s3 := lanesFirst (setLanes p) s2
    reefEvent 6 (rclkSettle (if bitAt s3 (trkR p 0) 0 then startFramer p s3 else s3))

/-- Client block b goes dark: its links fall and its lanes are off (R420). -/
def clientDark (b : Nat) (s : State) : State :=
  if blockDark s b then s
  else
    let s0 := if paired s b && linkUp s (b - 1) 0 then linkDown (b - 1) 0 false s else s
    let s1 := forAll (fun u x => if linkUp x b u then linkDown b u false x else x) (upTo 4) s0
    let s2 := lanesOff (fun l => l / 4 == b && decide (l < 128)) s1
    reefEvent 6 (setDom (0x40 + b) false (setBit 0x00200018 b true s2))

/-- A dark client block is lit and restarts bring-up (R421). -/
def clientLit (b : Nat) (s : State) : State :=
  if !blockDark s b then s
  else reefEvent 6 (lanesFirst [4 * b, 4 * b + 1, 4 * b + 2, 4 * b + 3] (setDom (0x40 + b) true (setBit 0x00200018 b false s)))

/-- Blocks of a set, each once. -/
def inSet (n w : Nat) : List Nat := (upTo n).filter fun i => w.testBit i

/-! ### Requests (R416 to R418, R422) -/

/-- Ports lit and not disabled (R413, R415). -/
def litPorts (s : State) : List Nat := (upTo 16).filter fun p => !portDark s p && !trunkDisabled s p

/-- A REEF_NOTICE is queued on every trunk port in OPERATE, or the request ends with NO_GRANT (R417). -/
def sendNotice (level : Nat) (ports : BitVec 16) (clients : BitVec 32) (reason : Nat) (s : State) : State :=
  let on := (upTo 16).filter fun p => (regnOf s p).state == .operate
  if on.isEmpty then reefEnd 6 0 0 s
  else
    let s1 := forAll (fun p x => queueTmm p (mkTmm (ownId x p) 0x0C 0 p [(350, level), (334, ports.toNat), (302, clients.toNat), (294, reason)])
      ((framer x p).lastSf.getD 0) x) on s
    setReef { s1.reef with phase := .notice, notice := some ⟨level, ports, clients, false, s.uptime⟩ } s1

/-- A request for a level has been accepted (R416, R417, R421). -/
def startRequest (level : Nat) (notice : Bool) (keep reason : Nat) (s : State) : State :=
  let s1 := setReef { s.reef with target := level, origin := s.reef.level, active := true, granted := false } s
  let ports : BitVec 16 := if level = 2 then BitVec.ofNat 16 (total ((litPorts s).filter (· != keep) |>.map (2 ^ ·)))
    else (reg s 0x0020000C).setWidth 16
  if notice ∧ (level = 1 ∨ level = 2) then sendNotice level ports (reg s 0x00200010) reason s1
  else if level = 0 ∧ reg s 0x00200014 ≠ 0 then sendNotice 1 0 0 reason s1
  else if level = s.reef.level then reefEnd 1 0 0 s1
  else setReef { s1.reef with phase := .prepare } s1

/-- The status of a REEF_CMD from a path, and whether it comes from Crosstree (R416, R422, R428, R454, R482). -/
def reefStatus (s : State) (path : Path) (level : Nat) : Nat :=
  if s.reef.active ∨ s.reef.phase = .waking then 1
  else if s.reef.level = 3 then (if path = .bmc ∧ level = 0 then 0 else 2)
  else if !s.boot.ready then 1
  else if s.reef.busStuck ∨ s.reef.avsStuck then 9
  else if path = .xt ∧ level = 3 then 3
  else if path = .xt ∧ !bitAt s 0x00200000 0 then 2
  else 0

/-- A request by the fields of REEF_CMD; its status is CMD_CODE (R416). -/
def reefRequest (path : Path) (v : Word) (s : State) : State × Nat :=
  let level := bits v.toNat 29 28
  let c := reefStatus s path level
  let s1 := setReef { s.reef with cmdCode := c } s
  if c ≠ 0 then (s1, c)
  else if s.reef.level = 3 then (requestWake 1023 s1, 0)
  else (startRequest level (v.getLsbD 27) (bits v.toNat 19 16) (bits v.toNat 7 0) s1, 0)

/-- REEF_CMD_GO: a write of REEF_CMD with GO. -/
def execReefCmdGo (path : Path) (val : Word) (s : State) : Host.Outcome State Fault Refusal :=
  .next (reefRequest path val s).1

/-- A head-end notice becomes the outstanding notice, a request for its level (R418), unless VDD_CORE is held (R482; log entry 224). -/
def headNotice (p : Nat) (t : TmmIn) (s : State) : State :=
  let level := tf t.bits 351 350
  if bitAt s 0x00200000 1 ∧ !s.reef.active ∧ s.reef.phase ≠ .waking ∧ (level = 1 ∨ level = 2) ∧
      !s.reef.busStuck ∧ !s.reef.avsStuck then
    let n : Notice := ⟨level, BitVec.ofNat 16 (tf t.bits 349 334), reg s 0x00200010, true, s.uptime⟩
    answer p t 0 [] (setReef { s.reef with target := level, origin := s.reef.level, active := true, granted := false,
                                           phase := .notice, notice := some n } s)
  else answer p t 3 [] s

/-- REEF_NOTICE: the TMM at the head of port p's queue; acted on in OPERATE (R84, R418). -/
def execReefNotice (p : Fin 16) (s : State) : Host.Outcome State Fault Refusal :=
  .next (onlyIf (coreOn s) (withTmm p 0x0C (fun x _ => (regnOf x p).state == .operate) (headNotice p)) s)

/-- An outstanding notice without a grant for GRANT_TO milliseconds (R417). -/
def noticeOver (s : State) : Bool :=
  match s.reef.notice with
  | some n => decide (n.sentAt + 25000 * fld s 0x00200044 15 0 ≤ s.uptime)
  | none => false

def execReefGrantTimeout (s : State) : Host.Outcome State Fault Refusal :=
  .next (onlyIf (coreOn s && noticeOver s) (reefEnd 6 0 0) s)

/-! ### Grants (R419) -/

/-- A reef grant's fields. -/
def grantLevel (t : TmmIn) : Nat := tf t.bits 351 350
def grantPorts (t : TmmIn) : BitVec 16 := BitVec.ofNat 16 (tf t.bits 349 334)
def grantSf (t : TmmIn) : Nat := tf t.bits 333 283

/-- The lit ports that a grant names. -/
def namedLit (s : State) (t : TmmIn) : List Nat := (litPorts s).filter fun p => (grantPorts t).getLsbD p

/-- The first item of R419's list. -/
def grantBad (s : State) (p : Nat) (t : TmmIn) : Bool :=
  let on := (upTo 16).filter fun q => !trunkDisabled s q
  let left := on.filter fun q => !(grantPorts t).getLsbD q
  let inTime := decide (t.sf + 16 ≤ grantSf t) && frameInReach false s p t (grantSf t)
  grantLevel t == 3 || (grantLevel t == 0 && grantPorts t != 0) || (!(namedLit s t).isEmpty && !inTime) ||
  left.isEmpty || (grantLevel t == 2 && decide (1 < left.length))

/-- A grant taken: darkness pends for the lit ports it names, and with it that of the answered notice's blocks; dark ports it does not
name are lit, the notice is answered and its request's target follows, while a transition keeps its own (R419 to R421, R434). Where
no port is to go dark the blocks wait for the commit, if there is one (R416). -/
def acceptGrant (p : Nat) (t : TmmIn) (s : State) : State :=
  let lit := namedLit s t
  let named : BitVec 16 := BitVec.ofNat 16 (total (lit.map (2 ^ ·)))
  let oper : BitVec 16 := BitVec.ofNat 16 (total ((lit.filter fun q => (regnOf s q).state == .operate).map (2 ^ ·)))
  let clients : BitVec 32 := match s.reef.notice with
    | some n => n.clients
    | none => match s.reef.dark with
      | some d => d.clients
      | none => 0
  let r := s.reef
  let target := if r.active ∧ r.phase = .notice then min r.target (grantLevel t) else r.target
  let dark := if lit.isEmpty && (clients == 0 || target != r.level) then none
    else some { level := grantLevel t, asked := grantPorts t, ports := named, clients := clients, sfEff := grantSf t,
                carrier := p, inOper := oper, due := tRx s p (grantSf t) : PendingDark }
  let s1 := setReef { r with dark := dark, notice := none, granted := r.granted || !lit.isEmpty, target := target } s
  let s2 := forAll (fun q x => if (grantPorts t).getLsbD q then x else lightPort q x) (upTo 16) s1
  answer p t 0 [] (reefProceed s2)

/-- A reef grant, by R419's outcomes in their order. -/
def reefGrant (p : Nat) (t : TmmIn) (s : State) : State :=
  if grantBad s p t then answer p t 3 [] s
  else
    let free := (namedLit s t).isEmpty && decide (grantLevel t ≤ s.reef.level)
    match s.reef.dark with
    | some d =>
      if d.level = grantLevel t ∧ d.asked = grantPorts t ∧ d.sfEff = grantSf t then answer p t 0 [] s
      else if grantSf t ≤ d.sfEff then answer p t 3 [] s
      else acceptGrant p t s
    | none => if s.reef.notice.isSome || free then acceptGrant p t s else answer p t 5 [] s

/-- REEF_GRANT: the TMM at the head of port p's queue; acted on in OPERATE (R84, R419). -/
def execReefGrant (p : Fin 16) (s : State) : Host.Outcome State Fault Refusal :=
  .next (onlyIf (coreOn s) (withTmm p 0x0D (fun x _ => (regnOf x p).state == .operate) (reefGrant p)) s)

/-- t_rx(SF_EFF) of the port that carried the grant; by its timing at the grant where it has none now (R420). -/
def darkFrom (s : State) (d : PendingDark) : Nat := if hasTiming s d.carrier then tRx s d.carrier d.sfEff else d.due

/-- Port p's darkness is due (R420). -/
def darkDue (s : State) (p : Nat) : Bool :=
  match s.reef.dark with
  | some d => d.ports.getLsbD p &&
      (if d.inOper.getLsbD p then hasTiming s p && decide (upStart s p d.sfEff (halEqd s p d.sfEff) ≤ lineNow s p)
        else decide (darkFrom s d ≤ lineNow s d.carrier))
  | none => false

/-- PORT_DARK. -/
def execPortDark (p : Fin 16) (s : State) : Host.Outcome State Fault Refusal :=
  .next (onlyIf (coreOn s && darkDue s p) (fun x => darkLeft (BitVec.ofNat 16 (2 ^ p.val)) 0 (goDark p x)) s)

/-- The blocks of the answered notice go dark (R420). -/
def blocksDark (s : State) : State :=
  match s.reef.dark with
  | some d => if darkFrom s d ≤ lineNow s d.carrier then darkLeft 0 d.clients (forAll clientDark (inSet 32 d.clients.toNat) s) else s
  | none => s

/-- CLIENT_BLOCK_DARK. -/
def execClientBlockDark (s : State) : Host.Outcome State Fault Refusal := .next (onlyIf (coreOn s) blocksDark s)

/-- LIGHT_TIMEOUT (R421). -/
def lightTimeout (p : Nat) (s : State) : State :=
  match (regnOf s p).litAt with
  | some t =>
    if hasTiming s p ∨ portDark s p ∨ s.uptime < t + 25000 * fld s 0x00200048 15 0 then s
    else downstreamLost p (setRegn p { regnOf s p with litAt := none } s)
  | none => s

def execLightTimeout (p : Fin 16) (s : State) : Host.Outcome State Fault Refusal :=
  .next (onlyIf (coreOn s) (lightTimeout p) s)

/-- A write of CLI_DARK_REQ; at Reef 1 or 2 a dark block whose bit is 0 is lit (R421). -/
def writeCliDarkReq (v : Word) (s : State) : State :=
  let s1 := setReg 0x00200010 v s
  if s.reef.level = 1 ∨ s.reef.level = 2 then forAll (fun b x => if v.getLsbD b then x else clientLit b x) (upTo 32) s1 else s1

def execCliDarkReqWrite (val : Word) (s : State) : Host.Outcome State Fault Refusal := .next (writeCliDarkReq val s)

/-! ### Prepare (R423) -/

/-- A lit port's held grants, by upstream frame and length. -/
def heldLoad (s : State) : List (Nat × Nat) :=
  (litPorts s).flatMap fun p => (halyard s p).grants.map fun g => (g.sf, g.len)

/-- In some upstream frame the granted slots of all lit ports exceed what level n can serve. -/
def overloaded (s : State) (n : Nat) : Bool :=
  let l := heldLoad s
  let most := match n with | 0 => 320000 | 1 => 240000 | _ => 80000
  n != 3 && (l.map Prod.fst).eraseDups.any fun f => decide (most < total ((l.filter (·.1 == f)).map Prod.snd))

/-- A walk or FLUSH_PORT sweep in progress reaches the HBM tier. -/
def sweepsHbm (s : State) : Bool :=
  let reaches := fun (t : Nat) => t != 16 && (canShape s t).hbmB != 0
  (match s.can.flush with | some f => reaches f.table | none => false) || s.can.walks.any fun w => reaches w.2.table

/-- A wake source is armed, or a BMC has used the SPI target since power-on (R423, R428). -/
def wakeable (s : State) : Bool := [3, 4, 5, 40].any (wakeArmed s) || s.bmc.connected

/-- Refusal codes and block codes of the participants, in the table's order. -/
def refusals (s : State) (a : PrepareAnswer) : List (Nat × Nat) :=
  let n := s.reef.target
  let deep := decide (2 ≤ n)
  let say := fun (b : Bool) (x : Nat × Nat) => if b then [x] else []
  let silent := fun (k : Nat) => say (a.silent.any fun i => i.val == k) (9, k)
  say (overloaded s n) (1, 1) ++ say ((litPorts s).any fun p => decide (fld s (halR p 8) 7 0 < 27)) (2, 1) ++ silent 1 ++
  say (deep && !a.drained) (3, 2) ++ silent 2 ++
  say (deep && sweepsHbm s) (4, 3) ++ silent 3 ++
  say (deep && bitAt s 0x02400000 0 && (pageEntries s s.tsi.active).any (fun e => e.2.testBit 63)) (5, 4) ++ silent 4 ++
  say s.boot.flashBusy (6, 5) ++ silent 5 ++
  say (n == 2 && decide (1 < (litPorts s).length)) (7, 6) ++ say (n == 3 && !wakeable s) (8, 6) ++ silent 6

/-- The VDD_CORE target of level n, in mV (R425, R435). -/
def oppOf (s : State) (n : Nat) : Nat := fld s (0x00200030 + 4 * n) 9 0

/-- A Voltage write; `raising` says which way (R425, R426). -/
def commandVoltage (mv : Nat) (up : Bool) (s : State) : State :=
  avsWrite mv (setReef { s.reef with phase := .voltage, mvOld := s.reef.mv, raising := up, lowerAt := s.uptime } s)

/-- Reef 3 entry that a PARK asked for has yet to wait for its upstream frame's end (R427). -/
def parkWaits (s : State) : Bool :=
  match s.reef.parkAt with
  | some (p, sf) => hasTiming s p && decide (lineNow s p < upStart s p (sf + 1) (halEqd s p (sf + 1)))
  | none => false

/-- A participant's refusal aborts the transition (R423). -/
def abortTrans (code block : Nat) (s : State) : State := reefEvent 1 (bumpLo 0x00200104 1 (reefEnd 2 code block s))

/-- Every participant answers: one refusal aborts, else the transition goes on, toward Reef 2 or Reef 3 with every staged write complete
(R337, R423 to R425, R427). -/
def prepare (a : PrepareAnswer) (s : State) : State :=
  let s1 := setReef { s.reef with parkAt := none } s
  match refusals s1 a with
  | (c, b) :: _ => abortTrans c b s1
  | [] =>
    let s2 := if 2 ≤ s1.reef.target then unstageAll s1 else s1
    if s1.reef.target = 3 then setReef { s2.reef with phase := .entering } s2
    else if s1.reef.target < s1.reef.level then commandVoltage (oppOf s1 s1.reef.target) true s2
    else setReef { s2.reef with phase := .commit } s2

/-- REEF_PREPARE. -/
def execReefPrepare (answer : PrepareAnswer) (s : State) : Host.Outcome State Fault Refusal :=
  .next (onlyIf (coreOn s && s.reef.phase == .prepare && !parkWaits s) (prepare answer) s)

/-! ### Commit (R424 to R426) -/

/-- The trained stacks' self-refresh, and with it HBM_AVAIL (R337, R415). -/
def selfRefresh (b : Bool) (s : State) : State :=
  let s1 := forAll (fun n x => if bitAt x (0x09000000 + 0x1000 * n) 31 then setBit (0x09000000 + 0x1000 * n) 30 b x else x) (upTo 4) s
  setHbmAvail (!b && (upTo 4).all fun n => bitAt s1 (0x09000000 + 0x1000 * n) 31) s1

/-- The transition is at its new level: LEVEL, DONE (R424). -/
def reefDone (s : State) : State :=
  reefEvent 0 (bump 0x00200100 1 (reefEnd 1 0 0 (setReef { s.reef with level := s.reef.target } s)))

/-- Client blocks at the commit: lit on the way to a lower number, dark where no trunk port was to go dark (R416, R421). -/
def commitBlocks (s : State) : State :=
  if s.reef.target < s.reef.level then forAll clientLit (upTo 32) s
  else if s.reef.granted then s
  else forAll clientDark (inSet 32 (regN s 0x00200010)) s

/-- The order and block of a stop that misses its bound, where the transition stops it. -/
def missedStop (s : State) (k : Fin 9) : Option (Nat × Nat) :=
  match k.val with
  | 0 => none
  | 1 => some (1, Config.stopBlock 1)
  | 2 => some (2, 3)
  | 3 => some (3, Config.stopBlock 3)
  | 4 => some (4, 2)
  | n => if 2 ≤ s.reef.target then some (5, 0x0B + n) else none

/-- A raised voltage is lowered to the old operating point (R424). -/
def lowerBack (s : State) : State :=
  if s.reef.target < s.reef.level then avsWrite s.reef.mvOld s else s

/-- The commit of a transition between Reef 0, 1 and 2: Halyard's check covers the maps validated since prepare (R423); blocks stop, clocks switch, blocks restart; or
every block runs as before (R424). -/
def commit (missed : Option (Fin 9)) (s : State) : State :=
  if overloaded s s.reef.target then abortTrans 1 1 (lowerBack s)
  else match missed.bind (missedStop s) with
  | some (o, b) => reefEvent 2 (bumpHi 0x00200104 1 (reefEnd 3 o (b % 256) (lowerBack s)))
  | none =>
    let s1 := commitBlocks s
    let s2 := if s.reef.target = 2 then selfRefresh true s1 else if s.reef.level = 2 then selfRefresh false s1 else s1
    let s3 := setReef { s2.reef with coreMHz := clockOf s.reef.target } s2
    if s.reef.target < s.reef.level then reefDone s3 else commandVoltage (oppOf s s.reef.target) false s3

/-- AVS_SETTLED: a raise lets the clocks follow, a lowering ends the transition; either, and a retried lowering, ends V_HIGH (R426). -/
def avsSettled (s : State) : State :=
  if s.reef.phase = .voltage then
    let s1 := setReef { s.reef with vHigh := false, lowerTo := none } s
    if s.reef.raising then setReef { s1.reef with phase := .commit } s1 else reefDone s1
  else match s.reef.lowerTo with
    | some v => setReef { s.reef with vHigh := false, lowerTo := none, mv := v } s
    | none => s

def execAvsSettled (s : State) : Host.Outcome State Fault Refusal := .next (onlyIf (coreOn s) avsSettled s)

/-- AVS_TIMEOUT: a raise goes back to the old voltage and aborts; a lowering stays at the new level, high (R426). -/
def avsTimeout (s : State) : State :=
  if s.reef.phase ≠ .voltage ∨ s.uptime < s.reef.lowerAt + 25000 * max 1 (fld s 0x00200040 23 16) then s
  else
    let s1 := bump 0x0020010C 1 s
    if s.reef.raising then
      let s2 := avsWrite s.reef.mvOld s1
      reefEvent 1 (reefEnd 5 0 0 s2)
    else
      let s2 := reefEnd 5 0 0 s1
      reefEvent 0 (setReef { s2.reef with level := s.reef.target, vHigh := true, lowerTo := some s.reef.mv,
                                          mv := s.reef.mvOld, lowerAt := s.uptime } s2)

def execAvsTimeout (s : State) : Host.Outcome State Fault Refusal := .next (onlyIf (coreOn s) avsTimeout s)

/-- AVS_RETRY: the lowering is commanded again, once a second (R426). -/
def avsRetry (s : State) : State :=
  match s.reef.lowerTo with
  | some v =>
    if s.reef.phase = .idle ∧ s.reef.lowerAt + 25000000 ≤ s.uptime ∧ !s.reef.avsStuck ∧ !s.reef.busStuck then
      emit (.avs v) (setReef { s.reef with lowerAt := s.uptime } s)
    else s
  | none => s

def execAvsRetry (s : State) : Host.Outcome State Fault Refusal := .next (onlyIf (coreOn s) avsRetry s)

/-! ### Reef 3 (R427, R428) -/

/-- A wake source is armed in its SRC_CFG. -/
def armSource (n : Nat) (s : State) : State := setBit (srcCfgR n) 31 true (setBit (srcCfgR n) 29 true s)

/-- A PARK acted on: timer, hail and sources set, the reply queued, entry due after it (R427, R434). -/
def park (p : Nat) (t : TmmIn) (s : State) : State :=
  if s.reef.active ∨ s.reef.phase = .waking then answer p t 1 [] s
  else
    let sec := tf t.bits 351 320
    let s1 := setRegN 0x00200058 (2 ^ 31 + tf t.bits 319 304) (setRegN 0x00200054 sec s)
    let s2 := withRises (armSource 4) (setBit 0x00200024 4 true s1)
    let s3 := if sec = 0 then s2 else withRises (armSource 5) (setBit 0x00200024 5 true s2)
    let s4 := setReef { s3.reef with active := true, target := 3, origin := s3.reef.level, phase := .prepare, granted := true,
                                     parkAt := some (p, t.sf + 2) } s3
    answer p t 0 [] s4

/-- PARK: the TMM at the head of port p's queue; acted on in OPERATE and SILENT (R84). -/
def execPark (p : Fin 16) (s : State) : Host.Outcome State Fault Refusal :=
  .next (onlyIf (coreOn s) (withTmm p 0x11 (fun x _ => (regnOf x p).state == .operate || (regnOf x p).state == .silent) (park p)) s)

/-- Sources that are pending and armed as the entry completes request the wake (R408). -/
def wakePending (s : State) : State :=
  forAll (fun n x => if (icSrc x n).pending then wakeOn n x else x) [3, 4, 5, 40] s

/-- The domains in the order in which Reef 3 entry switches them off (R427). -/
def entryDoms : List Nat := cliDoms ++ trkDoms ++ [0x13, 0x12, 0x11, 0x10, 5, 6, 4, 3, 2]

/-- What waits on lookout port n leaves, one keying after another, before its queue is given up (R427). -/
def drainLookout (n : Nat) (s : State) : State :=
  forAll (fun lm x => if mayKey x n then emit (.lm n (toBytes 64 lm.toNat) none) (bump (lkoR n 0x10) 1 x) else txDrop n x) (lookout s n).queue s

/-- The timed LMs that are still to come, each at its instant (R427). -/
def drainTimed (s : State) : State :=
  forAll (fun x y => keyTimed 1 x (timedTmm s x) (keyTimed 0 x (timedTmm s x) y)) s.timed s

/-- The lookout transmit queues are empty: what waited in them has been sent (R427). -/
def lkoDark (s : State) : State := { drainLookout 1 (drainLookout 0 (drainTimed s)) with lookouts := [], timed := [] }

/-- The reef manager at the end of the entry: its timer starts, a wake may already wait. -/
def reefEntered (due : Bool) (s : State) : State :=
  setReef { s.reef with target := 3, lowerTo := none, vHigh := false, timerFrom := some s.uptime, wakeDue := due, mv := 0, coreMHz := 0 } s

/-- Entry step 2: every trunk port leaves registration and the lookout queues empty (R427). -/
def leaveAll (s : State) : State := lkoDark (forAll (fun p x => if (regnOf x p).state = .init then x else leave p .init x) (upTo 16) s)

/-- The PCIe link is gone. -/
def linkLost (s : State) : State := { s with ic := { s.ic with linkUp := false } }
/-- The flashes, without power, run the plain protocol when they are found again (R437). -/
def flashesPlain (s : State) : State := { s with boot := { s.boot with flashOctal := 0 } }

/-- Entry steps 3 to 6: READY low, the sets recorded, everything outside Heartwood lost (R427). -/
def reef3Off (s : State) : State :=
  let trk := total ((upTo 16).filter (fun p => !trunkDisabled s p) |>.map (2 ^ ·))
  let cli := total ((upTo 32).filter (fun b => portMode s b != 0 || paired s b) |>.map (2 ^ ·))
  let s2 := retainTime (lowerReady (leaveAll s))
  let s3 := pmStopAll (fun b => { b with dark := true }) (setRegN 0x00200064 cli (setRegN 0x00200060 trk s2))
  let s4 := forAll (fun d => setDom d false) entryDoms (setReg 0x10108 0 (setBit 0x5004 31 false (coreLost s3)))
  setReg 0x01300004 0 (flashesPlain (linkLost s4))

/-- A wake that was asked for during the entry starts as it ends (R428). -/
def wakeAtOnce (s : State) : State := wakePending (if s.reef.wakeDue then setReef { s.reef with phase := .waking } s else s)

/-- The end of Reef 3 entry. -/
def enterReef3 (s : State) : State :=
  wakeAtOnce (reefDone (setReg 0x00200018 0 (setReg 0x00200014 0 (reefEntered s.reef.wakeDue (reef3Off s)))))

/-- An entry that a stop of its commit ends: PARTIAL_REEF at the level as it was, with every block as before, READY high and each port
where its downstream takes it from INIT (R424, R427; DESIGN CHOICE, log entry 205). -/
def entryStopped (o b : Nat) (s : State) : State :=
  let s1 := leaveAll s
  let s2 := if s1.boot.ready then raiseReady (lowerReady s1) else s1
  let s3 := forAll (fun p x => if hasTiming x p then downstreamAcquired p x else x) (upTo 16) s2
  reefEvent 2 (bumpHi 0x00200104 1 (reefEnd 3 o (b % 256) (setReef { s3.reef with wakeDue := false } s3)))

/-- REEF3_ENTRY: after a prepare that has passed, with every stop of its commit within its bound (R424, R427). -/
def execReef3Entry (s : State) : Host.Outcome State Fault Refusal :=
  .next (onlyIf (coreOn s && s.reef.phase == .entering) enterReef3 s)

/-- The commit of an entry: a stop that misses its bound, 5 to 8 those of the HBM stacks, ends it; else REEF3_ENTRY is its end (R424,
R427). -/
def entryCommit (missed : Option (Fin 9)) (s : State) : State :=
  match missed.bind (missedStop s) with
  | some (o, b) => entryStopped o b s
  | none => s

/-- REEF_COMMIT of the transition under way: of one between Reef 0, 1 and 2, or of an entry to Reef 3. -/
def reefCommit (missed : Option (Fin 9)) (s : State) : State :=
  if s.reef.phase = .commit then commit missed s else if s.reef.phase = .entering then entryCommit missed s else s

def execReefCommit (missed : Option (Fin 9)) (s : State) : Host.Outcome State Fault Refusal :=
  .next (onlyIf (coreOn s) (reefCommit missed) s)

/-- WAKE_A_EVENT (R429). -/
def execWakeAEvent (s : State) : Host.Outcome State Fault Refusal :=
  .next (onlyIf (bitAt s 0x00200050 31) (fun x => reefEvent 3 (setReef { x.reef with wakeAOut := bitAt x 0x00200050 30 } x)) s)

/-- The wake timer has run WAKE_TIMER seconds from the end of entry (R428). -/
def wakeTimerOver (s : State) : Bool :=
  match s.reef.timerFrom with
  | some t => s.reef.level == 3 && regN s 0x00200054 != 0 && decide (t + 25000000 * regN s 0x00200054 ≤ s.uptime)
  | none => false

def execWakeTimerExpiry (s : State) : Host.Outcome State Fault Refusal :=
  .next (onlyIf (wakeTimerOver s) (fun x => reefEvent 5 (setReef { x.reef with timerFrom := none } x)) s)

/-! ### Waking (R432, R433) -/

/-- The domains a wake switches on, by step (R432). -/
def wakeDoms (s : State) : List (Nat × Nat) :=
  [(2, 2), (3, 3), (4, 4), (4, 5), (4, 6)] ++ hbmDoms.map (6, ·) ++
  (inSet 32 (regN s 0x00200064)).map (fun b => (7, 0x40 + b)) ++ (inSet 16 (regN s 0x00200060)).map (fun p => (7, 0x20 + p))

/-- Those that come before step n's domain d. -/
def domsBefore (n d : Nat) (l : List (Nat × Nat)) : List (Nat × Nat) := l.takeWhile fun x => decide (x.1 < n) || (x.1 == n && x.2 != d)

/-- Step 8: core reset released; start-up goes on from the image stage (R432, R451). -/
def wakeDone (s : State) : State :=
  let s1 := forAll (fun x => setDom x.2 true) (wakeDoms s) s
  let s2 := setFld 0x10100 27 26 2 (setStage 3 (setRegN 0x5018 (7 * 2 ^ 28) (bumpLo 0x00200108 1 s1)))
  coreRise (reefDone (coreBoot (setReef { s2.reef with wakeDue := false, wakeRetry := false, timerFrom := none } s2)))

/-- Step n's indication of domain d is not seen: what came before it is on, and the step is retried after 1 ms (R433). -/
def wakeStops (n d : Nat) (s : State) : State :=
  let s2 := forAll (fun x => setDom x.2 true) (domsBefore n d (wakeDoms s)) s
  setReef { s2.reef with wakeStep := n % 256, wakeDom := d % 256, wakeRetry := true, retryAt := s.uptime + 25000 } s2

/-- The steps of a wake from Reef 3; `failed` is the first step and domain whose indication is not seen (R432, R433). -/
def wakeSequence (failed : Option (Nat × Nat)) (s : State) : State :=
  let s1 := setReef { s.reef with phase := .waking, origin := 3, target := 0 } s
  match failed with
  | none => wakeDone s1
  | some (n, d) => wakeStops n d s1

/-- A wake from Reef 2 has its voltage, and the exit of a stack from self-refresh or a port's power is not seen in time: that step is
retried, and nothing of the commit happens before (R432, R433). -/
def wakeTwoStops (failed : Option (Nat × Nat)) (s : State) : State :=
  match failed with
  | none => s
  | some (n, d) => setReef { s.reef with phase := .waking, wakeStep := n % 256, wakeDom := d % 256, wakeRetry := true, retryAt := s.uptime + 25000 } s

/-- WAKE_SEQUENCE: a wake from Reef 3, or a step of one from Reef 2 that fails. -/
def wakeSteps (failed : Option (Nat × Nat)) (s : State) : State :=
  if s.reef.level = 3 then onlyIf (s.reef.wakeDue && !s.reef.wakeRetry) (wakeSequence failed) s
  else onlyIf (s.reef.level == 2 && s.reef.phase == .commit && decide (s.reef.target < 2)) (wakeTwoStops failed) s

def execWakeSequence (failed : Option (Nat × Nat)) (s : State) : Host.Outcome State Fault Refusal := .next (wakeSteps failed s)

/-- The ALERT with CAUSE WAKE_FAIL on lookout port n, where TX_EN permits (R93, R433). -/
def wakeFailAlert (n : Nat) (s : State) : State :=
  if (laneOf s (272 + n)).rx = 5 ∧ bitAt s 0x01300000 (4 + n) then
    emit (.lm n (mkLm s 0 true (mkTmm 4095 0x13 0 0 [(344, 2), (280, devId s), (229, 0)])) none) s
  else s

/-- The retry failed too: what this wake brought up goes off, and the failure is recorded and reported (R433). -/
def wakeFails (s : State) : State :=
  let r := s.reef
  let up := (domsBefore r.wakeStep r.wakeDom (wakeDoms s)).map Prod.snd
  let s1 := forAll (fun d => setDom d false) (up.filter (· != 2)).reverse s
  let s2 := reefEnd 4 r.wakeStep r.wakeDom (setReef { r with wakeDue := false, wakeRetry := false, wakeFail := true } s1)
  let s3 := reefEvent 7 (bumpHi 0x00200108 1 s2)
  if up.contains 2 then setDom 2 false (wakeFailAlert 1 (wakeFailAlert 0 s3)) else s3

/-- The retried step's indication is seen: a wake from Reef 3 goes on to its end, or to a later step that fails and is retried in its
turn; one from Reef 2 goes on with its commit (R432, R433). -/
def wakeGoesOn (failed : Option (Nat × Nat)) (s : State) : State :=
  let r := s.reef
  if r.level ≠ 3 then setReef { r with phase := .commit, wakeRetry := false } s
  else match failed with
    | some (n, d) =>
      if (domsBefore r.wakeStep r.wakeDom (wakeDoms s)).length < (domsBefore n d (wakeDoms s)).length then wakeStops n d s else wakeDone s
    | none => wakeDone s

/-- The retry of a step of a wake from Reef 2 failed too: the device stays at Reef 2 and its voltage goes back (R433). -/
def wakeTwoFails (s : State) : State :=
  let r := s.reef
  let s2 := reefEnd 4 r.wakeStep r.wakeDom (setReef { r with wakeRetry := false, wakeFail := true } (lowerBack s))
  reefEvent 7 (bumpHi 0x00200108 1 s2)

/-- The retry of 1 ms after a step's failure, seen or not (R433). -/
def wakeRetried (r : WakeRetry) (s : State) : State :=
  match r with
  | .passes failed => wakeGoesOn failed s
  | .fails => if s.reef.level = 3 then wakeFails s else wakeTwoFails s

/-- WAKE_STEP_RETRY, 1 ms after the failure. -/
def execWakeStepRetry (r : WakeRetry) (s : State) : Host.Outcome State Fault Refusal :=
  .next (onlyIf (s.reef.wakeRetry && s.reef.phase == .waking && decide (s.reef.retryAt ≤ s.uptime)) (wakeRetried r) s)

/-- REEF_CLR_FAIL. -/
def execReefClrFail (s : State) : Host.Outcome State Fault Refusal := .next (setReef { s.reef with wakeFail := false } s)

/-- REEF_CNT_CLR. -/
def reefCntClr : State → State := zeroRegs (within 0x00200100 0x60)
def execReefCntClr (s : State) : Host.Outcome State Fault Refusal := .next (reefCntClr s)

end Sys2Proof.Machine
end

