-- ==== Sys2Proof/Machine/Scheduler.lean ====
section
/-! DEFINITION. The scheduler's commands (ch. 13): bindings and levels of queues, refill, meters, shapers, gate lists. -/
namespace Sys2Proof.Machine
open Sys2Proof

/-! ### Queues (R345, R348) -/

/-- Queue q moves to the round that f gives it, with deficit 0 and fresh set, if it holds frames. -/
def moveQueue (q : Nat) (f : State → State) (s : State) : State :=
  let s1 := f (leaveRound q s)
  let s2 := setQueue q { queueOf s1 q with deficit := 0, fresh := true } s1
  if (queueOf s2 q).frames.isEmpty then s2 else joinRound q s2

/-- A write of Q_CTX: the context the queue already feeds changes nothing (R345). -/
def writeCtx (q ctx : Nat) (s : State) : State :=
  if queueCtx s q = ctx then s else moveQueue q (setRegN (schQueueR q + 4) ctx) s

def execQCtxWrite (q : Fin 65536) (ctx : BitVec 12) (s : State) : Host.Outcome State Fault Refusal :=
  .next (onlyIf (coreOn s) (writeCtx q ctx.toNat) s)

/-- A write of a queue's word 0: a changed LEVEL moves the queue (R348). -/
def writeLevel (q : Nat) (v : Word) (s : State) : State :=
  let f := setReg (schQueueR q) (v &&& 0xBFFFFFFF)
  if queueLevel s q = bits v.toNat 15 13 then f s else moveQueue q f s

def execQLevelWrite (down : Bool) (q : Fin 65536) (val : Word) (s : State) : Host.Outcome State Fault Refusal :=
  .next (onlyIf (coreOn s && (!down || decide (q.val < 2048)))
    (writeLevel (if down then 65536 + q.val else q.val) val) s)

/-! ### Refill (R352, R355) -/

/-- A bucket of credit `c` and carried part `k` (in 1/625 of a 1/65,536 byte) that gains `gain` such parts, up to `size` bytes:
credit, part, and the parts that overflowed. -/
def refill (c : Int) (k : Fin 625) (gain size : Nat) : Int × Fin 625 × Nat :=
  let room := 625 * (65536 * (size : Int) - c) - k.val
  if (gain : Int) ≤ room then (c + ((k.val + gain) / 625 : Nat), Fin.ofNat 625 (k.val + gain), 0)
  else if 0 < room then (65536 * (size : Int), 0, gain - room.toNat)
  else (c, k, gain)
/-- What 100 ns at `rate` kb/s are worth: RATE × 100 ns / 8 bytes, in 1/625 of a 1/65,536 byte (R352). -/
def gainOf (rate : Nat) : Nat := 512 * rate

/-- A shaper at the refill tick (R352). -/
def Shaper.refilled (x : Shaper) : Shaper :=
  if x.en then
    let r := refill x.credit x.part (gainOf x.rate) x.burst
    { x with credit := r.1, part := r.2.1 }
  else x

/-- Word i of a meter's configuration. -/
def Meter.word (m : Meter) (i : Nat) : Nat := (m.cfg.getD i 0).toNat
def Meter.mode (m : Meter) : Nat := bits (m.word 0) 31 30
def Meter.cbs (m : Meter) : Nat := bits (m.word 3) 23 0
def Meter.ebs (m : Meter) : Nat := bits (m.word 4) 23 0

/-- A meter at the refill tick: in SRTCM the overflow of C fills E, in the other modes E or P fills at its own rate. -/
def Meter.refilled (m : Meter) : Meter :=
  let c := refill m.tc m.tcPart (gainOf (m.word 1)) m.cbs
  let e := refill m.te m.tePart (if m.mode = 1 then c.2.2 else gainOf (m.word 2)) m.ebs
  if m.mode = 0 then m
  else { m with tc := c.1.toNat, tcPart := c.2.1, te := e.1.toNat, tePart := e.2.1 }

/-- A refill tick has come that has not been taken: one falls every 125 time-base ticks (R352). -/
def refillDue (s : State) : Bool := decide (8000 * (s.sch.refills + 1) ≤ s.time.frc)

/-- SHAPER_REFILL_TICK, once for each refill tick that has come. -/
def refillTick (s : State) : State :=
  if refillDue s then
    { s with sch := { s.sch with shapers := s.sch.shapers.adjust fun _ x => x.refilled,
                                 meters := s.sch.meters.adjust fun _ m => m.refilled,
                                 refills := s.sch.refills + 1 } }
  else s

def execShaperRefillTick (s : State) : Host.Outcome State Fault Refusal := .next (onlyIf (coreOn s) refillTick s)

/-! ### Metering (R354 to R356) -/

/-- The colours of RFC 2697. -/
inductive Colour where
  | green | yellow | red
  deriving DecidableEq, Repr

def meterOf (s : State) (k : Nat) : Meter := s.sch.meters.look {} k
def setMeter (k : Nat) (m : Meter) (s : State) : State := { s with sch := { s.sch with meters := s.sch.meters.put k m } }

/-- The colour of a frame of b bytes, given its pre-colour (green where blind), and the buckets after it (R355). -/
def Meter.judge (m : Meter) (pre : Colour) (b : Nat) : Colour × Nat × Nat :=
  let n := 65536 * b
  let two := fun (e : Nat) => if n ≤ e then (Colour.yellow, m.tc, e - n) else (Colour.red, m.tc, e)
  match pre, m.mode with
  | _, 0 => (.green, m.tc, m.te)
  | .red, _ => (.red, m.tc, m.te)
  | _, 2 =>
    if m.te < n then (.red, m.tc, m.te)
    else if pre = .yellow ∨ m.tc < n then (.yellow, m.tc, m.te - n)
    else (.green, m.tc - n, m.te - n)
  | .yellow, _ => two m.te
  | .green, _ => if n ≤ m.tc then (.green, m.tc - n, m.te) else two m.te

/-- A meter's byte counts with b more of a colour. -/
def Meter.counted (m : Meter) (c : Colour) (b : Nat) : Meter :=
  match c with
  | .green => { m with green := sat64 (m.green + b) }
  | .yellow => { m with yellow := sat64 (m.yellow + b) }
  | .red => { m with red := sat64 (m.red + b) }

/-- A frame of b bytes at meter k: its colour (R354 to R357). -/
def meterFrame (k : Nat) (pre : Colour) (b : Nat) (s : State) : State × Colour :=
  let m := meterOf s k
  if !bitAt s 0x06000000 1 || m.mode == 0 then (s, .green)
  else
    let r := m.judge pre b
    (setMeter k ({ m with tc := r.2.1, te := r.2.2 }.counted r.1 b) s, r.1)

/-! ### The command interface (R364) -/

/-- Stage word i. -/
def stageR (i : Nat) : Nat := 0x06000020 + 4 * i
def stage (s : State) (i : Nat) : Nat := regN s (stageR i)

/-- Opcode and INDEX of a CMD. -/
def cmdOp (w : Word) : Nat := bits w.toNat 29 26
def cmdIndex (w : Word) : Nat := bits w.toNat 17 0

/-- A command ends with a status CODE (R364). -/
def endCmd (code : Nat) (s : State) : State :=
  let s1 := schEvent 0 (setFld 0x06000014 25 18 code { s with sch := { s.sch with cmd := none } })
  if code = 0 then s1 else schEvent 1 s1

/-- A write of CMD: with GO a command starts, a reserved opcode ends it at once with BAD_ARG; while one is in progress it
has no effect but OVERRUN (R364). -/
def writeCmd (v : Word) (s : State) : State :=
  if s.sch.cmd.isSome then schEvent 1 (setBit 0x06000014 30 true s)
  else if !v.getLsbD 31 then s
  else
    let s1 := setBit 0x06000014 30 false { s with sch := { s.sch with cmd := some v } }
    if 6 < cmdOp v then endCmd 3 s1 else s1

def execSchCmdGo (val : Word) (s : State) : Host.Outcome State Fault Refusal := .next (onlyIf (coreOn s) (writeCmd val) s)

def execSchCmdOverrun (val : Word) (s : State) : Host.Outcome State Fault Refusal :=
  .next (onlyIf (coreOn s && s.sch.cmd.isSome) (writeCmd val) s)

/-- The command in progress, if its opcode is `op`, does f with its word and ends with the status f gives. -/
def doCmd (op : Nat) (f : Word → State → State × Nat) (s : State) : State :=
  match s.sch.cmd with
  | some w => if cmdOp w = op then let r := f w s; endCmd r.2 r.1 else s
  | none => s

/-- METER_SET (R357). -/
def meterSet (w : Word) (s : State) : State × Nat :=
  let k := cmdIndex w
  let cfg : List Word := [reg s (stageR 0) &&& 0xFFFC0000, reg s (stageR 1), reg s (stageR 2),
                          reg s (stageR 3) &&& 0x00FFFFFF, reg s (stageR 4) &&& 0x00FFFFFF]
  let m : Meter := { meterOf s k with cfg := cfg }
  if (m.mode = 2 ∧ m.word 2 < m.word 1) ∨ (m.mode = 1 ∧ m.word 2 ≠ 0) then (s, 3)
  else (setMeter k { m with tc := 65536 * m.cbs, te := 65536 * m.ebs, tcPart := 0, tePart := 0 } s, 0)

def execMeterSet (s : State) : Host.Outcome State Fault Refusal := .next (onlyIf (coreOn s) (doCmd 0 meterSet) s)

/-- METER_READ: stage words 0 to 12. -/
def meterRead (w : Word) (s : State) : State × Nat :=
  let m := meterOf s (cmdIndex w)
  let l := (upTo 5).map m.word ++ [m.tc / 65536, m.te / 65536] ++
    [m.green, m.green / 2 ^ 32, m.yellow, m.yellow / 2 ^ 32, m.red, m.red / 2 ^ 32]
  (forAll (fun i x => setRegN (stageR i) (l.getD i 0) x) (upTo 13) s, 0)

def execMeterRead (s : State) : Host.Outcome State Fault Refusal := .next (onlyIf (coreOn s) (doCmd 1 meterRead) s)

/-- METER_CLR: the meter's counters. -/
def meterClr (w : Word) (s : State) : State × Nat :=
  (setMeter (cmdIndex w) { meterOf s (cmdIndex w) with green := 0, yellow := 0, red := 0 } s, 0)

def execMeterClr (s : State) : Host.Outcome State Fault Refusal := .next (onlyIf (coreOn s) (doCmd 2 meterClr) s)

/-- A signed number of 7 bits. -/
def signed7 (n : Nat) : Int := if 64 ≤ n then (n : Int) - 128 else n

/-- SHAPER_SET (R353): debt is kept or forgiven, a credit above the new BURST is reduced, enabling starts at 0. -/
def shaperSet (w : Word) (s : State) : State × Nat :=
  let k := cmdIndex w
  if 16384 ≤ k then (s, 3)
  else
    let x := shaperOf s k
    let en := (reg s (stageR 0)).getLsbD 31
    let burst := bits (stage s 2) 23 0
    let c0 := if en && !x.en then 0 else if w.getLsbD 30 && decide (x.credit < 0) then 0 else x.credit
    let c1 := min c0 (65536 * (burst : Int))
    (setShaper k { en := en, adj := signed7 (bits (stage s 0) 30 24), rate := stage s 1, burst := burst,
                   credit := c1, part := if c1 = x.credit then x.part else 0 } s, 0)

def execShaperSet (s : State) : Host.Outcome State Fault Refusal := .next (onlyIf (coreOn s) (doCmd 3 shaperSet) s)

/-- SHAPER_READ: stage words 0 to 4. -/
def shaperRead (w : Word) (s : State) : State × Nat :=
  if 16384 ≤ cmdIndex w then (s, 3)
  else
    let x := shaperOf s (cmdIndex w)
    let l := [bitN x.en * 2 ^ 31 + (x.adj % 128).toNat * 2 ^ 24, x.rate, x.burst,
              (x.credit / 65536 % 2 ^ 32).toNat, (x.credit % 65536).toNat]
    (forAll (fun i y => setRegN (stageR i) (l.getD i 0) y) (upTo 5) s, 0)

def execShaperRead (s : State) : Host.Outcome State Fault Refusal := .next (onlyIf (coreOn s) (doCmd 4 shaperRead) s)

/-! ### Gate lists (R358 to R362) -/

/-- Register at offset o of list l. -/
def listR (l o : Nat) : Nat := 0x06001000 + 0x40 * l + o
/-- Seconds and nanoseconds of registers as nanoseconds. -/
def nsAt (s : State) (ns sec : Nat) : Nat := 1000000000 * reg64 s sec + fld s ns 29 0
def adminR (l e : Nat) : Nat := 0x06200000 + 0x4000 * l + 0x10 * e

/-- The admin entries of list l up to its ending entry, n at most. -/
def adminEntries (s : State) (l : Nat) : Nat → Nat → List (BitVec 64 × Nat)
  | 0, _ => []
  | n + 1, e =>
    let i := fld s (adminR l e + 8) 29 0
    if i = 0 then [] else (BitVec.ofNat 64 (reg64 s (adminR l e)), i) :: adminEntries s l n (e + 1)

/-- The admin copy of list l. -/
def adminList (s : State) (l : Nat) : GateList :=
  { cycle := fld s (listR l 4) 29 0, base := nsAt s (listR l 8) (listR l 0xC), guardEn := bitAt s (listR l 0) 31,
    entries := adminEntries s l 1024 0 }

def setChange (l : Nat) (c : Option (Nat × GateList)) (s : State) : State :=
  { s with sch := { s.sch with change := s.sch.change.put l c } }

/-- The reading in whole nanoseconds. -/
def readNs (s : State) : Int := readNow s / 65536

/-- GL_CHANGE (R361). -/
def glChange (w : Word) (s : State) : State × Nat :=
  let l := cmdIndex w
  let x := adminList s l
  let ct := nsAt s (listR l 0x1C) (listR l 0x20)
  let r : State × Nat :=
    if 64 ≤ l then (s, 3)
    else if (s.sch.change.look none l).isSome then (s, 1)
    else if x.cycle < 1000 ∨ 1000000000 < x.cycle ∨ x.entries.any (fun e => decide (e.2 < 8)) ∨
        (ct ≠ 0 ∧ (!timeHeld s ∨ 65536 * (ct : Int) < readNow s + 655360000)) then (s, 3)
    else (setChange l (some (ct, x)) s, 0)
  if r.2 = 0 then r else (schEvent 3 r.1, r.2)

def execGlChange (s : State) : Host.Outcome State Fault Refusal := .next (onlyIf (coreOn s) (doCmd 5 glChange) s)

/-- The list runs: not empty, network time held, the reading at or after BASE (GL_STATUS.RUNNING). -/
def glRunning (s : State) (l : Nat) : Bool :=
  let x := operList s l
  !x.entries.isEmpty && timeHeld s && decide ((x.base : Int) ≤ readNs s)

/-- The entry in force follows the reading (R358). -/
def takeEntry (l : Nat) (s : State) : State :=
  let x := operList s l
  let k := if glRunning s l && x.cycle != 0 then
      match entryAt x.entries ((readNs s - x.base).toNat % x.cycle) 0 with | some (_, e) => e | none => 0
    else 0
  { s with sch := { s.sch with cur := s.sch.cur.put l k } }

/-- A pending change of list l whose time has come becomes operational (R361). -/
def glEffect (l : Nat) (s : State) : State :=
  match s.sch.change.look none l with
  | some (ct, x) =>
    if ct = 0 ∨ (timeHeld s ∧ (ct : Int) ≤ readNs s) then
      schEvent 2 (takeEntry l (setChange l none { s with sch := { s.sch with oper := s.sch.oper.put l x } }))
    else s
  | none => s

def execGlChangeEffect (l : Fin 64) (s : State) : Host.Outcome State Fault Refusal :=
  .next (onlyIf (coreOn s) (glEffect l) s)

def execGateTransition (l : Fin 64) (s : State) : Host.Outcome State Fault Refusal :=
  .next (onlyIf (coreOn s && glRunning s l) (takeEntry l) s)

/-- The change of list l is still to come: its CHANGE_TIME has not been reached. -/
def stillPending (s : State) (l : Nat) : Bool :=
  match s.sch.change.look none l with
  | some (ct, _) => decide (ct = 0) || !timeHeld s || decide (readNs s < ct)
  | none => false

/-- GL_CANCEL; a change whose time has come is operational and no pending one any more (R361). -/
def glCancel (w : Word) (s : State) : State × Nat :=
  let l := cmdIndex w
  if 64 ≤ l then (s, 3)
  else if stillPending s l then (setChange l none s, 0) else (glEffect l s, 5)

def execGlCancel (s : State) : Host.Outcome State Fault Refusal := .next (onlyIf (coreOn s) (doCmd 6 glCancel) s)

/-- At the c_app of a step every list takes the entry that the new reading selects; those running or pending count it (R362). -/
def glRealign (old s : State) : State :=
  let ls := (upTo 64).filter fun l => glRunning old l || (old.sch.change.look none l).isSome
  let s1 := forAll (fun l x => takeEntry l (glEffect l x)) (upTo 64) s
  if ls.isEmpty then s1 else schEvent 4 (bump 0x06000834 ls.length s1)

/-- SCH_CNT_CLR: every scheduler counter, with those of queues and meters (R366). -/
def schCntClr (s : State) : State :=
  let isCnt := fun a => within 0x06000800 0x38 a ||
    (decide (16 ≤ a % 32) && (within 0x060C0000 0x10000 a || within 0x06400000 0x200000 a))
  let s1 := zeroRegs isCnt s
  { s1 with sch := { s1.sch with meters := s1.sch.meters.adjust fun _ m => { m with green := 0, yellow := 0, red := 0 } } }

def execSchCntClr (s : State) : Host.Outcome State Fault Refusal := .next (onlyIf (coreOn s) schCntClr s)

end Sys2Proof.Machine
end

