-- ==== Sys2Proof/Machine/Tsi.lean ====
section
/-! DEFINITION. The time-slot interchange (ch. 09): containers, playout, connection memory and page switches. -/
namespace Sys2Proof.Machine
open Sys2Proof

/-- The client block and sub-port of slotted PHY u: its MAC_CTL (R242). -/
def phyMac (u : Nat) : Nat := subR (u / 2) (u % 2) 0
/-- PHY u is slotted (R241). -/
def slotted (s : State) (u : Nat) : Bool := bitAt s (phyMac u) 25 && fld s (cliR (u / 2) 0) 2 0 == 2
def tsiOn (s : State) : Bool := bitAt s 0x02400000 0

/-! ### Calendars and conflicts (R244, R259, R260) -/

/-- Client number of slot c in the calendar at a: two slots a word. -/
def calEntry (s : State) (a c : Nat) : Nat := fld s (a + 4 * (c / 2)) (16 * (c % 2) + 15) (16 * (c % 2))
/-- A calendar of PHY u: transmitted or received, A or B. -/
def calR (u : Nat) (rx b : Bool) : Nat := 0x02410000 + 0x400 * u + (if rx then 0x200 else 0) + (if b then 0x100 else 0)
/-- The calendar in use for a direction marks slot c used: downstream the transmitted one, upstream the received one. -/
def calUsed (s : State) (u c : Nat) (down : Bool) : Bool :=
  let b := bitAt s (spR u 4) (if down then 28 else 29)
  let n := calEntry s (calR u (!down) b) c
  n != 0 && n != 0xFFFF
/-- Slot t of a slotted PHY is in conflict in a direction, given the entries of the active page (R260). -/
def slotConflict (s : State) (es : List Nat) (t : Nat) (down : Bool) : Bool :=
  slotted s (t / 80) && (es.any (fun w => cmSlot w == t && cmDown w == down)) != calUsed s (t / 80) (t % 80) down
/-- The entries of the active page. -/
def activePage (s : State) : List Nat := (pageEntries s s.tsi.active).map Prod.snd
/-- CONFLICT of every PHY follows; CAL_CONFLICT where any goes from 0 to 1 (R260). -/
def calSettle (s : State) : State :=
  let es := activePage s
  forAll (fun u x =>
    let c := (upTo 80).any fun c => slotConflict x es (80 * u + c) true || slotConflict x es (80 * u + c) false
    let was := bitAt x (spR u 4) 24
    let x1 := if c = was then x else setBit (spR u 4) 24 c x
    if c && !was then tsiEvent 3 x1 else x1) ((upTo 64).filter fun u => slotted s u || bitAt s (spR u 4) 24) s

/-! ### Containers upstream (R245 to R248) -/

/-- A slot whose container carries CSF: no overhead lock, a group mismatch, or a block that is disabled or dark (R247). -/
def slotFailed (s : State) (t : Nat) : Bool :=
  let u := t / 80
  !slotted s u || !bitAt s (phyMac u) 31 || bitAt s 0x00200018 (u / 2) || !bitAt s (spR u 4) 31 || bitAt s (spR u 4) 25

/-- Blocks of 66 bits packed without gaps and padded to a whole byte (R246). -/
def packBlocks (l : List (BitVec 66)) : List Byte :=
  let n := l.foldl (fun a b => a * 2 ^ 66 + b.toNat) 0
  let k := ceilDiv (66 * l.length) 8
  toBytes k (n * 2 ^ (8 * k - 66 * l.length))

/-- A container's body: header and block field (R246). -/
def containerBody (seq : Nat) (csf start : Bool) (period : Nat) (l : List (BitVec 66)) : List Byte :=
  toBytes 8 (seq % 2 ^ 16 * 2 ^ 48 + l.length * 2 ^ 37 + bitN csf * 2 ^ 36 + bitN start * 2 ^ 35 + period * 2 ^ 32) ++ packBlocks l

/-- The period of 15.625 µs that the reading is in (R245). -/
def cutPeriod (s : State) : Int := readNow s / 1024000000
/-- A container of a connection is due: it holds 1,224 blocks, or a boundary has passed since the last cut (R245). -/
def cutDue (s : State) (u : UpConn) (blocks : List (BitVec 66)) : Bool := decide (1224 ≤ blocks.length) || u.cutIn != some (cutPeriod s)

/-- The last container of a connection that a page switch has ended: what it held at the instant, however little (R258; log entry
69). -/
def cutLast (t : Nat) (e : EndedConn) (blocks : List (BitVec 66)) (s : State) : State :=
  let csf := slotFailed s t
  let body := containerBody e.seq csf e.start (cutPeriod s % 8).toNat (if csf then [] else blocks.take 1224)
  storeContainer { cut := s.uptime, slot := t, entry := e.entry, body := body } false (setTsi { s.tsi with ended := s.tsi.ended.put t none } s)

/-- A cut of slot t's connection of the active page; past 16 uncommitted containers the oldest is lost (R245 to R248). -/
def cutActive (t : Nat) (blocks : List (BitVec 66)) (s : State) : State :=
  match activeEntry s t false with
  | none => s
  | some w =>
    let u := upConn s t
    let csf := slotFailed s t
    let body := containerBody u.seq csf u.start (cutPeriod s % 8).toNat (if csf then [] else blocks.take 1224)
    let c : Container := { cut := s.uptime, slot := t, entry := w, body := body }
    if cutDue s u blocks then
      storeContainer c false (setUpConn t { u with seq := (u.seq + 1) % 2 ^ 16, cutIn := some (cutPeriod s), start := false } s)
    else s

/-- CONTAINER_CUT: slot t's connection cuts what it has received; where a switch has ended one there, that one's last container comes
first. -/
def cutContainer (t : Nat) (blocks : List (BitVec 66)) (s : State) : State :=
  match s.tsi.ended.look none t with
  | some e => cutLast t e blocks s
  | none => cutActive t blocks s

def execContainerCut (slot : Fin 5120) (blocks : List (BitVec 66)) (s : State) : Host.Outcome State Fault Refusal :=
  .next (onlyIf (coreOn s && tsiOn s) (cutContainer slot blocks) s)

/-! ### Containers downstream and playout (R250 to R252) -/

/-- The local-fault sequence ordered set of Clause 82: sync header 10, block type 0x4B, data 0x000001 (PRESUMED, unsafe: log
entry 67). -/
def lfBlock : BitVec 66 := 0x24B00000100000000

/-- n blocks of a block field. -/
def unpackBlocks (l : List Byte) (n : Nat) : List (BitVec 66) :=
  let v := ofBytes l / 2 ^ (8 * l.length - 66 * n)
  (upTo n).map fun i => BitVec.ofNat 66 (v / 2 ^ (66 * (n - 1 - i)))

/-- PLAYOUT; out of range it acts as the nearer bound. -/
def playoutDepth (s : State) : Nat := min (max (fld s 0x02400000 29 16) 1024) 15360

/-- Blocks join a playout FIFO of 16,384 whole, or not at all (R252). -/
def fifoTake (d : DnConn) (l : List (BitVec 66)) : DnConn × Bool :=
  if d.fifo.length + l.length ≤ 16384 then ({ d with fifo := d.fifo ++ l }, true) else (d, false)

/-- n times the substitute of 1,221 local-fault blocks. -/
def fifoFill (d : DnConn) : Nat → DnConn
  | 0 => d
  | n + 1 => fifoFill (fifoTake d (List.replicate 1221 lfBlock)).1 n

/-- An accepted container at slot t (R251, R252). -/
def acceptContainer (t seq : Nat) (csf : Bool) (l : List (BitVec 66)) (d : DnConn) (s : State) : State :=
  let r := fifoTake { d with expected := (seq + 1) % 2 ^ 16, known := true, csf := csf } (if csf then List.replicate 1221 lfBlock else l)
  let s1 := setDnConn t r.1 (bump64 0x02400108 1 s)
  let s2 := if r.2 then s1 else tsiEvent 7 (bump 0x02400124 1 s1)
  if csf = d.csf then s2 else tsiEvent 10 s2

/-- A container for slot t by its SEQ (R251). Before the first one the slot expects whatever comes. -/
def slotContainer (t h : Nat) (body : List Byte) (s : State) : State :=
  let d := dnConn s t
  let seq := bits h 63 48
  let csf := h.testBit 36
  let l := unpackBlocks (body.drop 8) (bits h 47 37)
  let a := (seq + 2 ^ 16 - d.expected) % 2 ^ 16
  if h.testBit 35 ∨ !d.known ∨ a = 0 then acceptContainer t seq csf l d s
  else if a ≤ 16 then
    acceptContainer t seq csf l (fifoFill d a) (tsiEvent 6 (bump 0x02400110 a s))
  else if a < 32768 then acceptContainer t seq csf l { d with fifo := [], playing := false } s
  else bump 0x02400114 1 s

/-- A rigid envelope's body, authenticated, on trunk port p with STREAM (R250). -/
def deliverRigid (p stream : Nat) (body : List Byte) (s : State) : State :=
  let es := (activePage s).filter fun w => cmDown w && cmPort w == p && cmChannel w == stream
  let h := ofBytes (body.take 8)
  let n := bits h 47 37
  if !tsiOn s then s
  else if es.isEmpty then tsiEvent 8 (bump 0x0240011C 1 s)
  else if body.length < 8 ∨ 1224 < n ∨ body.length ≠ 8 + ceilDiv (66 * n) 8 then bump 0x02400118 1 s
  else forAll (fun w x => slotContainer (cmSlot w) h body x) es s

/-- PLAYOUT_START. -/
def playStart (t : Nat) (s : State) : State :=
  let d := dnConn s t
  if (activeEntry s t true).isSome && !d.playing && decide (playoutDepth s ≤ d.fifo.length) then
    setDnConn t { d with playing := true } s
  else s

def execPlayoutStart (slot : Fin 5120) (s : State) : Host.Outcome State Fault Refusal :=
  .next (onlyIf (coreOn s && tsiOn s) (playStart slot) s)

/-- PLAYOUT_UNDERRUN. -/
def underrun (t : Nat) (s : State) : State :=
  let d := dnConn s t
  if d.playing && d.fifo.isEmpty then tsiEvent 7 (bump 0x02400128 1 (setDnConn t { d with playing := false } s)) else s

def execPlayoutUnderrun (slot : Fin 5120) (s : State) : Host.Outcome State Fault Refusal :=
  .next (onlyIf (coreOn s) (underrun slot) s)

/-- The Ethernet error control block that an unused slot carries: sync header 10, block type 0x1E, eight error codes 0x1E
(PRESUMED, unsafe: log entry 67). -/
def errorBlock : BitVec 66 := 0x21E3C78F1E3C78F1E

/-- The next k blocks that calendar slot t sends: its playout, local fault where that has none, or error control blocks where
the slot has no connection in the active page (R252, R253). -/
def slotSends (s : State) (es : List Nat) (t k : Nat) : List (BitVec 66) :=
  let d := dnConn s t
  if es.any fun w => cmSlot w == t && cmDown w then
    let l := if d.playing then d.fifo.take k else []
    l ++ List.replicate (k - l.length) lfBlock
  else List.replicate k errorBlock

/-- What one Heartwood tick takes from the calendar slots: 3.124,847 blocks of each (R247: 78,121,182 a second). Every PHY that
is enabled and lit sends its 80 slots. -/
def slotsTick (s : State) : State :=
  let n := s.tsi.phase + 78121182
  let k := n / 25000000
  let es := activePage s
  let on := (upTo 64).filter fun u => slotted s u && bitAt s (phyMac u) 31 && !bitAt s 0x00200018 (u / 2)
  let s1 := forAll (fun u => emit (.slots u ((upTo 80).map fun c => slotSends s es (80 * u + c) k))) on s
  setTsi { s1.tsi with phase := n % 25000000
                       dn := s1.tsi.dn.adjust fun _ d => if d.playing then { d with fifo := d.fifo.drop k } else d } s1

/-! ### FlexE overhead (R243, R259) -/

/-- The words of a calendar of 80 client numbers. -/
def calWords (l : List (BitVec 16)) : List Word :=
  (upTo 40).map fun i => (l.getD (2 * i + 1) 0).setWidth 32 <<< 16 ||| (l.getD (2 * i) 0).setWidth 32

/-- The client numbers of a calendar. -/
def calList (s : State) (a : Nat) : List (BitVec 16) := (upTo 80).map fun c => BitVec.ofNat 16 (calEntry s a c)

/-- The overhead that PHY u sends: its group, its two calendars, C, CR, CA in answer to the peer's CR, and RPF while its own
receive side has no overhead lock (R241, R243, R244, R259; CA and RPF by log entry 185). -/
def txOverhead (s : State) (u : Nat) : FlexeOverhead :=
  { lock := true, rpf := !bitAt s (spR u 4) 31, group := BitVec.ofNat 20 (fld s (spR u 0) 27 8)
    calA := calList s (calR u false false), calB := calList s (calR u false true), c := bitAt s (spR u 4) 28
    cr := bitAt s (spR u 4) 27, ca := s.tsi.peerCr.contains u }

/-- An overhead multiframe of PHY u leaves, with its PHY number (R241, R243). -/
def sendOverhead (u : Nat) (s : State) : State := emit (.overhead u (fld s (spR u 0) 7 0) (txOverhead s u)) s

/-- FLEXE_OVERHEAD_RX: one received overhead multiframe of a slotted PHY, and the one it sends meanwhile. -/
def overheadRx (u : Nat) (o : FlexeOverhead) (s : State) : State :=
  if !slotted s u then s
  else
    let was := bitAt s (spR u 4) 31
    let s0 := setTsi { s.tsi with peerCr := s.tsi.peerCr.filter (· != u) ++ (if o.lock && o.cr then [u] else []) } s
    let s1 := setBit (spR u 4) 31 o.lock s0
    let s2 := if o.lock then
        let mism := o.group.toNat != fld s (spR u 0) 27 8
        let y := setBit (spR u 4) 30 o.rpf (setBit (spR u 4) 29 o.c (setBit (spR u 4) 26 o.ca (setBit (spR u 4) 25 mism s1)))
        let w := calWords o.calA
        let v := calWords o.calB
        forAll (fun i x => setReg (calR u true true + 4 * i) (v.getD i 0) (setReg (calR u true false + 4 * i) (w.getD i 0) x)) (upTo 40) y
      else s1
    sendOverhead u (calSettle (if was = o.lock then s2 else tsiEvent 5 s2))

def execFlexeOverheadRx (u : Fin 64) (oh : FlexeOverhead) (s : State) : Host.Outcome State Fault Refusal :=
  .next (onlyIf (coreOn s) (overheadRx u oh) s)

/-- CALENDAR_C_CHANGE: at an overhead frame boundary after the switch and CA, C becomes the calendar that the active page
chooses, and CR ends unless a pending switch asks as well (R259). -/
def changeC (u : Nat) (s : State) : State :=
  if !s.tsi.dueC.contains u || !bitAt s (spR u 4) 26 then s
  else
    let again := s.tsi.pend.isSome && pageCal s 0 u != pageCal s 1 u
    sendOverhead u (calSettle (setBit (spR u 4) 27 again (setBit (spR u 4) 28 (pageCal s s.tsi.active u)
      (setTsi { s.tsi with dueC := s.tsi.dueC.filter (· != u) } s))))

def execCalendarCChange (u : Fin 64) (s : State) : Host.Outcome State Fault Refusal :=
  .next (onlyIf (coreOn s) (changeC u) s)

/-! ### Connection memory (R254, R255) -/

/-- The page that address a belongs to: an entry or a PAGE_CAL. -/
def pageOfAddr (a : Nat) : Option Nat :=
  if within 0x02440000 0x10000 a then some 0
  else if within 0x02450000 0x10000 a then some 1
  else if within 0x02400040 8 a then some 0
  else if within 0x02400048 8 a then some 1
  else none

/-- A write at a is refused: the active page, or an armed standby page (R255). -/
def pageClosed (s : State) (a : Nat) : Bool :=
  match pageOfAddr a with
  | some q => q == s.tsi.active || s.tsi.armed
  | none => false

def setWrRej (b : Bool) (s : State) : State := setTsi { s.tsi with wrRej := b } s

/-- The first reason for which entry (e, w) fails validation, given the entries before it (R255). -/
def entryFails (s : State) (before : List (Nat × Nat)) (w : Nat) : Option Nat :=
  let twice := before.any fun x => cmSlot x.2 == cmSlot w && cmDown x.2 == cmDown w
  if 5119 < cmSlot w then some 1
  else if !slotted s (cmSlot w / 80) then some 2
  else if twice && !cmDown w then some 3
  else if twice then some 4
  else if !cmDown w && 4094 ≤ cmDtid w then some 5
  else none

/-- The lowest failing entry of a page and its reason. -/
def pageFails (s : State) : List (Nat × Nat) → List (Nat × Nat) → Option (Nat × Nat)
  | _, [] => none
  | before, (e, w) :: r => match entryFails s before w with
    | some k => some (e, k)
    | none => pageFails s (before ++ [(e, w)]) r

/-- PAGE_ARM: validation of the standby page starts. -/
def pageArm (s : State) : State := setTsi { s.tsi with arming := !s.tsi.armed, wrRej := false } s

def execPageArm (s : State) : Host.Outcome State Fault Refusal := .next (onlyIf (coreOn s) pageArm s)

/-- PAGE_ARM_DONE. -/
def pageArmDone (s : State) : State :=
  if !s.tsi.arming then s
  else
    let s1 := setTsi { s.tsi with arming := false } s
    match pageFails s [] (pageEntries s (1 - s.tsi.active)) with
    | none => setRegN 0x0240000C 0 (setTsi { s1.tsi with armed := true } s1)
    | some (e, k) => tsiEvent 2 (bump 0x02400130 1 (setRegN 0x0240000C (2 ^ 31 + k * 2 ^ 24 + e) s1))

def execPageArmDone (s : State) : Host.Outcome State Fault Refusal := .next (onlyIf (coreOn s) pageArmDone s)

/-- PAGE_DISARM. -/
def pageDisarm (s : State) : State :=
  if s.tsi.armed && s.tsi.pend.isSome then setWrRej true s
  else setTsi { s.tsi with armed := false, wrRej := false } s

def execPageDisarm (s : State) : Host.Outcome State Fault Refusal := .next (onlyIf (coreOn s) pageDisarm s)

/-! ### Page switch (R257 to R261) -/

/-- PHYs whose transmitted calendar differs between the pages. -/
def calDiffers (s : State) : List Nat := (upTo 64).filter fun u => slotted s u && pageCal s 0 u != pageCal s 1 u

/-- CR is set on every PHY whose PAGE_CAL bit differs between the pages (R259). -/
def requestCals (s : State) : State := forAll (fun u x => setBit (spR u 4) 27 true x) (calDiffers s) s

/-- Two entries name the same connection (R258). -/
def sameConn (a b : Nat) : Bool := bits a 62 5 == bits b 62 5

/-- Connections of one direction that only `l` holds. -/
def onlyIn (l other : List Nat) (down : Bool) : List Nat :=
  l.filter fun w => cmDown w == down && !other.any (sameConn w)

/-- A downstream slot starts empty, or its FIFO is dropped; CSF_RX falls with it. -/
def clearDn (t : Nat) (s : State) : State :=
  let s1 := setDnConn t {} s
  if (dnConn s t).csf then tsiEvent 10 s1 else s1

/-- The upstream connections of entries l end, each with a container still to be cut (R258). -/
def endConns (l : List Nat) (s : State) : State :=
  setTsi { s.tsi with ended := l.foldl (fun x w =>
    x.put (cmSlot w) (some { entry := w, seq := (upConn s (cmSlot w)).seq, start := (upConn s (cmSlot w)).start })) s.tsi.ended } s

/-- The standby page becomes active in one cycle (R258, R259). -/
def switchPages (s : State) : State :=
  let q := 1 - s.tsi.active
  let old := activePage s
  let new := (pageEntries s q).map Prod.snd
  let s1 := forAll (fun w x => setUpConn (cmSlot w) { upConn x (cmSlot w) with seq := 0, start := true } x)
    (onlyIn old new false ++ onlyIn new old false) (endConns (onlyIn old new false) s)
  let s2 := forAll (fun w x => clearDn (cmSlot w) x) (onlyIn old new true ++ onlyIn new old true) s1
  let diff := calDiffers s
  let late := diff.filter fun u => !bitAt s (spR u 4) 26
  let s3 := setReg64 0x02400010 0 (setTsi { s2.tsi with active := q, armed := false, arming := false, pend := none, dueC := s2.tsi.dueC.filter (!diff.contains ·) ++ diff } s2)
  let s4 := requestCals s3
  let s5 := if late.isEmpty then s4 else tsiEvent 4 s4
  calSettle (tsiEvent 0 (bumpLo 0x0240012C 1 s5))

/-- PAGE_SWITCH: the pending switch's instant has come. -/
def pageSwitch (s : State) : State :=
  match s.tsi.pend with
  | some w => if tRx s w.port w.sf ≤ lineNow s w.port then switchPages s else s
  | none => s

def execPageSwitch (s : State) : Host.Outcome State Fault Refusal := .next (onlyIf (coreOn s) pageSwitch s)

/-- PAGE_FORCE: to an armed standby page; a pending switch is replaced (R261). -/
def pageForce (s : State) : State := if s.tsi.armed then switchPages (setWrRej false s) else s

def execPageForce (s : State) : Host.Outcome State Fault Refusal := .next (onlyIf (coreOn s) pageForce s)

/-- TSI_SWITCH (R257). -/
def tsiSwitch (p : Nat) (t : TmmIn) (s : State) : State :=
  let page := bitN (t.bits.getLsbD 351)
  let sf := tf t.bits 350 300
  let standby := page != s.tsi.active
  if !frameInReach false s p t sf || !tsiOn s || (standby && !s.tsi.armed) then answer p t 3 [] s
  else match s.tsi.pend with
    | some w =>
      let a := coreAt s p (tRx s p sf)
      let b := coreAt s w.port (tRx s w.port w.sf)
      if w.page ≠ page ∨ b + 80000 < a ∨ a + 80000 < b then answer p t 1 [] s else answer p t 0 [] s
    | none =>
      if !standby then answer p t 0 [] s
      else
        let s1 := setReg64 0x02400010 sf (setTsi { s.tsi with pend := some { page := page, port := p, sf := sf } } s)
        answer p t 0 [] (requestCals s1)

def execTsiSwitch (p : Fin 16) (s : State) : Host.Outcome State Fault Refusal :=
  .next (onlyIf (coreOn s) (withTmm p 0x0B (fun x _ => inOperation x p) (tsiSwitch p)) s)

/-- TSI_ENABLE_WRITE: EN 0 cancels a pending switch (R261). -/
def tsiEnable (en : Bool) (s : State) : State :=
  let s1 := setBit 0x02400000 0 en s
  if en then s1 else cancelSwitch s1

def execTsiEnableWrite (en : Bool) (s : State) : Host.Outcome State Fault Refusal := .next (onlyIf (coreOn s) (tsiEnable en) s)

def tsiCntClr : State → State := zeroRegs (within 0x02400100 0x34)
def execTsiCntClr (s : State) : Host.Outcome State Fault Refusal := .next (onlyIf (coreOn s) tsiCntClr s)

end Sys2Proof.Machine
end

