-- ==== Sys2Proof/Machine/Faults.lean ====
section
/-! DEFINITION. Faults and recovery (ch. 18): memory errors and restores, lockstep pairs, the watchdog, loss of power-good,
pins, HBM stacks, and the fault log. -/
namespace Sys2Proof.Machine
open Sys2Proof

/-! ### Correctable errors and scrubbing (R474, R475) -/

/-- Counters of structure k: corrected, then uncorrectable (R486). -/
def ceR (k : Nat) : Nat := 0x5200 + 8 * k
/-- Register at offset o of HBM stack n (R486). -/
def stkR (n o : Nat) : Nat := 0x09000000 + 0x1000 * n + o
/-- STK_EVENT bit i of stack n (R487). -/
def stkEvent (n i : Nat) : State → State := raise (stkR n 4) (stkR n 8) i (976 + n)
/-- The structures that lie in the HBM (R472). -/
def hbmStruct (k : Nat) : Bool := k == 5 || k == 0xD
/-- Whether a structure is powered, and its error can be found: Heartwood's always, another with the core. -/
def structOn (s : State) (k : Nat) : Bool := (1 ≤ k && k ≤ 15) && (k == 0xE || (coreOn s && (!hbmStruct k || hbmAvail s)))

/-- The uptimes of structure k's corrected errors in the last second, this one's among them (R474). -/
def ceWindow (k : Nat) (s : State) : List Nat :=
  s.uptime :: (s.faults.ceTimes.look [] k).filter fun t => decide (s.uptime < t + 25000000)

/-- At most one MEMORY_CE record a second and structure, with the errors merged in it (R474). -/
def logCe (k addr : Nat) (s : State) : State :=
  let f := s.faults
  let n := f.ceMerged.look 0 k + 1
  if f.ceLogged.has k ∧ s.uptime < f.ceLogged.look 0 k + 25000000 then { s with faults := { f with ceMerged := f.ceMerged.put k n } }
  else
    let s1 := { s with faults := { f with ceMerged := f.ceMerged.put k 0, ceLogged := f.ceLogged.put k s.uptime } }
    writeLog 1 (Config.logCode 1 k) k 0 addr n (Config.logDetail 1 k) s1

/-- A corrected error in structure k (R474). -/
def correctable (k addr : Nat) (s : State) : State :=
  let w := ceWindow k s
  let s1 := { s with faults := { s.faults with ceTimes := s.faults.ceTimes.put k w } }
  let reached := decide (max 1 (fld s 0x5000 15 0) ≤ w.length)
  let n := (Config.hbmStack addr).val
  let s2 := if hbmStruct k then (fun x => if reached then stkEvent n 0 x else x) (bump (stkR n 0x10) 1 s1) else s1
  logCe k addr ((fun x => if reached then fltEvent 3 x else x) (bump (ceR k) 1 s2))

/-- CORRECTABLE_ERROR. -/
def execCorrectableError (struct : Fin 16) (addr : BitVec 64) (s : State) : Host.Outcome State Fault Refusal :=
  .next (onlyIf (structOn s struct) (correctable struct addr.toNat) s)

/-- The scrubber's pass of HBM structure k has ended; with the other structure's it is a pass of every stack, and the distinct
addresses of uncorrectable errors count afresh (R475, R481, R486; log entry 146). -/
def passEnds (k : Nat) (s : State) : State :=
  let l := (k :: s.faults.passed).eraseDups
  if l.contains 5 && l.contains 0xD then
    forAll (fun n => bump (stkR n 0x18) 1) (upTo 4) { s with faults := { s.faults with passed := [], ueAddrs := [] } }
  else { s with faults := { s.faults with passed := l } }

/-- A scrub read; where the scrubber comes back to lower addresses it has completed a pass (R475, R486). -/
def scrub (k addr : Nat) (err : Bool) (s : State) : State :=
  let wrapped := s.faults.scrubAt.has k && decide (addr ≤ s.faults.scrubAt.look 0 k)
  let s1 := { s with faults := { s.faults with scrubAt := s.faults.scrubAt.put k addr } }
  let s2 := if hbmStruct k && wrapped then passEnds k s1 else s1
  if err then correctable k addr s2 else s2

/-- SCRUB_READ: at Reef 0 to Reef 2; the HBM's structures while it is available (R475). -/
def execScrubRead (struct : Fin 16) (addr : BitVec 64) (err : Bool) (s : State) : Host.Outcome State Fault Refusal :=
  .next (onlyIf (coreOn s && structOn s struct && struct.val != 8) (scrub struct addr.toNat err) s)

/-! ### What an uncorrectable error takes with it (R472) -/

/-- One of a list, or none: which one lies at the failing address is not in the model, so the choice is free. -/
def pickFree {α : Type} (s : State) (l : List α) : Option α := l[freeVal s % (l.length + 1)]?

/-- The frame at the failing cell or page is DAMAGED (R340). -/
def damageFrame (hbm : Bool) (s : State) : State :=
  match pickFree s ((s.buf.frames.filter fun x => x.2.hbm == hbm).map Prod.fst) with
  | some n => markDamaged n (drawn s)
  | none => drawn s

/-- A container in the HBM is treated as absent: one stored upstream is discarded and counted so; for one in a playout FIFO local fault
is substituted and counted as a gap (R248, R251, R469; log entry 231). -/
def dropContainer (s : State) : State :=
  let up := s.tsi.up.filterMap fun x => if x.2.stored.isEmpty then none else some (true, x.1)
  let dn := s.tsi.dn.filterMap fun x => if x.2.fifo.isEmpty then none else some (false, x.1)
  let n := freeVal s / 65536
  match pickFree s (up ++ dn) with
  | none => drawn s
  | some (true, t) =>
    let c := upConn s t
    bump 0x02400120 1 (setUpConn t { c with stored := c.stored.eraseIdx (n % c.stored.length) } (drawn s))
  | some (false, t) =>
    let d := dnConn s t
    let k := n % d.fifo.length
    let gone := min 1221 (d.fifo.length - k)
    tsiEvent 6 (bump 0x02400110 1 (setDnConn t { d with fifo := d.fifo.take k ++ List.replicate gone lfBlock ++ d.fifo.drop (k + gone) } (drawn s)))

/-- A pointer that may be used: within the memory of its kind, and a multiple of its unit (R339). -/
def pointerOk (page : Bool) (a : Nat) : Bool :=
  if page then decide (a < 0x1800000000) && a % 0x1000 == 0 else decide (a < 0x0C000000) && a % 0x100 == 0

/-- The pointer that fails its check: any value that does (R339). -/
def badPointer (page : Bool) (n : Nat) : Nat := if pointerOk page (n % 2 ^ 37) then n % 2 ^ 37 + 1 else n % 2 ^ 37

/-- A pointer fault is stored, counted and raised (R339). -/
def pointerSeen (page : Bool) (s : State) : State :=
  bufEvent 4 (bump 0x05000844 1 (setReg64 0x05000040 (badPointer page (freeVal s)) (drawn s)))

/-- The cells or pages that frame n alone holds, n being held by one queue. -/
def soleHeld (n : Nat) (s : State) : Nat :=
  match frameOf s n with
  | none => 0
  | some f =>
    if f.refs ≠ 1 then 0
    else if !f.hbm then cellsOf f
    else
      let others := (s.buf.frames.filter fun x => x.1 != n).flatMap fun x => pagesOf x.2
      ((pagesOf f).eraseDups.filter fun g => !others.contains g).length

/-- A pointer fault: the frame whose chain broke is dropped; what its failed pointer leaves unreachable waits for the audit (R339). -/
def pointerFault (s : State) : State :=
  match pickFree s ((s.buf.queues.filter fun x => !x.2.frames.isEmpty).map Prod.fst) with
  | none => pointerSeen (freeBit (drawn s)) (drawn (drawn s))
  | some q =>
    match (queueOf s q).frames with
    | [] => drawn s
    | n :: rest =>
      let page := (frameOf s n).any (·.hbm)
      let held := soleHeld n s
      let s1 := drawn s
      let lost := if held = 0 then 0 else 1 + freeVal s1 % held
      let s2 := pointerSeen page (drawn s1)
      bufSettle (leak (bitN page) lost (emptied q (freeRef n (setQueue q { queueOf s q with frames := rest } s2))))

/-- One line of a result cache, or one derived key, is invalidated: a cache set and the line in it, or none and the key (R472 code
0x08). -/
def dropCached (s : State) : State :=
  let lines := s.can.caches.flatMap fun x => (upTo x.2.length).map fun i => (some x.1, i)
  match pickFree s (lines ++ (upTo s.shr.cache.length).map fun i => (none, i)) with
  | none => drawn s
  | some (none, i) => { drawn s with shr := { s.shr with cache := s.shr.cache.eraseIdx i } }
  | some (some k, i) => setCan (fun c => { c with caches := c.caches.put k ((c.caches.look [] k).eraseIdx i) }) (drawn s)

/-- A PM bin or a log record in Heartwood retention is lost (R472 code 0x0E). -/
def loseRetained (s : State) : State :=
  let n := freeVal s
  let s1 := drawn s
  let p := n / 2 % 16
  let m := pmStore s1 p
  if n % 2 = 0 then
    let bad := fun (k : Nat) (l : List PmBin) => mapAt (fun b => { b with valid := false }) k l
    let k := n / 64
    setPmStore p (match n / 32 % 4 with
      | 0 => { m with cur15 := { m.cur15 with valid := false } }
      | 1 => { m with cur24 := { m.cur24 with valid := false } }
      | 2 => { m with past15 := bad (k % 96) m.past15 }
      | _ => { m with past24 := bad (k % 7) m.past24 }) s1
  else if s1.faults.uncopied = 0 then s1
  else bump 0x5114 1 { s1 with faults := { s1.faults with uncopied := s1.faults.uncopied - 1, lost := s1.faults.lost + 1 } }

/-- The structures whose failing entry waits for a restore (R472, R473). -/
def restorable (k : Nat) : Bool := [4, 5, 6, 7, 9, 0xA, 0xB, 0xC, 0xF].contains k

/-- What is lost at once in a structure that has no copy to restore from (R472). -/
def loseAt (k : Nat) (s : State) : State :=
  match k with
  | 1 => damageFrame false s
  | 2 => pointerFault s
  | 3 => leak (bitN (freeBit s)) 1 (drawn s)
  | 8 => dropCached s
  | 0xD => if freeBit s then dropContainer (drawn s) else damageFrame true (drawn s)
  | 0xE => loseRetained s
  | _ => s

/-- A stack is lost: HBM_AVAIL falls, LOST is set and logged, and the device furls (R337, R481). -/
def stackLost (n : Nat) (s : State) : State :=
  let s1 := stkEvent n 2 (setBit (stkR n 0) 29 true (setHbmAvail false s))
  furl 8 (logEvent 7 (Config.logCode 7 n) (0x10 + n) n s1)

/-- An uncorrectable error at a stack: counted; 16 distinct addresses in a scrub pass lose the stack (R481). -/
def stackUe (addr : Nat) (s : State) : State :=
  let n := (Config.hbmStack addr).val
  let l := (addr :: s.faults.ueAddrs.look [] n).eraseDups
  let s1 := { s with faults := { s.faults with ueAddrs := s.faults.ueAddrs.put n l } }
  let s2 := stkEvent n 1 (bump (stkR n 0x14) 1 s1)
  if 16 ≤ l.length then stackLost n s2 else s2

/-- The stage's own reason for a failure during stages 9 to 12 (R453, R485); FAULT otherwise. -/
def stageReason (n : Nat) : Nat := match n with | 9 => 5 | 10 => 6 | 11 => 6 | 12 => 7 | _ => 8

/-- The command in progress that an error of structure k interrupts ends with FAULT, and changes nothing: the ring command whose turn it
is for Canopy and the TCAM, the scheduler's for its own state; whether it meets the error is free (R470; log entry 232). -/
def cutCommand (k : Nat) (s : State) : State :=
  if [4, 5, 6].contains k then
    match ringTurn s with
    | none => s
    | some r => if engineBusy s || !freeBit s then drawn s else ringDone r (regN s (ringConsR r)) 9 false false 0 (drawn s)
  else if k == 9 && s.sch.cmd.isSome then (if freeBit s then endCmd 9 (drawn s) else drawn s)
  else s

/-- Another error of structure k in the same cycle, at another address (R485). -/
def secondUe (k addr : Nat) (s : State) : Bool :=
  s.faults.lastUe.has k && (s.faults.lastUe.look (0, 0) k).2 == s.uptime && (s.faults.lastUe.look (0, 0) k).1 != addr

/-- An error of structure k outside the model: a second one before the first is restored or in the same cycle, or one in the copy as
well (R468, R485). -/
def beyond (k addr : Nat) (copyBad : Bool) (s : State) : Bool :=
  (restorable k && (copyBad || s.faults.restoring.any fun x => x.1 == k)) || secondUe k addr s

/-- The error is counted, recorded with DETAIL 1 where it is to be restored, and raised (R483, R484). -/
def logUe (k addr : Nat) (restored : Bool) (s : State) : State :=
  let s1 := { s with faults := { s.faults with lastUe := s.faults.lastUe.put k (addr, s.uptime) } }
  fltEvent 2 (writeLog 2 (Config.logCode 2 k) k 0 addr 1 (bitN restored) (bump (ceR k + 4) 1 s1))

/-- An uncorrectable error in structure k: recovered, or outside the model (R468, R470, R472, R485). -/
def uncorrectable (k addr : Nat) (copyBad : Bool) (s : State) : State :=
  let starting := decide (9 ≤ bootStage s ∧ bootStage s ≤ 12)
  let outside := beyond k addr copyBad s
  let s0 := logUe k addr (restorable k && !outside && !starting) s
  if starting then furl (stageReason (bootStage s)) s0
  else if outside then furl 8 s0
  else
    let s1 := cutCommand k s0
    let s2 := if restorable k then { s1 with faults := { s1.faults with restoring := s1.faults.restoring ++ [(k, addr)] } } else loseAt k s1
    if hbmStruct k then stackUe addr s2 else s2

/-- UNCORRECTABLE_ERROR. -/
def execUncorrectableError (struct : Fin 16) (addr : BitVec 64) (copyBad : Bool) (s : State) : Host.Outcome State Fault Refusal :=
  .next (onlyIf (structOn s struct) (uncorrectable struct addr.toNat copyBad) s)

/-- Entry restored from the mirror: its stamp is its table's NOW; which entry it is, is free (R471). -/
def restoreEntry (hbm : Bool) (s : State) : State :=
  let all := s.can.tables.flatMap fun x => ((if hbm then x.2.hbm else x.2.on).keys.map fun k => (x.1, k))
  match pickFree s all with
  | some (t, k) => setCan (fun c =>
      let h := c.tables.look {} t
      let up := fun (l : Tab Entry) => l.adjust fun i e => if i == k then { e with stamp := h.now } else e
      { c with tables := c.tables.put t (if hbm then { h with hbm := up h.hbm } else { h with on := up h.on }) }) (drawn s)
  | none => drawn s

/-- Scheduler, shaper or meter state after its configuration is restored (R472 code 0x09). -/
def restoreSched (s : State) : State :=
  let qs := s.buf.queues.keys.map fun q => (0, q)
  let sh := s.sch.shapers.keys.map fun k => (1, k)
  let me := s.sch.meters.keys.map fun k => (2, k)
  match pickFree s (qs ++ sh ++ me) with
  | some (0, q) => setQueue q { queueOf s q with deficit := 0, fresh := true } (drawn s)
  | some (1, k) => setShaper k { shaperOf s k with credit := 0, part := 0 } (drawn s)
  | some (_, k) => setMeter k { meterOf s k with tc := 65536 * (meterOf s k).cbs, te := 65536 * (meterOf s k).ebs, tcPart := 0, tePart := 0 } (drawn s)
  | none => drawn s

/-- The restore of the word at an address of structure k reads the mirror in the HBM: a TCAM slot's other copy is on the die, a result's
copy is not (R472, R473). -/
def needsMirror (x : Nat × Nat) : Bool := [4, 5, 7, 9, 0xA, 0xF].contains x.1 || (x.1 == 6 && Config.resultWord x.2)

/-- RESTORE_DONE: the oldest restore that can completes; one that needs the mirror waits for the HBM (R473). -/
def restoreDone (s : State) : State :=
  match s.faults.restoring.find? fun x => !needsMirror x || hbmAvail s with
  | none => s
  | some x =>
    let s1 := { s with faults := { s.faults with restoring := s.faults.restoring.erase x } }
    match x.1 with
    | 4 => restoreEntry false s1
    | 5 => restoreEntry true s1
    | 9 => restoreSched s1
    | _ => s1

def execRestoreDone (s : State) : Host.Outcome State Fault Refusal := .next (onlyIf (coreOn s) restoreDone s)

/-! ### Lockstep pairs (R477, R478) -/

def pairOf (s : State) (k : Nat) : Pair := s.faults.pairs.look {} k
def setPair (k : Nat) (x : Pair) (s : State) : State := { s with faults := { s.faults with pairs := s.faults.pairs.put k x } }
/-- Pair k is in service; it is retired. -/
def pairServes (s : State) (k : Nat) : Bool := bitAt s 0x501C k
def pairRetired (s : State) (k : Nat) : Bool := bitAt s 0x501C (8 + k)
def retiredPairs (s : State) : Nat := ((upTo 8).filter (pairRetired s)).length

/-- Pair k is retired until the next start; a third one is outside the model (R468, R478). -/
def retirePair (k : Nat) (s : State) : State :=
  let s1 := setBit 0x501C (8 + k) true (setBit 0x501C k false s)
  if 3 ≤ retiredPairs s1 then furl 8 s1 else s1

/-- A takeover is in progress while a pair's last mismatch lies less than 1 ms back (R477). -/
def takingOver (s : State) (k : Nat) : Bool :=
  s.faults.pairs.any fun x => x.1 != k && x.2.down && (x.2.mismatches.any fun t => decide (s.uptime < t + 25000))

/-- A pair's record of class LOCKSTEP (R483). -/
def logPair (k : Nat) : State → State := logEvent 3 (Config.logCode 3 k) 0 k

/-- What pair k serves goes to another pair in service, the stacks of its targets as they stand (R477). -/
def handOver (k : Nat) (s : State) : State :=
  let others := (upTo 8).filter fun j => j != k && pairServes s j
  let to_ := others.getD (freeVal s % others.length) k
  { drawn s with faults := { s.faults with owners := s.faults.owners.adjust fun _ o => if o = k then to_ else o } }

/-- The interrupted task was the handler of a target that pair k served, or was none: the taking pair runs it again and writes the EOI
of the target's top entry (R477). -/
def endHandler (k : Nat) (s : State) : State :=
  match pickFree s ((upTo 16).filterMap fun t =>
      if s.faults.owners.look 8 (32 + t) = k then (icTgt s t).stack.head?.map fun e => (t, e.1) else none) with
  | none => drawn s
  | some (t, n) => eoiTarget t n (drawn s)

/-- LOCKSTEP_MISMATCH: the pair stops before its write; another takes its ports, mailbox, targets and tasks as they stand, and the
tasks that wait are executed in their order (R477, R478, R485; log entry 234). -/
def mismatch (k : Nat) (s : State) : State :=
  let l := s.uptime :: (pairOf s k).mismatches.filter fun t => decide (s.uptime < t + 2160000000000)
  let s1 := setPair k { mismatches := l, down := true } (setBit 0x501C k false s)
  let s2 := fltEvent 1 (logPair k (bump 0x5104 1 s1))
  if takingOver s k then furl 8 s2
  else
    let s3 := handOver k (endHandler k s2)
    if 3 ≤ l.length then retirePair k s3 else s3

def execLockstepMismatch (k : Fin 8) (s : State) : Host.Outcome State Fault Refusal :=
  .next (onlyIf (coreOn s && !s.boot.furled && pairServes s k) (mismatch k) s)

/-- PAIR_RETURN: the self-test of a stopped pair; one that fails it is recorded and retired (R477, R478, R483). -/
def pairReturn (k : Nat) (passed : Bool) (s : State) : State :=
  if !(pairOf s k).down || pairRetired s k then s
  else
    let s1 := setPair k { pairOf s k with down := false } s
    if passed then setBit 0x501C k true s1 else retirePair k (logPair k s1)

def execPairReturn (k : Fin 8) (passed : Bool) (s : State) : Host.Outcome State Fault Refusal :=
  .next (onlyIf (coreOn s && !s.boot.furled) (pairReturn k passed) s)

/-! ### Watchdog and resets (R479, R480, R516) -/

/-- A write of WDOG_KICK (R479). -/
def wdogKick (v : Word) (s : State) : State :=
  if bits v.toNat 15 0 = 0x7A3C then { s with faults := { s.faults with kickAt := s.uptime } } else s

def execWdogKick (val : Word) (s : State) : Host.Outcome State Fault Refusal := .next (wdogKick val s)

/-- A write of WDOG_CTL: the period begins as EN rises. -/
def writeWdogCtl (v : Word) (s : State) : State :=
  let s1 := setReg 0x5004 (v &&& 0x8000FFFF) s
  if v.getLsbD 31 && !bitAt s 0x5004 31 then { s1 with faults := { s1.faults with kickAt := s.uptime } } else s1

/-- WATCHDOG_EXPIRY: a period without a kick. -/
def watchdog (s : State) : State :=
  let due := decide (s.faults.kickAt + 25000 * max 1 (fld s 0x5004 15 0) ≤ s.uptime)
  if bitAt s 0x5004 31 && due then warmStart 4 (fltEvent 7 (logEvent 9 (Config.logCode 9 0) 0 0 (bump 0x5108 1 s))) else s

def execWatchdogExpiry (s : State) : Host.Outcome State Fault Refusal := .next (onlyIf (coreOn s && !s.boot.furled) watchdog s)

/-- CORE_RESET: by one of the causes of LAST_RESET that reset the core domain (R486). -/
def execCoreReset (cause : BitVec 4) (s : State) : Host.Outcome State Fault Refusal :=
  .next (onlyIf (2 ≤ cause.toNat && cause.toNat ≤ 6) (warmStart cause.toNat) s)

/-- Domain d is switched off and on again (R480). -/
def cycleDom (d : Nat) (s : State) : State := setDom d true (setDom d false s)

/-- Trunk port p's domain loses power: raw LOS; off, on and brought up once, then FAULT until RETRAIN (R480). -/
def trunkPower (p : Nat) (s : State) : State :=
  let again := s.faults.pgTried.look false (0x20 + p) && (waiken s p).rxStep != 7
  let s1 := cycleDom (0x20 + p) (setWaiken p { ({} : Waiken) with noLight := true } (if framerOn s p then raiseLoss p bitLos s else s))
  let s2 := { lanesOff (fun l => (setLanes p).contains l) s1 with faults := { s1.faults with pgTried := s1.faults.pgTried.put (0x20 + p) true } }
  if again then forAll (fun l => laneStep l fun x => { x with tx := 8, rx := 8 }) (setLanes p) s2 else lanesFirst (setLanes p) s2

/-- Client block b's domain loses power: as a trunk port's; LINK_UP falls, queues stay (R228, R480). -/
def clientPower (b : Nat) (s : State) : State :=
  let ls := [4 * b, 4 * b + 1, 4 * b + 2, 4 * b + 3]
  let up := (upTo 4).any (linkUp s b) || (paired s b && linkUp s (b - 1) 0)
  let again := s.faults.pgTried.look false (0x40 + b) && !up
  let s0 := if paired s b && linkUp s (b - 1) 0 then linkDown (b - 1) 0 false s else s
  let s1 := forAll (fun u x => if linkUp x b u then linkDown b u false x else x) (upTo 4) s0
  let s2 := { lanesOff (fun l => ls.contains l) (cycleDom (0x40 + b) s1) with faults := { s1.faults with pgTried := s1.faults.pgTried.put (0x40 + b) true } }
  if again then forAll (fun l => laneStep l fun x => { x with tx := 8, rx := 8 }) ls s2 else lanesFirst ls s2

/-- The PCIe link goes: nothing is pending for the host's vectors any more (R406, R480). -/
def pcieDown (s : State) : State := pcieLanes false { s with ic := { s.ic with linkUp := false, msixPend := [] } }

/-- The time base's core registers at their resets (R190). -/
def timeRegsOff (s : State) : State :=
  { s with regs := s.regs.filter fun x => !within 0x01400000 0x10000 x.1 || domainOf x.1 == .heartwood }

/-- The time base loses power: its last reading is retained, and it is as after its reset (R187, R190). -/
def timeOff (s : State) : State := { timeRegsOff (retainTime s) with time := {} }

/-- Power-good of a powered domain is lost: PG_FAULT, a record, and the domain's recovery (R480). -/
def powerLoss (d : Nat) (s : State) : State :=
  let s1 := reefEvent 8 (logEvent 5 (Config.logCode 5 d) d d s)
  if d = 3 then warmStart 5 (setDom 3 false (if s1.boot.furled then timeOff s1 else s1))
  else if d = 5 then pcieDown { s1 with ic := { s1.ic with funcMask := false, bar0 := 0, readRequest := 2 } }
  else if d = 4 then cycleDom 4 { s1 with boot := { s1.boot with flashBusy := false, flashOctal := 0 } }
  else if d = 2 ∨ d = 1 then laneUp 1 false (laneUp 0 false (if d = 1 then cycleDom 1 (linkDown 32 0 false s1) else cycleDom 2 s1))
  else if d = 6 then cycleDom 6 (linkDown 32 0 false s1)
  else if 0x10 ≤ d ∧ d < 0x14 then warmStart 6 (setDom d false s1)
  else if 0x20 ≤ d ∧ d < 0x30 then trunkPower (d - 0x20) s1
  else clientPower (d - 0x40) s1

/-- Domain d is powered: switched on, and a trunk port or client block neither dark nor disabled (R413). -/
def domPowered (s : State) (d : Nat) : Bool :=
  domOn s d && d != 0 && d ≤ 0x5F && !(within 0x20 16 d && (portDark s (d - 0x20) || trunkDisabled s (d - 0x20))) &&
  !(0x40 ≤ d && blockDark s (d - 0x40))

def execPowerGoodLoss (dom : Byte) (s : State) : Host.Outcome State Fault Refusal :=
  .next (onlyIf (domPowered s dom.toNat) (powerLoss dom.toNat) s)

/-- HEARTWOOD_POWER_ON: everything but the fuses, the flashes, the board and the host starts as at reset; the epoch record is
advanced in stage 2, and SEQ goes on from the flash log (R186, R483, R516). -/
def powerOn (s : State) : State :=
  let s1 := lowerReady s
  { State.reset with
    pending := s.pending, sent := s1.sent, fresh := s.fresh, flash := s.flash, hostMem := s.hostMem
    guards := s.guards.map fun x => (x.1, { pin := x.2.pin })
    shr := { fuses := s.shr.fuses }, boot := { State.reset.boot with torn := s.boot.torn }
    faults := { logged := s.faults.logged, seq := s.faults.seq - s.faults.uncopied - s.faults.lost } }

def execHeartwoodPowerOn (s : State) : Host.Outcome State Fault Refusal := .next (powerOn s)

/-- PCIE_RESET: only the PCIE domain and the registers PCI Express names: here the function mask, the pending bits, BAR0 and the read
request size (R480). -/
def execPcieReset (s : State) : Host.Outcome State Fault Refusal :=
  .next (onlyIf (coreOn s) (fun x => { x with ic := { x.ic with msixPend := [], funcMask := false, bar0 := 0, readRequest := 2 } }) s)

/-- PCIE_LINK_CHANGE: without a link requests are discarded; with one they are delivered again, from the next request on (R406; log
entry 229). -/
def execPcieLinkChange (up : Bool) (s : State) : Host.Outcome State Fault Refusal :=
  .next (onlyIf (domOn s 5 && s.ic.linkUp != up)
    (fun x => if up then pcieLanes true { x with ic := { x.ic with linkUp := true } } else pcieDown x) s)

/-! ### Pins, buses and stacks (R407, R481, R482) -/

/-- IRQ_PIN_FAULT: IRQ_N0 is bit 31, IRQ_N1 bit 30 of IRQ_PIN. -/
def execIrqPinFault (n : Fin 2) (s : State) : Host.Outcome State Fault Refusal :=
  .next (withPins 1 n (!bitAt s 0x3380 (31 - n.val)) (setBit 0x3380 (31 - n.val) true) s)

/-- XTAL_FAILURE: Heartwood runs on from its internal oscillator, and the device furls (R468, R482). -/
def xtalFailure (s : State) : State :=
  furl 8 (withPins 7 0 true (fun x => { x with faults := { x.faults with xtalInt := true } }) s)

def execXtalFailure (s : State) : Host.Outcome State Fault Refusal := .next (onlyIf (!s.faults.xtalInt) xtalFailure s)

/-- Which of the two buses answers no more. -/
def setStuck (avs b : Bool) (s : State) : State :=
  setReef (if avs then { s.reef with avsStuck := b } else { s.reef with busStuck := b }) s

/-- PMBUS_STUCK: before READY it furls; after it, the voltage stays and reef requests fail (R482). -/
def busStuck (avs : Bool) (s : State) : State :=
  let s1 := withPins (if avs then 5 else 4) 0 true (setStuck avs true) s
  if 4 ≤ bootStage s ∧ bootStage s < 14 then furl 2 s1 else s1

def execPmbusStuck (avs : Bool) (s : State) : Host.Outcome State Fault Refusal :=
  .next (onlyIf (!(if avs then s.reef.avsStuck else s.reef.busStuck)) (busStuck avs) s)

/-- PMBUS_ANSWERS_AGAIN (R482). -/
def execPmbusAnswersAgain (avs : Bool) (s : State) : Host.Outcome State Fault Refusal := .next (setStuck avs false s)

/-- HBM_STACK_FAULT: a stack-level fault of a stack that is powered (R481). -/
def execHbmStackFault (n : Fin 4) (s : State) : Host.Outcome State Fault Refusal :=
  .next (onlyIf (coreOn s && domOn s (0x10 + n.val) && !s.boot.furled) (stackLost n) s)

/-! ### The fault log (R483) -/

/-- The bytes of a record, each word most significant byte first. -/
def recordBytes (l : List Word) : List Byte := l.flatMap fun w => toBytes 4 w.toNat

/-- Records a flash log holds: 15 MiB of 64 bytes (R438). -/
def logCapacity : Nat := 245760

/-- One record more in the flash logs and on its way to the notification ring (R464, R483). -/
def loggedMore (r : List Word) (s : State) : State :=
  { s with faults := { s.faults with logged := s.faults.logged + 1 }
           xt := { s.xt with records := s.xt.records ++ [(3, recordBytes r)] } }

/-- Record r is appended to both flash logs; into a full log the oldest sector of 1,024 records is erased first. -/
def appendLog (r : List Word) (s : State) : State :=
  let n := s.faults.logged % logCapacity
  let a := 0x100000 + 64 * n
  let wipe := n % 1024 == 0 && decide (logCapacity ≤ s.faults.logged)
  loggedMore r (forAll (fun f x =>
    if flashUp x f then flashPut f a (recordBytes r) (if wipe then flashErase f a 65536 x else x) else x) [0, 1] s)

/-- The LOG_LOST record that stands for the records replaced before copying, with the SEQ of the last of them. -/
def lostRecord (s : State) : List Word :=
  sealRecord (recordWords 0xA (Config.logCode 0xA 0) 0 0 (s.faults.seq - s.faults.uncopied - 1) 0 s.faults.lost (Config.logDetail 0xA 0) s)

/-- LOG_COPY: the oldest record not yet copied; at most 16 in a second (R483). -/
def logCopy (s : State) : State :=
  let f := s.faults
  let fresh := decide (f.copyFrom + 25000000 ≤ s.uptime) || f.copied == 0
  let n := if fresh then 0 else f.copied
  if f.uncopied = 0 ∨ 16 ≤ n then s
  else
    let s1 := { s with faults := { f with copyFrom := if fresh then s.uptime else f.copyFrom, copied := n + 1 } }
    if f.lost ≠ 0 then
      fltEvent 5 (appendLog (lostRecord s) { s1 with faults := { s1.faults with lost := 0 } })
    else
      appendLog (f.ring.look [] ((f.nextPos + 256 - f.uncopied) % 256)) { s1 with faults := { s1.faults with uncopied := f.uncopied - 1 } }

def execLogCopy (s : State) : Host.Outcome State Fault Refusal := .next (onlyIf (coreOn s && (flashUp s 0 || flashUp s 1)) logCopy s)

/-- LOG_IDX_WRITE: LOG_DATA holds the record at that ring position (R486). -/
def logIdx (k : Nat) (s : State) : State :=
  setWords 0x5040 ((s.faults.ring.look (List.replicate 16 0) k).map BitVec.toNat) (setRegN 0x5028 k s)

def execLogIdxWrite (idx : Byte) (s : State) : Host.Outcome State Fault Refusal := .next (logIdx idx.toNat s)

/-- FLT_CNT_CLR: the HW counters, CE and UE among them (R487). -/
def fltCntClr : State → State := zeroRegs fun a => within 0x5100 0x18 a || within 0x5200 0x80 a
def execFltCntClr (s : State) : Host.Outcome State Fault Refusal := .next (fltCntClr s)

/-- STK_CNT_CLR (R487). -/
def stkCntClr (n : Nat) : State → State := zeroRegs (within (stkR n 0x10) 12)
def execStkCntClr (n : Fin 4) (s : State) : Host.Outcome State Fault Refusal := .next (onlyIf (coreOn s) (stkCntClr n) s)

end Sys2Proof.Machine
end

