-- ==== Sys2Proof/Machine/Forward.lean ====
section
/-! DEFINITION. The per-frame path: parse, classify, look up, decide, meter, admit (R265 to R295, R344, R354, R356), the
pipelines that take frames in, and their requests for cells (R226, R266, R332, R333). -/
namespace Sys2Proof.Machine
open Sys2Proof

/-! ### The forwarding lookup (R291 to R295, R308) -/

/-- Register at offset o of forwarding profile f. -/
def fwdR (f o : Nat) : Nat := 0x04001000 + 0x100 * f + o
/-- A 96-bit result in three registers. -/
def result96 (s : State) (a : Nat) : BitVec 96 := BitVec.ofNat 96 (regWide s a 3)
def canOn (s : State) : Bool := bitAt s 0x04000000 0

/-- Source code i of a register of four. -/
def fourCode (s : State) (a i : Nat) : Nat := fld s a (6 * i + 5) (6 * i)
/-- A DST or LRN key for table t: sources at register a, masks from register m on (R292). -/
def lookupKey (s : State) (t a m : Nat) (x : Arrival) (r : Parsed) : List Nat :=
  (upTo (canWords s t)).map fun i => wordSource x r (fourCode s a i) &&& regN s (m + 4 * i)

/-- A table as stages 1 and 3 search it: a hit refreshes the stamp where REF_DST is 1 (R311). -/
def stageSearch (t : Nat) (key : List Nat) (s : State) : State × Option (BitVec 96) :=
  if !canOn s || !canOnT s t then (s, none)
  else
    let x := canSearch t key s
    match x.2 with
    | some f => (if bitAt s (canR t 0) 26 then refresh t f x.1 else x.1, some f.2.2.result)
    | none => (x.1, none)

/-- The family and destination address of a routed frame (stage 2). -/
def routedAddr (s : State) (f : Nat) (x : Arrival) (r : Parsed) : Option (Bool × Nat) :=
  let slot := fld s (fwdR f 0) 10 8
  if !r.layers.has slot then none
  else
    let node := (r.layers.look (0, 0) slot).1
    if node = fld s (fwdR f 4) 15 8 then some (false, wordSource x r (fld s (fwdR f 0x30) 5 0))
    else if node = fld s (fwdR f 4) 7 0 then
      some (true, (upTo 4).foldl (fun a i => a * 2 ^ 32 + wordSource x r (fourCode s (fwdR f 0x34) i)) 0)
    else none

/-- Stages 2 to 4 for a frame routed in a VRF: the result and the classes raised. -/
def route (f vrf : Nat) (x : Arrival) (r : Parsed) (s : State) : State × BitVec 96 × List Nat :=
  let miss := fun (y : State) => (y, result96 y (fwdR f 0x50), [5])
  match routedAddr s f x r with
  | none => miss s
  | some (v6, addr) =>
    let t := fld s (fwdR f 0) 19 16
    let host : State × Option (BitVec 96) :=
      if !v6 && bitAt s (fwdR f 0) 28 && canWords s t == 2 then stageSearch t [vrf, addr] s else (s, none)
    match host.2 with
    | some w => (host.1, w, [])
    | none =>
      let y := stage4 x.up v6 vrf addr host.1
      match y.2 with
      | some w => (y.1, w, [])
      | none => miss y.1

/-- The learn search of an upstream frame (R308): the class it raises, if any. -/
def learnSearch (f : Nat) (x : Arrival) (r : Parsed) (s : State) : State × List Nat :=
  let t := fld s (fwdR f 0) 23 20
  if !x.up || !bitAt s (fwdR f 0) 30 || !canOn s || !canOnT s t then (s, [])
  else
    let key := lookupKey s t (fwdR f 0xC) (fwdR f 0x20) x r
    let owner := 4 * x.block + x.sub
    let y := canSearch t key s
    let tpl := (result96 s (fwdR f 0x60)).toNat
    let res := BitVec.ofNat 96 (withBits tpl 63 48 (learnQueue s tpl x.block x.sub))
    let learn : Learn := { table := t, key := key, owner := owner, result := res, copy := copyOf s x r }
    match y.2 with
    | none => (queueLearn learn y.1, [])
    | some e =>
      if e.2.2.owner = owner then (if bitAt s (canR t 0) 25 then refresh t e y.1 else y.1, [])
      else if e.2.2.isStatic then (y.1, [6])
      else (queueLearn learn y.1, [])

/-- The lookup of a frame: its result and the classes it raises. -/
def lookupFrame (x : Arrival) (r : Parsed) (s : State) : State × BitVec 96 × List Nat :=
  let s0 := bump64 (if x.up then 0x04004000 else 0x04004008) 1 s
  let f := if x.up then fld s (0x04000100 + 4 * x.block) 3 0 else fld s (0x04000180 + 4 * x.port) 3 0
  let l2 := fun (y : State) => (y, result96 y (fwdR f 0x40), [4])
  if !bitAt s (fwdR f 0) 31 then l2 s0
  else
    let t := fld s (fwdR f 0) 23 20
    let d := stageSearch t (lookupKey s t (fwdR f 8) (fwdR f 0x10) x r) s0
    let l := learnSearch f x r d.1
    let out := match d.2 with
      | none => l2 l.1
      | some w =>
        if !w.getLsbD 93 then (l.1, w, [])
        else if bitAt s (fwdR f 0) 29 then route f (bits w.toNat 91 80) x r l.1
        else l2 l.1
    (out.1, out.2.1, out.2.2 ++ l.2)

/-! ### Applying the result (R294) -/

/-- Where a frame goes. -/
inductive Target where
  | none_
  | drop
  | queue (q : Nat)
  | group (g : Nat)
  deriving DecidableEq, Repr

/-- The queue after the hash profile, if one is named and enabled; none for PATH_UNUSABLE (R279, R280). -/
def hashedQueue (s : State) (x : Arrival) (r : Parsed) (toTrunk : Bool) (profile : Option Nat) (q : Nat) : Option Nat :=
  match profile with
  | none => some q
  | some h => if profOn s h then entryQueue s x toTrunk (reg64 s (indR h (hashIndex s h x r))) else some q

/-- A result's target and the classes that applying it raises. -/
def applyResult (s : State) (x : Arrival) (r : Parsed) (m : RuleResult) (w : Nat) : Target × List Nat :=
  let q := bits w 63 48
  let profile := m.hash.orElse fun _ => if w.testBit 46 then some (bits w 45 40) else none
  match bits w 95 94 with
  | 0 => (.drop, [])
  | 3 => (.none_, [7])
  | 1 =>
    if !x.up then (.none_, [3])
    else match hashedQueue s x r true profile q with
      | some k => (.queue k, [])
      | none => (.none_, [3])
  | _ =>
    match hashedQueue s x r false profile q with
    | none => (.none_, [3])
    | some k =>
      if w.testBit 47 then (.group k, [])
      else if 2048 ≤ k ∨ paired s (k / 64) then (.none_, [3])
      else (.queue (65536 + k), [])

/-! ### Traffic class and metering (R344, R354 to R356) -/

def trafficClass (s : State) (x : Arrival) (r : Parsed) (m : RuleResult) : Nat :=
  let a := if x.up then 0x06000400 + 4 * x.block else 0x06000480 + 4 * x.port
  match m.tc, r.vlans with
  | some c, _ => c
  | none, tag :: _ => if bitAt s a 31 then (let v := bits tag 15 13; fld s a (3 * v + 2) (3 * v)) else fld s a 26 24
  | none, [] => fld s a 26 24

/-- Pre-colour of a frame under a meter's PRECOL. -/
def preColour (w : Nat) (r : Parsed) : Colour :=
  match bits w 29 28 with
  | 1 => match r.vlans with
    | tag :: _ => if tag.testBit 12 then .yellow else .green
    | [] => .green
  | 2 => match r.containers.look 0 (bits w 21 18) % 4 with
    | 1 => .yellow
    | 2 => .red
    | _ => .green
  | _ => .green

/-- A frame at its meter: the state, its traffic class after a remark, whether it passes. -/
def meterArrival (k : Nat) (x : Arrival) (r : Parsed) (tc : Nat) (s : State) : State × Nat × Bool :=
  let w := (meterOf s k).word 0
  let y := meterFrame k (preColour w r) x.bytes.length s
  match y.2 with
  | .green => (y.1, tc, true)
  | .red => if w.testBit 25 then (y.1, tc, true) else (bump64 0x06000818 1 y.1, tc, false)
  | .yellow => match bits w 27 26 with
    | 1 => (bump64 0x06000820 1 y.1, tc, false)
    | 2 => (bump64 0x06000828 1 y.1, bits w 24 22, true)
    | _ => (y.1, tc, true)

/-! ### The whole path of one frame -/

/-- Admission of a forwarded frame by requester req (R323, R327, R330). -/
def admitArrival (req : Nat) (x : Arrival) (w : Nat) (m : RuleResult) (tc : Nat) (t : Target) (s : State) : State :=
  let stream := if x.up then m.stream.getD (bits w 79 64) else bits w 79 64
  let f : Stored := { bytes := x.bytes, owner := 0, pool := 0, hbm := false, queue := 0, gran := 0, refs := 0,
                      dtid := bits w 91 80, stream := stream, tc := tc }
  match t with
  | .group g => admitGroup req f g s
  | .queue q =>
    let o := if x.up then fld s (0x05006000 + 4 * (32 * x.block + 8 * x.sub + tc)) 8 0
      else fld s (0x05007000 + 4 * (q - 65536)) 8 0
    admitFrame req { f with owner := o } q s
  | _ => s

/-- A classified frame that is to be forwarded is looked up, decided, metered and admitted. -/
def lookupAndSend (req : Nat) (x : Arrival) (r : Parsed) (raised : List Nat) (m : RuleResult) (s : State) : State :=
  let l := lookupFrame x r s
  let w := l.2.1.toNat
  let t := applyResult l.1 x r m w
  let s1 := if t.1 = .drop then bump64 0x04004010 1 l.1 else l.1
  let d := decide284 (raised ++ l.2.2 ++ t.2) false (copyOf s1 x r) s1
  if !d.2 || t.1 == .drop || t.1 == .none_ then d.1
  else
    let tc := trafficClass d.1 x r m
    let y := match m.meter with
      | some k => meterArrival k x r tc d.1
      | none => (d.1, tc, true)
    if y.2.2 then admitArrival req x w m y.2.1 t.1 y.1 else y.1

/-- The counts and events of a parse (R290). -/
def countParse (up : Bool) (r : Parsed) (s : State) : State :=
  let s1 := bump64 (if up then 0x03000200 else 0x03000208) 1 s
  let s2 := if r.truncated then pgEvent 3 (bump 0x03000210 1 s1) else s1
  let s3 := if r.conflict then pgEvent 2 (bump 0x03000214 1 s2) else s2
  if r.frag then bump 0x03000218 1 s3 else s3

/-- A restore in progress of a structure that the path of a frame reads, the keys of a downstream frame among them (R473): whether a
frame meets the failing entry is free. -/
def meetsFailing (up : Bool) (s : State) : Bool := s.faults.restoring.any fun x => [4, 5, 6, 7, 9].contains x.1 || (!up && x.1 == 0xB)

/-- A frame's whole path by requester req. -/
def forwardFrame (req : Nat) (x : Arrival) (s : State) : State :=
  if !bitAt s 0x03000000 0 then bump 0x0300021C 1 s
  else if meetsFailing x.up s && freeBit s then bump 0x510C 1 (drawn s)
  else
    let r := parseFrame s x
    let s1 := countParse x.up r (if meetsFailing x.up s then drawn s else s)
    if r.conflict then (decide284 [0] false (copyOf s1 x r) s1).1
    else
      let c := classifyFrame x r s1
      let raised := (if r.truncated then [1] else []) ++ (if r.frag then [2] else []) ++ c.2.classes
      let s2 := if c.2.drop then bump64 0x03104000 1 c.1 else c.1
      let go := !c.2.drop && raised.all fun k => decide (strength (excAction s2 k) ≤ 1)
      if go then lookupAndSend req x r raised c.2 s2
      else (decide284 raised c.2.drop (copyOf s2 x r) s2).1

/-! ### Pipelines (R226, R266) -/

/-- The first pipeline of a direction that holds no waiting frame, as a requester. -/
def freePipe (s : State) (up : Bool) : Option Nat :=
  ((upTo 10).map fun i => if up then i else 10 + i).find? fun r => !(s.buf.waiting.any fun w => w.requester == r)

/-- The weight of block b's FIFO: its sub-ports' line rates together, in units of 200 Gb/s (R226). -/
def fifoWeight (s : State) (b : Nat) : Nat := modeSubs (portMode s b) * rateUnits s b

/-- The FIFO that gives the next frame, and the rotation after it: the one whose turn it is gives as many frames as its weight
says, then the next that holds one follows (R226; the unit of the rotation is the model's, log entry 94). -/
def nextFifo (s : State) : Option (Nat × Nat × Nat) :=
  let t := s.buf.turn
  if t.2 < fifoWeight s t.1 && !(fifoOf s t.1).isEmpty then some (t.1, t.1, t.2 + 1)
  else (((upTo 32).map fun i => (t.1 + 1 + i) % 32).find? fun b => !(fifoOf s b).isEmpty).map fun b => (b, b, 1)

/-- Frames that wait before the upstream pipelines are taken in their rotation while a pipeline is free. The fuel is the number
of frames that wait. -/
def takeUp : Nat → State → State
  | 0, s => s
  | k + 1, s => match freePipe s true, nextFifo s with
    | some r, some (b, turn) => match fifoOf s b with
      | [] => s
      | x :: rest =>
        let s1 := { setFifo b rest s with buf := { s.buf with turn := turn } }
        takeUp k (pressureSettle b x.sub (forwardFrame r x s1))
    | _, _ => s

/-- Frames that wait in Shroud's output are taken in order. -/
def takeDown : Nat → State → State
  | 0, s => s
  | k + 1, s => match freePipe s false, s.shrOut with
    | some r, x :: rest => takeDown k (forwardFrame r x { s with shrOut := rest })
    | _, _ => s

/-- Frames of the processor path ask for room in order; one that waits holds back the later ones (R332, R333). -/
def takeCpu : Nat → State → State
  | 0, s => s
  | k + 1, s => match s.buf.cpu with
    | [] => s
    | (f, q) :: rest =>
      if s.buf.waiting.any fun w => w.requester == 20 then s
      else takeCpu k (admitFrame 20 f q { s with buf := { s.buf with cpu := rest } })

/-- A frame of the processor path asks for room as requester 20, behind those that it holds back. -/
def processorFrame (f : Stored) (q : Nat) (s : State) : State :=
  takeCpu (s.buf.cpu.length + 1) { s with buf := { s.buf with cpu := s.buf.cpu ++ [(f, q)] } }

/-- Every frame that can be taken is. -/
def takeAll (s : State) : State :=
  pfcSettle (takeCpu s.buf.cpu.length (takeDown s.shrOut.length (takeUp (total ((upTo 32).map fun b => (fifoOf s b).length)) s)))

/-! ### Cells for a frame that waits (R332, R333) -/

/-- The frame of requester r no longer waits. -/
def endWait (r : Nat) (s : State) : State := { s with buf := { s.buf with waiting := s.buf.waiting.filter (·.requester != r) } }

/-- The rotation of pool k goes on after requester r (R332). -/
def turnPool (k r : Nat) (s : State) : State := { s with buf := { s.buf with rotation := s.buf.rotation.put k ((r + 1) % 21) } }

/-- What requester r holds for its waiting frame becomes f of it. -/
def holdMore (r : Nat) (f : Waiting → Waiting) (s : State) : State :=
  { s with buf := { s.buf with waiting := s.buf.waiting.map fun x => if x.requester = r then f x else x } }

/-- A waiting frame that has what it needs is stored. -/
def endWaiting (w : Waiting) (s : State) : State := storeFrame w.frame w.queues (endWait w.requester s)

/-- One page for a frame that waits for its place in the HBM; with its last it is stored (R332, R337). -/
def grantPage (w : Waiting) (s : State) : State :=
  let missing := pagesMissing s w.frame
  if missing.isEmpty then (if pagesFit s w.frame then endWaiting w s else s)
  else if pagesFree s w.frame = 0 then s
  else
    let s1 := turnPool w.frame.pool w.requester (holdMore w.requester (fun x => { x with pages := x.pages ++ missing.take 1 }) s)
    if missing.length = 1 then endWaiting w s1 else s1

/-- One cell for a frame that waits on-die: from the owner's reserve, counted where the cycle's contest for the shared ones is lost, or
from the shared region (R328, R332). -/
def grantCell (contest : Bool) (w : Waiting) (s : State) : State :=
  let k := w.frame.pool
  if cellsFree s w.frame.owner 1 = 0 then s
  else
    let s1 := if ownUse s w.frame.owner < ownRsv s w.frame.owner then
        (if contest && decide (fld s (poolR k 4) 19 0 ≤ poolUse s k) then bump 0x05000838 1 s else s)
      else turnPool k w.requester s
    if w.got + 1 = cellsOf w.frame then endWaiting w s1 else holdMore w.requester (fun x => { x with got := x.got + 1 }) s1

/-- One cell or page for a waiting frame. -/
def grantOne (contest : Bool) (w : Waiting) (s : State) : State := if w.frame.hbm then grantPage w s else grantCell contest w s

/-- CELL_REQUEST: one cycle of pool k, in rotating priority from its pointer. More than one requester, and more than there are shared
cells, is a contest (R332; DESIGN CHOICE, log entry 223). A cycle with a frame kept out by a full staging area counts once (R336). -/
def cellCycle (k : Nat) (s : State) : State :=
  let p := s.buf.rotation.look 0 k
  let order := (upTo 21).map fun i => (p + i) % 21
  let ws := order.filterMap fun r => s.buf.waiting.find? fun w => w.requester == r && w.frame.pool == k
  let n := (ws.filter fun w => !w.frame.hbm).length
  let contest := decide (2 ≤ n) && decide (fld s (poolR k 4) 19 0 - poolUse s k < n)
  let s1 := if ws.any fun w => w.frame.hbm && !stageFits s w.frame then spillStall s else s
  takeAll (bufSettle (forAll (grantOne contest) ws s1))

/-- A new frame of the processor path, where there is one, asks for room: its owner is CPU_OWNER, and it may ask for a stamp (R234,
R323, R332). -/
def joinCpu (fresh : Option CpuFrame) (s : State) : State :=
  match fresh with
  | none => s
  | some f => processorFrame { bytes := f.bytes, owner := fld s 0x05000024 8 0, pool := 0, hbm := false, queue := 0, gran := 0, refs := 0,
                               tsTag := f.tag.map (·.toNat) } (65536 + f.queue) s

/-- CELL_REQUEST: a new frame of the processor path, where there is one, asks for its cells, then pool k has its cycle. -/
def execCellRequest (c : CellCycle) (s : State) : Host.Outcome State Fault Refusal :=
  .next (onlyIf (coreOn s) (fun x => cellCycle c.pool (joinCpu c.fresh x)) s)

/-- CELL_WAIT_EXPIRY: the frame of requester r is dropped once its bound is over (R333). -/
def waitExpiry (k r : Nat) (s : State) : State :=
  match s.buf.waiting.find? fun w => w.requester == r && w.frame.pool == k with
  | none => s
  | some w =>
    if coreNow s < w.since + 80 * fld s (poolR k 0) 15 0 then s
    else
      let s1 := bufSettle (givePlace w.frame (endWait r s))
      takeAll (bufEvent 2 (bump64 (0x05000A00 + 8 * k) 1 (bump 0x05000830 1 s1)))

def execCellWaitExpiry (pool : Fin 64) (r : Fin 21) (s : State) : Host.Outcome State Fault Refusal :=
  .next (onlyIf (coreOn s) (waitExpiry pool r) s)

end Sys2Proof.Machine
end

