-- ==== Sys2Proof/Machine/Shroud.lean ====
section
/-! DEFINITION. Shroud's key epochs, root keys, signatures and job engine (ch. 14). -/
namespace Sys2Proof.Machine
open Sys2Proof

/-! ### Key epochs (R379 to R382) -/

/-- Root slot n may serve envelopes: loaded with USE ENVELOPE or BOTH. -/
def rootFor (s : State) (n use : Nat) : Bool :=
  match rootKey s n with
  | some r => r.use.testBit use
  | none => false

/-- KEY_ROTATE (R379): the reply OK waits for the upstream key. -/
def keyRotate (p : Nat) (t : TmmIn) (s : State) : State :=
  let e := tf t.bits 351 350
  let root := tf t.bits 349 345
  let sf := tf t.bits 344 294
  let k := portKeys s p
  let clash : Bool := match k.pend with
    | some r => r.epoch != e || decide (sf ≤ r.sf) || r.dn
    | none => false
  if ((regnOf s p).version = 2 ∧ 2 ≤ e) ∨ !frameInReach false s p t sf ∨ k.tx = some e ∨ clash then answer p t 3 [] s
  else if !rootFor s root 0 then answer p t 5 [] s
  else
    let key : Epoch := { root := root, label := BitVec.ofNat 192 (tf t.bits 293 102) }
    let s1 := setPortKeys p { k with pend := some { epoch := e, key := key, sf := sf, dn := false } } s
    pinKey (.env p true e (ownId s p)) p t (remember p t.bits t.sf none s1)

def execKeyRotate (p : Fin 16) (s : State) : Host.Outcome State Fault Refusal :=
  .next (onlyIf (coreOn s) (withTmm p 0x09 (fun x _ => inService x p) (keyRotate p)) s)

/-- KEY_DERIVED: the oldest derivation completes and fills the cache; a KEY_ROTATE that waited for it is answered
(R378, R379). -/
def keyDerived (s : State) : State :=
  match s.shr.deriv with
  | [] => s
  | (k, w) :: rest =>
    let s1 := bump64 0x07002000 1 { s with shr := { s.shr with deriv := rest, cache := k :: evict s (s.shr.cache.filter (· != k)) } }
    match w with
    | some (p, t) => answer p t 0 [] s1
    | none => s1

def execKeyDerived (s : State) : Host.Outcome State Fault Refusal := .next (onlyIf (coreOn s) keyDerived s)

def execEpochDownstreamEffect (p : Fin 16) (s : State) : Host.Outcome State Fault Refusal :=
  .next (onlyIf (coreOn s) (epochDown p) s)

/-- EPOCH_COMPLETE at the start of upstream frame SF_EFF (R380); a port that has lost its upstream timing since has no such start
to wait for. -/
def epochUp (p : Nat) (s : State) : State :=
  match (portKeys s p).pend with
  | some r =>
    if r.dn && (!hasUpstream s p || decide (upStart s p r.sf (halEqd s p r.sf) ≤ lineNow s p)) then rotationDone p s else s
  | none => s

def execEpochComplete (p : Fin 16) (s : State) : Host.Outcome State Fault Refusal := .next (onlyIf (coreOn s) (epochUp p) s)

/-! ### Root keys (R374, R375) -/

/-- One step of the unwrapping of SP 800-38F (RFC 3394), from step t down: A and the four registers. -/
def unwrapSteps (kek : List Byte) : Nat → Nat → List Nat → Nat × List Nat
  | 0, a, r => (a, r)
  | t + 1, a, r =>
    let i := t % 4
    let b := ofBytes (aesDec kek (toBytes 8 (a ^^^ (t + 1)) ++ toBytes 8 (r.getD i 0)))
    unwrapSteps kek t (b / 2 ^ 64 % 2 ^ 64) (r.set i (b % 2 ^ 64))

/-- The 32-byte key that 40 wrapped bytes give under the KEK, if the integrity check passes (R374). -/
def unwrapKey (w : List Byte) : Option (List Byte) :=
  let r := unwrapSteps Config.wrapKey 24 (ofBytes (w.take 8)) ((List.range 4).map fun i => ofBytes (slice w (8 + 8 * i) 8))
  if r.1 = 0xA6A6A6A6A6A6A6A6 then some (r.2.flatMap (toBytes 8)) else none

/-- An installed or pending epoch of some port names slot n (R375). -/
def rootNamed (s : State) (n : Nat) : Bool :=
  (upTo 16).any fun p =>
    (portKeys s p).inst.any (fun e => match e.2 with | some x => x.root == n | none => false) ||
    (match (portKeys s p).pend with | some r => r.key.root == n | none => false)

/-- KCV of a root key (R374). -/
def kcvOf (key : List Byte) : Nat := ofBytes ((Config.kmac256 32 key [0x4B, 0x43, 0x56] []).take 2)

/-- Slot n holds x, and job keys derived from it leave the cache (R375). -/
def setRoot (n : Nat) (x : Option RootKey) (s : State) : State :=
  shrEvent 4 (dropKeys (fun c => match c with | .job r _ _ => r == n | .env _ _ _ _ => false)
    { s with shr := { s.shr with roots := s.shr.roots.put n x } })

/-- The atomic load of a slot: its status (R375). -/
def rootLoad (n use : Nat) (w : List Byte) (s : State) : State × Nat :=
  if 32 ≤ n ∨ use = 0 ∨ 4 ≤ use then (s, 3)
  else if rootNamed s n then (s, 1)
  else match unwrapKey w with
    | none => (s, 7)
    | some k => (setRoot n (some { key := k, use := use, kcv := kcvOf k }) s, 0)

/-- The atomic clear of a slot: its status (R375). -/
def rootClear (n : Nat) (s : State) : State × Nat :=
  if 32 ≤ n then (s, 3) else if rootNamed s n then (s, 1) else (setRoot n none s, 0)

/-- SHR_ROOT_LOAD: slot, USE, 40 bytes (R391, R528). -/
def cmdRootLoad (r : MbRequest) (s : State) : MbAnswer :=
  let x := rootLoad (r.arg 0) (r.arg 1) (bytesOfWords (slice r.body 2 10)) s
  mbStatus x.2 x.1
/-- SHR_ROOT_CLEAR. -/
def cmdRootClear (r : MbRequest) (s : State) : MbAnswer := let x := rootClear (r.arg 0) s; mbStatus x.2 x.1

def execShrRootLoad (i : Fin 2) (s : State) : Host.Outcome State Fault Refusal := .next (onlyIf (coreOn s) (mbRun i 0x70 cmdRootLoad) s)
def execShrRootClear (i : Fin 2) (s : State) : Host.Outcome State Fault Refusal := .next (onlyIf (coreOn s) (mbRun i 0x71 cmdRootClear) s)

/-! ### XMSS (R387 to R391) -/

/-- The higher record of the two flashes, or −1, plus 1 (R389). -/
def recordNext (s : State) : Nat :=
  let r := fun f => match lastRecord (flashOf s f) 0x20000 with | some (_, b) => b + 1 | none => 0
  (goodFlashes s).foldl (fun n f => max n (r f)) 0
/-- The block that the next reservation takes (R389 step 2). -/
def nextBlock (s : State) : Nat := max s.shr.fuses (recordNext s)
/-- XMSS_EXHAUSTED (R390). -/
def exhaust (s : State) : State :=
  if s.shr.exhausted then s else shrEvent 9 { s with shr := { s.shr with exhausted := true, block := none } }

/-- A block reserved (R389): the fuses are blown and verified, the record appended on both flashes. Whether a fuse bit
verifies is a free value. -/
def reserveBlock (s : State) : State × Nat :=
  let b := nextBlock s
  if 1024 ≤ b then (exhaust s, 8)
  else if freeBit s then
    -- How many of the bits before the failing one are blown is free.
    ({ drawn s with shr := { s.shr with fuses := s.shr.fuses + freeVal s / 2 % (b + 1 - s.shr.fuses) } }, 9)
  else
    let s0 := forAll (fun f => appendRecord f 0x20000 b) (goodFlashes s) (drawn s)
    let s1 := flashWrites { s0 with
      shr := { s.shr with fuses := b + 1, block := some b, nextIdx := 1024 * b
                          flashRec := s.shr.flashRec || !(flashUp s 0 && flashUp s 1) } }
    (if 1024 < b + 17 then shrEvent 8 s1 else s1, 0)

/-- The attestation report with index n (R391). -/
def report (nonce : List Byte) (n : Nat) (s : State) : List Byte :=
  let dig := fun (l : List Byte) => slice (l ++ List.replicate 32 0) 0 32
  toBytes 8 (devId s) ++ nonce ++ toBytes 4 (regN s 0x108) ++ toBytes 8 s.uptime ++
    dig s.boot.fwDigest ++ dig s.boot.hwmDigest ++ dig s.boot.boardDigest ++ toBytes 4 n

/-- One index is used, for the signature it makes (R389, R390). -/
def takeIndex (s : State) : State :=
  let n := s.shr.nextIdx + 1
  let full := n % 1024 == 0
  let s1 := bump 0x0700201C 1 { s with shr := { s.shr with nextIdx := n, block := if full then none else s.shr.block } }
  if full && s.shr.fuses == 1024 then exhaust s1 else s1

/-- SHR_ATTEST (R389 to R391). -/
def cmdAttest (r : MbRequest) (s : State) : MbAnswer :=
  if !s.shr.xmssReady then mbStatus 1 s
  else if s.shr.exhausted then mbStatus 8 s
  else
    let x := if s.shr.block.isSome then (s, 0) else reserveBlock s
    if x.2 ≠ 0 then mbStatus x.2 x.1
    else
      let n := x.1.shr.nextIdx
      let rep := report (bytesOfWords (r.body.take 8)) n x.1
      { state := takeIndex x.1, status := 0, body := wordsOf rep ++ wordsOf (Config.xmssSign n rep).toList }

/-- SHR_IDENTITY (R391, R528). -/
def cmdIdentity (_ : MbRequest) (s : State) : MbAnswer :=
  { state := s, status := 0
    body := [regN s 0x10008, regN s 0x1000C] ++ wordsOf Config.xmssPublicKey.toList ++ (Config.certificate.length :: wordsOf Config.certificate) }

def execShrAttest (i : Fin 2) (s : State) : Host.Outcome State Fault Refusal := .next (onlyIf (coreOn s) (mbRun i 0x72 cmdAttest) s)
def execShrIdentity (i : Fin 2) (s : State) : Host.Outcome State Fault Refusal := .next (onlyIf (coreOn s) (mbRun i 0x73 cmdIdentity) s)

/-- XMSS_READY: the traversal state is rebuilt (R389). -/
def xmssUp (s : State) : State :=
  let s1 := { s with shr := { s.shr with xmssReady := true, nextIdx := if s.shr.block.isSome then s.shr.nextIdx else 1024 * nextBlock s } }
  if s.shr.fuses = 1024 ∧ s.shr.block.isNone then exhaust s1 else s1

def execXmssReady (s : State) : Host.Outcome State Fault Refusal := .next (onlyIf (coreOn s) xmssUp s)

/-! ### Job rings (R383) -/

/-- JR_PROD and JR_CONS of ring r. -/
def jrProdR (r : Nat) : Nat := 0x07000400 + 0x10 * r
def jrConsR (r : Nat) : Nat := 0x07000404 + 0x10 * r
/-- Word k of descriptor d of ring r. -/
def jobR (r d k : Nat) : Nat := 0x07100000 + 0x4000 * r + 64 * d + 4 * k
/-- Descriptors pending between two indexes of a ring of n (R303). -/
def ringPending (prod cons n : Nat) : Nat := (prod + n - cons) % n

/-- The descriptor at the consumer index of ring r, if one is pending and JOB_EN is 1. -/
def jobHead (s : State) (r : Nat) : Option Nat :=
  let c := fld s (jrConsR r) 7 0
  if bitAt s 0x07000000 1 && fld s (jrProdR r) 7 0 != c then some c else none

/-- A job ends: completion words, consumer index, counters and events (R383, R303). -/
def jobEnd (r d status outLen : Nat) (s : State) : State :=
  let s1 := setRegN (jobR r d 14) outLen (setRegN (jobR r d 1) (2 ^ 31 + status * 2 ^ 16) s)
  let s2 := shrEvent 6 (bump64 0x07002010 1 (setRegN (jrConsR r) ((d + 1) % 256) s1))
  if status = 0 then s2 else shrEvent 7 (bump 0x07002018 1 s2)

/-- Descriptors with a reserved MODE end as BAD_ARG when they come to the head of their ring (R384). -/
def skipReserved (r : Nat) : Nat → State → State
  | 0, s => s
  | k + 1, s => match jobHead s r with
    | some d =>
      let m := fld s (jobR r d 0) 31 28
      if m = 0 ∨ 4 < m then skipReserved r k (jobEnd r d 3 0 s) else s
    | none => s

/-- A write of JR_PROD: it submits, unless it would reduce what is pending (R383, R303). -/
def writeJrProd (r : Nat) (v : Word) (s : State) : State :=
  let c := fld s (jrConsR r) 7 0
  let n := bits v.toNat 7 0
  if ringPending n c 256 < ringPending (fld s (jrProdR r) 7 0) c 256 then s
  else skipReserved r 256 (setRegN (jrProdR r) n s)

/-- Address a lies in a pending job descriptor: a write has no effect (R383, R303). -/
def jobPending (s : State) (a : Nat) : Bool :=
  let r := (a - 0x07100000) / 0x4000
  let c := fld s (jrConsR r) 7 0
  within 0x07100000 0x10000 a &&
    decide (ringPending ((a - 0x07100000) % 0x4000 / 64) c 256 < ringPending (fld s (jrProdR r) 7 0) c 256)

def execJrProdWrite (r : Fin 4) (val : Word) (s : State) : Host.Outcome State Fault Refusal :=
  .next (onlyIf (coreOn s) (writeJrProd r val) s)

/-! ### Jobs (R384 to R386) -/

/-- A job's descriptor. -/
structure Job where
  decrypt : Bool
  first : Bool
  last : Bool
  ksrc : Bool
  root : Nat
  inTgt : Bool
  outTgt : Bool
  len : Nat
  aadLen : Nat
  inAddr : Nat
  outAddr : Nat
  aux : Nat
  iv : List Byte
  deriving DecidableEq, Repr

def jobOf (s : State) (r d : Nat) : Job :=
  let w := regN s (jobR r d 0)
  { decrypt := w.testBit 27, first := w.testBit 26, last := w.testBit 25, ksrc := w.testBit 24, root := bits w 20 16
    inTgt := w.testBit 1, outTgt := w.testBit 0, len := regN s (jobR r d 2), aadLen := regN s (jobR r d 3)
    inAddr := reg64 s (jobR r d 4), outAddr := reg64 s (jobR r d 6), aux := reg64 s (jobR r d 8)
    iv := (List.range 4).flatMap fun k => toBytes 4 (regN s (jobR r d (10 + k))) }

/-- What a job answers: the state with its output written, its status and its output bytes. -/
abbrev JobResult := State × Nat × Nat

/-- The key of n bytes, 32 or 64: at AUX, or derived under R376 with DIR 0x02 (R383, R384). -/
def jobKey (j : Job) (n : Nat) (s : State) : State × Option (List Byte) :=
  if j.ksrc then (s, some (dmaRead j.outTgt j.aux n s))
  else match rootKey s j.root with
    | none => (s, none)
    | some rk =>
      if !rk.use.testBit 1 then (s, none)
      else
        let label := BitVec.ofNat 192 (ofBytes (dmaRead j.outTgt j.aux 24 s))
        let block := fun i => Config.kmac256 32 rk.key [] (toBytes 4 i ++ [0x53, 0x48, 0x52, 0x4F, 0x55, 0x44, 0x2D, 0x45, 0x4E, 0x56] ++
          [0] ++ toBytes 24 label.toNat ++ [2] ++ toBytes 2 (Config.jobKdfId % 4096) ++ [BitVec.ofNat 8 Config.jobKdfEpoch] ++ toBytes 4 (8 * n))
        (useKey (.job j.root label (8 * n)) s, some (if n = 32 then block 1 else block 1 ++ block 2))

/-- A job turned away, with nothing written. -/
def jobReject (status : Nat) (s : State) : JobResult := (s, status, 0)

/-- GHASH taken on over whole blocks. -/
def hashOn (key : List Byte) (y : Nat) (l : List Byte) : Nat :=
  let p := padBlocks l
  ghash (ofBytes (aesEnc key (List.replicate 16 0))) (p.length / 16) y p

/-- A segment's state after text, and its output, by the counter mode of its operation. -/
def segmentRun (gcm : Bool) (key : List Byte) (x : Segment) (data : List Byte) : Segment × List Byte :=
  let n := ceilDiv data.length 16
  let out := if gcm then gctr key x.counter.toNat data else ctrCrypt key x.counter.toNat data
  let c := x.counter.toNat
  ({ counter := BitVec.ofNat 128 (if gcm then c / 2 ^ 32 * 2 ^ 32 + (c + n) % 2 ^ 32 else c + n)
     hash := if gcm then BitVec.ofNat 128 (hashOn key x.hash.toNat out) else x.hash
     aad := x.aad, text := x.text + BitVec.ofNat 64 data.length }, out)

/-- The tag that ends a GCM operation, whose counter blocks carry its IV. -/
def segmentTag (key : List Byte) (x : Segment) : List Byte :=
  let y := hashOn key x.hash.toNat (toBytes 8 (8 * x.aad.toNat) ++ toBytes 8 (8 * x.text.toNat))
  gctr key (x.counter.toNat / 2 ^ 32 * 2 ^ 32 + 1) (toBytes 16 y)

/-- The segment context as 48 bytes: the state under a free mask (R383, R386; log entry 225). -/
def contextBytes (x : Segment) : List Byte :=
  toBytes 48 ((x.counter ++ x.hash ++ x.aad ++ x.text) ^^^ Config.contextMask).toNat

/-- The state that 48 bytes of segment context hold. -/
def contextOf (l : List Byte) : Segment :=
  let v := BitVec.ofNat 384 (ofBytes l) ^^^ Config.contextMask
  { counter := v.extractLsb' 256 128, hash := v.extractLsb' 128 128, aad := v.extractLsb' 64 64, text := v.extractLsb' 0 64 }

/-- The state at the beginning of descriptor j: fresh with FIRST, else what the segment context at AUX holds (R386). -/
def segmentStart (gcm : Bool) (key : List Byte) (j : Job) (s : State) : Segment :=
  if j.first then
    let aad := if gcm then dmaRead j.outTgt (j.aux + 128) j.aadLen s else []
    { counter := if gcm then BitVec.ofNat 128 (ofBytes (j.iv.take 12) * 2 ^ 32 + 2) else BitVec.ofNat 128 (ofBytes j.iv)
      hash := if gcm then BitVec.ofNat 128 (hashOn key 0 aad) else 0
      aad := BitVec.ofNat 64 aad.length, text := 0 }
  else contextOf (dmaRead j.outTgt (j.aux + 80) 48 s)

/-- A segment's end: the context of one that another follows, the tag of the last one of a GCM operation (R383, R386). -/
def segmentEnd (gcm : Bool) (key : List Byte) (j : Job) (x : Segment) (s : State) : State :=
  if !j.last then dmaWrite j.outTgt (j.aux + 80) (contextBytes x) s
  else if gcm then dmaWrite j.outTgt (j.aux + 64) (segmentTag key x) s
  else s

/-- One segment of GCM encryption or of CTR: the engine's state comes from and goes to the segment context (R384, R386). -/
def segmentJob (gcm : Bool) (j : Job) (s : State) : JobResult :=
  if !j.last && j.len % 16 != 0 then jobReject 3 s
  else
    let k := jobKey j 32 s
    match k.2 with
    | none => jobReject 5 k.1
    | some key =>
      let x := segmentStart gcm key j k.1
      if gcm && decide (2 ^ 36 - 32 < x.text.toNat + j.len) then jobReject 8 k.1
      else
        let y := segmentRun gcm key x (dmaRead j.inTgt j.inAddr j.len k.1)
        (segmentEnd gcm key j y.1 (dmaWrite j.outTgt j.outAddr y.2 k.1), 0, j.len)

/-- GCM (R384 to R386): decryption is one descriptor, and its output is zeros where the tag fails. -/
def gcmJob (j : Job) (s : State) : JobResult :=
  if !j.decrypt then segmentJob true j s
  else if !(j.first && j.last) then jobReject 3 s
  else if 2 ^ 36 - 32 < j.len then jobReject 8 s
  else
    let k := jobKey j 32 s
    match k.2 with
    | none => jobReject 5 k.1
    | some key =>
      let iv := j.iv.take 12
      let aad := dmaRead j.outTgt (j.aux + 128) j.aadLen k.1
      let ct := dmaRead j.inTgt j.inAddr j.len k.1
      if gcmTag key iv aad ct = dmaRead j.outTgt (j.aux + 64) 16 k.1 then
        (dmaWrite j.outTgt j.outAddr (gcmText key iv ct) k.1, 0, j.len)
      else (dmaWrite j.outTgt j.outAddr (List.replicate j.len 0) k.1, 7, j.len)

/-- CBC encryption of k blocks. -/
def cbcEnc (key : List Byte) : Nat → List Byte → List Byte → List Byte
  | 0, _, _ => []
  | k + 1, prev, l =>
    let c := aesEnc key (xorBytes prev (l.take 16))
    c ++ cbcEnc key k c (l.drop 16)
/-- CBC decryption of k blocks. -/
def cbcDec (key : List Byte) : Nat → List Byte → List Byte → List Byte
  | 0, _, _ => []
  | k + 1, prev, l =>
    let c := l.take 16
    xorBytes prev (aesDec key c) ++ cbcDec key k c (l.drop 16)
/-- The length of the text before PKCS#7 padding, if the padding is valid (R385). -/
def unpadded (l : List Byte) : Option Nat :=
  let n := (l.getLastD 0).toNat
  if 1 ≤ n ∧ n ≤ 16 ∧ n ≤ l.length ∧ (l.drop (l.length - n)).all (·.toNat == n) then some (l.length - n) else none

/-- CBC with PKCS#7 padding (R384, R385). -/
def cbcJob (j : Job) (s : State) : JobResult :=
  if !(j.first && j.last) then jobReject 3 s
  else if j.decrypt && (j.len = 0 || j.len % 16 != 0) then jobReject 3 s
  else
    let k := jobKey j 32 s
    match k.2 with
    | none => jobReject 5 k.1
    | some key =>
      let data := dmaRead j.inTgt j.inAddr j.len k.1
      if j.decrypt then
        let out := cbcDec key (j.len / 16) j.iv data
        match unpadded out with
        | some n => (dmaWrite j.outTgt j.outAddr (out.take n) k.1, 0, n)
        | none => (dmaWrite j.outTgt j.outAddr (List.replicate j.len 0) k.1, 7, j.len)
      else
        let n := 16 - j.len % 16
        let text := data ++ List.replicate n (BitVec.ofNat 8 n)
        (dmaWrite j.outTgt j.outAddr (cbcEnc key (text.length / 16) j.iv text) k.1, 0, text.length)

/-- A tweak multiplied by α: the first byte least significant (IEEE 1619). -/
def xtsDouble (t : List Byte) : List Byte :=
  let n := 2 * ofBytesLe t
  toBytesLe 16 (if n < 2 ^ 128 then n else (n - 2 ^ 128) ^^^ 0x87)
/-- One block of XTS. -/
def xtsBlock (dec : Bool) (key t b : List Byte) : List Byte :=
  let x := xorBytes b t
  xorBytes (if dec then aesDec key x else aesEnc key x) t
/-- XTS over a data unit of 16 bytes or more from tweak t on, with ciphertext stealing; the fuel is its blocks. -/
def xtsRun (dec : Bool) (key : List Byte) : Nat → List Byte → List Byte → List Byte
  | 0, _, _ => []
  | k + 1, t, l =>
    if l.length < 32 && l.length != 16 then
      let t2 := xtsDouble t
      let tail := l.drop 16
      let a := xtsBlock dec key (if dec then t2 else t) (l.take 16)
      let b := xtsBlock dec key (if dec then t else t2) (tail ++ a.drop tail.length)
      b ++ a.take tail.length
    else xtsBlock dec key t (l.take 16) ++ (if l.length = 16 then [] else xtsRun dec key k (xtsDouble t) (l.drop 16))

/-- XTS (R384). -/
def xtsJob (j : Job) (s : State) : JobResult :=
  if !(j.first && j.last) || decide (j.len < 16) then jobReject 3 s
  else if 2 ^ 24 < j.len then jobReject 8 s
  else
    let k := jobKey j 64 s
    match k.2 with
    | none => jobReject 5 k.1
    | some key =>
      if key.take 32 = key.drop 32 then jobReject 3 k.1
      else
        let data := dmaRead j.inTgt j.inAddr j.len k.1
        let out := xtsRun j.decrypt (key.take 32) (j.len / 16) (aesEnc (key.drop 32) j.iv) data
        (dmaWrite j.outTgt j.outAddr out k.1, 0, j.len)

/-- CTR (R384, R386). -/
def ctrJob (j : Job) (s : State) : JobResult := segmentJob false j s

/-- Whether one of n bytes at address a of a job's target cannot be read or written: Crosstree's memory where a word of it fails
and is not restored yet; host memory without the PCIe link, or where the host reports an error (R385, R472; log entry 226). -/
def dmaFails (tgt : Bool) (a n : Nat) (s : State) : Bool :=
  if tgt then s.faults.restoring.any fun x => x.1 == 0x0C && decide (x.2 < a + n) && decide (a < x.2 + 8)
  else !s.ic.linkUp || Config.hostMemError s.fresh a n

/-- A memory error meets the data of job j: its input, its output or its auxiliary area (R385). -/
def jobFails (j : Job) (s : State) : Bool :=
  dmaFails j.inTgt j.inAddr j.len s || dmaFails j.outTgt j.outAddr (j.len + 16) s || dmaFails j.outTgt j.aux (128 + j.aadLen) s

/-- The job at the head of ring r, if it is of mode m, runs and ends; a memory error gives FAULT (R385). -/
def runJob (r m : Nat) (f : Job → State → JobResult) (s : State) : State :=
  let s0 := skipReserved r 256 s
  match jobHead s0 r with
  | none => s0
  | some d =>
    if fld s0 (jobR r d 0) 31 28 ≠ m then s0
    else
      let j := jobOf s0 r d
      let x := if jobFails j s0 then jobReject 9 s0 else f j s0
      skipReserved r 256 (jobEnd r d x.2.1 x.2.2 (if j.inTgt && j.outTgt then x.1 else drawn x.1))

def execJobGcm (r : Fin 4) (s : State) : Host.Outcome State Fault Refusal := .next (onlyIf (coreOn s) (runJob r 1 gcmJob) s)
def execJobCtr (r : Fin 4) (s : State) : Host.Outcome State Fault Refusal := .next (onlyIf (coreOn s) (runJob r 2 ctrJob) s)
def execJobCbc (r : Fin 4) (s : State) : Host.Outcome State Fault Refusal := .next (onlyIf (coreOn s) (runJob r 3 cbcJob) s)
def execJobXts (r : Fin 4) (s : State) : Host.Outcome State Fault Refusal := .next (onlyIf (coreOn s) (runJob r 4 xtsJob) s)

/-- CNT_CLR (R393). -/
def shrCntClr : State → State := zeroRegs fun a => within 0x07001000 0x400 a || within 0x07002000 0x20 a

def execShrCntClr (s : State) : Host.Outcome State Fault Refusal := .next (onlyIf (coreOn s) shrCntClr s)

end Sys2Proof.Machine
end

