-- ==== Sys2Proof/Machine/RegView.lean ====
section
/-! DEFINITION. What a register reads as where the state it shows is held elsewhere: status registers, levels and sums. -/
namespace Sys2Proof.Machine
open Sys2Proof

/-- Bits gathered by position: bit i of the sum is p i. -/
def maskOf (n : Nat) (p : Nat → Bool) : Nat := total ((upTo n).map fun i => bitN (p i) * 2 ^ i)

/-! ### Trunk ports -/

/-- State codes of registration (ch. 03). -/
def regCode : RegState → Nat
  | .init => 0 | .listen => 1 | .announce => 2 | .range => 3 | .operate => 4 | .hold => 5 | .silent => 6

def delinCode : Delin → Nat
  | .hunt => 0 | .presync => 1 | .sync => 2

/-- RG_STATUS (ch. 03). -/
def rgStatus (s : State) (p : Nat) : Nat :=
  let r := regnOf s p
  total [bitN (muzzled s p) * 2 ^ 29, bitN r.silence.isSome * 2 ^ 28, r.tid.getD 4095 * 2 ^ 16, r.version * 2 ^ 8,
    regCode r.ret * 16, regCode r.state]

/-- Framer, registration and Halyard registers of port p at offset o that show state. -/
def viewTrunk (s : State) (p o : Nat) : Option Nat :=
  let f := framer s p
  let r := regnOf s p
  let h := halyard s p
  match o with
  | 0x004 => some (total [maskOf 4 (fun i => (f.trackers.look none i).isSome) * 2 ^ 20, f.missRun * 2 ^ 17, bitN f.locked * 2 ^ 16, delinCode f.delin])
  | 0x010 => some f.raw.toNat
  | 0x014 => some (reported f.raw).toNat
  | 0x404 => some (rgStatus s p)
  | 0x408 => some r.eqd
  | 0x40C => some (match r.pend with | some c => c.eqd | none => 0)
  | 0x410 => some (match r.pend with | some c => c.sfEff | none => 0)
  | 0x414 => some (match r.pend with | some c => 2 ^ 31 + c.sfEff / 2 ^ 32 % 2 ^ 19 | none => 0)
  | 0x8004 => some (total [bitN h.txOpen * 2 ^ 31, bitN h.dozing * 2 ^ 30, bitN h.dozeInhibit * 2 ^ 29, h.grants.length])
  | 0x8010 => some h.horizon
  | 0x8014 => some (h.horizon / 2 ^ 32)
  | _ => none

/-- TXDIS_N of port p is low: Backstay drives it, or the board holds it (R161). -/
def pinLow (s : State) (p : Nat) : Bool :=
  match (guardOf s p).pin with
  | some high => !high
  | none => !txReleased s p

/-- P_STATUS: its latches as held, the rest as Backstay stands (R164). -/
def pStatus (s : State) (p : Nat) : Nat :=
  let held := regN s (bksR p 4)
  let g := guardOf s p
  let bit := fun (i : Nat) (b : Bool) (n : Nat) => withBits n i i (bitN b)
  bit 30 g.gateClosed (bit 29 (!txReleased s p) (bit 28 (pinLow s p) (bit 26 g.clkHold (bit 24 (!g.closedNow.isEmpty) held))))

/-! ### Lanes and client ports -/

/-- LANE_STATUS (R526). -/
def laneStatus (s : State) (l : Nat) : Nat :=
  let x := laneOf s l
  total [laneState s l * 2 ^ 28, bitN x.rxInv * 2 ^ 27, bitN (if x.txTrained then x.txInv else bitAt s (laneR l 0) 1) * 2 ^ 26, x.rxId % 16 * 2 ^ 22,
    x.txPos % 16 * 2 ^ 18, bitN x.isOpen * 2 ^ 17, bitN x.short * 2 ^ 16, bitN x.patLock * 2 ^ 15, bitN x.patRej * 2 ^ 14,
    x.tx * 2 ^ 10, x.rx * 2 ^ 6]

/-- WKN_STATUS: the combined state of the set's nine lanes, version, rate, NO_DOZE, fault. -/
def wknStatus (s : State) (p : Nat) : Nat :=
  let w := waiken s p
  let st := (setLanes p).foldl (fun a l => combine a (laneState s l)) (laneState s (128 + 8 * p))
  total [st * 2 ^ 28, w.version % 16 * 2 ^ 24, (if w.version = 0 then 0 else 2 ^ w.rate % 8) * 2 ^ 16, bitN w.noDoze * 256, w.fault % 256]

/-- PORT_STATUS of block b; MODE_REJ is held. -/
def portStatus (s : State) (b : Nat) : Nat :=
  regN s (cliR b 4) ||| (bitN (paired s b) * 2 ^ 30 + bitN (blockDark s b) * 2 ^ 29)

/-- Client registers at offset o of block b. -/
def viewClient (s : State) (b o : Nat) : Option Nat :=
  if o = 4 then some (portStatus s b)
  else if 0x1000 ≤ o ∧ o % 0x1000 = 4 ∧ o < 0x5000 then
    let u := o / 0x1000 - 1
    some (regN s (cliR b o) ||| bitN (training s b u) * 2 ^ 28 ||| bitN (lpiOk s b u) * 2 ^ 27)
  else none

/-! ### Rigid tributaries -/

/-- SLOT_STATUS of slot t. -/
def slotStatus (s : State) (t : Nat) : Nat :=
  let d := dnConn s t
  let es := activePage s
  let dn := (activeEntry s t true).isSome
  total [bitN (activeEntry s t false).isSome * 2 ^ 31, bitN dn * 2 ^ 30, bitN d.csf * 2 ^ 29,
    bitN (dn && (!d.playing || d.fifo.head? == some lfBlock)) * 2 ^ 28, bitN (slotConflict s es t false) * 2 ^ 27,
    bitN (slotConflict s es t true) * 2 ^ 26, min d.fifo.length 32767]

def viewTsi (s : State) (a : Nat) : Option Nat :=
  let t := s.tsi
  if a = 0x02400004 then
    some (total [t.active * 2 ^ 31, bitN t.pend.isSome * 2 ^ 30, bitN t.armed * 2 ^ 29, bitN t.wrRej * 2 ^ 28,
      (match t.pend with | some x => x.port | none => 0) * 2 ^ 16])
  else if a = 0x02400010 then some (match t.pend with | some x => x.sf | none => 0)
  else if a = 0x02400014 then some (match t.pend with | some x => x.sf / 2 ^ 32 | none => 0)
  else if within 0x02420000 20480 a then some (slotStatus s ((a - 0x02420000) / 4))
  else none

/-! ### Forwarding path -/

/-- Canopy's and the TCAM's status registers (ch. 11). -/
def viewCan (s : State) (a : Nat) : Option Nat :=
  let c := s.can
  if a = 0x04000004 then
    some (total [bitN (engineBusy s) * 2 ^ 31, bitN c.flush.isSome * 2 ^ 30, bitN c.wrRej * 2 ^ 29, c.walks.length * 2 ^ 16])
  else if a = 0x04000014 then some c.events.length
  else if within 0x04002000 0x400 a then
    let t := c.tables.look {} ((a - 0x04002000) / 0x40)
    match a % 0x40 with
    | 0x18 => some t.now
    | 0x1C => some t.on.length
    | 0x20 => some t.hbm.length
    | _ => none
  else if a = 0x04100004 then some (bitN c.tcamRej * 2 ^ 31 + total (c.banks.map fun b => b.2.length))
  else if within 0x04100100 256 a then some ((c.banks.look [] ((a - 0x04100100) / 4)).length)
  else none

/-- Buffer manager (ch. 12). While EN is 0 no list of free cells or pages stands, as FREE_CELLS and FREE_PAGES are 0 at reset (R342;
DEDUCED, log entry 222). -/
def viewBuf (s : State) (a : Nat) : Option Nat :=
  if a = 0x05000004 then some (withBits (regN s a) 30 30 (bitN s.buf.flush.isSome))
  else if a = 0x05000008 then some (if bitAt s 0x05000000 0 then freeCells s else 0)
  else if a = 0x0500000C then some (if bitAt s 0x05000000 0 then freePages s else 0)
  else if within 0x05001000 0x1000 a then
    let k := (a - 0x05001000) / 0x40
    match a % 0x40 with
    | 0x1C => some (poolUse s k)
    | 0x20 => some (poolPages s k)
    | _ => none
  else if within 0x05002000 0x4000 a then
    let o := (a - 0x05002000) / 0x20
    match a % 0x20 with
    | 0x14 => some (ownUse s o)
    | 0x18 => some (bitN (inXoff s o) * 2 ^ 31 + bitN (heldXoff s o) * 2 ^ 30)
    | _ => none
  else if within 0x05100000 0x108000 a then
    let q := (a - 0x05100000) / 0x10
    match a % 0x10 with
    | 0x8 => some (queueCells s q)
    | 0xC => some (bitN (hbmResident s q) * 2 ^ 31 + queuePages s q)
    | _ => none
  else none

/-- Word 2 of queue q's entry (ch. 13). -/
def queueWord2 (s : State) (q : Nat) : Nat :=
  let x := queueOf s q
  bitN (!x.frames.isEmpty) * 2 ^ 31 + bitN x.held * 2 ^ 30 + x.deficit % 2 ^ 19

/-- Scheduler (ch. 13). -/
def viewSch (s : State) (a : Nat) : Option Nat :=
  if a = 0x06000014 then some (withBits (regN s a) 31 31 (bitN s.sch.cmd.isSome))
  else if within 0x06001000 0x1000 a then
    let l := (a - 0x06001000) / 0x40
    match a % 0x40 with
    | 0x28 => some (bitN (s.sch.change.look none l).isSome * 2 ^ 31 + bitN (glRunning s l) * 2 ^ 30 + s.sch.cur.look 0 l % 1024)
    | 0x2C => some (operList s l).cycle
    | _ => none
  else if within 0x060C0000 0x10000 a ∧ a % 0x20 = 8 then some (queueWord2 s (65536 + (a - 0x060C0000) / 0x20))
  else if within 0x06400000 0x200000 a ∧ a % 0x20 = 8 then some (queueWord2 s ((a - 0x06400000) / 0x20))
  else if within 0x06300000 0x100000 a then
    let e := (operList s ((a - 0x06300000) / 0x4000)).entries.getD (a % 0x4000 / 0x10) (0, 0)
    match a % 0x10 with
    | 0 => some e.1.toNat
    | 4 => some (e.1.toNat / 2 ^ 32)
    | 8 => some e.2
    | _ => none
  else none

/-- PORT_KEY words 0 and 1 and PEND_SF of port p (ch. 14). -/
def portKeyWord (s : State) (p w : Nat) : Nat :=
  let k := portKeys s p
  let root := fun (e : Nat) => match k.inst.look none e with | some x => x.root | none => 0
  match w with
  | 0 => total [k.tx.getD 0 * 2 ^ 30, bitN k.tx.isSome * 2 ^ 29, bitN k.pend.isSome * 2 ^ 28,
      (match k.pend with | some r => r.epoch | none => 0) * 2 ^ 26, maskOf 4 (fun e => (k.inst.look none e).isSome) * 2 ^ 20,
      total ((upTo 4).map fun e => root e * 2 ^ (5 * e))]
  | 1 => match k.pend with | some r => r.key.root | none => 0
  | 2 => match k.pend with | some r => r.sf | none => 0
  | _ => match k.pend with | some r => r.sf / 2 ^ 32 | none => 0

/-- Shroud (ch. 14). -/
def viewShr (s : State) (a : Nat) : Option Nat :=
  let x := s.shr
  if a = 0x07000004 then some (bitN x.ivWeak * 2 ^ 31 + x.cache.length)
  else if a = 0x07000010 then
    some (total [bitN x.xmssReady * 2 ^ 31, bitN x.exhausted * 2 ^ 30, bitN x.flashRec * 2 ^ 29, bitN Config.makerKeyEnabled * 2 ^ 28, x.fuses])
  else if a = 0x07000014 then some (if x.exhausted then 1048576 else x.nextIdx)
  else if within 0x07000100 128 a then
    some (match rootKey s ((a - 0x07000100) / 4) with | some k => 2 ^ 31 + k.use * 2 ^ 29 + k.kcv % 2 ^ 16 | none => 0)
  else if within 0x07000200 256 a then some (portKeyWord s ((a - 0x07000200) / 16) (a % 16 / 4))
  else none

/-! ### Interrupts, reef, faults -/

/-- The interrupt controller (ch. 15). -/
def viewIc (s : State) (a : Nat) : Option Nat :=
  if a = 0x00100004 then some (maskOf 22 fun t => (icTgt s t).frozen)
  else if within 0x00100100 128 a then some (maskOf 32 fun i => (icSrc s (8 * (a - 0x00100100) + i)).pending)
  else if within 0x00102000 0x1000 a then
    let x := icSrc s ((a - 0x00102000) / 4)
    some (total [bitN x.pending * 2 ^ 31, bitN x.active * 2 ^ 30, (if x.active then x.on else 0) * 2 ^ 16, x.count])
  else if within 0x00104000 0xB00 a then
    let t := (a - 0x00104000) / 0x80
    let x := icTgt s t
    if a % 0x80 = 4 then some (total [bitN x.frozen * 2 ^ 31, bitN (tgtSignal s t) * 2 ^ 30, x.stack.length * 2 ^ 16, x.running])
    else if a % 0x80 = 0x10 then some (if x.faultValid then 2 ^ 31 + x.faultTop * 2 ^ 16 + x.faultNamed else 0)
    else if 0x40 ≤ a % 0x80 then
      some (match x.stack.reverse[(a % 0x80 - 0x40) / 4]? with | some (n, pr) => 2 ^ 31 + pr * 2 ^ 10 + n | none => 0)
    else none
  else if a = 0x00109000 then some (maskOf 4 fun v => s.ic.msixPend.look false v)
  else none

/-- PHASE codes (ch. 16). -/
def phaseCode : ReefPhase → Nat
  | .idle => 0 | .notice => 1 | .prepare => 2 | .commit => 3 | .voltage => 4 | .waking => 5 | .entering => 6

/-- REEF_STATUS. -/
def reefWord (s : State) : Nat :=
  let r := s.reef
  total [r.level * 2 ^ 30, r.target * 2 ^ 28, phaseCode r.phase * 2 ^ 25, bitN r.wakeFail * 2 ^ 24, bitN r.vHigh * 2 ^ 23, r.cmdCode * 256]

/-- LOG_STATUS. -/
def logStatus (s : State) : Nat :=
  bitN (flashUp s 0 || flashUp s 1) * 2 ^ 16 + min s.faults.uncopied 255 * 256 + s.faults.nextPos

/-- What the register at canonical address a shows of state held elsewhere; none where it holds its own value. -/
def viewOf (s : State) (a : Nat) : Option Nat :=
  if a < 0x20000 then
    match a with
    | 0x100 => some (s.uptime)
    | 0x104 => some (s.uptime / 2 ^ 32)
    | 0x3380 => some (regN s a + maskOf 2 fun n => !irqDriven s n)
    | 0x5020 => some (pinSum s)
    | 0x5024 => some (logStatus s)
    | 0x10100 => some (withBits (withBits (regN s a) 24 23 s.boot.flashFault.toNat) 25 25 (bitN s.boot.trial))
    | _ => none
  else if within 0x00100000 0x10000 a then viewIc s a
  else if a = 0x00200008 then some (reefWord s)
  else if a = 0x00200050 then some (regN s a + bitN s.reef.wakeAOut * 2 ^ 29)
  else if within 0x01000000 0x100000 a then viewTrunk s ((a - 0x01000000) / 0x10000) (a % 0x10000)
  else if a = 0x0120000C then some (maskOf 16 (muzzled s))
  else if a = 0x01200010 then some (maskOf 16 (faultSum s))
  else if within 0x01200100 0x400 a ∧ a % 0x40 = 4 then some (pStatus s ((a - 0x01200100) / 0x40))
  else if a = 0x01300004 then some (withBits (regN s a) 5 4 (maskOf 2 (lkoKeyed s)))
  else if a = 0x01300010 then some (maskOf 16 (rgSummary s))
  else if a = 0x01400008 then some (s.time.frc / 64)
  else if a = 0x0140000C then some (s.time.frc / 64 / 2 ^ 32)
  else if within 0x01400010 16 a then
    let n := ntFormat (readNow s)
    some (match (a - 0x01400010) / 4 with | 0 => n % 2 ^ 16 | k => n / 2 ^ (32 * k - 16))
  else if within 0x02000000 0x200000 a then viewClient s ((a - 0x02000000) / 0x10000) (a % 0x10000)
  else if within 0x02300000 0x10000 a then (if a = 0x02300004 then some (regN s a) else none)
  else if within 0x02400000 0x80000 a then viewTsi s a
  else if a = 0x03000004 then
    some (bitN s.pg.bank * 2 ^ 31 + bitN s.pg.copyBusy * 2 ^ 30 + bitN s.pg.wrRej * 2 ^ 29)
  else if a = 0x03100004 then some (bitN s.cls.capRej * 2 ^ 31 + bitN s.cls.indRej * 2 ^ 30)
  else if within 0x04000000 0x110000 a then viewCan s a
  else if within 0x05000000 0x800000 a then viewBuf s a
  else if within 0x06000000 0x800000 a then viewSch s a
  else if within 0x07000000 0x200000 a then viewShr s a
  else if within 0x08000000 0x00500000 a ∧ a % 0x4000 = 4 then some (laneStatus s ((a - 0x08000000) / 0x4000))
  else if within 0x08500000 0x28 a then some (maskOf 32 fun i => laneSum s (8 * (a - 0x08500000) + i))
  else if within 0x08500100 0x400 a ∧ a % 0x40 = 4 then some (wknStatus s ((a - 0x08500100) / 0x40))
  else none

/-- What a read of the register at canonical address a shows, without the effects a read may have. -/
def showReg (s : State) (a : Nat) : Word :=
  match viewOf s a with
  | some n => BitVec.ofNat 32 n
  | none => reg s a

end Sys2Proof.Machine
end

