-- ==== Sys2Proof/Machine/TimeBase.lean ====
section
/-! DEFINITION. The time base (ch. 06): changes of rate and steps, TIME_SET, the servo, the source, references, PPS and
recovered clocks. -/
namespace Sys2Proof.Machine
open Sys2Proof

def setTime (t : TimeBase) (s : State) : State := { s with time := t }

/-! ### Changes and their application (R168, R189) -/

/-- The instant 2.0 µs to 4.0 µs from now at which a change would apply (R168). -/
def nextApp (s : State) : Nat := nowOf s + 160000 + freeVal s % 160001

/-- Two changes of different kinds share one instant (R189). -/
def sharesApp (x c : TimeChange) (app : Nat) : Bool :=
  x.cApp == app && (x.rate.isNone || c.rate.isNone) && (x.step.isNone || c.step.isNone)

/-- A change joins those that wait, at its own instant or, where one of its kind has that or a later one, at the next: a rate and
a step that share one instant are applied together (R168, R189). -/
def queueChange (c : TimeChange) (s : State) : State :=
  let l := s.time.pend
  let app := if c.cApp = 0 then nextApp s else c.cApp
  match l.getLast? with
  | some x =>
    if sharesApp x c app then
      let y := { x with rate := (if c.rate.isSome then c.rate else x.rate), step := (if c.step.isSome then c.step else x.step)
                        port := if c.step.isSome then c.port else x.port }
      drawn (setTime { s.time with pend := l.dropLast ++ [y] } s)
    else drawn (setTime { s.time with pend := l ++ [{ c with cApp := max app (x.cApp + 1) }] } s)
  | none => drawn (setTime { s.time with pend := [{ c with cApp := app }] } s)

/-- RATE in the range of its register. -/
def clampRate (r : Int) : Int := max (-2147483648) (min r 2147483647)
/-- A new RATE is scheduled: the base part and the slew (R173). -/
def scheduleRate (s : State) : State :=
  queueChange { cApp := 0, rate := some (clampRate (s.time.base + s.time.slew)), step := none } s

/-- The signed value of a word. -/
def signedWord (v : Word) : Int := v.toInt

/-- RATE_WRITE: the base part is replaced and any slew ends (R173). -/
def writeRate (v : Word) (s : State) : State :=
  scheduleRate (setTime { s.time with base := signedWord v, slew := 0, slewUntil := 0 } s)

def execRateWrite (val : Word) (s : State) : Host.Outcome State Fault Refusal := .next (onlyIf (coreOn s) (writeRate val) s)

/-- TIME_APPLY: the oldest change whose c_app has come (R168, R175, R178, R182, R362). -/
def applyChange (s : State) : State :=
  match s.time.pend with
  | [] => s
  | c0 :: rest =>
    if nowOf s < c0.cApp then s
    else
      let c := changeLive s c0
      let a := newAnchor s.time.anchors c
      let s1 := setTime { s.time with pend := rest, anchors := if changes c then a :: s.time.anchors else s.time.anchors } s
      let s2 := if c.rate.isSome then bump 0x01400204 1 (setReg 0x01400020 (BitVec.ofInt 32 a.rate) s1) else s1
      if c.step.isNone then s2
      else
        let s3 := tbEvent 1 (bump 0x01400200 1 (setTime { s2.time with lastPulse := some (a.nt / ntSecond) } s2))
        pmAcquire (glRealign s (setTbState 1 s3))

def execTimeApply (s : State) : Host.Outcome State Fault Refusal := .next (onlyIf (coreOn s) applyChange s)

/-! ### Source (R172) -/

/-- The trunk port that is to be the source now. -/
def chosenSource (s : State) : Option Nat :=
  let pref := fld s 0x01400000 7 4
  if qualifiesSource s pref then some pref
  else if bitAt s 0x01400000 11 then (upTo 16).find? fun p => (regnOf s p).state == .operate && !portDark s p
  else none
/-- IN_SPEC follows the last errors (R176), with its event. -/
def setInSpec (b : Bool) (s : State) : State :=
  if bitAt s 0x01400004 29 = b then s else tbEvent 10 (setBit 0x01400004 29 b s)

/-- SERVO_EN: the servo may change RATE (R190). -/
def servoOn (s : State) : Bool := bitAt s 0x01400000 1

/-- TIME_SOURCE_CHANGE: the source follows R172; with none TRACKING becomes HOLDOVER, RATE frozen without slew, unless SERVO_EN 0
has frozen it as it is (R171, R190). DESIGN CHOICE, log entry 218: with another port as the source, or none, the last 8 values
of E begin afresh and IN_SPEC clears; between port 0 and PPS_IN, which SRC_CUR shows alike, they go on. -/
def sourceChange (s : State) : State :=
  let src : Option Nat := if ppsSource s then (if bitAt s 0x01400040 29 then some 0 else none) else chosenSource s
  let was := if bitAt s 0x01400004 0 then some (fld s 0x01400004 7 4) else none
  let s1 := match src with
    | some p => setBit 0x01400004 0 true (setFld 0x01400004 7 4 p s)
    | none => setBit 0x01400004 0 false s
  let s2 := if was = src then s1 else setInSpec false (setTime { s1.time with errs := [] } s1)
  if src.isNone && tbState s == 1 then
    let s3 := setTbState 2 s2
    if s3.time.slew = 0 ∨ !servoOn s3 then s3 else scheduleRate (setTime { s3.time with slew := 0, slewUntil := 0 } s3)
  else s2

def execTimeSourceChange (s : State) : Host.Outcome State Fault Refusal := .next (onlyIf (coreOn s) sourceChange s)

/-- HOLDOVER_LIMIT: HOLDOVER has lasted HOLD_MAX seconds (R175). -/
def holdLimit (s : State) : State :=
  if tbState s = 2 ∧ s.time.holdSince + 25000000 * max 1 (fld s 0x0140002C 31 16) ≤ s.uptime then tbEvent 3 (armStep true s) else s

def execHoldoverLimit (s : State) : Host.Outcome State Fault Refusal := .next (onlyIf (coreOn s) holdLimit s)

/-! ### TIME_SET (R174 to R177) -/

/-- Slew of at most SLEW_MAX ppb, as a change of RATE: x · 10^−9 · 2^42, rounded. -/
def slewRate (s : State) : Int := ((max 1 (fld s 0x0140002C 15 0) * 4398046511104 + 500000000) / 1000000000 : Nat)
/-- How long that slew takes to remove an error, in 12.5 ps. -/
def slewTime (s : State) (e : Int) : Nat := e.natAbs * 80000000000 / (65536 * max 1 (fld s 0x0140002C 15 0))

/-- The servo removes E by a slew (R176). -/
def addSlew (e : Int) (s : State) : State :=
  if e = 0 then scheduleRate (setTime { s.time with slew := 0, slewUntil := 0 } s)
  else
    let sl := if e < 0 then -slewRate s else slewRate s
    let s1 := scheduleRate (setTime { s.time with slew := sl } s)
    let c := match s1.time.pend.getLast? with | some x => x.cApp | none => nowOf s
    setTime { s1.time with slewUntil := c + slewTime s e } s1

/-- An error E of the source is recorded: LAST_ERR and IN_SPEC over the last 8 (R176). -/
def recordErr (e : Int) (s : State) : State :=
  let l := (e :: s.time.errs).take 8
  setInSpec (l.length == 8 && l.all fun x => decide (x.natAbs ≤ 327680))
    (setReg64 0x01400030 (e % 2 ^ 64).toNat (setTime { s.time with errs := l } s))

/-- A correction from the source: the given time of a stamped instant, as a step or as a rate correction; whether it is
accepted (R175, R176, R183). With SERVO_EN 0 only LAST_ERR is updated. DESIGN CHOICE, log entry 218: such a TIME_SET is accepted
whatever R176 would say of it, without BIG_ERR; and UNSET is judged before the size of E, so that a MODE 1 in UNSET raises no
BIG_ERR. -/
def correct (port : Nat) (given : Int) (stamp : Nat) (mode1 : Bool) (s : State) : State × Bool :=
  let e := given - readAt s stamp
  if !servoOn s then (recordErr e s, true)
  else if !mode1 && stepArmed s then
    (armStep false (queueChange { cApp := 0, rate := none, step := some (given, stamp), port := port } s), true)
  else if tbState s = 0 then (recordErr e s, false)
  else if 65536000000 < e.natAbs then (tbEvent 2 (recordErr e s), false)
  else (addSlew e (setTbState 1 (recordErr e s)), true)

/-- A TIME_SET acted on is answered: those from the source and those answered BAD_ARG are counted (R174, R191). -/
def answerTime (p : Nat) (t : TmmIn) (ok : Bool) (s : State) : State :=
  let s1 := if isSource s p then bump 0x01400208 1 s else s
  if ok then answer p t 0 [] s1 else answer p t 3 [] (bump 0x0140020C 1 s1)

/-- The stamp that port p holds for frame sf, which is one of its last 16 (R174). -/
def stampOf (s : State) (p sf : Nat) : Option Nat :=
  if sf + 15 < (framer s p).e then none else ((framer s p).stamps.find? fun x => x.1 == sf).map Prod.snd

/-- Checks 2 and 4, and what an accepted TIME_SET does (R174 to R177). -/
def actTimeSet (p : Nat) (t : TmmIn) (sf : Nat) (given : Int) (mode1 : Bool) (s : State) : State :=
  match stampOf s p sf with
  | none => answerTime p t false s
  | some stamp =>
    if isSource s p then
      let r := correct p given stamp mode1 s
      answerTime p t r.2 r.1
    else
      let e := given - readAt s stamp
      answerTime p t true (setReg64 (0x01400108 + 0x10 * p) (sf % 2 ^ 51 + 2 ^ 63)
        (setReg64 (0x01400100 + 0x10 * p) (e % 2 ^ 64).toNat s))

/-- TIME_SET: checks 1 and 3; acted on at once, or held for a future frame, in the place of one already held (R174). -/
def timeSet (p : Nat) (t : TmmIn) (s : State) : State :=
  let sf := tf t.bits 351 301
  let ns := tf t.bits 236 205
  let given : Int := (tf t.bits 300 237 : Int) * ntSecond + 65536 * (ns : Int) + tf t.bits 204 189
  let mode1 := t.bits.getLsbD 188
  let seq := tf t.bits 363 356
  let dup : Bool := match s.time.held.look none p with | some h => h.seq == seq | none => false
  if dup then bump (trkR p 0x44C) 1 s
  else
    let s1 := dropHeldTime p s
    if sf + 15 < t.sf ∨ t.sf + 8000 < sf ∨ 1000000000 ≤ ns ∨ (t.lookout ∧ !hasTiming s p) then answerTime p t false s1
    else if t.sf < sf then
      let h : HeldTimeSet := { sf := sf, given := given, mode1 := mode1, seq := seq, idField := tf t.bits 383 372, sfRx := t.sf }
      setTime { s1.time with held := s1.time.held.put p (some h) } s1
    else actTimeSet p t sf given mode1 s1

def execTimeSet (p : Fin 16) (s : State) : Host.Outcome State Fault Refusal :=
  .next (onlyIf (coreOn s) (withTmm p 0x08 (fun x _ => inService x p) (timeSet p)) s)

/-- TIME_SET_HELD_APPLY: frame SF's pattern was due (R174). -/
def heldApply (p : Nat) (s : State) : State :=
  match s.time.held.look none p with
  | none => s
  | some h =>
    if (framer s p).e < h.sf then s
    else
      let t : TmmIn := { bits := mkTmm h.idField 0x08 h.seq 0 [], sf := h.sfRx, lookout := false }
      actTimeSet p t h.sf h.given h.mode1 (dropHeldTime p s)

def execTimeSetHeldApply (p : Fin 16) (s : State) : Host.Outcome State Fault Refusal :=
  .next (onlyIf (coreOn s) (heldApply p) s)

/-! ### The servo (R173, R176) -/

/-- The base part that makes k frames of d units in all read as k/8,000 s: (k·10^7 − d)·2^42/d, rounded. -/
def servoBase (k d : Nat) : Int := (2 * ((k * 10000000 : Nat) - (d : Int)) * 2 ^ 42 + d) / (2 * d)

/-- SERVO_MEASUREMENT: from the source port's receive stamps; RATE is frozen in HOLDOVER (R171, R173). -/
def servo (s : State) : State :=
  let p := fld s 0x01400004 7 4
  let l := (framer s p).stamps
  match l.head?, l.getLast? with
  | some new, some old =>
    if bitAt s 0x01400000 0 && servoOn s && isSource s p && tbState s != 2 &&
        decide (old.1 < new.1) && decide (old.2 < new.2) then
      scheduleRate (setTime { s.time with base := servoBase (new.1 - old.1) (new.2 - old.2) } s)
    else s
  | _, _ => s

def execServoMeasurement (s : State) : Host.Outcome State Fault Refusal := .next (onlyIf (coreOn s) servo s)

/-- SLEW_END: the slew is withdrawn once E is removed, unless SERVO_EN 0 freezes RATE (R190); the servo writes RATE 2 µs to 4 µs ahead (R168, R176). -/
def slewEnd (s : State) : State :=
  if !servoOn s ∨ s.time.slew = 0 ∨ nowOf s + 320000 < s.time.slewUntil then s
  else
    let c := max s.time.slewUntil (nowOf s + 160000)
    queueChange { cApp := c, rate := some (clampRate s.time.base), step := none }
      (setTime { s.time with slew := 0, slewUntil := 0 } s)

def execSlewEnd (s : State) : Host.Outcome State Fault Refusal := .next (onlyIf (coreOn s) slewEnd s)

/-! ### References (R170) -/

/-- REFr_OK. -/
def refOk (s : State) (r : Nat) : Bool := bitAt s 0x01400004 (25 + r)
/-- REF_SEL allows reference r. -/
def refAllowed (s : State) (r : Nat) : Bool :=
  match fld s 0x01400000 3 2 with
  | 1 => r == 0
  | 2 => r == 1
  | _ => true
/-- REF_ACTIVE. -/
def refActive (s : State) : Nat := fld s 0x01400004 27 27
/-- The PLL switches to reference r, counted. -/
def switchRef (r : Nat) (s : State) : State := tbEvent 4 (bumpLo 0x01400210 1 (setFld 0x01400004 27 27 r s))

/-- The PLL runs from the crystal. -/
def takeXtal (s : State) : State :=
  if onXtal s then s else tbEvent 5 (bumpHi 0x01400210 1 (setBit 0x01400004 24 true s))

/-- REFERENCE_LOSS. -/
def refLost (r : Nat) (s : State) : State :=
  let s1 := setBit 0x01400004 (25 + r) false s
  if onXtal s || refActive s != r then s1
  else if refOk s1 (1 - r) && refAllowed s1 (1 - r) then switchRef (1 - r) s1
  else takeXtal s1

def execReferenceLoss (r : Fin 2) (s : State) : Host.Outcome State Fault Refusal := .next (onlyIf (coreOn s) (withPins 6 r (bitAt s 0x01400004 (25 + r)) (refLost r)) s)

/-- REFERENCE_RETURN: reference r has been good for 10 ms. -/
def refBack (r : Nat) (s : State) : State :=
  let s1 := setBit 0x01400004 (25 + r) true s
  if !refAllowed s r then s1
  else if onXtal s then setBit 0x01400004 24 false (setFld 0x01400004 27 27 r s1)
  else if refActive s = r then s1
  else if !refOk s (refActive s) then setFld 0x01400004 27 27 r s1
  else if fld s 0x01400000 3 2 = 0 ∧ r = 0 then switchRef 0 s1
  else s1

/-- The PLL runs on reference r from now on, off the crystal or another reference. -/
def takeRef (r : Nat) (s : State) : State :=
  if onXtal s then setBit 0x01400004 24 false (setFld 0x01400004 27 27 r s)
  else if refActive s = r then s
  else switchRef r s

/-- After a write of REF_SEL: a good reference it directs to is taken; with none that it allows, the crystal (R170). -/
def refFollow (s : State) : State :=
  let r := refActive s
  let want := if fld s 0x01400000 3 2 = 0 ∧ refOk s 0 then 0 else if refAllowed s r && refOk s r then r else 1 - r
  if refAllowed s want && refOk s want then takeRef want s
  else if refAllowed s r then s else takeXtal s

/-- Start-up sets TB_CTL.EN once a reference is good, where none was at its stage (R190, R452). -/
def tbStart (s : State) : State :=
  if s.boot.tbDue then setBit 0x01400000 0 true { s with boot := { s.boot with tbDue := false } } else s

def execReferenceReturn (r : Fin 2) (s : State) : Host.Outcome State Fault Refusal :=
  .next (onlyIf (coreOn s) (fun x => tbStart (refBack r x)) s)

/-! ### PPS and recovered clocks (R182 to R184) -/

/-- WIDTH in 12.5 ps. -/
def ppsWidth (s : State) : Nat := 80000 * min (max (fld s 0x01400040 18 0) 1) 500000

/-- PPS_OUT_PULSE: the reading has passed a whole second that has had no pulse (R182). -/
def ppsPulse (s : State) : State :=
  let sec := readNow s / ntSecond
  let may := bitAt s 0x01400040 31 && (timeHeld s || bitAt s 0x01400040 30)
  if may && s.time.ppsHigh.isNone && s.time.lastPulse != some sec then
    emit (.pps true (sec * ntSecond)) (setTime { s.time with lastPulse := some sec, ppsHigh := some ((nowOf s + ppsWidth s : Nat) : Int) } s)
  else s

def execPpsOutPulse (s : State) : Host.Outcome State Fault Refusal := .next (onlyIf (coreOn s) ppsPulse s)

/-- PPS_OUT_END: a pulse completes its width. -/
def ppsEnd (s : State) : State :=
  match s.time.ppsHigh with
  | some e => if e ≤ (nowOf s : Int) then emit (.pps false (readNow s)) (setTime { s.time with ppsHigh := none } s) else s
  | none => s

def execPpsOutEnd (s : State) : Host.Outcome State Fault Refusal := .next (onlyIf (coreOn s) ppsEnd s)

/-- The whole second nearest a reading. -/
def nearestSecond (nt : Int) : Int := (nt + ntSecond / 2) / ntSecond * ntSecond

/-- An edge as the servo's source: the first after a TIME_TOD as MODE 0, each later one as MODE 1 (R183). -/
def ppsCorrect (t : Nat) (s : State) : State :=
  if !ppsSource s then s
  else if s.time.todFirst then
    (correct 16 ((s.time.tod.getD 0 : Nat) * ntSecond) t false (setTime { s.time with todFirst := false } s)).1
  else (correct 16 (nearestSecond (readAt s t)) t true s).1

/-- PPS_IN_EDGE: captured, or less than 0.5 s after the last one a glitch (R183). -/
def ppsEdge (t : Nat) (s : State) : State :=
  if !bitAt s 0x01400040 29 then s
  else if (match s.time.ppsInLast with | some u => decide (t < u + 40000000000) | none => false) then bump 0x01400218 1 s
  else
    let n := ntFormat (readAt s t)
    let s1 := setWide 0x01400048 3 (n / 2 ^ 16) (setRegN 0x01400044 (n % 2 ^ 16) s)
    let s2 := tbEvent 6 (bump 0x01400214 1 (setTime { s1.time with ppsInLast := some t, ppsInUp := s.uptime } s1))
    ppsCorrect t s2

def execPpsInEdge (instant : Nat) (s : State) : Host.Outcome State Fault Refusal := .next (onlyIf (coreOn s) (ppsEdge instant) s)

/-- PPS_IN_MISS: no edge for 1.1 s. -/
def ppsMiss (s : State) : State :=
  if bitAt s 0x01400040 29 && decide (s.time.ppsInUp + 27500000 ≤ s.uptime) then
    withPins 8 0 (!bitAt s 0x01400024 7) (tbEvent 7) s
  else s

def execPpsInMiss (s : State) : Host.Outcome State Fault Refusal := .next (onlyIf (coreOn s) ppsMiss s)

/-- RCLK_RELEASE: 125 µs, in Heartwood ticks, without a cause (R184). -/
def execRclkRelease (n : Fin 2) (s : State) : Host.Outcome State Fault Refusal :=
  .next (onlyIf (coreOn s && !rclkCause s n && decide (3125 ≤ s.time.rclkGood.look 0 n)) (setSquelch n false) s)

/-! ### Register and mailbox commands (R175, R188) -/

def execStepArmWrite (s : State) : Host.Outcome State Fault Refusal := .next (onlyIf (coreOn s) (armStep true) s)

def tbCntClr : State → State := zeroRegs (within 0x01400200 0x1C)
def execTbCntClr (s : State) : Host.Outcome State Fault Refusal := .next (onlyIf (coreOn s) tbCntClr s)

/-- TIME_TOD names the second of the next edge; BAD_ARG unless SRC_KIND is 0b01 (R183, R188). -/
def timeTod (sec : Nat) (s : State) : State × Nat :=
  if ppsSource s then (setTime { s.time with tod := some sec, todFirst := true } s, 0) else (s, 3)

end Sys2Proof.Machine
end

