-- ==== Sys2Proof/Machine/Bus.lean ====
section
/-! DEFINITION. Register access (R8 to R16, R488 to R490, R501): what a read returns and does, what a write does, on any
path. -/
namespace Sys2Proof.Machine
open Sys2Proof

/-! ### Reach (R408, R454) -/

/-- The watch part of the interrupt controller: sources 0 to 63, targets 20 and 21 (R408). -/
def watchPart (a : Nat) : Bool :=
  within 0x00101000 0x100 a || within 0x00102000 0x100 a || within 0x00104A00 0x100 a || within 0x00106140 0x20 a

/-- Heartwood's own blocks: HW, ID, REEF, Backstay, the watch part (R413). -/
def heartwoodPart (a : Nat) : Bool := a < 0x20000 || within 0x00200000 0x1000 a || within 0x01200000 0x10000 a || watchPart a

/-- The block at canonical address a answers: its domain is powered and out of reset (R454). -/
def answers (s : State) (a : Nat) : Bool :=
  heartwoodPart a || (coreOn s && (!within 0x09000000 0x4000 a || domOn s (0x10 + (a - 0x09000000) / 0x1000)))

/-- The set of a sub-port that the mode does not provide: it reads 0 and ignores writes (R239). -/
def absentSet (s : State) (a : Nat) : Bool :=
  within 0x02000000 0x200000 a && decide (0x1000 ≤ a % 0x10000 ∧ a % 0x10000 < 0x5000) &&
    !subExists s ((a - 0x02000000) / 0x10000) (a % 0x10000 / 0x1000 - 1)

/-- A register lies at a and answers. -/
def present (s : State) (a : Nat) : Bool := answers s a && !absentSet s a

/-! ### Reads -/

/-- The addresses of the k words after word 0 at a. -/
def highWords (a k : Nat) : List Nat := (upTo (k - 1)).map fun i => a + 4 * (i + 1)

/-- A read that has an effect of its own: ACK, EVT_POP, TS_TX (R399, R310, R195). -/
def readEffect (path : Path) (a : Nat) (s : State) : Option (State × Word) :=
  if within 0x00104000 0xB00 a && (a - 0x00104000) % 0x80 == 8 then
    let t := (a - 0x00104000) / 0x80
    let r := ackTarget t s
    some (requestAgain t r.1, BitVec.ofNat 32 r.2)
  else if a = 0x04000020 then some (popEvent path s)
  else if within 0x02000000 0x200000 a && a % 0x1000 == 0x40 && decide (0x1000 ≤ a % 0x10000 ∧ a % 0x10000 < 0x5000) then
    some (popStamp path ((a - 0x02000000) / 0x10000) (a % 0x10000 / 0x1000 - 1) s)
  else if a = 0x02301040 then some (popStamp path 32 0 s)
  else none

/-- A read of the register at a0 over a path: word 0 of a wide quantity takes the path's snapshot, the higher words
return it (R13); an address in no register, or of a block that is off, reads 0 (R12, R454). -/
def busRead (path : Path) (a0 : Nat) (s : State) : State × Word :=
  let a := canonAddr a0
  if !present s a then (s, 0)
  else match readEffect path a s with
    | some r => r
    | none => match rowOf a with
      | none => (s, 0)
      | some (d, w) =>
        if d.words ≤ 1 then (s, showReg s a)
        else if w = 0 then
          (snapWords path a (showReg s a :: (highWords a d.words).map (showReg s)) s, showReg s a)
        else (s, (pathOf s path).snap.look 0 a)

/-- Consecutive reads from a on (R492, R494). -/
def busReads (path : Path) : Nat → Nat → State → State × List Word
  | _, 0, s => (s, [])
  | a, n + 1, s =>
    let r := busRead path a s
    let t := busReads path (a + 4) n r.1
    (t.1, r.2 :: t.2)

/-! ### Writes under the access codes (R11 to R13) -/

/-- The configuration lock is set (R456). -/
def cfgLocked (s : State) : Bool := bitAt s 0x10108 0

/-- The bits of word w of a row that a write may change now. -/
def openBits (s : State) (d : RegDesc) (w : Nat) : Word :=
  let m := if cfgLocked s then d.rwMask else d.rwMask ||| d.rwlMask
  if w = 0 then m else d.hiMasks.getD (w - 1) m

/-- What decides whether a write of word w of a row does anything: of word 0 all the words it may commit, else that word. -/
def writable (s : State) (d : RegDesc) (w : Nat) : Word :=
  if w = 0 then (upTo d.words).foldl (fun m i => m ||| openBits s d i) 0 else openBits s d w

/-- Word w of row d at a after a write of v. -/
def writtenWord (s : State) (d : RegDesc) (w a : Nat) (v : Word) : Word :=
  let m := openBits s d w
  ((reg s a &&& ~~~m) ||| (v &&& m)) &&& ~~~(v &&& d.w1cMask)

/-- The high words of the wide row at a are written from those path holds, and are held no more (R13). -/
def commitHigh (path : Path) (d : RegDesc) (a : Nat) (s : State) : State :=
  forAll (fun k x =>
    let b := a + 4 * (k + 1)
    let p := pathOf x path
    if p.high.has b then
      setPath path { p with high := p.high.drop b } (setReg b (writtenWord x d (k + 1) b (p.high.look 0 b)) x)
    else x) (upTo (d.words - 1)) s

/-- A write under the access codes alone. -/
def plainWrite (path : Path) (a : Nat) (v : Word) (s : State) : State :=
  match rowOf a with
  | none => s
  | some (d, w) =>
    if (writable s d w ||| d.w1cMask) = 0 then s
    else if d.words ≤ 1 then setReg a (writtenWord s d w a v) s
    else if w ≠ 0 then setPath path { pathOf s path with high := (pathOf s path).high.put a v } s
    else setReg a (writtenWord s d 0 a v) (commitHigh path d a s)

/-- The high words of the quantity at a are dropped uncommitted. -/
def dropHigh (path : Path) (a k : Nat) (s : State) : State :=
  forAll (fun b x => setPath path { pathOf x path with high := (pathOf x path).high.drop b } x) (highWords a k) s

/-- f where bit i of a written value is 1. -/
def onBit (v : Word) (i : Nat) (f : State → State) (s : State) : State := if v.getLsbD i then f s else s

/-- f, and a signal of source n where p becomes true by it. -/
def withEdge (p : State → Bool) (n : Nat) (f : State → State) (s : State) : State :=
  let s1 := f s
  if p s1 && !p s then signalSource n s1 else s1

/-! ### Writes with an effect of their own, block by block; none where the access codes say all -/

/-- PM_CTL.SNAP and INTERVAL's snapshot (R504): every enabled selector's counter in one cycle. -/
def pmSnap (s : State) : State :=
  let one := fun (n : Nat) (x : State) =>
    let w := regN s (0x0B001000 + 4 * n)
    let a := canonAddr (bits w 27 2 * 4)
    let hit : Bool := answers s a && (match rowOf a with | some (d, _) => d.isCnt | none => false)
    let lo := if hit then showReg s a else 0
    let hi := if hit && w.testBit 30 then showReg s (a + 4) else 0
    let x1 := setReg (0x0B002004 + 8 * n) hi (setReg (0x0B002000 + 8 * n) lo x)
    setBit (0x0B000020 + 4 * (n / 32)) (n % 32) (!hit) x1
  let on := (upTo 256).filter fun n => bitAt s (0x0B001000 + 4 * n) 31
  let s1 := forAll one on (forAll (fun i x => setReg (0x0B000020 + 4 * i) 0 x) (upTo 8) s)
  setRegN 0x0B000004 ((regN s 0x0B000004 + 1) % 65536) (setReg64 0x0B000008 s.uptime s1)

/-- The access-reject counters (R503). -/
def accCntClr : State → State := zeroRegs (within 0x10030 12)

/-- NR_CTL.CNT_CLR clears the mailbox and the in-band counters (R466, R505). -/
def nrCntClr : State → State := zeroRegs fun a => within 0x0A020100 16 a || within 0x0A030100 8 a

/-- Heartwood, identity, interrupt controller, reef manager. -/
def writeHw (path : Path) (a : Nat) (v : Word) (s : State) : Option State :=
  let plain := plainWrite path a v
  if a = 0x5000 then some (onBit v 31 fltCntClr (plain s))
  else if a = 0x5004 then some (writeWdogCtl v s)
  else if a = 0x5008 then some (wdogKick v s)
  else if a = 0x5028 then some (logIdx (bits v.toNat 7 0) s)
  else if a = 0x1003C then some (onBit v 0 accCntClr s)
  else if a = 0x00100000 then some (withRises plain (onBit v 31 icCntClr s))
  else if a = 0x00100010 then
    let n := bits v.toNat 9 0
    let s1 := if v.getLsbD 30 && sourceExists n then clearSource n s else s
    some (onBit v 31 (signalSource n) s1)
  else if within 0x00101000 0x1000 a then some (writeSrcCfg ((a - 0x00101000) / 4) v s)
  else if within 0x00104000 0xB00 a then
    let t := (a - 0x00104000) / 0x80
    if a % 0x80 = 0 then some (onBit v 31 (if path = .bmc then id else thawTarget t) (withRises plain s))
    else if a % 0x80 = 0xC then some (eoiTarget t (bits v.toNat 9 0) s)
    else none
  else if within 0x00108000 0x40 a && a % 16 == 12 then
    some (if v.getLsbD 0 then plain s else if vecMasked s ((a - 0x00108000) / 16) then
      (if h : (a - 0x00108000) / 16 < 4 then unmaskMsix (some ⟨_, h⟩) s else s) else s)
  else if a = 0x00200000 then some (onBit v 31 reefCntClr (plain s))
  else if a = 0x00200004 then
    let s1 := if v.getLsbD 30 then setReef { s.reef with wakeFail := false } s else s
    some (onBit v 31 (fun x => (reefRequest path v x).1) s1)
  else if a = 0x00200010 then some (writeCliDarkReq v s)
  else none

/-- Trunk ports: framer, registration, Halyard. -/
def writeTrunk (path : Path) (a : Nat) (v : Word) (s : State) : Option State :=
  let p := (a - 0x01000000) / 0x10000
  let o := a % 0x10000
  let en := fun (i : Nat) => setBit a i (v.getLsbD i)
  if o = 0 then
    let s1 := writeFrEn p (v.getLsbD 0) (setFld a 11 4 (bits v.toNat 11 4) s)
    some (onBit v 31 (frCntClr p) (onBit v 30 (fun x => if framerOn x p then withTiming p (dropLock p) x else x) s1))
  else if within 0x40 32 o then some (writeFilter p ((o - 0x40) / 4) v s)
  else if o = 0x80 then some (selectPm p (bits v.toNat 7 0) s)
  else if o = 0x84 then some (onBit v 0 (clearCur p) s)
  else if o = 0x400 then
    some (regEnable p (v.getLsbD 0) (if cfgLocked s then s else en 10 (en 9 s)))
  else if o = 0x428 then some (withSummary p (plainWrite path a v) s)
  else if o = 0x8000 then some (onBit v 31 (halCntClr p) (writeHalEnable p (v.getLsbD 0) (en 1 s)))
  else if o = 0x800C then some (writeDozeCtl p v s)
  else if o = 0x8018 then some (lookupCtx p (bits v.toNat 11 0) s)
  else none

/-- Backstay, the lookout ports, the time base. -/
def writeGuardTime (path : Path) (a : Nat) (v : Word) (s : State) : Option State :=
  let plain := plainWrite path a v
  if a = 0x01200000 then some (onBit v 31 bksCntClr (plain s))
  else if a = 0x01200008 then some (writeUnlock path (bits v.toNat 31 16) (bits v.toNat 3 0) s)
  else if within 0x01200100 0x400 a && a % 0x40 == 0xC then
    let p := (a - 0x01200100) / 0x40
    some (withEdge (faultSum · p) 32 plain s)
  else if a = 0x01300000 then
    some (forAll (fun n x => if lkoUp x n && !lkoHears x n then laneUp n false x else x) [0, 1] (plain s))
  else if a = 0x01300014 then some (onBit v 0 lkoCntClr s)
  else if a = 0x01400000 then some (onBit v 31 tbCntClr (onBit v 30 (armStep true) (refFollow (plain s))))
  else if a = 0x01400020 then some (writeRate v s)
  else if a = 0x01400060 ∨ a = 0x01400064 then some (rclkSettle (plain s))
  else none

/-- Serial lanes; an enable that meets a set latch of WKN_EVENT is a rise of source 118's summary (R219). -/
def writeLane (path : Path) (a : Nat) (v : Word) (s : State) : Option State :=
  let l := (a - 0x08000000) / 0x4000
  let o := a % 0x4000
  if within 0x08500100 0x400 a && a % 0x40 == 0xC then
    let s1 := plainWrite path a v s
    let fresh := reg s (a - 4) &&& (reg s1 a &&& ~~~reg s a)
    some (if fresh = 0 then s1 else signalSource 118 s1)
  else if 279 ≤ l then none
  else if o = 0 then
    let s1 := enablePort l (v.getLsbD 0) (if cfgLocked s then s else setBit a 1 (v.getLsbD 1) s)
    some (onBit v 31 (laneCntClr l) (onBit v 30 (retrain l) s1))
  else if o = 0x20 then some (writePat l v s)
  else if o = 0x24 then some (writeInj l v s)
  else if o = 0x34 then some (withEdge (laneSum · l) (laneSource l) (plainWrite path a v) s)
  else none

/-- Client ports and the management port, block b at offset o. -/
def writeClient (path : Path) (b o a : Nat) (v : Word) (s : State) : Option State :=
  if o = 0 then some (mgtDrain (pfcSettle (writePortCtl b v s)))
  else if 0x1000 ≤ o ∧ o < 0x5000 then
    let k := o % 0x1000
    let u := o / 0x1000 - 1
    if k = 0 then some (mgtDrain (pfcSettle (writeMacCtl b u v s)))
    else if k = 0x10 ∨ k = 0x14 ∨ within 0x20 32 k then some (pfcSettle (plainWrite path a v s))
    else none
  else none

/-- Time-slot interchange: page memory, PAGE_CAL, calendars, PAGE_CTL (R255, R258). -/
def writeTsi (path : Path) (a : Nat) (v : Word) (s : State) : Option State :=
  if a = 0x02400000 then
    some (onBit v 31 tsiCntClr (tsiEnable (v.getLsbD 0) (setFld a 29 16 (bits v.toNat 29 16) s)))
  else if a = 0x02400008 then some (onBit v 29 pageForce (onBit v 30 pageDisarm (onBit v 31 pageArm s)))
  else if (pageOfAddr a).isSome then
    if a % 8 = 0 && pageClosed s a then some (setWrRej true (dropHigh path a 2 s))
    else if a % 8 = 0 then some (setWrRej false (plainWrite path a v s))
    else some (plainWrite path a v s)
  else if within 0x02410000 0x10000 a && a % 0x400 < 0x200 then some (calSettle (plainWrite path a v s))
  else none

/-- Parse graph, classifier. -/
def writeParse (path : Path) (a : Nat) (v : Word) (s : State) : Option State :=
  let plain := plainWrite path a v
  if a = 0x03000000 then some (onBit v 30 pgCommit (onBit v 31 pgCntClr (plain s)))
  else if pgMemory a then some (writePgMemory a v s)
  else if a = 0x03100000 then some (onBit v 31 clsCntClr (plain s))
  else if within 0x03100100 0x400 a && a % 0x40 == 0 then some (writeRuleCtl ((a - 0x03100100) / 0x40) v s)
  else if within 0x03101000 0x400 a then
    let c := (a - 0x03101000) / 16
    if a % 16 = 0 then some (writeExcCtl c v s) else some (plain (settleTokens c s))
  else if within 0x03103000 0x1000 a && a % 0x40 == 0 then some (writeHpCtl ((a - 0x03103000) / 0x40) v s)
  else if isIndirection a then some (writeIndirection path a v s)
  else none

/-- Canopy and the TCAM. -/
def writeCanopy (path : Path) (a : Nat) (v : Word) (s : State) : Option State :=
  let plain := plainWrite path a v
  if a = 0x04000000 then some (onBit v 31 canCntClr (plain s))
  else if isCanTbl a then some (writeCanTbl a v s)
  else if within 0x04003000 0x80 a && a % 16 == 0 then some (writeRingProd ((a - 0x04003000) / 16) v s)
  else if within 0x04080000 0x80000 a then
    some (writeDescriptor ((a - 0x04080000) / 0x10000) (a % 0x10000 / 4) v s)
  else if a = 0x04100000 then some (onBit v 31 tcamCntClr (plain s))
  else if within 0x04101000 0x2000 a then some (writeSteer a v s)
  else none

/-- Buffer manager, scheduler, Shroud. -/
def writeBuffer (path : Path) (a : Nat) (v : Word) (s : State) : Option State :=
  let plain := plainWrite path a v
  if a = 0x05000000 then some (onBit v 31 bufCntClr (plain s))
  else if isLimit a then some (writeLimit a v s)
  else if within 0x05006000 0x1000 a then some (pfcSettle (plain s))
  else if a = 0x05000030 then some (onBit v 31 (qflush (bits v.toNat 16 0)) s)
  else if a = 0x06000000 then some (onBit v 31 schCntClr (plain s))
  else if a = 0x06000010 then some (writeCmd v s)
  else if within 0x060C0000 0x10000 a && a % 0x20 == 0 then some (writeLevel (65536 + (a - 0x060C0000) / 0x20) v s)
  else if within 0x06400000 0x200000 a && a % 0x20 == 0 then some (writeLevel ((a - 0x06400000) / 0x20) v s)
  else if within 0x06400000 0x200000 a && a % 0x20 == 4 then some (writeCtx ((a - 0x06400000) / 0x20) (bits v.toNat 11 0) s)
  else if a = 0x07000000 then some (onBit v 31 shrCntClr (plain s))
  else if within 0x07000400 0x40 a && a % 16 == 0 then some (writeJrProd ((a - 0x07000400) / 16) v s)
  else if jobPending s a then some s
  else none

/-- HBM stacks, the mailbox and the notification ring, the PM window. -/
def writeXt (path : Path) (a : Nat) (v : Word) (s : State) : Option State :=
  let plain := plainWrite path a v
  if within 0x09000000 0x4000 a && a % 0x1000 == 8 then some (onBit v 31 (stkCntClr ((a - 0x09000000) / 0x1000)) (plain s))
  else if a = 0x0A000000 ∨ a = 0x0A010000 then some (onBit v 31 (mbGo ((a - 0x0A000000) / 0x10000)) s)
  else if within 0x0A000000 0x20000 a && within 0x1000 0x1000 (a % 0x10000) then
    some (if bitAt s (xtR ((a - 0x0A000000) / 0x10000) 4) 31 then s else plain s)
  else if a = 0x0A020000 then some (onBit v 30 nrCntClr (plain s))
  else if a = 0x0A020004 ∨ a = 0x0A020008 ∨ a = 0x0A02000C then some (if bitAt s 0x0A020000 31 then s else plain s)
  else if a = 0x0B000000 then
    let s1 := if fld (plain s) a 15 0 = fld s a 15 0 then plain s else { plain s with xt := { s.xt with snapFrom := s.uptime } }
    some (onBit v 31 pmSnap s1)
  else none

/-- The effect a write has beyond the access codes, if it has one. -/
def writeEffect (path : Path) (a : Nat) (v : Word) (s : State) : Option State :=
  if a < 0x01000000 then writeHw path a v s
  else if a < 0x01100000 then writeTrunk path a v s
  else if a < 0x02000000 then writeGuardTime path a v s
  else if a < 0x02200000 then writeClient path ((a - 0x02000000) / 0x10000) (a % 0x10000) a v s
  else if within 0x02300000 0x10000 a then writeClient path 32 (a % 0x10000) a v s
  else if a < 0x03000000 then writeTsi path a v s
  else if a < 0x04000000 then writeParse path a v s
  else if a < 0x05000000 then writeCanopy path a v s
  else if a < 0x08000000 then writeBuffer path a v s
  else if a < 0x09000000 then writeLane path a v s
  else writeXt path a v s

/-- A write of the register at a0 over a path (R11 to R13, R454). -/
def busWrite (path : Path) (a0 : Nat) (v : Word) (s : State) : State :=
  let a := canonAddr a0
  let b := (a - 0x02000000) / 0x10000
  if answers s a && absentSet s a && a % 0x1000 == 0 && paired s b then modeRej b s
  else if !present s a || (rowOf a).isNone then s
  else match writeEffect path a v s with
    | some x => x
    | none => plainWrite path a v s

/-- Consecutive writes from a on. -/
def busWrites (path : Path) : Nat → List Word → State → State
  | _, [], s => s
  | a, v :: r, s => busWrites path (a + 4) r (busWrite path a v s)

/-! ### The commands -/

/-- REGISTER_WRITE (R11). -/
def execRegisterWrite (path : Path) (addr val : Word) (s : State) : Host.Outcome State Fault Refusal :=
  .next (busWrite path addr.toNat val s)

/-- WIDE_READ_SNAPSHOT (R13). -/
def execWideReadSnapshot (path : Path) (addr : Word) (s : State) : Host.Outcome State Fault Refusal :=
  let r := busRead path addr.toNat s
  .next (emit (.data path [r.2]) r.1)

/-- WIDE_WRITE_COMMIT (R13). -/
def execWideWriteCommit (path : Path) (addr val : Word) (s : State) : Host.Outcome State Fault Refusal :=
  .next (busWrite path addr.toNat val s)

/-- CONN_MEM_WRITE: a write of a page entry or PAGE_CAL (R255). -/
def execConnMemWrite (path : Path) (addr val : Word) (s : State) : Host.Outcome State Fault Refusal :=
  .next (onlyIf (pageOfAddr addr.toNat).isSome (busWrite path addr.toNat val) s)

/-- PG_MEMORY_WRITE: a write of node or transition memory (R287). -/
def execPgMemoryWrite (path : Path) (addr val : Word) (s : State) : Host.Outcome State Fault Refusal :=
  .next (onlyIf (pgMemory addr.toNat) (busWrite path addr.toNat val) s)

/-- PM_SNAP (R504). -/
def execPmSnap (s : State) : Host.Outcome State Fault Refusal := .next (onlyIf (coreOn s) pmSnap s)

/-- INTERVAL ms of Heartwood time have passed since INTERVAL was set or since its last snapshot (R504). -/
def snapDue (s : State) : Bool :=
  fld s 0x0B000000 15 0 != 0 && decide (s.xt.snapFrom + 25000 * fld s 0x0B000000 15 0 ≤ s.uptime)
/-- The snapshot of INTERVAL; the next one counts from it. -/
def snapInterval (s : State) : State :=
  pmSnap { s with xt := { s.xt with snapFrom := s.xt.snapFrom + 25000 * fld s 0x0B000000 15 0 } }

/-- PM_SNAP_INTERVAL (R504). -/
def execPmSnapInterval (s : State) : Host.Outcome State Fault Refusal :=
  .next (onlyIf (coreOn s && snapDue s) snapInterval s)

/-- ACC_CNT_CLR (R503). -/
def execAccCntClr (s : State) : Host.Outcome State Fault Refusal := .next (accCntClr s)

/-- NR_CNT_CLR (R466, R505). -/
def execNrCntClr (s : State) : Host.Outcome State Fault Refusal := .next (onlyIf (coreOn s) nrCntClr s)

/-! ### PCIe (R492) and Crosstree's rejected accesses (R490) -/

/-- An access is rejected: the latch bit of its path is set and its counter counts (R490, R492, R494). -/
def accRej (i : Nat) (s : State) : State := bump (0x10030 + 4 * i) 1 (setBit 0x10020 i true s)

/-- Doubleword n of the configuration header: Vendor and Device ID, Revision and Class, BAR0 as it stands, no other BAR (R491); the
rest is free. -/
def configHeader (s : State) (n : Nat) : Word :=
  match n with
  | 0 => 0x00961A47
  | 2 => 0x028000B0
  | 4 => s.ic.bar0
  | 5 | 6 | 7 | 8 | 9 => 0
  | _ => Config.pcieHeader n

/-- A configuration request (R406, R491). BAR0 is a 32-bit memory BAR of 256 MiB, so only its 4 highest bits are held. -/
def configRequest (q : ConfigRequest) (s : State) : State :=
  match q with
  | .header n => emit (.data .pcie [configHeader s n]) s
  | .bar0 v => { s with ic := { s.ic with bar0 := v &&& 0xF0000000 } }
  | .functionMask b => if b then { s with ic := { s.ic with funcMask := true } } else unmaskMsix none s
  | .readRequest n => { s with ic := { s.ic with readRequest := n } }

/-- A memory request of the host: above 64 bytes a read completes with Unsupported Request and a write is discarded; any other that
is not performed counts (R492). -/
def pcieRequest (q : PcieRequest) (s : State) : State :=
  let a := q.addr.toNat
  let ok : Bool := a % 4 == 0 && q.fullEnables && decide (a + 4 * q.dwords ≤ 0x10000000)
  match q.data with
  | none =>
    if 16 < q.dwords then emit .unsupported s
    else if !ok then accRej 0 (emit (.data .pcie (List.replicate q.dwords 0)) s)
    else
      let r := busReads .pcie a q.dwords s
      emit (.data .pcie r.2) r.1
  | some l =>
    if 16 < q.dwords then s else if !ok then accRej 0 s else busWrites .pcie a (l.take q.dwords) s

def execPcieMemoryRequest (req : PcieRequest) (s : State) : Host.Outcome State Fault Refusal :=
  .next (onlyIf s.ic.linkUp (fun x => match req.config with
    | some q => configRequest q x
    | none => pcieRequest req x) s)

/-- XT_ACCESS_REJECT: such a read returns 0, such a write is discarded; an access of four aligned bytes in the space is
no such access (R490). -/
def execXtAccessReject (write : Bool) (addr : BitVec 64) (size : Nat) (s : State) : Host.Outcome State Fault Refusal :=
  let bad : Bool := size != 4 || addr.toNat % 4 != 0 || decide (0x0FFFFFFF < addr.toNat)
  .next (onlyIf (coreOn s && bad) (fun x => accRej 2 (if write then x else emit (.data .xt [0]) x)) s)

/-! ### The BMC SPI target (R493 to R497) -/

/-- The BMC has sent a transaction: it is connected from then on (R497). -/
def bmcSeen (s : State) : State := { s with bmc := { s.bmc with connected := true } }

/-- CODE of SPI_STATUS. -/
def bmcCode (c : Nat) (s : State) : State := { s with bmc := { s.bmc with code := c } }

/-- MISO's words, most significant byte first. -/
def misoWords (l : List Word) : List Byte := l.flatMap fun w => toBytes 4 w.toNat

/-- The identity words of the ID command (R493). -/
def spiIdent (s : State) : State :=
  emit (.spi (misoWords [reg s 0x10000, reg s 0x10004, reg s 0x1000C, reg s 0x10008])) (bmcSeen s)

/-- The SPI_STATUS word (R496). -/
def spiWord (s : State) : Nat :=
  total [bitN s.bmc.running.isSome * 2 ^ 31, bitN (coreOn s) * 2 ^ 30, bitN s.boot.ready * 2 ^ 29, s.bmc.code * 2 ^ 16]
def spiStatusRun (s : State) : State := emit (.spi (toBytes 4 (spiWord s))) (bmcSeen s)
/-- A transaction of an unknown command byte has no effect, and MISO stays at 0 (R493). -/
def spiUnknown (r : List Byte) (s : State) : State := emit (.spi (List.replicate r.length 0)) (bmcSeen s)

/-- The whole words of MOSI's bytes, most significant byte first; one in which CS_N rises is discarded (R493). -/
def spiWords : List Byte → List Word
  | a :: b :: c :: d :: r => BitVec.ofNat 32 (ofBytes [a, b, c, d]) :: spiWords r
  | _ => []

/-- A word of a direct transaction can be performed (R494). -/
def directOk (a : Nat) : Bool := a % 4 == 0 && decide (a < 0x20000)

/-- A direct word that is not performed (R494). -/
def directBad (s : State) : State := accRej 1 (bmcCode 3 s)

/-- Direct reads (R494). -/
def spiReads : Nat → Nat → State → State × List Word
  | _, 0, s => (s, [])
  | a, n + 1, s =>
    let r := if directOk a then busRead .bmc a s else (directBad s, 0)
    let t := spiReads (a + 4) n r.1
    (t.1, r.2 :: t.2)
/-- READ: an address, a dummy byte, then a word for every 4 bytes that CS_N stays low (R493, R494). -/
def spiReadRun (mosi : List Byte) (s : State) : State :=
  match spiWords mosi with
  | [] => bmcSeen s
  | a :: _ =>
    let r := spiReads a.toNat ((mosi.length - 5) / 4) (bmcSeen s)
    emit (.spi (misoWords r.2)) r.1

/-- Direct writes (R494). -/
def spiWrites : Nat → List Word → State → State
  | _, [], s => s
  | a, v :: r, s => spiWrites (a + 4) r (if directOk a then busWrite .bmc a v s else directBad s)
/-- WRITE: an address, then words (R493, R494). -/
def spiWriteRun (mosi : List Byte) (s : State) : State :=
  match spiWords mosi with
  | [] => bmcSeen s
  | a :: r => spiWrites a.toNat r (bmcSeen s)

/-- A windowed access arrives: started, or CODE BUSY while one runs (R495). -/
def winStart (a : Word) (v : Option Word) (s : State) : State :=
  if s.bmc.running.isSome then bmcCode 1 s else { s with bmc := { s.bmc with running := some (a, v) } }
/-- WIN_READ: an address; WIN_WRITE: an address and one word (R493). -/
def winReadRun (mosi : List Byte) (s : State) : State :=
  match spiWords mosi with
  | [] => bmcSeen s
  | a :: _ => winStart a none (bmcSeen s)
def winWriteRun (mosi : List Byte) (s : State) : State :=
  match spiWords mosi with
  | a :: v :: _ => winStart a (some v) (bmcSeen s)
  | _ => bmcSeen s

/-- The CODE of a windowed access at a (R495). -/
def winStatus (s : State) (a : Nat) : Nat :=
  if a % 4 ≠ 0 ∨ 0x0FFFFFFF < a then 3 else if answers s (canonAddr a) then 0 else 2

/-- The windowed access completes (R495). -/
def winDone (s : State) : State :=
  match s.bmc.running with
  | none => s
  | some (a, v) =>
    let c := winStatus s a.toNat
    let s1 := { s with bmc := { s.bmc with running := none, code := c } }
    match v with
    | some w => if c = 0 then busWrite .bmc a.toNat w s1 else s1
    | none =>
      let r := if c = 0 then busRead .bmc a.toNat s1 else (s1, 0)
      { r.1 with bmc := { r.1.bmc with data := r.2, dataCode := c } }
def execWinAccessDone (s : State) : Host.Outcome State Fault Refusal := .next (winDone s)

/-- WIN_DATA: the data and CODE of the last completed windowed read (R495). -/
def winData (s : State) : State :=
  emit (.spi (toBytes 4 s.bmc.data.toNat ++ toBytes 1 s.bmc.dataCode)) (bmcSeen s)

/-- RESET: a warm start with cause BMC, or CODE BAD_ARG (R497). -/
def spiResetKey (key : Word) (s : State) : State :=
  if key = 0x5A5AC3C3 then warmStart 3 (bmcSeen s) else bmcCode 3 (bmcSeen s)
/-- RESET takes its key word; one cut short is discarded (R493). -/
def spiResetRun (mosi : List Byte) (s : State) : State :=
  match spiWords mosi with
  | [] => bmcSeen s
  | k :: _ => spiResetKey k s

/-- A transaction by its command byte and the bytes of MOSI after it (R493). -/
def spiRun (b : Nat) (r : List Byte) (s : State) : State :=
  match b with
  | 0x9F => spiIdent s
  | 0x05 => spiStatusRun s
  | 0x0B => spiReadRun r s
  | 0x02 => spiWriteRun r s
  | 0x21 => winReadRun r s
  | 0x22 => winWriteRun r s
  | 0x23 => winData s
  | 0xA5 => spiResetRun r s
  | _ => spiUnknown r s

def execSpiId (s : State) : Host.Outcome State Fault Refusal := .next (spiRun 0x9F [0] s)
def execSpiStatus (s : State) : Host.Outcome State Fault Refusal := .next (spiRun 0x05 [0] s)
def execSpiRead (addr rest : List Byte) (s : State) : Host.Outcome State Fault Refusal := .next (spiRun 0x0B (addr ++ rest) s)
def execSpiWrite (addr rest : List Byte) (s : State) : Host.Outcome State Fault Refusal := .next (spiRun 0x02 (addr ++ rest) s)
def execWinRead (mosi : List Byte) (s : State) : Host.Outcome State Fault Refusal := .next (spiRun 0x21 mosi s)
def execWinWrite (addr rest : List Byte) (s : State) : Host.Outcome State Fault Refusal := .next (spiRun 0x22 (addr ++ rest) s)
def execWinData (s : State) : Host.Outcome State Fault Refusal := .next (spiRun 0x23 [0] s)
def execSpiReset (t : SpiTransaction) (s : State) : Host.Outcome State Fault Refusal :=
  .next (match t with
    | .reset mosi => spiRun 0xA5 mosi s
    | .unknown b mosi => spiRun b.toNat mosi s)

end Sys2Proof.Machine
end

