-- ==== Sys2Proof/Machine/Boot.lean ====
section
/-! DEFINITION. Start-up (R437 to R458): flash records, the check and choice of an image slot, the stages. -/
namespace Sys2Proof.Machine
open Sys2Proof

/-! ### Records of a start-up (R439) -/

/-- The record of an area, of the readable flashes the one with the higher sequence number. -/
def recordAt (s : State) (a : Nat) : Option (Nat × Nat) :=
  (goodFlashes s).foldl (fun best f =>
    match lastRecord (flashOf s f) a, best with
    | some (q, w), some (q0, _) => if q0 < q then some (q, w) else best
    | some r, none => some r
    | none, b => b) none

/-- The boot record, in the layout of BOOT_PREF; FLASHA slot A where none is valid (R439). -/
def bootRecord (s : State) : Nat := match recordAt s 0 with | some (_, w) => w | none => 0

/-- The boot record is rewritten on every flash that takes it; BOOT_PREF shows it. -/
def putBootRecord (w : Nat) (s : State) : State :=
  setRegN 0x10160 w (forAll (fun f => appendRecord f 0 w) (goodFlashes s) s)

/-! ### The image (R440 to R446) -/

/-- Byte address of slot A (0) or B (1) (R438). -/
def slotBase (sl : Nat) : Nat := if sl = 0 then 0x01000000 else 0x10000000
/-- Bytes of a slot: 240 MiB. -/
def slotSize : Nat := 0x0F000000

/-- n bytes from offset i of slot sl of flash f. -/
def slotBytes (s : State) (f sl i n : Nat) : List Byte := memRead 0xFF (flashOf s f) (slotBase sl + i) n

/-- A section of an image: TYPE, SFLAGS, OFFSET, LENGTH, DIGEST. -/
structure Section where
  type : Nat
  flags : Nat
  off : Nat
  len : Nat
  digest : List Byte
  deriving DecidableEq, Repr

/-- The sections an image's table names. -/
def sectionsOf (s : State) (f sl : Nat) : List Section :=
  (upTo (fieldBe (slotBytes s f sl 10 2) 0 2)).map fun k =>
    let e := slotBytes s f sl (64 + 48 * k) 48
    { type := fieldBe e 0 2, flags := fieldBe e 2 2, off := fieldBe e 4 4, len := fieldBe e 8 4, digest := slice e 16 32 }

/-- A section's bytes. -/
def sectionData (s : State) (f sl : Nat) (x : Section) : List Byte := slotBytes s f sl x.off x.len

/-- A section's bytes hash to its DIGEST (R443). -/
def digestOk (s : State) (f sl : Nat) (x : Section) : Bool := Config.shake256 32 (sectionData s f sl x) == x.digest

def isSignature (t : Nat) : Bool := t == 0xF0 || t == 0xF1
def ofType (l : List Section) (t : Nat) : List Section := l.filter (·.type == t)
/-- Counts of the section types (R441), and no unknown CRITICAL type. -/
def countsOk (l : List Section) (maker : Bool) : Bool :=
  let n := fun (t : Nat) => (ofType l t).length
  n 1 == 1 && n 2 == 1 && n 3 == 1 && n 4 == 1 && n 0x10 == 1 && n 0x20 ≤ 16 && n 0x21 ≤ 1 && n 0x30 ≤ 1 &&
  n 0xF0 == 1 && n 0xF1 == bitN maker &&
  l.all fun x => [1, 2, 3, 4, 0x10, 0x20, 0x21, 0x30, 0xF0, 0xF1].contains x.type || !x.flags.testBit 0

/-- No section of the list overlaps one that follows it. -/
def apart : List Section → Bool
  | [] => true
  | x :: r => r.all (fun y => decide (x.off + x.len ≤ y.off ∨ y.off + y.len ≤ x.off)) && apart r

/-- The bytes that IMG_DIGEST covers: signature entries with their DIGEST as zeros (R440). -/
def digestedBytes (s : State) (f sl : Nat) (l : List Section) : List Byte :=
  slotBytes s f sl 0 24 ++ (upTo l.length).flatMap fun k =>
    let e := slotBytes s f sl (64 + 48 * k) 48
    if isSignature (fieldBe e 0 2) then e.take 16 ++ List.replicate 32 0 else e

/-- A signature section verifies over IMG_DIGEST under its key, whose digest is the fused one (R443). -/
def signed (s : State) (f sl : Nat) (l : List Section) (t : Nat) (fused : List Byte) : Bool :=
  match ofType l t with
  | [] => false
  | x :: _ =>
    let d := sectionData s f sl x
    Config.shake256 32 (d.take 68) == fused && d.length == Config.xmssKeyBytes + Config.xmssSignatureBytes &&
      Config.xmssVerify (d.take 68) (d.drop 68) (slotBytes s f sl 24 32)

/-- VERSIONS a manifest lists for interface i (R445). -/
def manifestMask (d : List Byte) (i : Nat) : Nat :=
  let n := min (fieldBe d 0 4) (d.length / 4 - 1)
  match ((upTo n).map fun k => fieldBe d (4 + 4 * k) 4).find? fun e => bits e 31 24 == i with
  | some e => bits e 15 0
  | none => 0

/-- The masks of a manifest for the six interfaces. -/
def manifestSets (d : List Byte) : List Nat := (upTo 6).map fun i => manifestMask d (i + 1)
/-- The silicon's masks (R445). -/
def siliconSets : List Nat := [0x0008, 0x000C, 0x0006, 0x0006, 0x0010, 0x0006]
/-- The common sets (R446). -/
def commonSets (fw hwm : List Nat) : List Nat :=
  List.zipWith (· &&& ·) siliconSets (List.zipWith (· &&& ·) fw hwm)

/-- The data of the one section of a type. -/
def oneSection (s : State) (f sl t : Nat) : List Byte :=
  match ofType (sectionsOf s f sl) t with
  | x :: _ => sectionData s f sl x
  | [] => []

/-- The masks of the microcode that counts: in the choice of a slot at a wake the running one's (R446). -/
def microSets (s : State) (f sl : Nat) : List Nat :=
  if bootKind s = 2 ∧ bootStage s = 3 then s.boot.hwmSets else manifestSets (oneSection s f sl 4)

/-- The common sets of a slot. -/
def slotSets (s : State) (f sl : Nat) : List Nat := commonSets (manifestSets (oneSection s f sl 2)) (microSets s f sl)

/-- The records of a board table: TYPE and data; none where a record runs past the section (R444). -/
def boardRecords : Nat → List Byte → Option (List (Nat × List Byte))
  | 0, _ => none
  | n + 1, l =>
    if l.isEmpty then some []
    else
      let k := fieldBe l 2 2
      if l.length < 4 + 4 * ceilDiv k 4 then none
      else match boardRecords n (l.drop (4 + 4 * ceilDiv k 4)) with
        | some r => some ((fieldBe l 0 2, slice l 4 k) :: r)
        | none => none

/-- The board table of a slot, as records. -/
def boardOf (s : State) (f sl : Nat) : Option (List (Nat × List Byte)) :=
  let d := oneSection s f sl 0x10
  boardRecords (d.length + 1) d

/-- The ten words of LANE_PRESENT, each most significant byte first (R444). -/
def presentWords (l : List Byte) : List Word := (upTo 10).map fun i => BitVec.ofNat 32 (fieldBe l (4 * i) 4)

/-- A record by its TYPE and data. -/
def boardRecord (t : Nat) (l : List Byte) : Option BoardRecord :=
  if t = 0x101 then (if l.length = 40 then some (.lanePresent (presentWords l)) else none) else Config.boardDecode t l

/-- LANE_PRESENT's words, where the table has them. -/
def presentOf (l : List BoardRecord) : Option (List Word) :=
  l.findSome? fun x => match x with | .lanePresent w => some w | _ => none

/-- Lane l is present: its bit of LANE_PRESENT, or without one every lane, lane 274 with its strap (R444, R527). -/
def presentLane (l : List BoardRecord) (mgt : Bool) (n : Nat) : Bool :=
  match presentOf l with
  | some w => n ≤ 274 && (w.getD (n / 32) 0).getLsbD (n % 32)
  | none => n < 274 || (n == 274 && mgt)

/-- MODE that the records give block b, OFF without one. -/
def modeOf (l : List BoardRecord) (b : Nat) : Nat :=
  (l.findSome? fun x => match x with | .cliMode k m _ => if k = b then some m else none | _ => none).getD 0

/-- A record's own check, its lanes and ports in their ranges; no rail of REG_MAP is VDD_HW or VDDA_HW, the supplies of domain HW (R221,
R413, R444, R514). -/
def recordOk (l : List BoardRecord) (mgt : Bool) (x : BoardRecord) : Bool :=
  match x with
  | .lanePresent _ => true
  | .laneEq n _ _ _ => n < 279
  | .laneMap g p => g < 8 && p.length == 16 && (upTo 16).all p.contains
  | .wkn p _ _ => p < 16
  | .cliMode b m ph => b < 32 && m ≤ 4 && ph < 16 && (m != 4 || (b % 2 == 0 && modeOf l (b + 1) == 0))
  | .waves w => w.length ≤ 18 && w.all (fun v => v.length ≤ 16 && v.all (· ≤ 274)) &&
      (upTo 275).all fun n => !presentLane l mgt n || w.flatten.count n == 1
  | .strapOvr _ _ => true
  | .regMap r => (r.filter (·.avs)).map (·.dom) == [3] && r.all (·.dom != 0)
  | .oppMargin a b c => [a, b, c].all fun m => decide (-50 ≤ m) && decide (m ≤ 50)
  | .boardId _ _ => true

/-- STRAP_OVR's value of strap n (0 PCIe, 1 management), or the latched one (R444, R513). -/
def strapOver (l : List BoardRecord) (n : Nat) (b : Bool) : Bool :=
  (l.findSome? fun x => match x with | .strapOvr p m => if n = 0 then p else m | _ => none).getD b

/-- The board table passes (R444): every record is one, and passes its own check. -/
def boardOk (s : State) (f sl : Nat) : Bool :=
  match boardOf s f sl with
  | none => false
  | some l =>
    let rs := l.filterMap fun x => boardRecord x.1 x.2
    rs.length == l.length && rs.all (recordOk rs (strapOver rs 1 s.boot.latchMgt))

/-! ### Slots (R447, R448) -/

/-- The structural check of R442: reason 0x5 LENGTH or 0x6 SECTIONS, none where it passes. -/
def structureFails (s : State) (f sl : Nat) : Option Nat :=
  let len := fieldBe (slotBytes s f sl 12 4) 0 4
  let n := fieldBe (slotBytes s f sl 10 2) 0 2
  if slotSize < len then some 5
  else if n = 0 ∨ 32 < n then some 6
  else
    let l := sectionsOf s f sl
    if l.all (fun x => decide (x.off + x.len ≤ len)) && apart l && countsOk l (slotBytes s f sl 20 4 != [] && bits (fieldBe (slotBytes s f sl 20 4) 0 4) 0 0 == 1) &&
      l.all (fun x => !isSignature x.type || x.len == 2888) then none
    else some 6

/-- A write into the slot was left incomplete: the slot fails DIGEST (R463). -/
def tornSlot (s : State) (f sl : Nat) : Bool := s.boot.torn.any fun x => x.1 == f && within (slotBase sl) slotSize x.2.1

/-- The checks of one slot in their order: REASON and IFACE of SLOT_STATUS (R448). -/
def slotCheck (s : State) (f sl : Nat) : Nat × Nat :=
  let h := slotBytes s f sl
  if !flashUp s f then (2, 0)
  else if h 0 8 ≠ [0x45, 0x50, 0x53, 0x41, 0x52, 0x49, 0x4D, 0x47] then (3, 0)
  else if fieldBe (h 8 2) 0 2 ≠ 4 then (4, 0)
  else match structureFails s f sl with
    | some r => (r, 0)
    | none =>
      let l := sectionsOf s f sl
      let good := fun (t : Nat) => (ofType l t).all (digestOk s f sl)
      let sets := slotSets s f sl
      if tornSlot s f sl || Config.shake256 32 (digestedBytes s f sl l) != h 24 32 then (7, 0)
      else if !signed s f sl l 0xF0 Config.vendorKeyDigest then (8, 0)
      else if Config.makerKeyEnabled && !signed s f sl l 0xF1 Config.makerKeyDigest then (9, 0)
      else if !good 2 || !good 4 then (7, 0)
      else if sets.contains 0 then (0xA, sets.findIdx (· == 0) + 1)
      else if !good 0x10 then (7, 0)
      else if !boardOk s f sl then (0xB, 0)
      else if l.all (fun x => isSignature x.type || digestOk s f sl x) then (1, 0) else (7, 0)

/-- The order in which the slots are tried (R447): 2f + s. -/
def slotOrder (w : Nat) : List Nat :=
  let f := if w.testBit 31 then bits w 5 5 else bits w 1 1
  let sl := if w.testBit 31 then bits w 4 4 else bits w 0 0
  [2 * f + sl, 2 * f + (1 - sl), 2 * (1 - f) + sl, 2 * (1 - f) + (1 - sl)]

/-- Slots are checked in order until one passes; SLOT_STATUS records each (R447, R448). -/
def trySlots : List Nat → State → State × Option Nat
  | [], s => (s, none)
  | n :: r, s =>
    let c := slotCheck s (n / 2) (n % 2)
    let s1 := setRegN (0x10120 + 4 * n) (c.1 * 2 ^ 28 + c.2 * 2 ^ 24) s
    if c.1 = 1 then (s1, some n) else trySlots r s1

/-! ### Stages (R450 to R454) -/

/-- The flash and slot in use. -/
def usedFlash (s : State) : Nat := s.boot.slot / 2
def usedSlot (s : State) : Nat := s.boot.slot % 2

/-- Stage 1: straps latched (R513). -/
def stagePor (r : StageResult) (s : State) : State :=
  setStage 2 { s with boot := { s.boot with
    strapPcie := r.straps.getLsbD 0, strapMgt := r.straps.getLsbD 1, latchPcie := r.straps.getLsbD 0, latchMgt := r.straps.getLsbD 1 } }

/-- The power epoch: the higher valid record of the readable flashes plus 1, written back; 0 where none is readable (R186). -/
def powerEpoch (s : State) : State :=
  let fs := goodFlashes s
  if fs.isEmpty then s
  else
    let top := fs.foldl (fun n f => match lastRecord (flashOf s f) 0x10000 with | some (_, w) => max n w | none => n) 0
    let e := min (top + 1) 0xFFFFFFFF
    setRegN 0x108 e (forAll (fun f => appendRecord f 0x10000 e) fs s)

/-- Flash f is faulty from now on: FLASH_FAULT, both of its slots read FLASH, and the pin fault (R449, R482). -/
def flashFails (f : Nat) (s : State) : State :=
  let mark := fun (x : State) =>
    forAll (fun n y => setReg (0x10120 + 4 * (2 * f + n)) 0x20000000 y) [0, 1]
      { x with boot := { x.boot with flashFault := x.boot.flashFault ||| BitVec.ofNat 2 (2 ^ f) } }
  withPins (2 + f) f (!s.boot.flashFault.getLsbD f) mark s

/-- The flashes of a stage that does not answer a read, or not its retry (R449). -/
def noteFlash (r : StageResult) (s : State) : State :=
  forAll flashFails ([0, 1].filter fun f => !r.flashOk.getLsbD f) s

/-- Stage 2: IO on, flashes probed, and 8D-8D-8D selected where the flash advertises it; power epoch, boot record (R186, R437,
R449). -/
def stageFlash (r : StageResult) (s : State) : State :=
  let s1 := setDom 4 true { s with boot := { s.boot with flashFault := 0, flashOctal := r.octal &&& r.flashOk } }
  let s2 := powerEpoch (noteFlash r s1)
  setStage 3 (pmEpoch (regN s2 0x108) (setRegN 0x10160 (bootRecord s2) s2))

/-- A slot has qualified: what the registers and the running start take from it (R445, R446, R450). -/
def useSlot (n : Nat) (trial : Bool) (s : State) : State :=
  let f := n / 2
  let sl := n % 2
  let sets := slotSets s f sl
  let s1 := forAll (fun i x => setRegN (0x10140 + 4 * i) (Nat.log2 (sets.getD i 0) * 2 ^ 16 + sets.getD i 0) x) (upTo 6) s
  let hash := fun (t : Nat) => Config.shake256 32 (oneSection s f sl t)
  setFld 0x10100 20 18 (4 + n) { s1 with boot := { s1.boot with
    slot := n, trial := trial, fwDigest := hash 1, boardDigest := hash 0x10, build := fieldBe (slotBytes s f sl 16 4) 0 4 } }

/-- Stage 3: a slot is chosen, or the device furls with NO_IMAGE (R447); USED_*, TRIAL, SLOT_STATUS and IFACE_SET are written anew
(R465), both slots of a faulty flash read FLASH (R449). At a wake stage 4 is skipped (R451). -/
def stageImage (s : State) : State :=
  let w := bootRecord s
  let order := slotOrder w
  let s0 := setFld 0x10100 20 18 0 { s with boot := { s.boot with trial := false } }
  let s1 := forAll (fun n x => setReg (0x10120 + 4 * n) (if s.boot.flashFault.getLsbD (n / 2) then 0x20000000 else 0) x) (upTo 4)
    (forAll (fun i x => setReg (0x10140 + 4 * i) 0 x) (upTo 6) s0)
  let s2 := if w.testBit 31 then putBootRecord (bits w 30 0) s1 else setRegN 0x10160 w s1
  let t := trySlots order s2
  match t.2 with
  | none => furl 1 t.1
  | some n =>
    let first := order.head? == some n
    let s3 := useSlot n (w.testBit 31 && first) t.1
    let s4 := if first then s3 else bootEvent 2 s3
    setStage (if bootKind s = 2 then 5 else 4) s4

/-- The board table in use. -/
def boardUsed (s : State) : List BoardRecord :=
  ((boardOf s (usedFlash s) (usedSlot s)).getD []).filterMap fun x => boardRecord x.1 x.2

/-- Stage 4: the microcode, loaded where its digest is not the running one's; STRAP_OVR over the straps as latched; the regulators
configured from REG_MAP over PMBus (R450 to R453). -/
def stageHwm (r : StageResult) (s : State) : State :=
  let f := usedFlash s
  let sl := usedSlot s
  let b := boardUsed s
  let rails := b.flatMap fun x => match x with | .regMap l => l | _ => []
  let s1 := { s with boot := { s.boot with
    hwmDigest := Config.shake256 32 (oneSection s f sl 3), hwmSets := manifestSets (oneSection s f sl 4)
    strapPcie := strapOver b 0 s.boot.latchPcie, strapMgt := strapOver b 1 s.boot.latchMgt, regMap := rails } }
  if r.pass && !s.reef.busStuck then setStage 5 (forAll (fun x => emit (.regulator x)) rails s1) else furl 2 s1

/-- Stage 5: the core domain on at the boot voltage and 0.4 GHz and out of reset, PCIE on (R450); LKTX and MGTX with them. -/
def coreOnline (s : State) : State :=
  let s1 := if bootKind s = 2 then s
    else forAll (fun d x => setDom d true x) ([3] ++ (if s.boot.strapPcie then [5] else []) ++ [6, 2]) s
  setStage 6 (coreRise (coreBoot s1))

/-- A warm start does not see CORE's power-good: the domain is off and tried once more; when that fails too, what the start brought up
goes off, the failure is recorded and raised as a wake's, and the start stands until another is requested (R433, R480; log entry
233). -/
def coreFails (s : State) : State :=
  let n := s.boot.coreTries
  let s1 := { s with boot := { s.boot with coreTries := min 2 (n + 1) } }
  if n = 0 then setDom 3 false s1
  else if n = 1 then
    let s2 := forAll (fun d => setDom d false) [2, 6, 5, 3] s1
    reefEvent 7 (bumpHi 0x00200108 1 (reefEnd 4 3 3 (setReef { s2.reef with wakeFail := true, origin := 0 } s2)))
  else s

/-- Stage 5 (R450, R480). -/
def stageCore (r : StageResult) (s : State) : State :=
  if bootKind s = 1 && (!r.pass || s.boot.coreTries == 2) then coreFails s else coreOnline s

/-- PAIRS at a start: every pair in service; those retired stay so at a wake alone (R451, R478). -/
def pairsAtStart (s : State) : Nat :=
  let r := if bootKind s = 2 then fld s 0x501C 15 8 else 0
  r * 256 + (255 - r)

/-- The firmware gives each trunk port, mailbox instance and Crosstree target to a pair in service; to which is free (R477). -/
def shareOut (s : State) : State :=
  let on := (upTo 8).filter fun k => bitAt s 0x501C k
  { s with fresh := s.fresh + 48
           faults := { s.faults with owners := (upTo 48).map fun x => (x, on.getD ((Config.freeBits (s.fresh + x)).toNat % on.length) 0) } }

/-- Stage 6: firmware loaded, pairs released (R453). -/
def stageXt (r : StageResult) (s : State) : State :=
  if Config.shake256 32 (oneSection s (usedFlash s) (usedSlot s) 1) ≠ s.boot.fwDigest then furl 3 s
  else if r.pass then setStage 7 (shareOut (setRegN 0x501C (pairsAtStart s) s))
  else furl (if r.which = 0 then 3 else 4) s

/-- OPPn: the fused target and the slot's margin (R435). -/
def oppValue (s : State) (n : Nat) : Nat :=
  let m := ((boardUsed s).findSome? fun x => match x with | .oppMargin a b c => some ([a, b, c].getD n 0) | _ => none).getD 0
  (((Config.fusedOpp n).toNat : Int) + m).toNat % 1024

/-- Stage 7: margins applied, VDD_CORE raised to OPP0 and then the clock to Reef 0's (R425, R435, R450). -/
def stageOpp (r : StageResult) (s : State) : State :=
  let s1 := forAll (fun n x => setRegN (0x00200030 + 4 * n) (oppValue s n) x) (upTo 3) s
  let mv := oppValue s 0
  if !r.pass || s.reef.busStuck || s.reef.avsStuck then furl 2 s1
  else
    let s2 := if s1.reef.mv = mv then s1 else avsWrite mv s1
    setStage 8 (setReef { s2.reef with mvOld := mv, coreMHz := clockOf 0 } s2)

/-- Lane l is present by the board table in use. -/
def lanePresent (s : State) (l : Nat) : Bool := presentLane (boardUsed s) s.boot.strapMgt l

/-- Lists of n, the last one shorter; the fuel is their number. -/
def chunks (n : Nat) : Nat → List Nat → List (List Nat)
  | 0, _ => []
  | k + 1, l => if l.isEmpty then [] else l.take n :: chunks n k (l.drop n)

/-- The waves in which the present lanes are calibrated: WAVES', or 16 lanes each in ascending order (R450, R527). -/
def wavesOf (s : State) : List (List Nat) :=
  let here := (upTo 275).filter (lanePresent s)
  match (boardUsed s).findSome? fun x => match x with | .waves w => some w | _ => none with
  | some w => w.map fun v => v.filter here.contains
  | none => chunks 16 18 here

/-- The domain that lane l's port or block lies in, of those that stage 8 switches on. -/
def laneDom (l : Nat) : List Nat :=
  if l < 128 then [0x40 + l / 4] else match trunkOf l with | some p => [0x20 + p] | none => []

/-- One wave: its trunk ports' and client blocks' domains on, then its lanes enabled; a lane whose retained EN is 1 starts from its
first state (R431, R450). -/
def runWave (w : List Nat) (s : State) : State :=
  let s1 := forAll (fun d x => setDom d true x) (w.flatMap laneDom) s
  forAll (fun l x => if bitAt x (laneR l 0) 0 then restLane l x else enablePort l true x) w s1

/-- What a record of the board table writes at stage 8 (R444, R452). -/
def applyRecord (x : BoardRecord) (s : State) : State :=
  match x with
  | .laneEq l tx rx inv =>
    busWrite .xt (laneR l 0x14) rx (busWrite .xt (laneR l 0x10) tx (setBit (laneR l 0) 1 inv s))
  | .laneMap g p => { s with boot := { s.boot with laneMap := s.boot.laneMap.put g p } }
  | .wkn p w d => busWrite .xt (halR p 0xC) d (busWrite .xt (wknR p 0) w s)
  | .cliMode b m ph => busWrite .xt (cliR b 0) (BitVec.ofNat 32 (16 * ph + m)) s
  | _ => s

/-- Stage 8: the board table's registers, then the lanes in waves, each with its domains; a client block that is not dark is powered
in every case (R413, R450, R452, R453). -/
def stageLanes (r : StageResult) (s : State) : State :=
  let s1 := forAll applyRecord (boardUsed s) { s with boot := { s.boot with laneMap := [] } }
  let s2 := forAll runWave (wavesOf s) s1
  let s3 := forAll (fun d x => setDom d true x) (cliDoms.filter fun d => !blockDark s (d - 0x40)) s2
  setStage 9 (forAll (fun l x => if lanePresent s l then laneEvent l 1 (laneStep l (fun y => { y with tx := 8, rx := 8 }) x) else x)
    (r.lanesBad.map Fin.val) s3)

/-- Stage 9: the HBM stacks powered, trained and written with zeros; one that fails twice is lost (R450, R453, R481). -/
def stageHbm (r : StageResult) (s : State) : State :=
  let s1 := if bootKind s = 2 then s else forAll (fun d x => setDom d true x) hbmDoms s
  let n := r.which % 4
  if r.pass then setStage 10 (setHbmAvail true (forAll (fun n x => setBit (stkR n 0) 31 true x) (upTo 4) s1))
  else furl 5 (logEvent 7 (Config.logCode 7 n) (0x10 + n) n (stkEvent n 2 (setBit (stkR n 0) 29 true s1)))

/-- Stages 10 and 11: SRAM and TCAM initialised, self-tests (R453). -/
def stageTest (r : StageResult) (s : State) : State := if r.pass then setStage (bootStage s + 1) s else furl 6 s

/-- Connection memory in page 1 is armed and made active; false where the page is rejected (R263). -/
def loadPage (s : State) : State × Bool :=
  let s1 := pageArmDone (pageArm s)
  if s1.tsi.armed then (pageForce s1, true) else (s1, false)

/-- Root keys of a KEYS section; false where one is rejected (R374, R375). -/
def loadKeys : List (Nat × Nat × List Byte) → State → State × Bool
  | [], s => (s, true)
  | (n, use, w) :: r, s =>
    let x := rootLoad n use w s
    if x.2 = 0 then loadKeys r x.1 else (x.1, false)

/-- Stage 12: TABLES and POLICY written, the graph committed, page 1 made active, rule, Canopy and TCAM entries and keys loaded; the index of the first section that
fails stands in the record (R452, R453; log entry 202). -/
def stageLoad (r : StageResult) (s : State) : State :=
  let f := usedFlash s
  let sl := usedSlot s
  let l := sectionsOf s f sl
  let parts := l.filter fun x => x.type == 0x20 || x.type == 0x21
  let ws := parts.flatMap fun x => Config.sectionWrites (sectionData s f sl x)
  let s1 := pgCopyDone (pgCommit (forAll (fun aw x => busWrite .xt aw.1 aw.2 x) ws s))
  let p := if ws.any fun aw => pageOfAddr aw.1 == some 1 then loadPage s1 else (s1, true)
  let ru := loadRules ((ofType l 0x20).flatMap fun x => Config.sectionRules (sectionData s f sl x)) p.1
  let en := loadEntries ((ofType l 0x20).flatMap fun x => Config.sectionEntries (sectionData s f sl x)) ru.1
  let k := loadKeys ((ofType l 0x30).flatMap fun x => Config.sectionKeys (sectionData s f sl x)) en.1
  let numbered := l.zip (upTo l.length)
  let those := fun (p : Section → Bool) => (numbered.filter fun x => p x.1).map Prod.snd
  let bad := those (fun x => [0x20, 0x21, 0x30].contains x.type && !digestOk s f sl x) ++
    (if p.2 && ru.2 && en.2 then [] else those (·.type == 0x20)) ++ (if k.2 then [] else those (·.type == 0x30)) ++ (if r.pass then [] else [r.which])
  match bad with
  | [] => setStage 13 k.1
  | n :: _ => furlWith 7 n k.1

/-- One trunk port's enables together (R452). -/
def enableTrunk (p : Nat) (s : State) : State :=
  setBit (bksR p 0) 0 true (writeHalEnable p true (regEnable p true s))

/-- Stage 13's enables in the order of the loads table (R452). -/
def stageEnables (s : State) : State :=
  let on := fun (a : Nat) (v : Word) (x : State) => setReg a (reg x a ||| v) x
  let tb := fun (x : State) =>
    if refOk x 0 || refOk x 1 then setBit 0x01400000 0 true x else { x with boot := { x.boot with tbDue := true } }
  let s1 := tb (withRises (on 0x00100000 1) s)
  let s2 := on 0x06000000 3 (on 0x05000000 3 (on 0x07000000 3 s1))
  let s3 := tsiEnable true (on 0x04100000 1 (on 0x04000000 1 (on 0x03100000 1 (on 0x03000000 1 s2))))
  let s4 := forAll (fun b x => forAll (fun u y => if subExists y b u then setBit (subR b u 0) 31 true y else y) (upTo 4) x) (upTo 33) s3
  let s5 := forAll enableTrunk (upTo 16) s4
  forAll (fun p x => if (waiken x p).rxStep = 7 then writeFrEn p true x else x) (upTo 16) s5

/-- What completes a warm start after a core-domain reset: counted, recorded, raised (R479, R483). -/
def warmStartDone (s : State) : State :=
  if bootKind s = 1 then
    fltEvent 0 (logEvent 4 (fld s 0x5018 31 28) 0 0 (bump 0x5100 1 s))
  else s

/-- Stage 13: enables, the configuration lock and READY in one cycle, then RUN (R452, R455, R456). -/
def stageEnable (s : State) : State :=
  let s1 := setReg 0x10108 1 (stageEnables s)
  let s2 := setReg64 0x1010C s1.uptime (raiseReady s1)
  warmStartDone (bootEvent 0 (setStage 14 s2))

/-- STARTUP_STAGE: the stage in progress ends as the hardware found it (R450). -/
def bootStep (r : StageResult) (s : State) : State :=
  match bootStage s with
  | 1 => stagePor r s
  | 2 => stageFlash r s
  | 3 => stageImage (noteFlash r s)
  | 4 => stageHwm r s
  | 5 => stageCore r s
  | 6 => stageXt r (noteFlash r s)
  | 7 => stageOpp r s
  | 8 => stageLanes r s
  | 9 => stageHbm r s
  | 10 => stageTest r s
  | 11 => stageTest r s
  | 12 => stageLoad r (noteFlash r s)
  | 13 => stageEnable s
  | _ => s

def execStartupStage (found : StageResult) (s : State) : Host.Outcome State Fault Refusal :=
  .next (onlyIf s.boot.supplies (bootStep found) s)

/-- SUPPLIES_GOOD: the cold start begins with stage 1 (R450). -/
def execSuppliesGood (s : State) : Host.Outcome State Fault Refusal :=
  .next { s with boot := { s.boot with supplies := true } }

end Sys2Proof.Machine
end

