-- ==== Sys2Proof/Machine/Commands.lean ====
section
/-! DEFINITION. The mailbox commands of images, registration, time and reef levels (R461, R462, R528; R88, R188, R416). -/
namespace Sys2Proof.Machine
open Sys2Proof

/-! ### Images (R462) -/

/-- MB_HELLO (R461). -/
def cmdHello (_ : MbRequest) (s : State) : MbAnswer :=
  { state := s, status := 0
    body := [regN s 0x1014C, s.boot.build, (showReg s 0x10100).toNat, regN s 0x10104] ++
      (upTo 4).map fun n => regN s (0x10120 + 4 * n) }

/-- A flash and a slot argument are in range. -/
def slotArgs (r : MbRequest) : Bool := r.arg 0 < 2 && r.arg 1 < 2

/-- The slot that the running start used; none in Furled (R462). -/
def runningSlot (s : State) (f sl : Nat) : Bool := !s.boot.furled && bitAt s 0x10100 20 && s.boot.slot == 2 * f + sl

/-- What is left of the incomplete writes once n bytes of flash f from a on are written whole. -/
def mendTorn (f a n : Nat) (s : State) : State :=
  { s with boot := { s.boot with torn := s.boot.torn.filter fun x => x.1 != f || decide (x.2.1 < a) || decide (a + n < x.2.1 + x.2.2) } }

/-- A write of l at address a of flash f that power loss cuts short: how many bytes have been written is free, and the slot fails DIGEST
(R463). -/
def tearFlash (f a : Nat) (l : List Byte) (s : State) : State :=
  let s1 := flashPut f a (l.take (freeVal s % (l.length + 1))) (drawn s)
  { s1 with boot := { s1.boot with torn := (f, a, l.length) :: s1.boot.torn } }

/-- IMG_ERASE; where power is lost during it the command ends FAULT (R480), and the slot stays as it was or is erased, which is free. -/
def cmdImgErase (cut : Bool) (r : MbRequest) (s : State) : MbAnswer :=
  let f := r.arg 0
  let sl := r.arg 1
  if !slotArgs r then mbStatus 3 s
  else if runningSlot s f sl then mbStatus 1 s
  else if !flashUp s f then mbStatus 9 s
  else if cut then mbStatus 9 (if freeBit s then flashErase f (slotBase sl) slotSize (drawn s) else drawn s)
  else mbStatus 0 (flashWrites (mendTorn f (slotBase sl) slotSize (flashErase f (slotBase sl) slotSize s)))

/-- IMG_WRITE: the data run to the end of the body. Where power is lost during it, the command ends FAULT (R480). -/
def cmdImgWrite (cut : Bool) (r : MbRequest) (s : State) : MbAnswer :=
  let f := r.arg 0
  let sl := r.arg 1
  let data := bytesOfWords (r.body.drop 3)
  if !slotArgs r || decide (slotSize < r.arg 2 + data.length) then mbStatus 3 s
  else if runningSlot s f sl then mbStatus 1 s
  else if !flashUp s f then mbStatus 9 s
  else if cut then mbStatus 9 (tearFlash f (slotBase sl + r.arg 2) data s)
  else mbStatus 0 (flashWrites (mendTorn f (slotBase sl + r.arg 2) data.length (flashPut f (slotBase sl + r.arg 2) data s)))

/-- IMG_READ; a read that fails its retry marks the flash faulty (R449). -/
def cmdImgRead (unread : Bool) (r : MbRequest) (s : State) : MbAnswer :=
  let f := r.arg 0
  let n := r.arg 3
  if !slotArgs r || decide (4088 < n) || decide (slotSize < r.arg 2 + n) then mbStatus 3 s
  else if !flashUp s f then mbStatus 9 s
  else if unread then mbStatus 9 (flashFails f s)
  else { state := s, status := 0, body := wordsOf (slotBytes s f (r.arg 1) (r.arg 2) n), len := some n }

/-- The status that a reason of R448 gives (R461). -/
def checkStatus (reason : Nat) : Nat :=
  if reason = 1 then 0 else if reason = 2 then 9 else if reason = 0xA then 6
  else if 7 ≤ reason ∧ reason ≤ 9 then 7 else 3

/-- IMG_CHECK: the slot checks' result; a read that fails its retry marks the flash faulty first (R449). -/
def cmdImgCheck (unread : Bool) (r : MbRequest) (s : State) : MbAnswer :=
  if !slotArgs r then mbStatus 3 s
  else
    let s1 := if unread && flashUp s (r.arg 0) then flashFails (r.arg 0) s else s
    let c := slotCheck s1 (r.arg 0) (r.arg 1)
    { state := s1, status := checkStatus c.1, body := [c.1 * 2 ^ 28 + c.2 * 2 ^ 24] }

/-- The boot record with a slot as trial or as preference. -/
def selected (w f sl : Nat) (trial : Bool) : Nat :=
  if trial then withBits (withBits w 31 31 1) 5 4 (2 * f + sl) else withBits (withBits w 31 31 0) 1 0 (2 * f + sl)

/-- IMG_SELECT: IMG_CHECK, and on OK the boot record. -/
def cmdImgSelect (unread : Bool) (r : MbRequest) (s : State) : MbAnswer :=
  let a := cmdImgCheck unread r s
  if a.status = 0 then
    { a with state := flashWrites (putBootRecord (selected (bootRecord s) (r.arg 0) (r.arg 1) (r.arg 2 % 2 == 1)) s) }
  else a

/-- IMG_CONFIRM: the running trial slot becomes the preference. -/
def cmdImgConfirm (_ : MbRequest) (s : State) : MbAnswer :=
  if !s.boot.trial then mbStatus 5 s
  else if (goodFlashes s).isEmpty then mbStatus 9 s
  else mbStatus 0 (flashWrites (putBootRecord (withBits (bootRecord s) 1 0 s.boot.slot) s))

/-- DEV_RESET's own part: the reply; the warm start follows it (R461, R463). -/
def cmdDevReset (_ : MbRequest) (s : State) : MbAnswer := mbStatus 0 s

def execMbHello (i : Fin 2) (s : State) : Host.Outcome State Fault Refusal := .next (onlyIf (coreOn s) (mbRun i 0x01 cmdHello) s)
def execImgErase (c : FlashCommand) (s : State) : Host.Outcome State Fault Refusal :=
  .next (onlyIf (coreOn s) (mbRun c.inst 0x10 (cmdImgErase c.fails)) s)
def execImgWrite (c : FlashCommand) (s : State) : Host.Outcome State Fault Refusal :=
  .next (onlyIf (coreOn s) (mbRun c.inst 0x11 (cmdImgWrite c.fails)) s)
def execImgRead (c : FlashCommand) (s : State) : Host.Outcome State Fault Refusal :=
  .next (onlyIf (coreOn s) (mbRun c.inst 0x12 (cmdImgRead c.fails)) s)
def execImgCheck (c : FlashCommand) (s : State) : Host.Outcome State Fault Refusal :=
  .next (onlyIf (coreOn s) (mbRun c.inst 0x13 (cmdImgCheck c.fails)) s)
def execImgSelect (c : FlashCommand) (s : State) : Host.Outcome State Fault Refusal :=
  .next (onlyIf (coreOn s) (mbRun c.inst 0x14 (cmdImgSelect c.fails)) s)
def execImgConfirm (i : Fin 2) (s : State) : Host.Outcome State Fault Refusal := .next (onlyIf (coreOn s) (mbRun i 0x15 cmdImgConfirm) s)
def execDevReset (i : Fin 2) (s : State) : Host.Outcome State Fault Refusal :=
  .next (onlyIf (coreOn s) (mbRunThen i 0x18 (warmStart 2) cmdDevReset) s)

/-! ### Registration (R88) -/

/-- f on the port that word 0 names; BAD_ARG above 15. -/
def onPort (f : Nat → State → MbAnswer) (r : MbRequest) (s : State) : MbAnswer :=
  if r.arg 0 < 16 then f (r.arg 0) s else mbStatus 3 s

def cmdRegEnable (r : MbRequest) : State → MbAnswer := onPort (fun p s => mbStatus 0 (regEnable p (r.arg 1 % 2 == 1) s)) r
def cmdRegRelease (r : MbRequest) : State → MbAnswer := onPort (fun p s => let x := regRelease p s; mbStatus x.2 x.1) r
def cmdRegSilence (r : MbRequest) : State → MbAnswer := onPort (fun p s => let x := regSilence p (r.arg 1) s; mbStatus x.2 x.1) r
def cmdRegStatus (r : MbRequest) : State → MbAnswer :=
  onPort (fun p s => { state := s, status := 0
                       body := [0x404, 0x408, 0x40C, 0x410, 0x414].map fun o => (showReg s (trkR p o)).toNat }) r

def execRegEnable (i : Fin 2) (s : State) : Host.Outcome State Fault Refusal := .next (onlyIf (coreOn s) (mbRun i 0x40 cmdRegEnable) s)
def execRegRelease (i : Fin 2) (s : State) : Host.Outcome State Fault Refusal := .next (onlyIf (coreOn s) (mbRun i 0x41 cmdRegRelease) s)
def execRegSilence (i : Fin 2) (s : State) : Host.Outcome State Fault Refusal := .next (onlyIf (coreOn s) (mbRun i 0x42 cmdRegSilence) s)
def execRegStatus (i : Fin 2) (s : State) : Host.Outcome State Fault Refusal := .next (onlyIf (coreOn s) (mbRun i 0x43 cmdRegStatus) s)

/-! ### Time (R188) -/

def cmdTimeTod (r : MbRequest) (s : State) : MbAnswer := let x := timeTod (r.arg64 0) s; mbStatus x.2 x.1
def cmdArmStep (_ : MbRequest) (s : State) : MbAnswer := mbStatus 0 (armStep true s)
def cmdTimeRead (_ : MbRequest) (s : State) : MbAnswer :=
  { state := s, status := 0
    body := ((upTo 4).map fun i => (showReg s (0x01400010 + 4 * i)).toNat) ++
      [tbState s, fld s 0x01400004 29 29, regN s 0x108, (showReg s 0x100).toNat, (showReg s 0x104).toNat] }

def execTimeTod (i : Fin 2) (s : State) : Host.Outcome State Fault Refusal := .next (onlyIf (coreOn s) (mbRun i 0x50 cmdTimeTod) s)
def execTimeArmStep (i : Fin 2) (s : State) : Host.Outcome State Fault Refusal := .next (onlyIf (coreOn s) (mbRun i 0x51 cmdArmStep) s)
def execTimeRead (i : Fin 2) (s : State) : Host.Outcome State Fault Refusal := .next (onlyIf (coreOn s) (mbRun i 0x52 cmdTimeRead) s)

/-! ### Reef levels (R416) -/

/-- REEF_SET: the fields of REEF_CMD, TRK_DARK_REQ and CLI_DARK_REQ, a request with or without GO; nothing changes unless
the status is OK. -/
def cmdReefSet (r : MbRequest) (s : State) : MbAnswer :=
  let v := BitVec.ofNat 32 (r.arg 0)
  let s0 := if v.getLsbD 30 then setReef { s.reef with wakeFail := false } s else s
  let s1 := writeCliDarkReq (BitVec.ofNat 32 (r.arg 2)) (setRegN 0x0020000C (r.arg 1 % 65536) s0)
  let x := reefRequest .pcie v s1
  if x.2 = 0 then mbStatus 0 x.1 else mbStatus x.2 s

def execReefSet (i : Fin 2) (s : State) : Host.Outcome State Fault Refusal := .next (onlyIf (coreOn s) (mbRun i 0x80 cmdReefSet) s)

end Sys2Proof.Machine
end

