-- ==== Sys2Proof/Machine/Inband.lean ====
section
/-! DEFINITION. Crosstree toward the outside: the notification ring (R464) and the in-band management channel (R498 to
R500). -/
namespace Sys2Proof.Machine
open Sys2Proof

/-! ### The notification ring (R464) -/

/-- NR_EVENT bit i: NEW signals source 1002, DROP source 1003 (R466). -/
def nrEvent (i : Nat) : State → State := raise 0x0A020020 0x0A020024 i (1002 + i)
/-- The ring is in use. -/
def nrOn (s : State) : Bool := bitAt s 0x0A020000 31
/-- Units of 64 bytes in the ring. -/
def nrUnits (s : State) : Nat := 2 ^ (min (max (fld s 0x0A02000C 4 0) 16) 26 - 6)
def nrProd (s : State) : Nat := fld s 0x0A020010 19 0 % nrUnits s
def nrCons (s : State) : Nat := fld s 0x0A020014 19 0 % nrUnits s

/-- Crosstree's next record: a log record, a Canopy event that Crosstree consumes, an exception copy. -/
inductive NextRecord where
  | log (type : Nat) (bytes : List Byte) (rest : List (Nat × List Byte))
  | event (words : List Nat) (rest : List (List Nat))
  | copy (x : Copy) (rest : List Copy)

/-- The record that is due: of the three kinds in that order, the oldest. -/
def nextRecord (s : State) : Option NextRecord :=
  match s.xt.records with
  | (t, b) :: r => some (.log t b r)
  | [] => match (if bitAt s 0x04000010 31 then [] else s.can.events) with
    | e :: r => some (.event e r)
    | [] => match s.cls.cpu with
      | x :: r => some (.copy x r)
      | [] => none

/-- The record leaves its queue. -/
def NextRecord.taken (n : NextRecord) (s : State) : State :=
  match n with
  | .log _ _ r => { s with xt := { s.xt with records := r } }
  | .event _ r => { s with can := { s.can with events := r } }
  | .copy _ r => { s with cls := { s.cls with cpu := r } }

/-- TYPE and payload. -/
def NextRecord.content (n : NextRecord) : Nat × List Byte :=
  match n with
  | .log t b _ => (t, b)
  | .event w _ => (1, w.flatMap (toBytes 4))
  | .copy x _ => (2, (Config.copyMeta x.cls x.down x.words x.stamp x.unset x.length ++ List.replicate 64 0).take 64 ++ x.bytes)

/-- A record's header and payload, padded to 64 bytes. -/
def ringBytes (type seq : Nat) (l : List Byte) : List Byte :=
  toBytes 4 (type * 2 ^ 24) ++ toBytes 4 l.length ++ toBytes 4 seq ++ toBytes 4 0 ++ l ++
    List.replicate (64 * ceilDiv (16 + l.length) 64 - 16 - l.length) 0

/-- A record written at NR_PROD, after padding where it would cross the ring's end; none where it does not fit. -/
def putRecord (type : Nat) (l : List Byte) (s : State) : Option State :=
  let n := ceilDiv (16 + l.length) 64
  let p := nrProd s
  let pad := if nrUnits s < p + n then nrUnits s - p else 0
  let used := (p + nrUnits s - nrCons s) % nrUnits s
  if !dmaOk false s || decide (nrUnits s ≤ used + pad + n) then none
  else
    let base := reg64 s 0x0A020004
    let seq := s.xt.recSeq
    let s1 := if pad = 0 then s else dmaWrite false (base + 64 * p) (ringBytes 0 seq (List.replicate (64 * pad - 16) 0)) s
    let seq1 := seq + (if pad = 0 then 0 else 1)
    let at_ := (p + pad) % nrUnits s
    let s2 := dmaWrite false (base + 64 * at_) (ringBytes type (seq1 % 2 ^ 32) l) s1
    let s3 := setRegN 0x0A020010 ((at_ + n) % nrUnits s) { s2 with xt := { s2.xt with recSeq := (seq1 + 1) % 2 ^ 32 } }
    some (bump 0x0A020108 1 (if used = 0 then nrEvent 0 s3 else s3))

/-- An exception copy whose class does not go to the ring. -/
def NextRecord.kept (n : NextRecord) (s : State) : Bool :=
  match n with
  | .copy x _ => !(reg64 s 0x0A020018).testBit x.cls
  | _ => false

/-- A record that waits where it does not fit: every one but a copy. -/
def NextRecord.waits : NextRecord → Bool
  | .copy _ _ => false
  | _ => true

/-- A record that has to wait: it goes to the ring, and does not fit. -/
def NextRecord.stuck (n : NextRecord) (s : State) : Bool :=
  nrOn s && n.waits && (putRecord n.content.1 n.content.2 (n.taken s)).isNone

/-- A record goes to the ring, is consumed by Crosstree itself, or is dropped (R464). -/
def deliverRecord (n : NextRecord) (s : State) : State :=
  if !nrOn s || n.kept s then n.taken s
  else match putRecord n.content.1 n.content.2 (n.taken s) with
    | some x => x
    | none => nrEvent 1 (bump 0x0A02010C 1 (n.taken s))

/-- The next exception copy is delivered, whatever waits before it. -/
def deliverCopy (s : State) : State :=
  match s.cls.cpu with
  | x :: rest => deliverRecord (.copy x rest) s
  | [] => s

/-- NR_RECORD_WRITE: the next record; where that waits for room, the next exception copy, which does not (R464). -/
def recordWrite (s : State) : State :=
  match nextRecord s with
  | none => s
  | some n => if n.stuck s then deliverCopy s else deliverRecord n s

def execNrRecordWrite (s : State) : Host.Outcome State Fault Refusal := .next (onlyIf (coreOn s) recordWrite s)

/-! ### Commands by code (R461, R498) -/

/-- What a command of a defined code does. -/
def commandFor (code : Nat) : MbRequest → State → MbAnswer :=
  match code with
  | 0x01 => cmdHello
  | 0x10 => cmdImgErase false
  | 0x11 => cmdImgWrite false
  | 0x12 => cmdImgRead false
  | 0x13 => cmdImgCheck false
  | 0x14 => cmdImgSelect false
  | 0x15 => cmdImgConfirm
  | 0x18 => cmdDevReset
  | 0x40 => cmdRegEnable
  | 0x41 => cmdRegRelease
  | 0x42 => cmdRegSilence
  | 0x43 => cmdRegStatus
  | 0x50 => cmdTimeTod
  | 0x51 => cmdArmStep
  | 0x52 => cmdTimeRead
  | 0x60 => cmdIndWrite
  | 0x70 => cmdRootLoad
  | 0x71 => cmdRootClear
  | 0x72 => cmdAttest
  | 0x73 => cmdIdentity
  | 0x80 => cmdReefSet
  | _ => fun _ s => mbStatus 3 s

/-- What follows the reply of a command: DEV_RESET's warm start. -/
def afterReply (code : Nat) : State → State := if code = 0x18 then warmStart 2 else id

/-- Mailbox requests that arrived before are executed first, one at a time (R498). -/
def runWaiting : Nat → State → State
  | 0, s => s
  | n + 1, s => match s.xt.requests with
    | [] => s
    | i :: _ =>
      let code := (requestOf s i).code
      runWaiting n (mbRunThen i code (afterReply code) (commandFor code) s)

/-! ### In-band messages (R499, R500) -/

def mcAuth (s : State) : Bool := bitAt s 0x0A030000 30 && !s.boot.furled
/-- Address of the highest SEQ accepted on a transport. -/
def mcSeqR (trunk : Bool) : Nat := if trunk then 0x0A030010 else 0x0A030008

/-- LEN of the mailbox request a message carries. -/
def msgLen (l : List Byte) : Nat := fieldBe l 18 2

/-- The mailbox request of a message. -/
def msgRequest (l : List Byte) : MbRequest :=
  { ver := fieldBe l 12 1, code := fieldBe l 14 2, tag := fieldBe l 16 2, len := msgLen l
    body := wordsOf (slice l 20 (msgLen l)) }

/-- The tag over a message's bytes (R500). -/
def mcTag (s : State) (l : List Byte) : List Byte :=
  match rootKey s (fld s 0x0A030000 4 0) with
  | some k => Config.kmac256 16 k.key [0x53, 0x48, 0x52, 0x4F, 0x55, 0x44, 0x2D, 0x4D, 0x43] l
  | none => []

/-- A message is a well-formed request that this transport may bring now (R499, R500, R505). -/
def mcAccepts (s : State) (m : InbandArrival) : Bool :=
  let l := m.bytes
  let n := 20 + msgLen l
  let form := decide (20 ≤ l.length) && fieldBe l 0 2 == 0x0101 && decide (n + (if mcAuth s then 16 else 0) ≤ l.length)
  let fresh := decide (reg64 s (mcSeqR m.fromTrunk) < fieldBe l 4 8)
  if s.boot.furled then form && !m.fromTrunk && fieldBe l 12 1 == 1 && fresh
  else
    form && bitAt s 0x0A030000 31 && (!m.fromTrunk || bitAt s 0x0A030000 29) &&
    (!mcAuth s || (rootFor s (fld s 0x0A030000 4 0) 1 && slice l n 16 == mcTag s (l.take n) && fresh))

/-- The reply to a message: header, SEQ, mailbox reply, tag. -/
def mcReply (s : State) (l : List Byte) (r : MbRequest) (a : MbAnswer) : List Byte :=
  let mb := ((replyHead r a.status a.bytes).flatMap (toBytes 4)) ++ (a.body.flatMap (toBytes 4)).take a.bytes
  let x := [0x01, 0x02, 0, 0] ++ slice l 4 8 ++ mb
  if mcAuth s then x ++ mcTag s x else x

/-- A frame of Crosstree's goes to the management port (R236). -/
def mgtSend (dest : List Byte) (l : List Byte) (s : State) : State :=
  mgtQueue (frameWithFcs (dest ++ ownMac s 32 0 ++ [0x88, 0xB5] ++ l)) s

/-- A reply travels as its request came (R499). -/
def mcSend (m : InbandArrival) (l : List Byte) (s : State) : State :=
  if m.fromTrunk then
    let f : Stored := { bytes := l, owner := fld s 0x05000024 8 0, pool := 0, hbm := false, queue := 0, gran := 0, refs := 0,
                        dtid := fld s 0x0A030004 27 16, stream := m.stream.toNat, mgmt := true }
    processorFrame f (fld s 0x0A030004 15 0) s
  else mgtSend (toBytes 6 m.source.toNat) l s

/-- An accepted request is judged, executed and answered like a mailbox request. -/
def mcExecute (m : InbandArrival) (s : State) : State :=
  let r := msgRequest m.bytes
  let s1 := setReg64 (mcSeqR m.fromTrunk) (max (reg64 s (mcSeqR m.fromTrunk)) (fieldBe m.bytes 4 8)) s
  match mbJudge s1 r with
  | some st => mcSend m (mcReply s1 m.bytes r (mbStatus st s1)) s1
  | none =>
    let a := commandFor r.code r (bump 0x0A030100 1 s1)
    afterReply r.code (mcSend m (mcReply a.state m.bytes r a) a.state)

/-- An in-band message arrives (R498 to R500). -/
def inband (m : InbandArrival) (s : State) : State :=
  let s1 := runWaiting s.xt.requests.length s
  if !coreOn s1 then s1
  else if mcAccepts s1 m then mcExecute m s1 else bump 0x0A030104 1 s1

def execInbandRequest (msg : InbandArrival) (s : State) : Host.Outcome State Fault Refusal :=
  .next (onlyIf (coreOn s) (inband msg) s)

end Sys2Proof.Machine
end

