-- ==== Sys2Proof/Machine/Ingress.lean ====
section
/-! DEFINITION. What arrives at the device's edges: client frames (R224 to R229), management frames (R236, R237), downstream
envelopes (R56 to R61). -/
namespace Sys2Proof.Machine
open Sys2Proof

/-! ### Client frames -/

/-- The EtherType of a frame. -/
def etherType (l : List Byte) : Nat := fieldBe l 12 2

/-- UC_ENTRY k of a sub-port holds a destination address. -/
def ucMatches (s : State) (b u : Nat) (dest k : Nat) : Bool :=
  let hi := regN s (subR b u (0x104 + 8 * k))
  hi.testBit 31 && dest == regN s (subR b u (0x100 + 8 * k)) + 2 ^ 32 * bits hi 15 0

/-- The address filter passes a frame (R229). -/
def filterPasses (s : State) (b u : Nat) (l : List Byte) : Bool :=
  let a := subR b u 0
  let dest := fieldBe l 0 6
  let h := crc32 (l.take 6) % 4096
  if !bitAt s a 30 then true
  else if !dest.testBit 40 then (upTo (if b = 32 then 4 else 32)).any (ucMatches s b u dest)
  else if dest = 2 ^ 48 - 1 then bitAt s a 29
  else bitAt s a 28 || (b != 32 && (regN s (subR b u (0x200 + 4 * (h / 32)))).testBit (h % 32))

/-- The counter of R225's list under which a frame is discarded; none where it passes. A PFC frame that R230 acts on is
no control frame of item 4. -/
def rxDiscard (s : State) (b u : Nat) (f : ClientFrame) : Option Nat :=
  let l := f.bytes
  if !f.good then some 0x830
  else if l.length < 64 then some 0x834
  else if maxFrame s b u < l.length then some 0x838
  else if etherType l = 0x8808 then some 0x83C
  else if !filterPasses s b u l then some 0x840
  else none

/-- Codewords counted with a frame's receipt. -/
def countRxFec (b u : Nat) (f : ClientFrame) (s : State) : State :=
  let s1 := bump64 (subR b u 0x828) f.uncorrCw (bump64 (subR b u 0x820) f.corrCw s)
  if f.uncorrCw = 0 then s1 else cliEvent b u 2 s1

/-- RX_FRAMES and RX_BYTES. -/
def countRx (b u : Nat) (l : List Byte) (s : State) : State :=
  bump64 (subR b u 0x808) l.length (bump64 (subR b u 0x800) 1 s)

/-- What CLIENT_RX_FRAME does outside a slotted sub-port, of which it brings the codewords alone (R240; log entry 219): PFC acted on, the checks of R225, the FIFO rule of R226, then the forwarding path. -/
def clientRx (b u : Nat) (f : ClientFrame) (s : State) : State :=
  let s1 := countRxFec b u f s
  if f.good && validPfc f.bytes && b != 32 then rxPfc b u f.bytes s1
  else match rxDiscard s1 b u f with
    | some o => bump (subR b u o) 1 s1
    | none =>
      if fifoShare s1 b < shareFill s1 b u + maxFrame s1 b u then bump (subR b u 0x844) 1 s1
      else
        let a : Arrival := { up := true, block := b, sub := u, bytes := f.bytes, stamp := f.stamp, unset := !timeHeld s1,
                             start := fld s1 (0x03000100 + 4 * b) 7 0 }
        takeAll (pressureSettle b u (setFifo b (fifoOf s1 b ++ [a]) (countRx b u f.bytes s1)))

def execClientRxFrame (b : Fin 32) (sub : Fin 4) (rx : ClientFrame) (s : State) : Host.Outcome State Fault Refusal :=
  .next (onlyIf (coreOn s && macUp s b sub) (fun x => if subSlotted x b sub then countRxFec b sub rx x else clientRx b sub rx x) s)

/-! ### Management frames -/

/-- The bytes of a frame that pattern k covers (R237). -/
def patternBytes (s : State) (k : Nat) (l : List Byte) : List Byte :=
  let n := min (fld s (0x2000 + 0x20 * k) 7 0) 128
  ((upTo n).filter fun b => (regN s (0x2004 + 0x20 * k + 4 * (b / 32))).testBit (b % 32)).map fun b => l.getD b 0

/-- Wake pattern k matches a frame whose FCS is good (R237). -/
def patternMatches (s : State) (k : Nat) (l : List Byte) : Bool :=
  let n := min (fld s (0x2000 + 0x20 * k) 7 0) 128
  let mask := (upTo 4).any fun i => reg s (0x2004 + 0x20 * k + 4 * i) != 0
  bitAt s (0x2000 + 0x20 * k) 31 && n != 0 && decide (n ≤ l.length) && mask && crc32 (patternBytes s k l) == regN s (0x2014 + 0x20 * k)

/-- The wake matchers at Reef 3: every match is latched, a latch that rises signals source 40 (R238). -/
def wakeMatch (l : List Byte) (s : State) : State :=
  let hit := (upTo 8).filter fun k => patternMatches s k l
  let rises := hit.any fun k => !bitAt s 0x2100 k
  let s1 := forAll (fun k x => setBit 0x2100 k true x) hit s
  if rises && bitAt s 0x2104 0 then signalSource 40 s1 else s1

/-- A frame of the management port at Reef 0 to Reef 2: R225 applies, EtherType 0x88B5 carries an in-band message. -/
def mgmtRx (l : List Byte) (good : Bool) (s : State) : State :=
  match rxDiscard s 32 0 { bytes := l, good := good, stamp := 0, corrCw := 0, uncorrCw := 0 } with
  | some o => bump (subR 32 0 o) 1 s
  | none =>
    let s0 := countRx 32 0 l s
    let s1 := { s0 with xt := { s0.xt with rxStamp := some (readNow s, !timeHeld s) } }
    if etherType l = 0x88B5 then
      inband { fromTrunk := false, port := 0, source := BitVec.ofNat 48 (fieldBe l 6 6), stream := 0
               bytes := (l.drop 14).take (l.length - 18) } s1
    else s1

/-- MGMT_RX_FRAME (R236, R237); at Reef 3 lane 274 receives only where its retained EN is 1 (R431). -/
def mgmtFrame (l : List Byte) (good : Bool) (s : State) : State :=
  if s.reef.level = 3 then (if good && s.reef.phase != .entering && bitAt s (laneR 274 0) 0 then wakeMatch l s else s)
  else if coreOn s && macUp s 32 0 then mgmtRx l good s
  else s

def execMgmtRxFrame (bytes : List Byte) (good : Bool) (s : State) : Host.Outcome State Fault Refusal :=
  .next (mgmtFrame bytes good s)

/-! ### Downstream envelopes -/

/-- The lowest occupied filter entry that holds an ID (R60). -/
def filterEntry (s : State) (p id : Nat) : Option Nat :=
  (upTo 8).find? fun k => bitAt s (trkR p (0x40 + 4 * k)) 31 && fld s (trkR p (0x40 + 4 * k)) 11 0 == id

/-- An opened envelope goes where its FLAGS say (R247, R370, R499). -/
def deliverPlain (p entry h : Nat) (body : List Byte) (s : State) : State :=
  let stream := bits h 51 36
  if h.testBit 33 then deliverRigid p stream body s
  else if h.testBit 32 then
    inband { fromTrunk := true, port := Fin.ofNat 16 p, source := 0, stream := BitVec.ofNat 16 stream, bytes := body } s
  else
    let a : Arrival := { up := false, block := 0, sub := 0, port := p, stream := stream, dtid := bits h 63 52, entry := entry, bytes := body,
                         start := fld s (0x03000180 + 4 * p) 7 0 }
    takeAll { s with shrOut := s.shrOut ++ [a] }

/-- An envelope of a key epoch that is not available, counted toward KEYF (R61, R63). -/
def keyDiscard (p : Nat) (s : State) : State :=
  pmDiscard p 1 (setFramer p { framer s p with keyfNow := true } (bump (trkR p 0x234) 1 s))

/-- An admitted envelope: key epoch, version, Shroud (R61, R370), by the keys of its header's instant (R380). Under version 2 a
KEY of 2 or 3 goes before RIGID and counts as an unavailable key epoch (R38, R63; log entry 170). -/
def admittedEnvelope (p entry h : Nat) (key : Option Epoch) (payload : List Byte) (s : State) : State :=
  let v2 := (regnOf s p).version == 2
  let e := bits h 35 34
  match key with
  | none => keyDiscard p s
  | some k =>
    if (epochOf s p e).isNone || (v2 && decide (2 ≤ e)) then keyDiscard p s
    else if v2 && h.testBit 33 then pmDiscard p 1 (bump (trkR p 0x238) 1 s)
    else
      let r := openEnvelope p entry (bits h 63 52) h k payload s
      match r.2 with
      | some body => deliverPlain p entry h body r.1
      | none => r.1

/-- An envelope received whole in SYNC, by its header, what that was matched with and its payload (R60). -/
def syncEnvelope (p h : Nat) (m : RunHead) (payload : List Byte) (s : State) : State :=
  if bits h 29 16 = 0 then bump64 (trkR p 0x228) 1 s
  else match m.entry with
    | none => bump64 (trkR p 0x220) 1 s
    | some k => admittedEnvelope p k h m.key payload (bump64 (trkR p 0x218) 1 s)

/-- The next header of the run in SYNC, of which `here` bytes have arrived: a bad one ends delineation at its position; a good
one is matched against the filter, and by its frame's number against the key epochs, and its envelope is taken off the run when it
is whole (R56 to R60, R380, R382). -/
def syncStep (p here : Nat) (s : State) : State :=
  let f := framer s p
  let h := frontHeader f.run
  let size := envSize (bits h 29 16)
  if here < 8 then s
  else if !envHeaderGood h then toHunt p f.run s
  else
    let s1 := if f.head.isNone then headerEpoch p (frontFrame f) s else s
    let m := f.head.getD { entry := filterEntry s1 p (bits h 63 52), key := headerKey s1 p (bits h 35 34) (frontFrame f) }
    if here < size then setFramer p { f with head := some m } s1
    else syncEnvelope p h m (slice f.run 8 (bits h 29 16)) (setFramer p { f with run := f.run.drop size, head := none } s1)

/-- The run from the first of its 4-byte positions, at most n, at which a header passes; else what is left of it, and
whether one passed (R58). -/
def seekHeader : Nat → List Byte → Bool × List Byte
  | 0, l => (false, l)
  | n + 1, l =>
    if l.length < 8 then (false, l)
    else if envHeaderGood (frontHeader l) then (true, l)
    else seekHeader n (l.drop 4)

/-- DOWNSTREAM_ENVELOPE: one step of delineation in the run, of whose bytes no more than the first `got` have arrived: the
command of a frame brings its payload whole, and the bytes of a frame arrive over its 125 µs (R58 to R61; log entry 186). -/
def envelope (p got : Nat) (s : State) : State :=
  let f := framer s p
  let here := min got f.run.length
  match f.delin with
  | .hunt =>
    let r := seekHeader (here / 4) (f.run.take here)
    setFramer p { f with run := r.2 ++ f.run.drop here, delin := if r.1 then .presync else .hunt } s
  | .presync =>
    let size := envSize (bits (frontHeader f.run) 29 16)
    if here < size + 8 then s
    else if envHeaderGood (frontHeader (f.run.drop size)) then
      syncStep p (here - size) (setFramer p { f with delin := .sync, run := f.run.drop size, head := none } s)
    else setFramer p { f with delin := .hunt, run := f.run.drop 4 } s
  | .sync => syncStep p here s

def execDownstreamEnvelope (p : Fin 16) (got : Nat) (s : State) : Host.Outcome State Fault Refusal :=
  .next (onlyIf (coreOn s && framerOn s p && (framer s p).locked) (envelope p got) s)

end Sys2Proof.Machine
end

