-- ==== Sys2Proof/Machine/Dispatch.lean ====
section
/-! DEFINITION. One arm per command: the meaning of each, by its full name. -/
namespace Sys2Proof.Machine
open Sys2Proof

def exec (i : Instr) (s : State) : Host.Outcome State Fault Refusal :=
  match i with
  | .registerWrite path addr val => Sys2Proof.Machine.execRegisterWrite path addr val s
  | .wideReadSnapshot path addr => Sys2Proof.Machine.execWideReadSnapshot path addr s
  | .wideWriteCommit path addr val => Sys2Proof.Machine.execWideWriteCommit path addr val s
  | .sighting p pos bits => Sys2Proof.Machine.execSighting p pos bits s
  | .trackerCheck p k rx => Sys2Proof.Machine.execTrackerCheck p k rx s
  | .downstreamFrame p rx => Sys2Proof.Machine.execDownstreamFrame p rx s
  | .downstreamEnvelope p got => Sys2Proof.Machine.execDownstreamEnvelope p got s
  | .forceHunt p => Sys2Proof.Machine.execForceHunt p s
  | .frCntClr p => Sys2Proof.Machine.execFrCntClr p s
  | .frCtlEnWrite p en => Sys2Proof.Machine.execFrCtlEnWrite p en s
  | .losRaise p => Sys2Proof.Machine.execLosRaise p s
  | .losClear p => Sys2Proof.Machine.execLosClear p s
  | .lolClear p => Sys2Proof.Machine.execLolClear p s
  | .lodChange p => Sys2Proof.Machine.execLodChange p s
  | .keyfChange p => Sys2Proof.Machine.execKeyfChange p s
  | .sdWindow p => Sys2Proof.Machine.execSdWindow p s
  | .pmSecond p => Sys2Proof.Machine.execPmSecond p s
  | .pmBinEnd p day => Sys2Proof.Machine.execPmBinEnd p day s
  | .pmBinClose p day => Sys2Proof.Machine.execPmBinClose p day s
  | .pmSelWrite p bin => Sys2Proof.Machine.execPmSelWrite p bin s
  | .pmClrCur p => Sys2Proof.Machine.execPmClrCur p s
  | .afEntryWrite p k val => Sys2Proof.Machine.execAfEntryWrite p k val s
  | .hail p => Sys2Proof.Machine.execHail p s
  | .versionOffer p => Sys2Proof.Machine.execVersionOffer p s
  | .assignId p => Sys2Proof.Machine.execAssignId p s
  | .rangeSet p => Sys2Proof.Machine.execRangeSet p s
  | .eqdConfirm p halyard backstay => Sys2Proof.Machine.execEqdConfirm p halyard backstay s
  | .eqdChangeApply p => Sys2Proof.Machine.execEqdChangeApply p s
  | .rangeProbe p => Sys2Proof.Machine.execRangeProbe p s
  | .timeSet p => Sys2Proof.Machine.execTimeSet p s
  | .timeSetHeldApply p => Sys2Proof.Machine.execTimeSetHeldApply p s
  | .keyRotate p => Sys2Proof.Machine.execKeyRotate p s
  | .grantProfile p => Sys2Proof.Machine.execGrantProfile p s
  | .tsiSwitch p => Sys2Proof.Machine.execTsiSwitch p s
  | .reefNotice p => Sys2Proof.Machine.execReefNotice p s
  | .reefGrant p => Sys2Proof.Machine.execReefGrant p s
  | .silence p => Sys2Proof.Machine.execSilence p s
  | .unmuzzle p => Sys2Proof.Machine.execUnmuzzle p s
  | .release p => Sys2Proof.Machine.execRelease p s
  | .releaseEffect p => Sys2Proof.Machine.execReleaseEffect p s
  | .park p => Sys2Proof.Machine.execPark p s
  | .echo p => Sys2Proof.Machine.execEcho p s
  | .tmmUnknown p => Sys2Proof.Machine.execTmmUnknown p s
  | .announceTimerExpiry p => Sys2Proof.Machine.execAnnounceTimerExpiry p s
  | .rangeTimerExpiry p => Sys2Proof.Machine.execRangeTimerExpiry p s
  | .holdTimerExpiry p => Sys2Proof.Machine.execHoldTimerExpiry p s
  | .silenceDurationEnd p => Sys2Proof.Machine.execSilenceDurationEnd p s
  | .regEnable inst => Sys2Proof.Machine.execRegEnable inst s
  | .regRelease inst => Sys2Proof.Machine.execRegRelease inst s
  | .regSilence inst => Sys2Proof.Machine.execRegSilence inst s
  | .regStatus inst => Sys2Proof.Machine.execRegStatus inst s
  | .replyLookoutFallback p => Sys2Proof.Machine.execReplyLookoutFallback p s
  | .lookoutLaneUpChange n up => Sys2Proof.Machine.execLookoutLaneUpChange n up s
  | .lookoutLmReceived n lm => Sys2Proof.Machine.execLookoutLmReceived n lm s
  | .lmDelayEnd n => Sys2Proof.Machine.execLmDelayEnd n s
  | .timedLmSend => Sys2Proof.Machine.execTimedLmSend s
  | .lkoTxenForcedRelease n => Sys2Proof.Machine.execLkoTxenForcedRelease n s
  | .lkoCntClr => Sys2Proof.Machine.execLkoCntClr s
  | .grantMapValidation p => Sys2Proof.Machine.execGrantMapValidation p s
  | .burstCommit p => Sys2Proof.Machine.execBurstCommit p s
  | .launchDeadlineMiss p => Sys2Proof.Machine.execLaunchDeadlineMiss p s
  | .burstLaunch p => Sys2Proof.Machine.execBurstLaunch p s
  | .burstEnd p => Sys2Proof.Machine.execBurstEnd p s
  | .dozeExit p => Sys2Proof.Machine.execDozeExit p s
  | .laneReadinessCheck p => Sys2Proof.Machine.execLaneReadinessCheck p s
  | .halEnableWrite p en => Sys2Proof.Machine.execHalEnableWrite p en s
  | .dozeCtlWrite p val => Sys2Proof.Machine.execDozeCtlWrite p val s
  | .ctxLookupWrite p alloc => Sys2Proof.Machine.execCtxLookupWrite p alloc s
  | .halCntClr p => Sys2Proof.Machine.execHalCntClr p s
  | .backstayMap p => Sys2Proof.Machine.execBackstayMap p s
  | .cutOff p instant votes => Sys2Proof.Machine.execCutOff p instant votes s
  | .muzzleAlertRepeat p => Sys2Proof.Machine.execMuzzleAlertRepeat p s
  | .cleanFrameCount p clean => Sys2Proof.Machine.execCleanFrameCount p clean s
  | .unlockFirstWrite path p => Sys2Proof.Machine.execUnlockFirstWrite path p s
  | .unlockSecondWrite path p => Sys2Proof.Machine.execUnlockSecondWrite path p s
  | .silenceGateClose p => Sys2Proof.Machine.execSilenceGateClose p s
  | .dryFireStartup p shots => Sys2Proof.Machine.execDryFireStartup p shots s
  | .periodicDryFire p shot => Sys2Proof.Machine.execPeriodicDryFire p shot s
  | .dryFireDefer p => Sys2Proof.Machine.execDryFireDefer p s
  | .retest p shots => Sys2Proof.Machine.execRetest p shots s
  | .copyFault p copy => Sys2Proof.Machine.execCopyFault p copy s
  | .clockFault p => Sys2Proof.Machine.execClockFault p s
  | .clockFaultClear p => Sys2Proof.Machine.execClockFaultClear p s
  | .txdisPinFault p high => Sys2Proof.Machine.execTxdisPinFault p high s
  | .bksCntClr => Sys2Proof.Machine.execBksCntClr s
  | .rateWrite val => Sys2Proof.Machine.execRateWrite val s
  | .timeApply => Sys2Proof.Machine.execTimeApply s
  | .servoMeasurement => Sys2Proof.Machine.execServoMeasurement s
  | .slewEnd => Sys2Proof.Machine.execSlewEnd s
  | .timeSourceChange => Sys2Proof.Machine.execTimeSourceChange s
  | .holdoverLimit => Sys2Proof.Machine.execHoldoverLimit s
  | .referenceLoss r => Sys2Proof.Machine.execReferenceLoss r s
  | .referenceReturn r => Sys2Proof.Machine.execReferenceReturn r s
  | .ppsOutPulse => Sys2Proof.Machine.execPpsOutPulse s
  | .ppsOutEnd => Sys2Proof.Machine.execPpsOutEnd s
  | .ppsInEdge instant => Sys2Proof.Machine.execPpsInEdge instant s
  | .ppsInMiss => Sys2Proof.Machine.execPpsInMiss s
  | .rclkRelease n => Sys2Proof.Machine.execRclkRelease n s
  | .timeTod inst => Sys2Proof.Machine.execTimeTod inst s
  | .timeArmStep inst => Sys2Proof.Machine.execTimeArmStep inst s
  | .timeRead inst => Sys2Proof.Machine.execTimeRead inst s
  | .stepArmWrite => Sys2Proof.Machine.execStepArmWrite s
  | .tbCntClr => Sys2Proof.Machine.execTbCntClr s
  | .laneEnable l en => Sys2Proof.Machine.execLaneEnable l en s
  | .retrain l => Sys2Proof.Machine.execRetrain l s
  | .laneCntClr l => Sys2Proof.Machine.execLaneCntClr l s
  | .waikenBringupStep p half found => Sys2Proof.Machine.execWaikenBringupStep p half found s
  | .waikenTimeout p => Sys2Proof.Machine.execWaikenTimeout p s
  | .waikenCapRetry p => Sys2Proof.Machine.execWaikenCapRetry p s
  | .waikenControlBlock p tick => Sys2Proof.Machine.execWaikenControlBlock p tick s
  | .laneLockLoss p lane => Sys2Proof.Machine.execLaneLockLoss p lane s
  | .waikenRateSwitch p => Sys2Proof.Machine.execWaikenRateSwitch p s
  | .waikenVersionAttempt p => Sys2Proof.Machine.execWaikenVersionAttempt p s
  | .dozeCheck p => Sys2Proof.Machine.execDozeCheck p s
  | .txPllSourceChange p => Sys2Proof.Machine.execTxPllSourceChange p s
  | .receiverDetect l found => Sys2Proof.Machine.execReceiverDetect l found s
  | .legShort l => Sys2Proof.Machine.execLegShort l s
  | .patCtlWrite l val => Sys2Proof.Machine.execPatCtlWrite l val s
  | .patternLockChange l bits errs => Sys2Proof.Machine.execPatternLockChange l bits errs s
  | .injSingle l => Sys2Proof.Machine.execInjSingle l s
  | .injBurst l len => Sys2Proof.Machine.execInjBurst l len s
  | .portModeWrite b val => Sys2Proof.Machine.execPortModeWrite b val s
  | .cliCntClr b => Sys2Proof.Machine.execCliCntClr b s
  | .macCtlWrite b sub val => Sys2Proof.Machine.execMacCtlWrite b sub val s
  | .linkDown b sub remote => Sys2Proof.Machine.execLinkDown b sub remote s
  | .linkUp b sub rxLat txLat => Sys2Proof.Machine.execLinkUp b sub rxLat txLat s
  | .clientRxFrame b sub rx => Sys2Proof.Machine.execClientRxFrame b sub rx s
  | .cellRequest c => Sys2Proof.Machine.execCellRequest c s
  | .cellWaitExpiry pool r => Sys2Proof.Machine.execCellWaitExpiry pool r s
  | .pfcRx b sub bytes => Sys2Proof.Machine.execPfcRx b sub bytes s
  | .pfcPauseExpiry b sub prio => Sys2Proof.Machine.execPfcPauseExpiry b sub prio s
  | .pfcRefresh b sub => Sys2Proof.Machine.execPfcRefresh b sub s
  | .lpiEntry b sub => Sys2Proof.Machine.execLpiEntry b sub s
  | .egressSelect b sub => Sys2Proof.Machine.execEgressSelect b sub s
  | .frameTxComplete b sub instant => Sys2Proof.Machine.execFrameTxComplete b sub instant s
  | .txDownDiscard b sub => Sys2Proof.Machine.execTxDownDiscard b sub s
  | .tsTxPop path b sub => Sys2Proof.Machine.execTsTxPop path b sub s
  | .mgmtRxFrame bytes good => Sys2Proof.Machine.execMgmtRxFrame bytes good s
  | .flexeOverheadRx u oh => Sys2Proof.Machine.execFlexeOverheadRx u oh s
  | .containerCut slot blocks => Sys2Proof.Machine.execContainerCut slot blocks s
  | .playoutStart slot => Sys2Proof.Machine.execPlayoutStart slot s
  | .playoutUnderrun slot => Sys2Proof.Machine.execPlayoutUnderrun slot s
  | .connMemWrite path addr val => Sys2Proof.Machine.execConnMemWrite path addr val s
  | .pageArm => Sys2Proof.Machine.execPageArm s
  | .pageArmDone => Sys2Proof.Machine.execPageArmDone s
  | .pageDisarm => Sys2Proof.Machine.execPageDisarm s
  | .pageForce => Sys2Proof.Machine.execPageForce s
  | .pageSwitch => Sys2Proof.Machine.execPageSwitch s
  | .calendarCChange u => Sys2Proof.Machine.execCalendarCChange u s
  | .tsiEnableWrite en => Sys2Proof.Machine.execTsiEnableWrite en s
  | .tsiCntClr => Sys2Proof.Machine.execTsiCntClr s
  | .pgCommit => Sys2Proof.Machine.execPgCommit s
  | .pgCopyDone => Sys2Proof.Machine.execPgCopyDone s
  | .pgMemoryWrite path addr val => Sys2Proof.Machine.execPgMemoryWrite path addr val s
  | .pgCntClr => Sys2Proof.Machine.execPgCntClr s
  | .clsTblCtlWrite t val => Sys2Proof.Machine.execClsTblCtlWrite t val s
  | .ruleInsert c => Sys2Proof.Machine.execRuleInsert c s
  | .ruleDelete c => Sys2Proof.Machine.execRuleDelete c s
  | .ruleSearch c => Sys2Proof.Machine.execRuleSearch c s
  | .ruleNext c => Sys2Proof.Machine.execRuleNext c s
  | .indEntryWrite path addr val => Sys2Proof.Machine.execIndEntryWrite path addr val s
  | .indWrite inst => Sys2Proof.Machine.execIndWrite inst s
  | .indirectionRepair => Sys2Proof.Machine.execIndirectionRepair s
  | .excCtlWrite c val => Sys2Proof.Machine.execExcCtlWrite c val s
  | .hpCtlWrite h val => Sys2Proof.Machine.execHpCtlWrite h val s
  | .clsCntClr => Sys2Proof.Machine.execClsCntClr s
  | .ringProdWrite r val => Sys2Proof.Machine.execRingProdWrite r val s
  | .descriptorWrite r off val => Sys2Proof.Machine.execDescriptorWrite r off val s
  | .insert r => Sys2Proof.Machine.execInsert r s
  | .delete r => Sys2Proof.Machine.execDelete r s
  | .search r => Sys2Proof.Machine.execSearch r s
  | .searchLpm r => Sys2Proof.Machine.execSearchLpm r s
  | .walkStart r => Sys2Proof.Machine.execWalkStart r s
  | .next r => Sys2Proof.Machine.execNext r s
  | .walkHandleTimeout h => Sys2Proof.Machine.execWalkHandleTimeout h s
  | .flushPort r => Sys2Proof.Machine.execFlushPort r s
  | .flushSweepDone => Sys2Proof.Machine.execFlushSweepDone s
  | .ageScan r => Sys2Proof.Machine.execAgeScan r s
  | .steer r => Sys2Proof.Machine.execSteer r s
  | .learn => Sys2Proof.Machine.execLearn s
  | .ageClockTick t => Sys2Proof.Machine.execAgeClockTick t s
  | .ageScannerBucket t => Sys2Proof.Machine.execAgeScannerBucket t s
  | .evtPopRead path => Sys2Proof.Machine.execEvtPopRead path s
  | .skewWindow => Sys2Proof.Machine.execSkewWindow s
  | .steerRegWrite v6 k val => Sys2Proof.Machine.execSteerRegWrite v6 k val s
  | .canTblWrite addr val => Sys2Proof.Machine.execCanTblWrite addr val s
  | .canCntClr => Sys2Proof.Machine.execCanCntClr s
  | .tcamCntClr => Sys2Proof.Machine.execTcamCntClr s
  | .bufLimitWrite addr val => Sys2Proof.Machine.execBufLimitWrite addr val s
  | .qflush q => Sys2Proof.Machine.execQflush q s
  | .qflushDone => Sys2Proof.Machine.execQflushDone s
  | .bufferReadComplete frame damaged => Sys2Proof.Machine.execBufferReadComplete frame damaged s
  | .bufferAudit => Sys2Proof.Machine.execBufferAudit s
  | .bufCntClr => Sys2Proof.Machine.execBufCntClr s
  | .qCtxWrite q ctx => Sys2Proof.Machine.execQCtxWrite q ctx s
  | .qLevelWrite down q val => Sys2Proof.Machine.execQLevelWrite down q val s
  | .shaperRefillTick => Sys2Proof.Machine.execShaperRefillTick s
  | .meterSet => Sys2Proof.Machine.execMeterSet s
  | .meterRead => Sys2Proof.Machine.execMeterRead s
  | .meterClr => Sys2Proof.Machine.execMeterClr s
  | .shaperSet => Sys2Proof.Machine.execShaperSet s
  | .shaperRead => Sys2Proof.Machine.execShaperRead s
  | .glChange => Sys2Proof.Machine.execGlChange s
  | .glCancel => Sys2Proof.Machine.execGlCancel s
  | .glChangeEffect l => Sys2Proof.Machine.execGlChangeEffect l s
  | .gateTransition l => Sys2Proof.Machine.execGateTransition l s
  | .schCmdOverrun val => Sys2Proof.Machine.execSchCmdOverrun val s
  | .schCntClr => Sys2Proof.Machine.execSchCntClr s
  | .keyDerived => Sys2Proof.Machine.execKeyDerived s
  | .epochDownstreamEffect p => Sys2Proof.Machine.execEpochDownstreamEffect p s
  | .epochComplete p => Sys2Proof.Machine.execEpochComplete p s
  | .shrRootLoad inst => Sys2Proof.Machine.execShrRootLoad inst s
  | .shrRootClear inst => Sys2Proof.Machine.execShrRootClear inst s
  | .shrAttest inst => Sys2Proof.Machine.execShrAttest inst s
  | .shrIdentity inst => Sys2Proof.Machine.execShrIdentity inst s
  | .xmssReady => Sys2Proof.Machine.execXmssReady s
  | .jrProdWrite r val => Sys2Proof.Machine.execJrProdWrite r val s
  | .jobGcm r => Sys2Proof.Machine.execJobGcm r s
  | .jobCtr r => Sys2Proof.Machine.execJobCtr r s
  | .jobCbc r => Sys2Proof.Machine.execJobCbc r s
  | .jobXts r => Sys2Proof.Machine.execJobXts r s
  | .shrCntClr => Sys2Proof.Machine.execShrCntClr s
  | .ackRead path t => Sys2Proof.Machine.execAckRead path t s
  | .eoiWrite path t val => Sys2Proof.Machine.execEoiWrite path t val s
  | .srcSetSignal n => Sys2Proof.Machine.execSrcSetSignal n s
  | .srcSetClear n => Sys2Proof.Machine.execSrcSetClear n s
  | .srcCfgWrite n val => Sys2Proof.Machine.execSrcCfgWrite n val s
  | .thaw path t => Sys2Proof.Machine.execThaw path t s
  | .msixUnmask v => Sys2Proof.Machine.execMsixUnmask v s
  | .irqPinFault n => Sys2Proof.Machine.execIrqPinFault n s
  | .icCntClr => Sys2Proof.Machine.execIcCntClr s
  | .reefCmdGo path val => Sys2Proof.Machine.execReefCmdGo path val s
  | .reefSet inst => Sys2Proof.Machine.execReefSet inst s
  | .reefClrFail => Sys2Proof.Machine.execReefClrFail s
  | .reefGrantTimeout => Sys2Proof.Machine.execReefGrantTimeout s
  | .portDark p => Sys2Proof.Machine.execPortDark p s
  | .clientBlockDark => Sys2Proof.Machine.execClientBlockDark s
  | .lightTimeout p => Sys2Proof.Machine.execLightTimeout p s
  | .cliDarkReqWrite val => Sys2Proof.Machine.execCliDarkReqWrite val s
  | .reefPrepare answer => Sys2Proof.Machine.execReefPrepare answer s
  | .reefCommit missed => Sys2Proof.Machine.execReefCommit missed s
  | .avsSettled => Sys2Proof.Machine.execAvsSettled s
  | .avsTimeout => Sys2Proof.Machine.execAvsTimeout s
  | .avsRetry => Sys2Proof.Machine.execAvsRetry s
  | .reef3Entry => Sys2Proof.Machine.execReef3Entry s
  | .wakeAEvent => Sys2Proof.Machine.execWakeAEvent s
  | .wakeTimerExpiry => Sys2Proof.Machine.execWakeTimerExpiry s
  | .wakeSequence failed => Sys2Proof.Machine.execWakeSequence failed s
  | .wakeStepRetry r => Sys2Proof.Machine.execWakeStepRetry r s
  | .reefCntClr => Sys2Proof.Machine.execReefCntClr s
  | .suppliesGood => Sys2Proof.Machine.execSuppliesGood s
  | .startupStage found => Sys2Proof.Machine.execStartupStage found s
  | .mbDoorbell inst => Sys2Proof.Machine.execMbDoorbell inst s
  | .mbHello inst => Sys2Proof.Machine.execMbHello inst s
  | .imgErase c => Sys2Proof.Machine.execImgErase c s
  | .imgWrite c => Sys2Proof.Machine.execImgWrite c s
  | .imgRead c => Sys2Proof.Machine.execImgRead c s
  | .imgCheck c => Sys2Proof.Machine.execImgCheck c s
  | .imgSelect c => Sys2Proof.Machine.execImgSelect c s
  | .imgConfirm inst => Sys2Proof.Machine.execImgConfirm inst s
  | .devReset inst => Sys2Proof.Machine.execDevReset inst s
  | .nrRecordWrite => Sys2Proof.Machine.execNrRecordWrite s
  | .nrCntClr => Sys2Proof.Machine.execNrCntClr s
  | .correctableError struct addr => Sys2Proof.Machine.execCorrectableError struct addr s
  | .uncorrectableError struct addr copyBad => Sys2Proof.Machine.execUncorrectableError struct addr copyBad s
  | .restoreDone => Sys2Proof.Machine.execRestoreDone s
  | .scrubRead struct addr err => Sys2Proof.Machine.execScrubRead struct addr err s
  | .lockstepMismatch k => Sys2Proof.Machine.execLockstepMismatch k s
  | .pairReturn k passed => Sys2Proof.Machine.execPairReturn k passed s
  | .wdogKick val => Sys2Proof.Machine.execWdogKick val s
  | .watchdogExpiry => Sys2Proof.Machine.execWatchdogExpiry s
  | .coreReset cause => Sys2Proof.Machine.execCoreReset cause s
  | .powerGoodLoss dom => Sys2Proof.Machine.execPowerGoodLoss dom s
  | .xtalFailure => Sys2Proof.Machine.execXtalFailure s
  | .heartwoodPowerOn => Sys2Proof.Machine.execHeartwoodPowerOn s
  | .pcieReset => Sys2Proof.Machine.execPcieReset s
  | .logCopy => Sys2Proof.Machine.execLogCopy s
  | .logIdxWrite idx => Sys2Proof.Machine.execLogIdxWrite idx s
  | .fltCntClr => Sys2Proof.Machine.execFltCntClr s
  | .stkCntClr n => Sys2Proof.Machine.execStkCntClr n s
  | .pcieMemoryRequest req => Sys2Proof.Machine.execPcieMemoryRequest req s
  | .xtAccessReject write addr size => Sys2Proof.Machine.execXtAccessReject write addr size s
  | .spiId => Sys2Proof.Machine.execSpiId s
  | .spiStatus => Sys2Proof.Machine.execSpiStatus s
  | .spiRead addr rest => Sys2Proof.Machine.execSpiRead addr rest s
  | .spiWrite addr rest => Sys2Proof.Machine.execSpiWrite addr rest s
  | .winRead mosi => Sys2Proof.Machine.execWinRead mosi s
  | .winWrite addr rest => Sys2Proof.Machine.execWinWrite addr rest s
  | .winAccessDone => Sys2Proof.Machine.execWinAccessDone s
  | .winData => Sys2Proof.Machine.execWinData s
  | .spiReset t => Sys2Proof.Machine.execSpiReset t s
  | .inbandRequest msg => Sys2Proof.Machine.execInbandRequest msg s
  | .pmSnap => Sys2Proof.Machine.execPmSnap s
  | .pmSnapInterval => Sys2Proof.Machine.execPmSnapInterval s
  | .accCntClr => Sys2Proof.Machine.execAccCntClr s
  | .closedFrame p start => Sys2Proof.Machine.execClosedFrame p start s
  | .version2AnswerInterval p start => Sys2Proof.Machine.execVersion2AnswerInterval p start s
  | .receiveLpiChange b sub on => Sys2Proof.Machine.execReceiveLpiChange b sub on s
  | .spillWriteComplete => Sys2Proof.Machine.execSpillWriteComplete s
  | .schCmdGo val => Sys2Proof.Machine.execSchCmdGo val s
  | .pcieLinkChange up => Sys2Proof.Machine.execPcieLinkChange up s
  | .pmbusStuck avs => Sys2Proof.Machine.execPmbusStuck avs s
  | .pmbusAnswersAgain avs => Sys2Proof.Machine.execPmbusAnswersAgain avs s
  | .hbmStackFault n => Sys2Proof.Machine.execHbmStackFault n s

end Sys2Proof.Machine
end

