-- ==== Sys2Proof/Machine/Tick.lean ====
section
/-! DEFINITION. What one tick of Heartwood's clock does by itself (R185, R166, R252). -/
namespace Sys2Proof.Machine
open Sys2Proof

/-- The free-running counter counts while the time base runs (R166). -/
def frcRuns (s : State) : Bool := coreOn s && bitAt s 0x01400000 0

/-- How far the counter moves in one Heartwood tick, in 1/64 of its own: 50 ticks while the PLL runs from Heartwood's crystal, and
on a reference what the two clocks make of it, no more than 1/64 of a tick away (R166, R170; DESIGN CHOICE, log entry 184). -/
def frcStep (s : State) : Nat := if onXtal s then 3200 else 3199 + Config.frcAdvance s.uptime % 3

/-- Each trunk port's recovered clock moves away from Heartwood's or towards it, by no more than one part in 3,200 (R26; DESIGN
CHOICE, log entry 184). -/
def lineDrift (s : State) : Tab Int :=
  (upTo 16).foldl (fun t p => t.put p (t.look 0 p + (Config.lineAdvance p s.uptime % 3 : Nat) - 1)) s.drift

/-- Calendar slots move on; injections and flash writes end; recovered-clock outputs come nearer to their release. -/
def played (s : State) : State :=
  let s1 := slotsTick (if coreOn s then rclkTick s else s)
  let s2 := { s1 with boot := { s1.boot with flashBusy := false } }
  { s2 with lanes := s2.lanes.adjust fun _ x => { x with injBusy := false } }

/-- One tick: uptime, the recovered clocks, the free-running counter, the queues that the guard holds, what the calendar slots send, injections that have ended. -/
def tick (s : State) : State :=
  let s1 := { s with uptime := s.uptime + 1, drift := lineDrift s }
  let s2 := if frcRuns s then { s1 with time := { s1.time with frc := s1.time.frc + frcStep s } } else s1
  played (holdsFrom (nowNs s) s2)

end Sys2Proof.Machine
end

