-- ==== Sys2Proof/Safety.lean ====
section
/-! DEFINITION. The terms in which claims about the terminal are stated: what it means that a command takes effect, the
memories' canonical form, the bounds that hold in every run. -/
namespace Sys2Proof.Machine
open Sys2Proof

/-- Command c takes effect in state s: exec answers a next state, and P holds of it. -/
def Completes (c : Instr) (s : State) (P : State → Prop) : Prop :=
  ∃ t, Sys2Proof.Machine.exec c s = .next t ∧ P t

/-- Every memory the device reads or writes is in its canonical form. -/
def State.memOk (s : State) : Prop :=
  memWf 0 s.hostMem = true ∧ memWf 0 s.xtMem = true ∧ ∀ f, memWf 0xFF (flashOf s f) = true

/-- No target's stack of interrupts in service is deeper than 16 (R398, R400). -/
def State.stacksOk (s : State) : Prop := ∀ t, (icTgt s t).stack.length ≤ 16

/-! ### What a command leaves alone -/

/-- The parts of the state: its fields, the interrupt controller's, the reef manager's and start-up's cut once more. -/
inductive Part where
  | pending | regs | uptime | fresh | sent | icSrc | icTgt | icMsix | framers | pm | regn | timed | lookouts
  | halyards | contexts | guards | time | lanes | waikens | tsi | subs | fifos | shrOut | pg | cls
  | can | buf | sch | shr | reefLevel | reef | coreUp | boot | faults | paths | bmc | xt | flash | hostMem | xtMem | drift
  deriving DecidableEq, Repr

/-- Part p of state t is that of state s. -/
def Part.same (p : Part) (s t : State) : Prop :=
  match p with
  | .pending => t.pending = s.pending
  | .regs => t.regs = s.regs
  | .uptime => t.uptime = s.uptime
  | .fresh => t.fresh = s.fresh
  | .sent => t.sent = s.sent
  | .icSrc => t.ic.src = s.ic.src
  | .icTgt => t.ic.tgt = s.ic.tgt
  | .icMsix => t.ic.msixPend = s.ic.msixPend ∧ t.ic.funcMask = s.ic.funcMask ∧ t.ic.linkUp = s.ic.linkUp ∧
      t.ic.bar0 = s.ic.bar0 ∧ t.ic.readRequest = s.ic.readRequest
  | .framers => t.framers = s.framers
  | .pm => t.pm = s.pm
  | .regn => t.regn = s.regn
  | .timed => t.timed = s.timed
  | .lookouts => t.lookouts = s.lookouts
  | .halyards => t.halyards = s.halyards
  | .contexts => t.contexts = s.contexts
  | .guards => t.guards = s.guards
  | .time => t.time = s.time
  | .lanes => t.lanes = s.lanes
  | .waikens => t.waikens = s.waikens
  | .tsi => t.tsi = s.tsi
  | .subs => t.subs = s.subs
  | .fifos => t.fifos = s.fifos
  | .shrOut => t.shrOut = s.shrOut
  | .pg => t.pg = s.pg
  | .cls => t.cls = s.cls
  | .can => t.can = s.can
  | .buf => t.buf = s.buf
  | .sch => t.sch = s.sch
  | .shr => t.shr = s.shr
  | .reefLevel => t.reef.level = s.reef.level
  | .reef => { t.reef with level := s.reef.level } = s.reef
  | .coreUp => t.boot.coreUp = s.boot.coreUp
  | .boot => { t.boot with coreUp := s.boot.coreUp } = s.boot
  | .faults => t.faults = s.faults
  | .paths => t.paths = s.paths
  | .bmc => t.bmc = s.bmc
  | .xt => t.xt = s.xt
  | .flash => t.flash = s.flash
  | .hostMem => t.hostMem = s.hostMem
  | .xtMem => t.xtMem = s.xtMem
  | .drift => t.drift = s.drift

/-- Between s and t only the parts of a list have changed. -/
def Only (l : List Part) (s t : State) : Prop := ∀ p, p ∉ l → p.same s t

/-- Between s and t only registers whose address w picks have changed. -/
def RegsOnly (w : Nat → Bool) (s t : State) : Prop := ∀ a, w a = false → reg t a = reg s a

/-- From s to t nothing of another trunk port than p has changed: framer, performance store, registration, grants, guard and
Waiken set. -/
def PortKeep (p : Nat) (s t : State) : Prop :=
  ∀ q, q ≠ p → framer t q = framer s q ∧ pmStore t q = pmStore s q ∧ regnOf t q = regnOf s q ∧
    halyard t q = halyard s q ∧ guardOf t q = guardOf s q ∧ waiken t q = waiken s q

end Sys2Proof.Machine
end

