-- ==== Sys2Proof/Certificates/Slice0/Obligations.lean ====
section
/-! DEFINITION. The statements about the model, for the provers: what the machine's steps and each family of commands do. -/
section
open Sys2Proof Sys2Proof.Machine

/-! ## The machine as a whole -/

/-- The step (the queue is the block's; the tick on an empty queue is the model's choice, log entry 1). -/
def Obligations.StepRunsCommand : Prop :=
  (∀ (s : State) (c : Instr) (rest : List Instr), s.pending = c :: rest → step s = exec c { s with pending := rest }) ∧
  (∀ (s : State), s.pending = [] → ∃ u, step s = .next u ∧ u.uptime = s.uptime + 1 ∧ Only [.uptime, .sent, .time, .lanes, .tsi, .buf, .boot, .drift] s u ∧
    { u.boot with flashBusy := s.boot.flashBusy } = s.boot ∧ { u.buf with queues := s.buf.queues } = s.buf ∧
    (∀ q, { queueOf u q with held := (queueOf s q).held } = queueOf s q ∧ ((queueOf u q).held = true → (queueOf s q).held = true)) ∧
    (∀ p < 16, -1 ≤ u.drift.look 0 p - s.drift.look 0 p ∧ u.drift.look 0 p - s.drift.look 0 p ≤ 1) ∧
    { u.time with frc := s.time.frc, rclkGood := s.time.rclkGood } = s.time ∧
    u.time.frc = s.time.frc + (if coreOn s && bitAt s 0x01400000 0 then frcStep s else 0) ∧
    3199 ≤ frcStep s ∧ frcStep s ≤ 3201 ∧ (onXtal s = true → frcStep s = 3200)) ∧
  ∀ (s : State) (n w : Nat), decodeTableWord n w = none ∧ s.withFetchWord n w = s

/-- State.reset by the spec's reset values. Where the spec leaves a point open, what is stated is the
model's choice: log entries 1 to 14. -/
def Obligations.ResetState : Prop :=
  let s := State.reset
  s.pending = [] ∧ s.uptime = 0 ∧ s.sent = [] ∧ (∀ d < 0x60, domOn s d = decide (d ≤ 1)) ∧ coreOn s = false ∧ s.boot.ready = false ∧
  reg s 0x10108 = 0 ∧ (∀ p < 16, (regnOf s p).state = .init ∧ (regnOf s p).tid = none) ∧ s.contexts = [] ∧ s.shr.roots = [] ∧
  reg s 0x10100 = 0x10000000 ∧ reg s 0x5018 = 0x10000000 ∧ reg s 0x501C = 0xFF ∧ reg s 0x5000 = 0x40 ∧ reg s 0x5004 = 0x3E8 ∧
  reg s 0x00200040 = 0x050201F4 ∧ reg s 0x00200044 = 1000 ∧ reg s 0x00200048 = 100 ∧ reg s 0x10010 = 3 ∧ reg s 0x10004 = 0x42001A47 ∧
  s.reef.level = 0 ∧ s.hostMem = [] ∧ s.xtMem = [] ∧ s.flash = [] ∧ s.memOk ∧ s.stacksOk

/-- R401. -/
def Obligations.StackDepth : Prop :=
  (∀ s t : State, s.stacksOk → step s = .next t → t.stacksOk) ∧
  ∀ (s : State) (path : Path) (t : Fin 22), tgtReached s t = true → (icTgt s t).stack.length = 16 →
    tgtSignal s t = false ∧
    Completes (.ackRead path t) s (fun u => u.sent.getLast? = some (.data path [0x3FF]) ∧ u.ic.tgt = s.ic.tgt ∧ u.ic.src = s.ic.src) ∧
    ∀ n pr rest, (icTgt s t).stack = (n, pr) :: rest → (icTgt s t).frozen = false → tgtEnabled s t = true →
      ∀ v : Word, bits v.toNat 9 0 = n → Completes (.eoiWrite path t v) s (fun u =>
        (∀ k, k ≠ n → icSrc u k = icSrc s k) ∧ (icTgt u t).stack = rest ∧
        (∀ k, qualifies u t k = true → u.ic.src.has k = true → tgtPowered s t = true → tgtSignal u t = true) ∧
        ∀ k, highest u (qualifying u t) = some k → Completes (.ackRead path t) u (fun w =>
          w.sent.getLast? = some (.data path [BitVec.ofNat 32 ((icSrc u k).count * 2 ^ 16 + srcPrio u k * 2 ^ 10 + k)]) ∧
          (icSrc w k).active = true ∧ (icSrc w k).pending = false ∧ (icTgt w t).stack = (k, srcPrio u k) :: rest))

/-- Commands that may write a flash. -/
def OfFlash (c : Instr) : Prop :=
  match c with
  | .downstreamEnvelope _ _ | .mgmtRxFrame _ _ | .startupStage _ | .imgErase _ | .imgWrite _ | .imgSelect _
  | .imgConfirm _ | .logCopy | .inbandRequest _ | .shrAttest _ => True
  | _ => False

/-- Commands that may write host memory. -/
def OfHost (c : Instr) : Prop :=
  match c with
  | .ruleSearch _ | .ruleNext _ | .walkStart _ | .next _ | .jobGcm _ | .jobCtr _ | .jobCbc _ | .jobXts _
  | .nrRecordWrite => True
  | _ => False

/-- Commands of blocks outside Heartwood. -/
def OfCore (c : Instr) : Prop :=
  match c with
  | .sighting _ _ _ | .trackerCheck _ _ _ | .downstreamFrame _ _ | .downstreamEnvelope _ _ | .forceHunt _
  | .frCntClr _ | .frCtlEnWrite _ _ | .losRaise _ | .losClear _ | .lolClear _ | .lodChange _ | .keyfChange _
  | .sdWindow _ | .pmBinEnd _ _ | .pmBinClose _ _ | .pmSelWrite _ _ | .pmClrCur _ | .afEntryWrite _ _ _ | .hail _
  | .versionOffer _ | .assignId _ | .rangeSet _ | .eqdConfirm _ _ _ | .eqdChangeApply _ | .rangeProbe _
  | .timeSet _ | .timeSetHeldApply _ | .keyRotate _ | .grantProfile _ | .tsiSwitch _ | .reefNotice _ | .reefGrant _
  | .silence _ | .unmuzzle _ | .release _ | .releaseEffect _ | .park _ | .echo _ | .tmmUnknown _
  | .announceTimerExpiry _ | .rangeTimerExpiry _ | .holdTimerExpiry _ | .silenceDurationEnd _ | .regEnable _
  | .regRelease _ | .regSilence _ | .regStatus _ | .replyLookoutFallback _ | .lmDelayEnd _ | .timedLmSend
  | .lkoTxenForcedRelease _ | .lkoCntClr | .grantMapValidation _ | .burstCommit _ | .launchDeadlineMiss _
  | .burstLaunch _ | .burstEnd _ | .dozeExit _ | .laneReadinessCheck _ | .halEnableWrite _ _ | .dozeCtlWrite _ _
  | .ctxLookupWrite _ _ | .halCntClr _ | .backstayMap _ | .cutOff _ _ _ | .muzzleAlertRepeat _
  | .cleanFrameCount _ _ | .silenceGateClose _ | .dryFireStartup _ _ | .periodicDryFire _ _ | .dryFireDefer _
  | .retest _ _ | .copyFault _ _ | .clockFault _ | .clockFaultClear _ | .rateWrite _ | .timeApply
  | .servoMeasurement | .slewEnd | .timeSourceChange | .holdoverLimit | .referenceLoss _ | .referenceReturn _
  | .ppsOutPulse | .ppsOutEnd | .ppsInEdge _ | .ppsInMiss | .rclkRelease _ | .timeTod _ | .timeArmStep _
  | .timeRead _ | .stepArmWrite | .tbCntClr | .laneEnable _ _ | .retrain _ | .laneCntClr _ | .laneLockLoss _ _
  | .dozeCheck _ | .txPllSourceChange _ | .receiverDetect _ _ | .legShort _ | .patCtlWrite _ _
  | .patternLockChange _ _ _ | .injSingle _ | .injBurst _ _ | .portModeWrite _ _ | .cliCntClr _
  | .macCtlWrite _ _ _ | .linkDown _ _ _ | .linkUp _ _ _ _ | .clientRxFrame _ _ _ | .cellRequest _
  | .cellWaitExpiry _ _ | .pfcRx _ _ _ | .pfcPauseExpiry _ _ _ | .pfcRefresh _ _ | .lpiEntry _ _
  | .egressSelect _ _ | .frameTxComplete _ _ _ | .txDownDiscard _ _ | .flexeOverheadRx _ _ | .containerCut _ _
  | .playoutStart _ | .playoutUnderrun _ | .pageArm | .pageArmDone | .pageDisarm | .pageForce | .pageSwitch
  | .calendarCChange _ | .tsiEnableWrite _ | .tsiCntClr | .pgCommit | .pgCopyDone | .pgCntClr | .clsTblCtlWrite _ _
  | .ruleInsert _ | .ruleDelete _ | .ruleSearch _ | .ruleNext _ | .indEntryWrite _ _ _ | .indWrite _
  | .indirectionRepair | .excCtlWrite _ _ | .hpCtlWrite _ _ | .clsCntClr | .ringProdWrite _ _
  | .descriptorWrite _ _ _ | .insert _ | .delete _ | .search _ | .searchLpm _ | .walkStart _ | .next _
  | .walkHandleTimeout _ | .flushPort _ | .flushSweepDone | .ageScan _ | .steer _ | .learn | .ageClockTick _
  | .ageScannerBucket _ | .evtPopRead _ | .skewWindow | .steerRegWrite _ _ _ | .canTblWrite _ _ | .canCntClr
  | .tcamCntClr | .bufLimitWrite _ _ | .qflush _ | .qflushDone | .bufferReadComplete _ _ | .bufferAudit
  | .bufCntClr | .qCtxWrite _ _ | .qLevelWrite _ _ _ | .shaperRefillTick | .meterSet | .meterRead | .meterClr
  | .shaperSet | .shaperRead | .glChange | .glCancel | .glChangeEffect _ | .gateTransition _ | .schCmdOverrun _
  | .schCntClr | .keyDerived | .epochDownstreamEffect _ | .epochComplete _ | .shrRootLoad _ | .shrRootClear _
  | .shrAttest _ | .shrIdentity _ | .xmssReady | .jrProdWrite _ _ | .jobGcm _ | .jobCtr _ | .jobCbc _ | .jobXts _
  | .shrCntClr | .srcSetSignal _ | .srcSetClear _ | .msixUnmask _ | .icCntClr | .reefSet _ | .reefGrantTimeout
  | .portDark _ | .clientBlockDark | .lightTimeout _ | .reefPrepare _ | .reefCommit _ | .avsSettled | .avsTimeout
  | .avsRetry | .reef3Entry | .mbDoorbell _ | .mbHello _ | .imgErase _ | .imgWrite _ | .imgRead _ | .imgCheck _
  | .imgSelect _ | .imgConfirm _ | .devReset _ | .nrRecordWrite | .nrCntClr | .restoreDone | .scrubRead _ _ _
  | .lockstepMismatch _ | .pairReturn _ _ | .watchdogExpiry | .pcieReset | .logCopy | .stkCntClr _
  | .inbandRequest _ | .pmSnap | .pmSnapInterval | .closedFrame _ _ | .version2AnswerInterval _ _
  | .receiveLpiChange _ _ _ | .spillWriteComplete | .schCmdGo _ | .hbmStackFault _ => True
  | _ => False

/-- What every step keeps (the queue and the list of outputs are the model's own, log entries 1 and 2). Where the spec leaves a point open, what is stated is the
model's choice: log entries 1 to 14. -/
def Obligations.WhatStepsKeep : Prop :=
  (∀ s t : State, s.memOk → step s = .next t → t.memOk) ∧
  (∀ (c : Instr) (s : State), Completes c s (fun u => u.pending = s.pending ∧ s.sent <+: u.sent ∧ s.fresh ≤ u.fresh ∧
    (u.flash = s.flash ∨ OfFlash c) ∧ (u.hostMem = s.hostMem ∨ OfHost c) ∧ (u.uptime = s.uptime ∨ c = .heartwoodPowerOn))) ∧
  ∀ (c : Instr) (s : State), OfCore c → coreOn s = false → exec c s = .next s

/-- Commands of trunk port p on the trunk side. -/
def OfPort (p : Fin 16) (c : Instr) : Prop :=
  match c with
  | .grantProfile q | .hail q | .versionOffer q | .assignId q | .rangeSet q | .eqdConfirm q _ _ | .eqdChangeApply q
  | .rangeProbe q | .silence q | .unmuzzle q | .release q | .releaseEffect q | .echo q | .tmmUnknown q
  | .announceTimerExpiry q | .rangeTimerExpiry q | .holdTimerExpiry q | .silenceDurationEnd q
  | .replyLookoutFallback q | .grantMapValidation q | .burstCommit q | .launchDeadlineMiss q | .burstLaunch q
  | .burstEnd q | .dozeExit q | .laneReadinessCheck q | .halEnableWrite q _ | .dozeCtlWrite q _ | .backstayMap q
  | .closedFrame q _ | .version2AnswerInterval q _ | .cutOff q _ _ | .muzzleAlertRepeat q | .unlockFirstWrite _ q
  | .unlockSecondWrite _ q | .silenceGateClose q | .copyFault q _ | .dryFireStartup q _ | .retest q _
  | .periodicDryFire q _ | .dryFireDefer q | .clockFault q | .clockFaultClear q | .txdisPinFault q _ | .losRaise q
  | .losClear q | .lolClear q | .forceHunt q | .frCtlEnWrite q _ | .lodChange q | .keyfChange q | .sdWindow q
  | .sighting q _ _ | .trackerCheck q _ _ | .downstreamFrame q _ | .pmSecond q | .pmBinEnd q _ | .pmBinClose q _
  | .pmClrCur q | .waikenBringupStep q _ _ | .waikenTimeout q | .waikenCapRetry q | .waikenRateSwitch q
  | .waikenVersionAttempt q | .laneLockLoss q _ | .waikenControlBlock q _ | .dozeCheck q | .txPllSourceChange q
  | .reefNotice q | .portDark q | .lightTimeout q | .park q | .keyRotate q | .tsiSwitch q | .timeSet q
  | .timeSetHeldApply q => q = p
  | _ => False

/-- Trunk-side independence (R22). Where the spec leaves a point open, what is stated is the
model's choice: log entries 1 to 14. -/
def Obligations.PortIndependence : Prop :=
  ∀ (p : Fin 16) (c : Instr) (s : State), OfPort p c → Completes c s (PortKeep p s)

/-! ## Downstream reception (ch. 02) -/

/-- Port p has dropped lock: delineation is in HUNT, no candidate is held and raw LOF is set (R48, R58). -/
def LockDropped (p : Nat) (t : State) : Prop :=
  (framer t p).locked = false ∧ (framer t p).delin = .hunt ∧ (framer t p).trackers = [] ∧
  (framer t p).raw.getLsbD bitLof = true ∧ hasTiming t p = false

/-- Loss of signal, the forced hunt, the framer's enable and its registers (R48, R58, R62, R63, R65, R66, R73, R74). Where the spec leaves a point open, what is stated is the
model's choice: log entries 15 to 20 and 164 to 173 and 186. -/
def Obligations.FramerControls : Prop :=
  ∀ (s : State) (p : Fin 16), coreOn s = true →
    Completes (.losRaise p) s (fun t => (waiken t p).noLight = true ∧
      (framerOn s p = true → LockDropped p t ∧ (framer t p).raw.getLsbD bitLos = true) ∧
      (framerOn s p = false → Only [.waikens] s t) ∧ PortKeep p s t ∧
      Only [.regs, .fresh, .sent, .icSrc, .icMsix, .framers, .pm, .regn, .lookouts, .halyards, .contexts, .guards,
        .time, .lanes, .waikens, .tsi, .subs, .buf, .shr, .reef, .faults] s t) ∧
    Completes (.forceHunt p) s (fun t =>
      (framerOn s p = true → LockDropped p t ∧ (framer t p).raw = (framer s p).raw ||| 4) ∧
      (framerOn s p = false → t = s) ∧ PortKeep p s t ∧
      Only [.regs, .fresh, .sent, .icSrc, .icMsix, .framers, .pm, .regn, .lookouts, .halyards, .contexts, .guards,
        .time, .lanes, .waikens, .tsi, .subs, .buf, .shr, .reef, .faults] s t) ∧
    (∀ en, Completes (.frCtlEnWrite p en) s (fun t => bitAt t (trkR p 0) 0 = en ∧
      (bitAt s (trkR p 0) 0 = en → t = s) ∧
      (bitAt s (trkR p 0) 0 ≠ en → en = false → (framer t p).raw = 0 ∧ (framer t p).locked = false) ∧
      (bitAt s (trkR p 0) 0 ≠ en → en = true → portDark s p = false →
        (framer t p).locked = false ∧ (framer t p).raw.getLsbD bitLof = true ∧
        (framer t p).raw.getLsbD bitLos = (waiken s p).noLight) ∧
      (framer t p).queue = (framer s p).queue ∧ PortKeep p s t ∧
      Only [.regs, .fresh, .sent, .icSrc, .icMsix, .framers, .pm, .regn, .lookouts, .halyards, .contexts, .guards,
        .time, .lanes, .waikens, .tsi, .subs, .buf, .shr, .reef, .boot, .faults] s t)) ∧
    Completes (.frCntClr p) s (fun t => Only [.regs] s t ∧
      (∀ o : Fin 26, reg t (trkR p (0x200 + 4 * o)) = 0) ∧ (∀ o : Fin 7, reg t (trkR p (0x440 + 4 * o)) = 0) ∧
      RegsOnly (fun a => within (trkR p 0x200) 0x68 a || within (trkR p 0x440) 0x1C a) s t) ∧
    (∀ (k : Fin 8) v, Completes (.afEntryWrite p k v) s (fun t => Only [.regs] s t ∧
      (if k = 0 ∨ (v.getLsbD 31 = true ∧ v.toNat % 4096 = 4095) then
        bitAt t (trkR p 0x60) 0 = true ∧ RegsOnly (· == trkR p 0x60) s t
      else reg t (trkR p (0x40 + 4 * k)) = v &&& 0x80000FFF ∧ RegsOnly (· == trkR p (0x40 + 4 * k)) s t))) ∧
    (∀ bin : Byte, Completes (.pmSelWrite p bin) s (fun t => Only [.regs] s t ∧ regN t (trkR p 0x80) = bin.toNat ∧
      (∀ i : Fin 32, reg t (trkR p (0xC0 + 4 * i)) =
        match selectedBin (pmStore s p) bin.toNat with
        | some b => b.words.getD i 0
        | none => 0) ∧
      RegsOnly (fun a => a == trkR p 0x80 || within (trkR p 0xC0) 0x80 a) s t))

/-- The raw defects' own conditions (R63, R66, R525). Where the spec leaves a point open, what is stated is the
model's choice: log entries 15 to 20 and 164 to 173 and 186. -/
def Obligations.FramerDefects : Prop :=
  ∀ (s : State) (p : Fin 16), coreOn s = true →
    Completes (.losClear p) s (fun t => ((waiken s p).optLos = true → t = s) ∧
      ((waiken s p).optLos = false → (waiken t p).noLight = false ∧
        (framer t p).raw = (if framerOn s p then (framer s p).raw &&& ~~~1 else (framer s p).raw)) ∧ PortKeep p s t) ∧
    Completes (.lolClear p) s (fun t =>
      (framer t p).raw = (if framerOn s p && rxLanesActive s p then (framer s p).raw &&& ~~~2 else (framer s p).raw) ∧ PortKeep p s t) ∧
    Completes (.lodChange p) s (fun t =>
      (framer t p).raw = (if framerOn s p then
        (if (framer s p).delin = .sync then (framer s p).raw &&& ~~~16 else (framer s p).raw ||| 16) else (framer s p).raw) ∧
      Only [.regs, .sent, .icSrc, .icMsix, .framers, .pm, .reef] s t ∧ PortKeep p s t) ∧
    Completes (.keyfChange p) s (fun t =>
      (framerOn s p = true → 2 ≤ (framer s p).keyfRun → (framer t p).raw = (framer s p).raw ||| 32) ∧
      (framerOn s p = true → (framer s p).keyfRun < 2 → 8 ≤ (framer s p).keyfClean →
        (framer t p).raw = (framer s p).raw &&& ~~~32) ∧
      (((framer s p).keyfRun < 2 ∧ (framer s p).keyfClean < 8) ∨ framerOn s p = false → t = s) ∧
      Only [.regs, .sent, .icSrc, .icMsix, .framers, .pm, .reef] s t ∧ PortKeep p s t) ∧
    Completes (.sdWindow p) s (fun t =>
      let full := (framer s p).locked && (framer s p).sdFrames == 8
      (full = false → t = s) ∧
      (full = true →
        (framer t p).sdOver = (if regN s (trkR p 0x20) < (framer s p).sdMetric then (framer s p).sdOver + 1 else 0) ∧
        (framer t p).sdUnder = (if (framer s p).sdMetric < regN s (trkR p 0x24) then (framer s p).sdUnder + 1 else 0) ∧
        (framerOn s p = true → 3 ≤ (framer t p).sdOver → (framer t p).raw = (framer s p).raw ||| 64) ∧
        (framerOn s p = true → (framer t p).sdOver < 3 → 10 ≤ (framer t p).sdUnder →
          (framer t p).raw = (framer s p).raw &&& ~~~64) ∧
        ((framer t p).sdOver < 3 → (framer t p).sdUnder < 10 → (framer t p).raw = (framer s p).raw)) ∧
      Only [.regs, .sent, .icSrc, .icMsix, .framers, .pm, .reef] s t ∧ PortKeep p s t)

/-- The frame's header as received (R42, R44). -/
def HeaderOf (rx : RxFrame) : Nat := headerOf (plainOf rx)
/-- The SF of a frame header (R42). -/
def SfOf (h : Nat) : Nat := bits h 127 77

/-- Alignment and the frames of a locked port (R45, R46, R48 to R50). Where the spec leaves a point open, what is stated is the
model's choice: log entries 15 to 20 and 164 to 173 and 186. -/
def Obligations.FramerAlignment : Prop :=
  ∀ (s : State) (p : Fin 16), coreOn s = true → framerOn s p = true →
    (∀ pos w, Completes (.sighting p pos w) s (fun t =>
      let near := !(framer s p).locked && decide (mismatches w framePattern ≤ huntTol s p)
      let free := (List.range 4).find? fun k => ((framer s p).trackers.look none k).isNone
      (near = false → t = s) ∧
      (near = true → free = none → framer t p = framer s p ∧
        regN t (trkR p 0x24C) = min (regN s (trkR p 0x24C) + 1) (2 ^ 32 - 1)) ∧
      (∀ k, near = true → free = some k →
        framer t p = { framer s p with trackers := (framer s p).trackers.put k (some { pos := pos, run := 0 }) } ∧
        regN t (trkR p 0x248) = min (regN s (trkR p 0x248) + 1) (2 ^ 32 - 1)) ∧
      PortKeep p s t ∧ Only [.regs, .framers] s t ∧ RegsOnly (fun a => a == trkR p 0x248 || a == trkR p 0x24C) s t)) ∧
    (∀ (k : Fin 4) rx, Completes (.trackerCheck p k rx) s (fun t =>
      (∀ c, (framer s p).trackers.look none k = some c → (framer s p).locked = false →
        (framer s p).raw.getLsbD bitLos = false → (framer s p).raw.getLsbD bitLol = false →
        let pass := headerGood (HeaderOf rx) && (c.run == 0 || decide (mismatches rx.pattern framePattern ≤ huntTol s p))
        (pass = false → (framer t p).trackers.look none k = none ∧ (framer t p).locked = false ∧ Only [.framers] s t) ∧
        (pass = true → c.run < 2 → (framer t p).trackers.look none k = some { pos := c.pos + 200000000, run := c.run + 1 } ∧
          (framer t p).locked = false ∧ Only [.framers] s t) ∧
        (pass = true → 2 ≤ c.run → (framer t p).locked = true ∧ (framer t p).trackers = [] ∧
          (framer t p).e = SfOf (HeaderOf rx) ∧ (framer t p).rxAt = rx.line ∧ (framer t p).lastSf = some (SfOf (HeaderOf rx)) ∧
          (framer t p).raw = (framer s p).raw &&& ~~~4 ∧ (framer t p).delin = .hunt ∧
          (framer t p).run = payloadOf (plainOf rx))) ∧
      ((framer s p).trackers.look none k = none ∨ (framer s p).locked = true → t = s) ∧ PortKeep p s t)) ∧
    (∀ rx, Completes (.downstreamFrame p rx) s (fun t =>
      let f := framer s p
      let sf := SfOf (HeaderOf rx)
      let found := decide (mismatches rx.pattern framePattern ≤ lockTol s p)
      (f.locked = false → t = s) ∧
      (f.locked = true → found = false → f.missRun < 3 → (framer t p).locked = true ∧ (framer t p).missRun = f.missRun + 1 ∧
        (framer t p).e = f.e + 1 ∧ (framer t p).delin = .hunt ∧ (framer t p).run = (plainOf rx).drop 16 ∧
        regN t (trkR p 0x244) = min (regN s (trkR p 0x244) + 1) (2 ^ 32 - 1)) ∧
      (f.locked = true → found = false → 3 ≤ f.missRun → LockDropped p t) ∧
      (f.locked = true → found = true → headerGood (HeaderOf rx) = false → (framer t p).locked = true ∧
        (framer t p).missRun = 0 ∧ (framer t p).e = f.e + 1 ∧ (framer t p).raw = f.raw ∧ (framer t p).delin = .hunt ∧
        (framer t p).run = (plainOf rx).drop 16 ∧ regN t (trkR p 0x240) = min (regN s (trkR p 0x240) + 1) (2 ^ 32 - 1)) ∧
      (f.locked = true → found = true → headerGood (HeaderOf rx) = true → f.raw.getLsbD bitLosf = false → sf = f.e + 1 →
        (framer t p).locked = true ∧ (framer t p).missRun = 0 ∧ (framer t p).e = sf ∧ (framer t p).lastSf = some sf ∧
        (framer t p).raw = f.raw) ∧
      (f.locked = true → found = true → headerGood (HeaderOf rx) = true → f.raw.getLsbD bitLosf = false → sf ≠ f.e + 1 →
        (framer t p).locked = true ∧ (framer t p).e = f.e + 1 ∧
        (framer t p).raw = (if f.incRun = 0 then f.raw else f.raw ||| 8)) ∧
      (f.locked = true → found = true → headerGood (HeaderOf rx) = true →
        (framer t p).run = f.run ++ payloadOf (plainOf rx) ∧ (framer t p).delin = f.delin) ∧
      (f.locked = true → found = true → headerGood (HeaderOf rx) = true → f.raw.getLsbD bitLosf = true →
        (framer t p).locked = true ∧
        (if 2 ≤ f.clrLen ∧ sf = f.clrNext then (framer t p).raw = f.raw &&& ~~~8 ∧ (framer t p).e = sf
         else (framer t p).raw = f.raw ∧ (framer t p).e = f.e + 1)) ∧ PortKeep p s t))

/-- The performance history of a port (R67 to R71). Where the spec leaves a point open, what is stated is the
model's choice: log entries 15 to 20 and 164 to 173 and 186. -/
def Obligations.PerformanceBins : Prop :=
  ∀ (s : State) (p : Fin 16), coreOn s = true →
    Completes (.pmSecond p) s (fun t =>
      let m := pmStore s p
      (portDark s p = true ∨ secondNo s = m.secNo → t = s) ∧
      (portDark s p = false → secondNo s ≠ m.secNo → m.secWhole = true → m.uaTime = false → m.sesRun.length < 9 →
        (pmStore t p).cur15.seconds = sat32 (m.cur15.seconds + 1) ∧ (pmStore t p).cur24.seconds = sat32 (m.cur24.seconds + 1) ∧
        (pmStore t p).cur15.es = sat32 (m.cur15.es + bitN (secEs s p)) ∧
        (pmStore t p).cur15.ses = sat32 (m.cur15.ses + bitN (secSes s p)) ∧ (pmStore t p).cur15.uas = sat32 m.cur15.uas ∧
        (∀ i : Fin 7, (pmStore t p).cur15.ds.getD i 0 = sat32 (m.cur15.ds.getD i 0 + bitN (m.secRep.getLsbD i)))) ∧
      (portDark s p = false → secondNo s ≠ m.secNo → (pmStore t p).secUncorr = 0 ∧
        (pmStore t p).secRep = reported (framer s p).raw ∧ (pmStore t p).secNo = secondNo s ∧ (pmStore t p).secWhole = true ∧
        (m.secWhole = false → (pmStore t p).cur15 = m.cur15 ∧ (pmStore t p).cur24 = m.cur24)) ∧
      Only [.pm] s t ∧ PortKeep p s t) ∧
    (∀ day, Completes (.pmBinEnd p day) s (fun t =>
      let m := pmStore s p
      (binNo day s = (if day then m.no24 else m.no15) → t = s) ∧
      (binNo day s ≠ (if day then m.no24 else m.no15) →
        (if day then (pmStore t p).end24 = { m.cur24 with endUp := s.uptime } :: m.end24 ∧ (pmStore t p).cur24 = newBin s p ∧
            (pmStore t p).cur15 = m.cur15 ∧ (pmStore t p).no24 = binNo true s
          else (pmStore t p).end15 = { m.cur15 with endUp := s.uptime } :: m.end15 ∧ (pmStore t p).cur15 = newBin s p ∧
            (pmStore t p).cur24 = m.cur24 ∧ (pmStore t p).no15 = binNo false s)) ∧
      (newBin s p).valid = true ∧ (newBin s p).seconds = 0 ∧ (newBin s p).startUp = s.uptime ∧
      (newBin s p).epoch = regN s 0x108 ∧ (newBin s p).unaligned = !timeHeld s ∧ Only [.pm] s t ∧ PortKeep p s t)) ∧
    Completes (.pmBinClose p false) s (fun t =>
      (∀ b, (pmStore s p).end15.getLast? = some b → b.endUp + 250000000 ≤ s.uptime →
        (pmStore t p).past15 = (b :: (pmStore s p).past15).take 96 ∧
        (pmStore t p).end15 = (pmStore s p).end15.dropLast ∧ bitAt t (trkR p 0x18) 7 = true) ∧
      ((∀ b, (pmStore s p).end15.getLast? = some b → s.uptime < b.endUp + 250000000) → t = s) ∧
      Only [.regs, .sent, .icSrc, .icMsix, .pm, .reef] s t ∧ PortKeep p s t ∧
      RegsOnly (fun a => a == trkR p 0x18 || a == 0x0020005C) s t) ∧
    Completes (.pmBinClose p true) s (fun t =>
      (∀ b, (pmStore s p).end24.getLast? = some b → b.endUp + 250000000 ≤ s.uptime → (pmStore t p).past24 = [b] ∧
        (pmStore t p).end24 = (pmStore s p).end24.dropLast ∧ bitAt t (trkR p 0x18) 8 = true) ∧
      ((∀ b, (pmStore s p).end24.getLast? = some b → s.uptime < b.endUp + 250000000) → t = s) ∧
      Only [.regs, .sent, .icSrc, .icMsix, .pm, .reef] s t ∧ PortKeep p s t ∧
      RegsOnly (fun a => a == trkR p 0x18 || a == 0x0020005C) s t) ∧
    Completes (.pmClrCur p) s (fun t => (pmStore t p).cur15.seconds = 0 ∧ (pmStore t p).cur15.es = 0 ∧
      (pmStore t p).cur15.ses = 0 ∧ (pmStore t p).cur15.uas = 0 ∧ (pmStore t p).cur15.cleared = true ∧
      (pmStore t p).cur15.incomplete = true ∧ (pmStore t p).cur24.seconds = 0 ∧ (pmStore t p).cur24.cleared = true ∧
      (pmStore t p).past15 = (pmStore s p).past15 ∧ (pmStore t p).end15 = (pmStore s p).end15 ∧ Only [.pm] s t ∧ PortKeep p s t)

/-! ## Registration, ranging and the lookout (ch. 03) -/

/-- The TMM at the head of port p's queue is t, of this TYPE, and no rule turns it away before the state table: no RANGE_SET
before it waits for its confirmation, the TYPE is known, the TMM is not for another device, and it repeats none that is
remembered (R78 to R81). -/
def TmmDue (s : State) (p type : Nat) (t : TmmIn) (rest : List TmmIn) : Prop :=
  (framer s p).queue = t :: rest ∧ tf t.bits 371 364 = type ∧ knownType s p type = true ∧
  notDevice s p t.bits = false ∧ rememberedOf s p t.bits t.sf = none ∧ awaitsConfirm s p = false

/-- TMM t has been answered on port p: its reply, made from state x, is the newest remembered one (R77, R80). -/
def Answered (x : State) (p : Nat) (t : TmmIn) (status : Nat) (body : List (Nat × Nat)) (u : State) : Prop :=
  (regnOf u p).remembered.head? = some { type := tf t.bits 371 364, seq := tf t.bits 363 356,
                                         reply := some (replyTo x p t.bits status body), actedSf := t.sf }

/-- The commands by which a port acts on the TMM at the head of its queue, with their TYPE codes (R77). -/
def TmmCommand (p : Fin 16) (c : Instr) (type : Nat) : Prop :=
  (c = .versionOffer p ∧ type = 0x03) ∨ (c = .assignId p ∧ type = 0x05) ∨ (c = .rangeSet p ∧ type = 0x06) ∨
  (c = .rangeProbe p ∧ type = 0x07) ∨ (c = .timeSet p ∧ type = 0x08) ∨ (c = .keyRotate p ∧ type = 0x09) ∨
  (c = .grantProfile p ∧ type = 0x0A) ∨ (c = .tsiSwitch p ∧ type = 0x0B) ∨ (c = .reefNotice p ∧ type = 0x0C) ∨
  (c = .reefGrant p ∧ type = 0x0D) ∨ (c = .silence p ∧ type = 0x0E) ∨ (c = .unmuzzle p ∧ type = 0x0F) ∨
  (c = .release p ∧ type = 0x10) ∨ (c = .park p ∧ type = 0x11) ∨ (c = .echo p ∧ type = 0x12)

/-- What stands before the state table for every TMM (R78 to R80). Where the spec leaves a point open, what is stated is the
model's choice: log entries 21 to 33 and 163 and 174 and 176 and 180 and 211. -/
def Obligations.TmmAdmission : Prop :=
  ∀ (s : State) (p : Fin 16), coreOn s = true →
    (∀ c type, TmmCommand p c type →
      (awaitsConfirm s p = true ∨
        (∀ t rest, (framer s p).queue = t :: rest → tf t.bits 371 364 ≠ type ∨ knownType s p type = false) →
        exec c s = .next s) ∧
      (∀ t rest, (framer s p).queue = t :: rest → tf t.bits 371 364 = type → knownType s p type = true →
        awaitsConfirm s p = false → notDevice s p t.bits = true → Completes c s (fun u => (framer u p).queue = rest ∧
          regN u (trkR p 0x448) = min (regN s (trkR p 0x448) + 1) (2 ^ 32 - 1) ∧ Only [.regs, .framers] s u ∧
          RegsOnly (· == trkR p 0x448) s u ∧ PortKeep p s u)) ∧
      (∀ t rest, (framer s p).queue = t :: rest → tf t.bits 371 364 = type → knownType s p type = true →
        awaitsConfirm s p = false → notDevice s p t.bits = false → rememberedOf s p t.bits t.sf ≠ none → Completes c s (fun u => (framer u p).queue = rest ∧
          (regnOf u p).state = (regnOf s p).state ∧ (regnOf u p).tid = (regnOf s p).tid ∧
          (regnOf u p).eqd = (regnOf s p).eqd ∧ (regnOf u p).version = (regnOf s p).version ∧
          (regnOf u p).pend = (regnOf s p).pend))) ∧
    (∀ t rest, (framer s p).queue = t :: rest → Completes (.tmmUnknown p) s (fun u =>
      let counter := if notDevice s p t.bits then trkR p 0x448 else trkR p 0x444
      (knownType s p (tf t.bits 371 364) = true ∨ awaitsConfirm s p = true → u = s) ∧
      (knownType s p (tf t.bits 371 364) = false → awaitsConfirm s p = false → (framer u p).queue = rest ∧
        regN u counter = min (regN s counter + 1) (2 ^ 32 - 1) ∧ Only [.regs, .framers] s u ∧
        RegsOnly (· == counter) s u)))

/-- The version that VERSION_OFFER chooses on a port: the highest both offered and in the manifest; 0 for none (R96). -/
def ChosenVersion (s : State) (p : Nat) (t : BitVec 384) : Nat :=
  if t.getLsbD 283 && manifestHas s p 3 then 3 else if t.getLsbD 282 && manifestHas s p 2 then 2 else 0

/-- Discovery and identification (R94, R96, R97, R116). Where the spec leaves a point open, what is stated is the
model's choice: log entries 21 to 33 and 163 and 174 and 176 and 180 and 211. -/
def Obligations.DiscoveryTmms : Prop :=
  ∀ (s : State) (p : Fin 16) (t : TmmIn) (rest : List TmmIn), coreOn s = true →
    (TmmDue s p 0x03 t rest → (regnOf s p).state = .announce → Completes (.versionOffer p) s (fun u =>
      let v := ChosenVersion s p t.bits
      (regnOf u p).version = v ∧ (regnOf u p).state = .announce ∧ (framer u p).queue = rest ∧
      Answered s p t (if v = 0 then 6 else 0) [(280, devId s), (272, v)] u ∧ PortKeep p s u)) ∧
    (TmmDue s p 0x05 t rest → t.bits.getLsbD 287 = false → (regnOf s p).state = .announce → (regnOf s p).version ≠ 0 →
      (regnOf s p).tid = none → Completes (.assignId p) s (fun u =>
        let id := tf t.bits 282 271
        (framer u p).queue = rest ∧ PortKeep p s u ∧
        (id = 4094 ∨ id = 4095 → Answered s p t 3 [(332, 4095)] u ∧ (regnOf u p).tid = none ∧ (regnOf u p).state = .announce) ∧
        (id ≠ 4094 → id ≠ 4095 → chooseCtx s p 0 = none → Answered s p t 4 [(332, 4095)] u ∧ (regnOf u p).tid = none ∧
          (regnOf u p).state = .announce) ∧
        (∀ c, id ≠ 4094 → id ≠ 4095 → chooseCtx s p 0 = some c → (regnOf u p).tid = some id ∧ (regnOf u p).state = .range ∧
          (regnOf u p).eqd = 0 ∧ (regnOf u p).ranged = (regnOf s p).ranged ∧ (guardOf u p).tid = some id ∧
          u.contexts.look none c = some { port := p, alloc := 0, rpt := 0, rigid := false } ∧
          (∀ k, k ≠ c → u.contexts.look none k = s.contexts.look none k)))) ∧
    (TmmDue s p 0x0A t rest → inService s p = true → Completes (.grantProfile p) s (fun u =>
      let alloc := tf t.bits 349 338
      let b : Binding := { port := p, alloc := alloc, rpt := tf t.bits 337 330, rigid := t.bits.getLsbD 329 }
      (framer u p).queue = rest ∧ PortKeep p s u ∧
      (tf t.bits 351 350 = 0 → findCtx s p alloc = none → (b.rigid && (regnOf s p).version == 2) = false →
        ∀ c, chooseCtx s p alloc = some c → Answered s p t 0 [] u ∧ u.contexts = s.contexts.put c (some b)) ∧
      (tf t.bits 351 350 = 0 → findCtx s p alloc ≠ none → Answered s p t 3 [] u ∧ u.contexts = s.contexts) ∧
      (∀ c x, tf t.bits 351 350 = 1 → alloc ≠ 0 → findCtx s p alloc = some (c, x) → Answered s p t 0 [] u ∧
        u.contexts = s.contexts.put c none) ∧
      (tf t.bits 351 350 = 1 → alloc ≠ 0 → findCtx s p alloc = none → Answered s p t 5 [] u ∧ u.contexts = s.contexts) ∧
      (∀ c x, tf t.bits 351 350 = 2 → findCtx s p alloc = some (c, x) → (b.rigid && (regnOf s p).version == 2) = false →
        Answered s p t 0 [] u ∧ u.contexts = s.contexts.put c (some b)) ∧
      (tf t.bits 351 350 = 3 → Answered s p t 3 [] u ∧ u.contexts = s.contexts))) ∧
    (TmmDue s p 0x12 t rest → (regnOf s p).state ≠ .init → (regnOf s p).state ≠ .hold → Completes (.echo p) s (fun u =>
      Answered s p t 0 [(152, tf t.bits 287 96)] u ∧ (regnOf u p).state = (regnOf s p).state ∧ (framer u p).queue = rest ∧
      PortKeep p s u)) ∧
    ((framer s p).queue = t :: rest → tf t.bits 371 364 = 1 → notDevice s p t.bits = false → awaitsConfirm s p = false →
      Completes (.hail p) s (fun u =>
      (framer u p).queue = rest ∧ PortKeep p s u ∧
      (t.bits.getLsbD 251 = true → Only [.regs, .framers] s u ∧
        regN u (trkR p 0x444) = min (regN s (trkR p 0x444) + 1) (2 ^ 32 - 1)) ∧
      (t.bits.getLsbD 251 = false → (regnOf s p).state ≠ .listen → (regnOf s p).state ≠ .announce →
        (regnOf u p).state = (regnOf s p).state ∧ u.timed = s.timed) ∧
      (t.bits.getLsbD 251 = false → t.bits.getLsbD 250 = false → (regnOf s p).state = .listen → t.lookout = false →
        (regnOf s p).hailSf ≠ some t.sf →
        (if freeVal s % 256 ≤ tf t.bits 271 264 then (regnOf u p).state = .announce ∧ u.timed.length = s.timed.length + 1
         else (regnOf u p).state = .listen ∧ u.timed = s.timed))))

/-- Port p has left registration with the TID it held as LAST_TID (R87). -/
def LeftRegistration (s : State) (p : Nat) (st : RegState) (u : State) : Prop :=
  (regnOf u p).state = st ∧ (regnOf u p).tid = none ∧ (regnOf u p).version = 0 ∧ (regnOf u p).eqd = 0 ∧
  (regnOf u p).pend = none ∧ (regnOf u p).silence = none ∧ (regnOf u p).lastTid = (regnOf s p).tid.getD (regnOf s p).lastTid ∧
  (guardOf u p).tid = none ∧ (guardOf u p).eqd = none ∧
  ∀ c b, u.contexts.look none c = some b → b.port ≠ p

/-- Leaving registration, and silences (R84, R86, R87). Where the spec leaves a point open, what is stated is the
model's choice: log entries 21 to 33 and 163 and 174 and 176 and 180 and 211. -/
def Obligations.RegistrationEnds : Prop :=
  ∀ (s : State) (p : Fin 16), coreOn s = true →
    Completes (.releaseEffect p) s (fun u => PortKeep p s u ∧
      (∀ sf, (regnOf s p).releaseAt = some sf → upStart s p (sf + 3) (halEqd s p (sf + 3)) ≤ lineNow s p → LeftRegistration s p .listen u ∧
        (regnOf u p).releaseAt = none) ∧
      ((∀ sf, (regnOf s p).releaseAt = some sf → lineNow s p < upStart s p (sf + 3) (halEqd s p (sf + 3))) → u = s)) ∧
    Completes (.announceTimerExpiry p) s (fun u => PortKeep p s u ∧
      (if portDark s p = false ∧ expired s (regnOf s p).annAt (trkR p 0x418) = true then LeftRegistration s p .listen u else u = s)) ∧
    Completes (.rangeTimerExpiry p) s (fun u => PortKeep p s u ∧
      (if portDark s p = false ∧ expired s (regnOf s p).rangeAt (trkR p 0x41C) = true
       then LeftRegistration s p .listen u else u = s)) ∧
    Completes (.holdTimerExpiry p) s (fun u => PortKeep p s u ∧
      (if portDark s p = false ∧ expired s (regnOf s p).holdAt (trkR p 0x420) = true then LeftRegistration s p .init u else u = s)) ∧
    (∀ t rest, TmmDue s p 0x10 t rest → silenceOk s p = true ∨ (regnOf s p).state = .hold → Completes (.release p) s (fun u =>
      (framer u p).queue = rest ∧ PortKeep p s u ∧ (regnOf u p).releaseReason = tf t.bits 351 344 ∧
      (silenceOk s p = true → (regnOf u p).releaseAt = some t.sf ∧ (regnOf u p).state = (regnOf s p).state ∧ Answered s p t 0 [] u) ∧
      ((regnOf s p).state = .hold → LeftRegistration s p .init u))) ∧
    (∀ t rest, TmmDue s p 0x0E t rest → silenceOk s p = true → Completes (.silence p) s (fun u =>
      (framer u p).queue = rest ∧ PortKeep p s u ∧ (regnOf u p).state = .silent ∧
      (regnOf u p).silence = some { left := tf t.bits 351 320, endless := tf t.bits 351 320 = 0, reason := tf t.bits 319 312 } ∧
      (regnOf u p).ret = (if (regnOf s p).state = .silent then (regnOf s p).ret else (regnOf s p).state) ∧ Answered s p t 0 [] u)) ∧
    Completes (.silenceDurationEnd p) s (fun u => PortKeep p s u ∧ (silenceOver s p = false → u = s) ∧
      (silenceOver s p = true → (regnOf u p).silence = none ∧
        ((regnOf s p).state = .silent → muzzled s p = false → (regnOf u p).state = (regnOf s p).ret) ∧
        ((regnOf s p).state = .silent → muzzled s p = true → (regnOf u p).state = .silent))) ∧
    (∀ t rest, TmmDue s p 0x0F t rest → (regnOf s p).state = .silent → Completes (.unmuzzle p) s (fun u =>
      (framer u p).queue = rest ∧ PortKeep p s u ∧
      (t.bits.getLsbD 350 = true → t.mayClear = false →
        (regnOf u p).state = .silent ∧ (regnOf u p).silence = (regnOf s p).silence ∧ muzzled u p = muzzled s p) ∧
      (t.bits.getLsbD 350 = true → t.mayClear = true → muzzled u p = false ∧ Answered s p t 0 [] u) ∧
      (t.bits.getLsbD 350 = false → t.bits.getLsbD 351 = true → muzzled s p = false →
        (regnOf u p).silence = none ∧ ((regnOf s p).silence ≠ none → (regnOf u p).state = (regnOf s p).ret))))

/-- Ranging (R99 to R101, R103). Where the spec leaves a point open, what is stated is the
model's choice: log entries 21 to 33 and 163 and 174 and 176 and 180 and 211. -/
def Obligations.RangingCommands : Prop :=
  ∀ (s : State) (p : Fin 16), coreOn s = true →
    (∀ t rest, TmmDue s p 0x06 t rest → ranging s p = true → Completes (.rangeSet p) s (fun u =>
      let v := tf t.bits 351 320
      let sf := tf t.bits 319 269
      let near := decide (v ≤ halEqd s p sf + 1600) && decide (halEqd s p sf ≤ v + 1600)
      let ok := frameInReach true s p t sf && (!t.bits.getLsbD 267 || (regnOf s p).state == .range) &&
        (((regnOf s p).state == .range && t.bits.getLsbD 267) || near) &&
        (!t.bits.getLsbD 268 || (regnOf s p).state == .range || ((regnOf s p).state == .silent && (regnOf s p).ret == .range))
      let first := match (regnOf s p).pend with
        | some old => decide (sf ≤ old.sfEff)
        | none => false
      (framer u p).queue = rest ∧ PortKeep p s u ∧ (regnOf u p).eqd = (regnOf s p).eqd ∧
      (ok = false → Answered s p t 3 [] u ∧ (regnOf u p).pend = (regnOf s p).pend) ∧
      (ok = true → first = true → Answered s p t 1 [] u ∧ (regnOf u p).pend = (regnOf s p).pend) ∧
      (ok = true → first = false → ∃ c, (regnOf u p).pend = some c ∧ c.eqd = v ∧ c.sfEff = sf ∧ c.done = t.bits.getLsbD 268 ∧
        c.confirmed = false ∧ (regnOf u p).pendOld = (regnOf s p).pend ∧ (guardOf u p).pend = some (v, sf)))) ∧
    (∀ c hal bks, (regnOf s p).pend = some c → c.confirmed = false → Completes (.eqdConfirm p hal bks) s (fun u =>
      PortKeep p s u ∧
      ((hal && bks) = true → (regnOf u p).pend = some { c with confirmed := true } ∧ (regnOf u p).pendOld = none ∧
        (regnOf u p).ranged = true ∧ (guardOf u p).pend = (guardOf s p).pend) ∧
      ((hal && bks) = false → (regnOf u p).pend = (regnOf s p).pendOld ∧ (regnOf u p).pendOld = none ∧
        (guardOf u p).pend = guardPend (regnOf s p).pendOld))) ∧
    Completes (.eqdChangeApply p) s (fun u => PortKeep p s u ∧
      ((∀ c, (regnOf s p).pend = some c → c.confirmed = false ∨ lineNow s p + 1000 < upStart s p c.sfEff c.eqd) → u = s) ∧
      (∀ c, (regnOf s p).pend = some c → c.confirmed = true → upStart s p c.sfEff c.eqd ≤ lineNow s p + 1000 →
        (regnOf u p).eqd = c.eqd ∧ (regnOf u p).eqdFrom = c.sfEff ∧ (regnOf u p).eqdOld = (regnOf s p).eqd ∧
        (regnOf u p).pend = none ∧ (guardOf u p).eqd = some c.eqd ∧ (guardOf u p).pend = none ∧
        (regnOf u p).state = (if c.done = true ∧ (regnOf s p).state = .range then .operate else (regnOf s p).state))) ∧
    (∀ t rest, TmmDue s p 0x07 t rest → ranging s p = true → Completes (.rangeProbe p) s (fun u =>
      (framer u p).queue = rest ∧ PortKeep p s u ∧ (regnOf u p).state = (regnOf s p).state ∧
      (frameInReach true s p t (tf t.bits 351 301) = false → Answered s p t 3 [] u ∧ u.timed = s.timed) ∧
      (frameInReach true s p t (tf t.bits 351 301) = true → u.timed.length = s.timed.length + 1)))

/-- The mailbox commands of registration, time, images and reef levels, with their codes (R88, R188, R416, R461, R462, R528). -/
def PlainMailbox (i : Fin 2) (c : Instr) (code : Nat) : Prop :=
  (c = .mbHello i ∧ code = 0x01) ∨ ((∃ b, c = .imgErase ⟨i, b⟩) ∧ code = 0x10) ∨ ((∃ b, c = .imgWrite ⟨i, b⟩) ∧ code = 0x11) ∨
  ((∃ b, c = .imgRead ⟨i, b⟩) ∧ code = 0x12) ∨ ((∃ b, c = .imgCheck ⟨i, b⟩) ∧ code = 0x13) ∨ ((∃ b, c = .imgSelect ⟨i, b⟩) ∧ code = 0x14) ∨
  (c = .imgConfirm i ∧ code = 0x15) ∨ (c = .regEnable i ∧ code = 0x40) ∨ (c = .regRelease i ∧ code = 0x41) ∨
  (c = .regSilence i ∧ code = 0x42) ∨ (c = .regStatus i ∧ code = 0x43) ∨ (c = .timeTod i ∧ code = 0x50) ∨
  (c = .timeArmStep i ∧ code = 0x51) ∨ (c = .timeRead i ∧ code = 0x52) ∨ (c = .indWrite i ∧ code = 0x60) ∨
  (c = .shrRootLoad i ∧ code = 0x70) ∨ (c = .shrRootClear i ∧ code = 0x71) ∨ (c = .shrAttest i ∧ code = 0x72) ∨
  (c = .shrIdentity i ∧ code = 0x73) ∨ (c = .reefSet i ∧ code = 0x80)

/-- The mailbox's answers (R459, R460). Where the spec leaves a point open, what is stated is the
model's choice: log entries 21 to 33 and 163 and 174 and 176 and 180 and 211. -/
def Obligations.MailboxReplies : Prop :=
  ∀ (s : State) (i : Fin 2), coreOn s = true → ∀ c code, PlainMailbox i c code →
    (reefHolds s = true ∨ (∀ rest, s.xt.requests = i.val :: rest → (requestOf s i).code ≠ code) → exec c s = .next s) ∧
    (∀ rest, s.xt.requests = i.val :: rest → (requestOf s i).code = code → reefHolds s = false → Completes c s (fun u =>
      u.xt.requests = rest ∧ bitAt u (xtR i 4) 31 = false ∧ bitAt u (xtR i 4) 30 = true ∧
      (∃ status, status < 256 ∧ regN u (xtR i 0x2000) = (requestOf s i).ver * 2 ^ 24 + status * 2 ^ 16 + (requestOf s i).code) ∧
      regN u (xtR i 0x2004) / 2 ^ 16 = (requestOf s i).tag))

/-- The lookout channel (R89 to R93, R82). Where the spec leaves a point open, what is stated is the
model's choice: log entries 21 to 33 and 163 and 174 and 176 and 180 and 211. -/
def Obligations.LookoutCommands : Prop :=
  ∀ (s : State) (n : Fin 2), coreOn s = true →
    (∀ up, Completes (.lookoutLaneUpChange n up) s (fun t => Only [.regs, .sent, .icSrc, .icMsix, .lanes, .reef] s t ∧
      (up = true → lkoHears s n = false → t = s) ∧ (up = false ∨ lkoHears s n = true → lkoUp t n = up))) ∧
    (∀ lm, s.reef.level ≠ 3 → lkoHears s n = true → Completes (.lookoutLmReceived n lm) s (fun t =>
      (lmGood lm = false → regN t (lkoR n 0x04) = min (regN s (lkoR n 0x04) + 1) (2 ^ 32 - 1) ∧ bitAt t 0x01300008 2 = true ∧
        Only [.regs, .sent, .icSrc, .icMsix, .reef] s t) ∧
      (lmGood lm = true → namesUs s (lmDev lm) = false → regN t (lkoR n 0x0C) = min (regN s (lkoR n 0x0C) + 1) (2 ^ 32 - 1) ∧
        Only [.regs] s t ∧ RegsOnly (· == lkoR n 0x0C) s t) ∧
      (lmGood lm = true → namesUs s (lmDev lm) = true → lmCopy s n lm = true →
        regN t (lkoR n 0x08) = min (regN s (lkoR n 0x08) + 1) (2 ^ 32 - 1) ∧ Only [.regs] s t ∧ RegsOnly (· == lkoR n 0x08) s t) ∧
      (lmGood lm = true → namesUs s (lmDev lm) = true → lmCopy s n lm = false → lmAllp lm = false →
        (tmmOurs s (lmPort lm) (lmTmm lm) = false → framer t (lmPort lm) = framer s (lmPort lm)) ∧
        (tmmOurs s (lmPort lm) (lmTmm lm) = true → (framer s (lmPort lm)).queue.length < 128 →
          (framer t (lmPort lm)).queue = (framer s (lmPort lm)).queue ++
            [{ bits := lmTmm lm, sf := (framer s (lmPort lm)).lastSf.getD 0, lookout := true,
               mayClear := fld s (bksR (lmPort lm) 4) 1 0 == 3 && !guardFault s (lmPort lm) }])))) ∧
    Completes (.lmDelayEnd n) s (fun t =>
      ((lookout s n).queue = [] → t = s) ∧
      (∀ lm rest d, (lookout s n).queue = lm :: rest → (lookout s n).delayFrom = some d →
        (coreNow s < d + 80000 * (lookout s n).delayUs → t = s) ∧
        (d + 80000 * (lookout s n).delayUs ≤ coreNow s → keyedUntil s n ≤ coreNow s → mayKey s n = false →
          (lookout t n).queue = rest ∧ bitAt t 0x01300008 3 = true) ∧
        (d + 80000 * (lookout s n).delayUs ≤ coreNow s → keyedUntil s n ≤ coreNow s → mayKey s n = true → inTheWay s (coreNow s) = none →
          (lookout t n).queue = rest ∧ (lookout t n).keyedFrom = some (coreNow s) ∧
          t.sent = s.sent ++ [.lm n (toBytes 64 lm.toNat) none] ∧
          regN t (lkoR n 0x10) = min (regN s (lkoR n 0x10) + 1) (2 ^ 32 - 1)))) ∧
    Completes .timedLmSend s (fun t =>
      (s.timed = [] → t = s) ∧
      (∀ x, earliest s.timed = some x → (coreNow s + keyLead < timedAt x → t = s) ∧
        (timedAt x ≤ coreNow s + keyLead → t.timed = s.timed.erase x ∧
          (mayKey s 0 = false → mayKey s 1 = false → t.sent = s.sent) ∧
          (mayKey s 0 = true → mayKey s 1 = false → t.sent = s.sent ++ [.lm 0 (mkLm s x.port false (timedTmm s x)) (some (timedAt x))])))) ∧
    Completes (.lkoTxenForcedRelease n) s (fun t => Only [.regs, .lookouts] s t ∧
      regN t 0x01300118 = min (regN s 0x01300118 + 1) (2 ^ 32 - 1) ∧ RegsOnly (· == 0x01300118) s t) ∧
    Completes .lkoCntClr s (fun t => Only [.regs] s t ∧ (∀ k : Fin 6, reg t (lkoR n (4 * k)) = 0) ∧ reg t 0x01300118 = 0 ∧
      RegsOnly (within 0x01300100 0x40) s t) ∧
    (∀ p : Fin 16, Completes (.replyLookoutFallback p) s (fun t => PortKeep p s t ∧
      ((∀ r ∈ (regnOf s p).out, lineNow s p < upStart s p (r.sf + 10) (halEqd s p (r.sf + 10))) → t = s) ∧
      (∀ r, (regnOf s p).out.find? (fun x => upStart s p (x.sf + 10) (halEqd s p (x.sf + 10)) ≤ lineNow s p) = some r → speaksLookout s p = true →
        (regnOf t p).out = (regnOf s p).out.erase r)))

/-! ## Grants and bursts (ch. 04) -/

/-- Where the grants of a list start: frame and START. -/
def Starts (l : List Grant) : List (Nat × Nat) := l.map fun g => (g.sf, g.start)

/-- Map validation and commit (R108 to R112, R115, R118, R124). Where the spec leaves a point open, what is stated is the
model's choice: log entries 34 to 41 and 175 and 177 and 179 and 210. -/
def Obligations.GrantMaps : Prop :=
  ∀ (s : State) (p : Fin 16), coreOn s = true →
    Completes (.grantMapValidation p) s (fun u => PortKeep p s u ∧
      ((halyard s p).maps = [] → u = s) ∧
      (∀ m rest, (halyard s p).maps = m :: rest → (halyard u p).maps = rest ∧
        (bitAt s (halR p 0) 0 = false → Only [.halyards] s u ∧ (halyard u p).grants = (halyard s p).grants) ∧
        (bitAt s (halR p 0) 0 = true → (∀ b, m.bytes = some b → mapGood b = false) →
          regN u (halR p 0x13C) = min (regN s (halR p 0x13C) + 1) (2 ^ 32 - 1) ∧
          (halyard u p).grants = (halyard s p).grants ∧ (halyard u p).horizon = (halyard s p).horizon) ∧
        (∀ b, bitAt s (halR p 0) 0 = true → m.bytes = some b → mapGood b = true →
          (halyard u p).horizon = m.sf + 2 ∧
          ((∀ e ∈ goodEntries b, (regnOf s p).tid ≠ some (bits e 63 52)) → (halyard u p).grants = (halyard s p).grants) ∧
          (∀ e, goodEntries b = [e] → (regnOf s p).tid = some (bits e 63 52) →
            (∀ o, failsCheck s p e (grantOf (m.sf + 2) e) = some o → (halyard u p).grants = (halyard s p).grants) ∧
            (failsCheck s p e (grantOf (m.sf + 2) e) = none → stopped s p = false → (halyard s p).grants.length < 131072 →
              let g := { grantOf (m.sf + 2) e with
                cont := ((halyard s p).grants ++ [grantOf (m.sf + 2) e]).any fun a => chainsTo a (grantOf (m.sf + 2) e) }
              (halyard u p).grants = if (halyard s p).grants.any (overlaps g) then (halyard s p).grants
                else (insertGrant g (halyard s p).grants).map fun a =>
                  { a with followed := a.followed || (g.cont && chainsTo a g) }))))) ∧
    Completes (.burstCommit p) s (fun u => PortKeep p s u ∧
      ((∀ g ∈ (halyard s p).grants, g.committed = true) → u = s) ∧
      (∀ g, (halyard s p).grants.find? (fun g => !g.committed) = some g →
        (g.cont = true → (∀ a ∈ (halyard s p).grants, a.committed = true → chainsTo a g = false) →
          (halyard u p).grants = (halyard s p).grants.filter (fun x => !(g.sf == x.sf && g.start == x.start)) ∧
          regN u (halR p missCut) = min (regN s (halR p missCut) + 1) (2 ^ 32 - 1)) ∧
        (g.cont = false → Starts (halyard u p).grants = Starts (halyard s p).grants ∧
          ∀ x ∈ (halyard u p).grants, x.sf = g.sf → x.start = g.start → x.committed = true) ∧
        (g.cont = false → findCtx s p g.alloc = none →
          (∀ x ∈ (halyard u p).grants, x.sf = g.sf → x.start = g.start → x.fill = g.fill) ∧
          regN u (halR p 0x164) = min (regN s (halR p 0x164) + 1) (2 ^ 32 - 1))))

/-- Bursts at the pins (R119 to R134). Where the spec leaves a point open, what is stated is the
model's choice: log entries 34 to 41 and 175 and 177 and 179 and 210. -/
def Obligations.Bursts : Prop :=
  ∀ (s : State) (p : Fin 16), coreOn s = true → (regnOf s p).qws = [] →
    Completes (.burstLaunch p) s (fun u => PortKeep p s u ∧
      ((halyard s p).grants.find? (fun g => !g.cont && !g.launched) = none → u = s) ∧
      (∀ g, (halyard s p).grants.find? (fun g => !g.cont && !g.launched) = some g →
        (g.committed = false ∨ (halyard s p).txOpen = true → u = s) ∧
        (g.committed = true → (halyard s p).txOpen = false → (halyard u p).txOpen = true ∧
          reg64 u (halR p 0x100) = min (reg64 s (halR p 0x100) + 1) (2 ^ 64 - 1) ∧
          let parted := partedFrom s p (halyard s p).grants g
          Starts (halyard u p).grants = (Starts (halyard s p).grants).filter (fun x => !(Starts parted).contains x) ∧
          (parted = [] → Only [.regs, .sent, .halyards] s u) ∧
          ∃ hdr more, u.sent = s.sent ++ .burst p g.sf g.start hdr :: more ∧ (parted = [] → more = [])))) ∧
    Completes (.burstEnd p) s (fun u => PortKeep p s u ∧
      (∀ g, (halyard s p).grants.find? (fun g => !g.cont && g.launched) = some g →
        let chain := chainFrom s p (halyard s p).grants 32768 g
        let parted := partedFrom s p (halyard s p).grants g
        (chain.any (fun x => !x.committed || x.fill.any fun f => f.sealed.isNone) = true → u = s) ∧
        (chain.any (fun x => !x.committed || x.fill.any fun f => f.sealed.isNone) = false →
          (halyard u p).txOpen = false ∧
          (halyard u p).grants = (halyard s p).grants.filter (fun x =>
            !(chain.any fun c => c.sf == x.sf && c.start == x.start) && !(parted.any fun c => c.sf == x.sf && c.start == x.start)) ∧
          ∃ bytes, .area p g.sf g.start bytes ∈ u.sent)) ∧
      ((halyard s p).grants.find? (fun g => !g.cont && g.launched) = none → u = s)) ∧
    Completes (.launchDeadlineMiss p) s (fun u => PortKeep p s u ∧
      (∀ g, (halyard s p).grants.find? (fun g => g.committed && g.fill.any fun f => f.sealed.isNone) = some g →
        bitAt u (halR p 0x20) 2 = true ∧ Starts (halyard u p).grants = Starts (halyard s p).grants ∧
        ∀ x ∈ (halyard u p).grants, x.sf = g.sf → x.start = g.start → x.fill = (splitLate g.fill).1) ∧
      ((halyard s p).grants.find? (fun g => g.committed && g.fill.any fun f => f.sealed.isNone) = none → u = s)) ∧
    Completes (.laneReadinessCheck p) s (fun u => PortKeep p s u ∧
      (dataLanesActive s p = true → u = s) ∧
      (∀ g, dataLanesActive s p = false → (halyard s p).grants.find? (fun g => !g.cont && !g.launched) = some g →
        (halyard u p).dozeInhibit = true ∧ bitAt u (halR p 0x20) 4 = true ∧
        ∀ x ∈ (halyard u p).grants, ¬ (x.sf = g.sf ∧ x.start = g.start)))

/-- Halyard's controls (R118, R133 to R138). Where the spec leaves a point open, what is stated is the
model's choice: log entries 34 to 41 and 175 and 177 and 179 and 210. -/
def Obligations.HalyardControls : Prop :=
  ∀ (s : State) (p : Fin 16), coreOn s = true →
    Completes (.dozeExit p) s (fun u => PortKeep p s u ∧ ((halyard s p).dozing = false → u = s) ∧
      ((halyard s p).dozing = true → halyard u p = { halyard s p with dozing := false, waking := true })) ∧
    (∀ en, Completes (.halEnableWrite p en) s (fun u => PortKeep p s u ∧ bitAt u (halR p 0) 0 = en ∧
      (en = true → Only [.regs, .sent, .icSrc, .icMsix, .halyards, .lanes, .waikens, .reef, .boot] s u ∧
        RegsOnly (fun a => a == halR p 0 || a == 0x0020005C || (List.range 8).any fun i => a == laneR (128 + 8 * p + i) 0x30) s u ∧
        (halyard u p).grants = (halyard s p).grants ∧ (halyard u p).maps = (halyard s p).maps ∧
        (halyard u p).txOpen = (halyard s p).txOpen) ∧
      (en = false → (halyard u p).grants = [] ∧ (halyard u p).maps = [] ∧ (halyard u p).txOpen = false ∧ (regnOf u p).qws = []))) ∧
    (∀ v, Completes (.dozeCtlWrite p v) s (fun u => PortKeep p s u ∧ reg u (halR p 0xC) = v ∧
      halyard u p = { halyard s p with dozeInhibit := false } ∧ waiken u p = { waiken s p with checkDue := true } ∧
      Only [.regs, .halyards, .waikens] s u ∧ RegsOnly (· == halR p 0xC) s u)) ∧
    (∀ a : BitVec 12, Completes (.ctxLookupWrite p a) s (fun u => regN u (halR p 0x18) = a.toNat ∧
      (findCtx s p a.toNat = none → reg u (halR p 0x1C) = 0) ∧
      (∀ c b, findCtx s p a.toNat = some (c, b) → c < 4096 → b.rpt < 256 →
        regN u (halR p 0x1C) = 2 ^ 31 + bitN b.rigid * 2 ^ 30 + c * 2 ^ 16 + b.rpt) ∧
      Only [.regs] s u ∧ RegsOnly (fun x => x == halR p 0x18 || x == halR p 0x1C) s u)) ∧
    Completes (.halCntClr p) s (fun u => (∀ o : Fin 27, reg u (halR p (0x100 + 4 * o)) = 0) ∧
      Only [.regs] s u ∧ RegsOnly (within (halR p 0x100) 0x6C) s u)

/-! ## Transmit guard (ch. 05) -/

/-- The 32-bit counter at a has counted one (R14). -/
def Counted (a : Nat) (s u : State) : Prop := regN u a = min (regN s a + 1) (2 ^ 32 - 1)

/-- Windows, closed frames and the answer interval (R140 to R146). Where the spec leaves a point open, what is stated is the
model's choice: log entries 42 to 47 and 178 and 209 and 212 to 216. -/
def Obligations.GuardWindows : Prop :=
  ∀ (s : State) (p : Fin 16), coreOn s = true →
    Completes (.backstayMap p) s (fun u => PortKeep p s u ∧ Only [.regs, .guards] s u ∧
      RegsOnly (· == bksR p 0x24) s u ∧
      ((guardOf s p).maps = [] → u = s) ∧
      ∀ m rest, (guardOf s p).maps = m :: rest → (guardOf u p).maps = rest ∧ (guardOf u p).tid = (guardOf s p).tid ∧
        (m.bytes = none → (guardOf u p).windows = (guardOf s p).windows) ∧
        (∀ b, m.bytes = some b → mapGood b = false →
          (guardOf u p).windows = (guardOf s p).windows ∧ Counted (bksR p 0x24) s u) ∧
        (∀ b, m.bytes = some b → mapGood b = true →
          ((guardOf s p).gateClosed = true ∨ hasTiming s p = false → (guardOf u p).windows = (guardOf s p).windows) ∧
          ((guardOf s p).gateClosed = false → hasTiming s p = true →
            (∀ w ∈ (guardOf s p).windows, (lineNow s p : Int) ≤ windowTo s p w + 80000000 → w ∈ (guardOf u p).windows) ∧
            (m.sf + 2 ∉ (guardOf u p).closed → ∀ e ∈ goodEntries b, rangeOk e = true →
              (guardOf s p).tid = some (bits e 63 52) → ∃ w ∈ (guardOf u p).windows, w.sf = m.sf + 2 ∧ w.pre = none ∧
                w.first ≤ (bits e 39 25 : Int) - 2 ∧ (bits e 39 25 : Int) + (bits e 24 10 : Int) - 1 ≤ w.last)))) ∧
    (∀ start, Completes (.closedFrame p start) s (fun u => PortKeep p s u ∧ Only [.regs, .guards] s u ∧
      (start = false → Only [.guards] s u ∧ guardOf u p = { guardOf s p with
        closedNow := (guardOf s p).closedNow.filter (fun k => decide (lineNow s p + 3200 < upStart s p k (bksEqd s p k) + 10000000)) }) ∧
      (start = true → (guardOf s p).closed.contains (upFrameAt s p (lineNow s p)) = true → hasTiming s p = true →
        (guardOf u p).closedNow = (guardOf s p).closedNow ++ [upFrameAt s p (lineNow s p)] ∧ Counted (bksR p 0x2C) s u ∧ txReleased u p = false) ∧
      (start = true → (guardOf s p).closed.contains (upFrameAt s p (lineNow s p)) = false ∨ hasTiming s p = false → u = s))) ∧
    (∀ start, Completes (.version2AnswerInterval p start) s (fun u => PortKeep p s u ∧
      let left := (guardOf s p).answers.filter fun a => !answerOver s p (lineNow s p) a
      let opened : Bool := left.any (answerBegun s p (lineNow s p))
      (start = true → opened = true → hasTiming s p = true →
        guardOf u p = { guardOf s p with answerOpen := true } ∧ Only [.guards] s u) ∧
      (start = true → opened = false ∨ hasTiming s p = false → u = s) ∧
      (start = false → guardOf u p = { guardOf s p with
          answers := left, answerOpen := opened && (guardOf s p).answerOpen,
          windows := (guardOf s p).windows.filter fun w => w.pre.all fun pre => !answerOver s p (lineNow s p) (w.sf, pre) } ∧
        (regnOf u p).qws = (regnOf s p).qws.filter fun q => !answerOver s p (lineNow s p) (q.sf, q.preEqd))))

/-- Cut-off, clean frames and the silence gate (R146 to R154). Where the spec leaves a point open, what is stated is the
model's choice: log entries 42 to 47 and 178 and 209 and 212 to 216. -/
def Obligations.CutOff : Prop :=
  ∀ (s : State) (p : Fin 16), coreOn s = true →
    (∀ t votes, Completes (.cutOff p t votes) s (fun u => PortKeep p s u ∧
      (txReleased s p = false → Counted (bksR p 0x28) s u ∧ muzzled u p = muzzled s p ∧ Only [.regs] s u ∧
        RegsOnly (fun a => a == bksR p 0x28 || a == bksR p 4) s u ∧ (muzzled s p = true → fld u (bksR p 4) 1 0 = 0)) ∧
      (txReleased s p = true → legalAt s p t = true ∨ voterCuts s p votes = false → u = s) ∧
      (txReleased s p = true → legalAt s p t = false → voterCuts s p votes = true →
        Counted (bksR p 0x20) s u ∧ muzzled u p = true ∧ fld u (bksR p 4) 1 0 = 0 ∧ bitAt u (bksR p 8) 0 = true ∧
        txReleased u p = false ∧ fld u (bksR p 0x10) 31 28 = 1 ∧ fld u (bksR p 0x10) 27 25 = votes.toNat ∧
        (halyard u p).grants = [] ∧ (halyard u p).txOpen = false ∧
        ((regnOf s p).state = .announce ∨ (regnOf s p).state = .range ∨ (regnOf s p).state = .operate →
          (regnOf u p).state = .silent ∧ (regnOf u p).ret = (regnOf s p).state)))) ∧
    Completes (.muzzleAlertRepeat p) s (fun u => PortKeep p s u ∧
      (muzzled s p = false ∨ s.uptime < (guardOf s p).alertAt + 25000000 ∨
        (bitAt s 0x01300000 4 = false ∧ bitAt s 0x01300000 5 = false) → u = s) ∧
      (muzzled s p = true → (guardOf s p).alertAt + 25000000 ≤ s.uptime → bitAt s 0x01300000 4 = true →
        (guardOf u p).alertAt = s.uptime ∧ (speaksLookout s p = false → Only [.guards] s u))) ∧
    (∀ clean, Completes (.cleanFrameCount p clean) s (fun u => PortKeep p s u ∧ Only [.regs, .guards] s u ∧
      RegsOnly (· == bksR p 4) s u ∧ muzzled u p = muzzled s p ∧
      (muzzled s p = false ∨ hasTiming s p = false → u = s) ∧
      (muzzled s p = true → hasTiming s p = true → clean = false → fld u (bksR p 4) 1 0 = 0) ∧
      (muzzled s p = true → hasTiming s p = true → clean = true →
        if frameEnded s p < (guardOf s p).cleanFrom then u = s
        else fld u (bksR p 4) 1 0 = min 3 (fld s (bksR p 4) 1 0 + 1) ∧
          guardOf u p = { guardOf s p with cleanFrom := frameEnded s p + 1 }))) ∧
    Completes (.silenceGateClose p) s (fun u => PortKeep p s u ∧
      ((guardOf s p).gateDue = false → u = s) ∧
      ((guardOf s p).gateDue = true → (guardOf u p).gateClosed = true ∧ (guardOf u p).gateDue = false ∧
        (guardOf u p).windows = [] ∧ Counted (bksR p 0x3C) s u ∧ (halyard u p).grants = [] ∧ (halyard u p).txOpen = false ∧
        txReleased u p = false ∧ muzzled u p = muzzled s p))

/-- The host unlock (R152). -/
def Obligations.HostUnlock : Prop :=
  ∀ (s : State) (a : Path) (p : Fin 16),
    Completes (.unlockFirstWrite a p) s (fun u =>
      (a = .xt → u = s) ∧ (∀ q : Fin 16, muzzled u q = muzzled s q) ∧ Only [.regs, .paths] s u ∧ PortKeep p s u ∧
      (a ≠ .xt → (pathOf u a).unlock = some (p.val, s.uptime) ∧
        ((pathOf s a).unlock = none → Only [.paths] s u) ∧
        ((pathOf s a).unlock ≠ none → bitAt u 0x01200004 0 = true))) ∧
    Completes (.unlockSecondWrite a p) s (fun u =>
      (a = .xt → u = s) ∧ PortKeep p s u ∧
      (a ≠ .xt → (pathOf u a).unlock = none ∧
        ((pathOf s a).unlock = none → bitAt u 0x01200004 0 = true ∧ ∀ q : Fin 16, muzzled u q = muzzled s q) ∧
        ∀ q t, (pathOf s a).unlock = some (q, t) →
          (q ≠ p.val ∨ t + 25000 < s.uptime ∨ guardFault s p = true →
            bitAt u 0x01200004 0 = true ∧ ∀ k : Fin 16, muzzled u k = muzzled s k) ∧
          (q = p.val → s.uptime ≤ t + 25000 → guardFault s p = false →
            muzzled u p = false ∧ bitAt u 0x01200004 0 = bitAt s 0x01200004 0 ∧
            (∀ k : Fin 16, k ≠ p → muzzled u k = muzzled s k) ∧
            ((regnOf s p).state = .silent → (regnOf s p).silence = none → (regnOf u p).state = (regnOf s p).ret)))) ∧
    ∀ v : Word, bits v.toNat 3 0 = p.val →
      (bits v.toNat 31 16 = 0x5EA1 → exec (.registerWrite a 0x01200008 v) s = exec (.unlockFirstWrite a p) s) ∧
      (bits v.toNat 31 16 = 0xA15E → exec (.registerWrite a 0x01200008 v) s = exec (.unlockSecondWrite a p) s) ∧
      (bits v.toNat 31 16 ≠ 0x5EA1 → bits v.toNat 31 16 ≠ 0xA15E → Completes (.registerWrite a 0x01200008 v) s (fun u =>
        (a = .xt ∨ (pathOf s a).unlock = none → u = s) ∧
        (a ≠ .xt → (pathOf s a).unlock ≠ none → (pathOf u a).unlock = none ∧ bitAt u 0x01200004 0 = true ∧
          Only [.regs, .paths] s u ∧ RegsOnly (· == 0x01200004) s u)))

/-- A dry-fire's outcome that leaves the port dark with both faults set (R158). -/
def TestFailed (p : Nat) (s u : State) : Prop :=
  muzzled u p = true ∧ guardFault u p = true ∧ txReleased u p = false ∧ bitAt u (bksR p 8) 4 = true ∧
  bitAt u (bksR p 8) 0 = true ∧ fld u (bksR p 0x10) 31 28 = 2 ∧
  fld u (bksR p 0x34) 15 0 = min (fld s (bksR p 0x34) 15 0 + 1) (2 ^ 16 - 1) ∧ regN u (bksR p 0x30) = regN s (bksR p 0x30)

/-- Dry-fires (R156 to R159). Where the spec leaves a point open, what is stated is the
model's choice: log entries 42 to 47 and 178 and 209 and 212 to 216. -/
def Obligations.DryFires : Prop :=
  ∀ (s : State) (p : Fin 16), coreOn s = true →
    (∀ (retest : Bool) shots, Completes (if retest then .retest p shots else .dryFireStartup p shots) s (fun u =>
      let runs := if retest then !txReleased s p else (laneOf s (256 + p)).tx == 5
      PortKeep p s u ∧ (runs = false → u = s) ∧
      (∀ f0 f1 f2 f3 : Firing, shots = [f0, f1, f2, f3] → runs = true →
        (∀ f ∈ shots, f.wasHigh = true ∧ f.fellInTime = true) → f3.seen = 7 →
        bitAt u (bksR p 4) 25 = true ∧ Counted (bksR p 0x30) s u ∧ muzzled u p = muzzled s p ∧
        regN u (bksR p 0x14) = 2 ^ 31 + 2 ^ 30 + 7 * 2 ^ 27 + f3.latency.toNat ∧
        guardFault u p = (guardFault s p && !retest) ∧ (retest = true → copiesOk u p = 3)) ∧
      (∀ f rest, shots = f :: rest → runs = true → f.wasHigh = true → f.fellInTime = false →
        bitAt u (bksR p 4) 25 = false ∧ TestFailed p s u) ∧
      (∀ f rest, shots = f :: rest → runs = true → f.wasHigh = false →
        bitAt u (bksR p 4) 25 = false ∧ muzzled u p = muzzled s p ∧ guardFault u p = guardFault s p ∧
        bitAt u (bksR p 8) 1 = true ∧ fld u (bksR p 0x14) 7 0 = 0xFF ∧ (guardOf u p).pin = some false))) ∧
    (∀ f, Completes (.periodicDryFire p f) s (fun u =>
      let n := upFrameAt s p (lineNow s p)
      let due := txReleased s p && !inGap s p (lineNow s p) && (n % 1000 == 0 || (guardOf s p).defer.isSome)
      let seen := total ((upTo 3).map fun k => bitN (f.seen.getLsbD k))
      PortKeep p s u ∧ (due = false → u = s) ∧
      (due = true → freeSlot s p n = none →
        let d := (guardOf s p).defer.getD (0, n + 1)
        guardOf u p = { guardOf s p with defer := some (if d.2 = n then d else (d.1 + 1, n)) } ∧ Only [.guards] s u) ∧
      (∀ k, due = true → freeSlot s p n = some k → (guardOf u p).defer = none ∧
        (guardOf u p).testUntil = ((upStart s p n (bksEqd s p n) : Int) + 500 * k + 1500).toNat ∧
        (f.wasHigh = false → muzzled u p = false ∧ bitAt u (bksR p 8) 1 = true) ∧
        (f.wasHigh = true → f.fellInTime = true → seen = 3 →
          Counted (bksR p 0x30) s u ∧ muzzled u p = false ∧ Only [.regs, .guards] s u) ∧
        (f.wasHigh = true → f.fellInTime = true → seen = 2 →
          regN u (bksR p 0x30) = regN s (bksR p 0x30) ∧ regN u (bksR p 0x34) = regN s (bksR p 0x34) ∧
          fld u (bksR p 0x14) 31 30 = 2 ∧ ∀ i : Fin 3, copyOk u p i = (copyOk s p i && f.seen.getLsbD i)) ∧
        (f.wasHigh = true → f.fellInTime = false ∨ seen < 2 → TestFailed p s u)))) ∧
    Completes (.dryFireDefer p) s (fun u => PortKeep p s u ∧
      ((guardOf s p).defer = none → u = s) ∧
      ∀ k m, (guardOf s p).defer = some (k, m) →
        let n := upFrameAt s p (lineNow s p)
        let d := if txReleased s p && m != n then (k + 1, n) else (k, m)
        (d.1 < 8000 → Only [.guards] s u ∧ (guardOf u p).defer = some d) ∧
        (8000 ≤ d.1 → bitAt u (bksR p 8) 5 = true ∧
          fld u (bksR p 0x34) 31 16 = min (fld s (bksR p 0x34) 31 16 + 1) (2 ^ 16 - 1) ∧
          (guardOf u p).defer = some (0, d.2)))

/-- Faults in the guard itself (R159 to R161). Where the spec leaves a point open, what is stated is the
model's choice: log entries 42 to 47 and 178 and 209 and 212 to 216. -/
def Obligations.GuardFaults : Prop :=
  ∀ (s : State) (p : Fin 16),
    (coreOn s = true → ∀ c, Completes (.copyFault p c) s (fun u => PortKeep p s u ∧
      (copyOk s p c = false → u = s) ∧
      (copyOk s p c = true → copyOk u p c = false ∧ bitAt u (bksR p 8) 3 = true ∧
        (∀ i : Fin 3, i ≠ c → copyOk u p i = copyOk s p i) ∧
        (copiesOk s p = 3 → muzzled u p = muzzled s p ∧ guardFault u p = guardFault s p) ∧
        (copiesOk s p = 2 → muzzled u p = true ∧ guardFault u p = true ∧ fld u (bksR p 0x10) 31 28 = 3)))) ∧
    (coreOn s = true → Completes (.clockFault p) s (fun u => PortKeep p s u ∧
      ((guardOf s p).clkHold = true → u = s) ∧
      ((guardOf s p).clkHold = false → (guardOf u p).clkHold = true ∧ txReleased u p = false ∧
        bitAt u (bksR p 8) 2 = true ∧ muzzled u p = muzzled s p ∧ (muzzled s p = true → fld u (bksR p 4) 1 0 = 0)))) ∧
    (coreOn s = true → Completes (.clockFaultClear p) s (fun u => PortKeep p s u ∧ Only [.guards] s u ∧
      guardOf u p = { guardOf s p with clkHold := false })) ∧
    ∀ high, Completes (.txdisPinFault p high) s (fun u => PortKeep p s u ∧
      (high = txReleased s p → Only [.guards] s u ∧
        guardOf u p = { guardOf s p with pin := if (guardOf s p).pin = some (!high) then none else (guardOf s p).pin }) ∧
      (high ≠ txReleased s p → (guardOf u p).pin = some high ∧ bitAt u (bksR p 8) 1 = true ∧
        muzzled u p = muzzled s p ∧ guardFault u p = (guardFault s p || high) ∧
        (high = true → ∀ i : Fin 8, (laneOf u (128 + 8 * p.val + i.val)).tx ≠ 5)))

/-! ## Network time (ch. 06) -/

/-- Changes of rate and steps (R167, R168, R173, R175). Where the spec leaves a point open, what is stated is the
model's choice: log entries 48 to 54 and 184 and 187 to 188 and 218. -/
def Obligations.TimeChanges : Prop :=
  ∀ (s : State), coreOn s = true →
    (∀ v, Completes (.rateWrite v) s (fun u => u.time.base = v.toInt ∧ u.time.slew = 0 ∧ u.time.anchors = s.time.anchors ∧
      (∃ c, u.time.pend.getLast? = some c ∧ c.rate = some v.toInt ∧ nowOf s + 160000 ≤ c.cApp) ∧
      (s.time.pend = [] → ∃ c, u.time.pend = [c] ∧ c.step = none ∧ nowOf s + 160000 ≤ c.cApp ∧ c.cApp ≤ nowOf s + 320000) ∧
      Only [.time, .fresh] s u)) ∧
    Completes .timeApply s (fun u =>
      (s.time.pend = [] → u = s) ∧
      ∀ c0 rest, s.time.pend = c0 :: rest →
        (nowOf s < c0.cApp → u = s) ∧
        (c0.cApp ≤ nowOf s →
          let c := changeLive s c0
          let old := anchorAt s.time.anchors c.cApp
          u.time.pend = rest ∧
          (c.rate = none → c.step = none → u.time.anchors = s.time.anchors ∧ Only [.time] s u) ∧
          (c.rate ≠ none ∨ c.step ≠ none → ∃ a, u.time.anchors = a :: s.time.anchors ∧ a.c = c0.cApp ∧
            a.rate = c0.rate.getD old.rate ∧
            (c.step = none → a.nt = readAnchor old c.cApp ∧ Only [.regs, .time] s u) ∧
            (∀ given stamp, c.step = some (given, stamp) → tbState u = 1 ∧ bitAt u 0x01400024 1 = true ∧
              regN u 0x01400200 = min (regN s 0x01400200 + 1) (2 ^ 32 - 1) ∧
              (c0.rate = none → a.nt - readAnchor old c.cApp = given - readAnchor (anchorAt s.time.anchors stamp) stamp) ∧
              (∀ r, c0.rate = some r → a.nt = given + ((c0.cApp : Int) - stamp) * 4096 * (2 ^ 42 + r) / (5 * 2 ^ 42))) ∧
            (∀ r, c0.rate = some r → reg u 0x01400020 = BitVec.ofInt 32 r ∧
              regN u 0x01400204 = min (regN s 0x01400204 + 1) (2 ^ 32 - 1))))) ∧
    Completes .servoMeasurement s (fun u => Only [.time, .fresh] s u ∧ u.time.slew = s.time.slew ∧
      (bitAt s 0x01400000 1 = false ∨ tbState s = 2 ∨ isSource s (fld s 0x01400004 7 4) = false → u = s) ∧
      (∀ new old, (framer s (fld s 0x01400004 7 4)).stamps.head? = some new →
        (framer s (fld s 0x01400004 7 4)).stamps.getLast? = some old → old.1 < new.1 → old.2 < new.2 →
        bitAt s 0x01400000 0 = true → bitAt s 0x01400000 1 = true → tbState s ≠ 2 →
        isSource s (fld s 0x01400004 7 4) = true → u.time.base = servoBase (new.1 - old.1) (new.2 - old.2))) ∧
    Completes .slewEnd s (fun u => Only [.time, .fresh] s u ∧
      (bitAt s 0x01400000 1 = false ∨ s.time.slew = 0 ∨ nowOf s + 320000 < s.time.slewUntil → u = s) ∧
      (bitAt s 0x01400000 1 = true → s.time.slew ≠ 0 → s.time.slewUntil ≤ nowOf s + 320000 → u.time.slew = 0 ∧ u.time.base = s.time.base ∧
        ∃ c, u.time.pend.getLast? = some c ∧ c.rate = some (clampRate s.time.base))) ∧
    Completes .stepArmWrite s (fun u => stepArmed u = true ∧ tbState u = tbState s ∧ Only [.regs] s u ∧
      RegsOnly (· == 0x01400004) s u)

/-- TIME_SET t names this time, in 2^-16 ns (R83). -/
def GivenTime (t : BitVec 384) : Int := (tf t 300 237 : Int) * 65536000000000 + 65536 * (tf t 236 205 : Int) + tf t 204 189

/-- TIME_SET (R174 to R177, R191). Where the spec leaves a point open, what is stated is the
model's choice: log entries 48 to 54 and 184 and 187 to 188 and 218. -/
def Obligations.TimeSets : Prop :=
  ∀ (s : State) (p : Fin 16), coreOn s = true →
    (∀ t rest, TmmDue s p 0x08 t rest → inService s p = true → t.lookout = false →
      (∀ h, s.time.held.look none p = some h → h.seq ≠ tf t.bits 363 356) →
      Completes (.timeSet p) s (fun u =>
        let sf := tf t.bits 351 301
        let bad := decide (sf + 15 < t.sf) || decide (t.sf + 8000 < sf) || decide (1000000000 ≤ tf t.bits 236 205)
        let kept : Prop := { u.time with held := s.time.held } = s.time
        (framer u p).queue = rest ∧ (regnOf u p).state = (regnOf s p).state ∧
        (bad = true ∨ sf ≤ t.sf → u.time.held.look none p = none) ∧
        (bad = true → Answered s p t 3 [] u ∧ kept ∧
          regN u 0x0140020C = min (regN s 0x0140020C + 1) (2 ^ 32 - 1)) ∧
        (bad = false → t.sf < sf → (regnOf u p).remembered = (regnOf s p).remembered ∧ kept ∧
          ∃ h, u.time.held.look none p = some h ∧ h.sf = sf ∧ h.given = GivenTime t.bits ∧ h.mode1 = t.bits.getLsbD 188) ∧
        (bad = false → sf ≤ t.sf → isSource s p = true →
          regN u 0x01400208 = min (regN s 0x01400208 + 1) (2 ^ 32 - 1)) ∧
        (bad = false → sf ≤ t.sf → stampOf s p sf = none → Answered s p t 3 [] u ∧ kept) ∧
        (∀ x, bad = false → sf ≤ t.sf → stampOf s p sf = some x →
          (isSource s p = false → Answered s p t 0 [] u ∧ kept ∧
            reg64 u (0x01400100 + 0x10 * p) = ((GivenTime t.bits - readAt s x) % 2 ^ 64).toNat ∧
            reg64 u (0x01400108 + 0x10 * p) = sf % 2 ^ 51 + 2 ^ 63) ∧
          (isSource s p = true → bitAt s 0x01400000 1 = true →
            (t.bits.getLsbD 188 = false → stepArmed s = true → Answered s p t 0 [] u ∧ stepArmed u = false ∧
              ∃ c, u.time.pend.getLast? = some c ∧ c.step = some (GivenTime t.bits, x) ∧ c.port = p.val) ∧
            (t.bits.getLsbD 188 = true → tbState s = 0 → Answered s p t 3 [] u ∧ u.time.pend = s.time.pend ∧
              reg64 u 0x01400030 = ((GivenTime t.bits - readAt s x) % 2 ^ 64).toNat) ∧
            (t.bits.getLsbD 188 = true → tbState s ≠ 0 → 65536000000 < (GivenTime t.bits - readAt s x).natAbs →
              Answered s p t 3 [] u ∧ bitAt u 0x01400024 2 = true ∧ u.time.pend = s.time.pend) ∧
            (t.bits.getLsbD 188 = true → tbState s ≠ 0 → (GivenTime t.bits - readAt s x).natAbs ≤ 65536000000 →
              Answered s p t 0 [] u ∧ tbState u = 1 ∧
              reg64 u 0x01400030 = ((GivenTime t.bits - readAt s x) % 2 ^ 64).toNat))))) ∧
    Completes (.timeSetHeldApply p) s (fun u =>
      (s.time.held.look none p = none → u = s) ∧
      ∀ h, s.time.held.look none p = some h →
        ((framer s p).e < h.sf → u = s) ∧
        (h.sf ≤ (framer s p).e → u.time.held.look none p = none ∧
          (stampOf s p h.sf = none → u.time.pend = s.time.pend ∧
            regN u 0x0140020C = min (regN s 0x0140020C + 1) (2 ^ 32 - 1))))

/-- Sources and references (R170 to R172, R175). Where the spec leaves a point open, what is stated is the
model's choice: log entries 48 to 54 and 184 and 187 to 188 and 218. -/
def Obligations.TimeSources : Prop :=
  ∀ (s : State), coreOn s = true →
    Completes .timeSourceChange s (fun u =>
      let pref := fld s 0x01400000 7 4
      u.time.anchors = s.time.anchors ∧ Only [.regs, .fresh, .sent, .icSrc, .icMsix, .time, .reef] s u ∧
      (ppsSource s = false → qualifiesSource s pref = true → bitAt u 0x01400004 0 = true ∧ fld u 0x01400004 7 4 = pref ∧
        tbState u = tbState s) ∧
      (∀ q, ppsSource s = false → qualifiesSource s pref = false → bitAt s 0x01400000 11 = true → q < 16 →
        (regnOf s q).state = .operate → portDark s q = false →
        (∀ k, k < q → (regnOf s k).state ≠ .operate ∨ portDark s k = true) →
        bitAt u 0x01400004 0 = true ∧ fld u 0x01400004 7 4 = q ∧ tbState u = tbState s) ∧
      (ppsSource s = false → qualifiesSource s pref = false →
        (bitAt s 0x01400000 11 = false ∨ ∀ k, k < 16 → (regnOf s k).state ≠ .operate ∨ portDark s k = true) →
        bitAt u 0x01400004 0 = false ∧ tbState u = (if tbState s = 1 then 2 else tbState s) ∧
        (tbState s = 1 → u.time.slew = if bitAt s 0x01400000 1 then 0 else s.time.slew))) ∧
    Completes .holdoverLimit s (fun u =>
      let due := decide (tbState s = 2) && decide (s.time.holdSince + 25000000 * max 1 (fld s 0x0140002C 31 16) ≤ s.uptime)
      (due = false → u = s) ∧
      (due = true → stepArmed u = true ∧ bitAt u 0x01400024 3 = true ∧ tbState u = 2 ∧ u.time = s.time)) ∧
    ∀ r : Fin 2,
      Completes (.referenceLoss r) s (fun u => refOk u r = false ∧ tbState u = tbState s ∧ u.time = s.time ∧
        (onXtal s = true ∨ refActive s ≠ r → refActive u = refActive s ∧ onXtal u = onXtal s) ∧
        (onXtal s = false → refActive s = r → refOk s (1 - r.val) = true → refAllowed s (1 - r.val) = true →
          refActive u = 1 - r.val ∧ onXtal u = false ∧
          fld u 0x01400210 15 0 = min (fld s 0x01400210 15 0 + 1) (2 ^ 16 - 1) ∧ bitAt u 0x01400024 4 = true) ∧
        (onXtal s = false → refActive s = r → refOk s (1 - r.val) = false ∨ refAllowed s (1 - r.val) = false →
          onXtal u = true ∧ bitAt u 0x01400024 5 = true)) ∧
      Completes (.referenceReturn r) s (fun u => refOk u r = true ∧ tbState u = tbState s ∧ u.time = s.time ∧
        (refAllowed s r = true → onXtal s = true → onXtal u = false ∧ refActive u = r) ∧
        (refAllowed s r = false → onXtal u = onXtal s ∧ refActive u = refActive s) ∧
        (s.boot.tbDue = true → bitAt u 0x01400000 0 = true ∧ u.boot.tbDue = false))

/-- PPS and recovered clocks (R182 to R184). Where the spec leaves a point open, what is stated is the
model's choice: log entries 48 to 54 and 184 and 187 to 188 and 218. -/
def Obligations.PulsesAndClocks : Prop :=
  ∀ (s : State), coreOn s = true →
    Completes .ppsOutPulse s (fun u =>
      let sec := readNow s / 65536000000000
      let may := bitAt s 0x01400040 31 && (timeHeld s || bitAt s 0x01400040 30) && s.time.ppsHigh.isNone &&
        s.time.lastPulse != some sec
      (may = false → u = s) ∧
      (may = true → Only [.sent, .time] s u ∧ u.sent = s.sent ++ [.pps true (sec * 65536000000000)] ∧
        u.time.lastPulse = some sec ∧ ∃ e, u.time.ppsHigh = some e ∧ nowOf s + 80000 ≤ e ∧ e ≤ nowOf s + 40000000000)) ∧
    Completes .ppsOutEnd s (fun u =>
      (s.time.ppsHigh = none → u = s) ∧
      ∀ e, s.time.ppsHigh = some e →
        ((nowOf s : Int) < e → u = s) ∧
        (e ≤ (nowOf s : Int) → u.time = { s.time with ppsHigh := none } ∧ u.sent = s.sent ++ [.pps false (readNow s)])) ∧
    (∀ t, Completes (.ppsInEdge t) s (fun u =>
      (bitAt s 0x01400040 29 = false → u = s) ∧
      (∀ l, bitAt s 0x01400040 29 = true → s.time.ppsInLast = some l → t < l + 40000000000 →
        Only [.regs] s u ∧ RegsOnly (· == 0x01400218) s u ∧
        regN u 0x01400218 = min (regN s 0x01400218 + 1) (2 ^ 32 - 1)) ∧
      (bitAt s 0x01400040 29 = true → (∀ l, s.time.ppsInLast = some l → l + 40000000000 ≤ t) →
        u.time.ppsInLast = some t ∧ u.time.ppsInUp = s.uptime ∧ bitAt u 0x01400024 6 = true ∧
        regWide u 0x01400048 3 = ntFormat (readAt s t) / 2 ^ 16 ∧ regN u 0x01400044 = ntFormat (readAt s t) % 2 ^ 16 ∧
        regN u 0x01400214 = min (regN s 0x01400214 + 1) (2 ^ 32 - 1) ∧ (ppsSource s = false → u.time.pend = s.time.pend)))) ∧
    Completes .ppsInMiss s (fun u =>
      let due := bitAt s 0x01400040 29 && decide (s.time.ppsInUp + 27500000 ≤ s.uptime)
      (due = false → u = s) ∧ (due = true → bitAt u 0x01400024 7 = true ∧ u.time = s.time)) ∧
    ∀ n : Fin 2, Completes (.rclkRelease n) s (fun u =>
      (rclkCause s n = true ∨ s.time.rclkGood.look 0 n < 3125 → u = s) ∧
      (rclkCause s n = false → 3125 ≤ s.time.rclkGood.look 0 n → rclkSquelched u n = false ∧
        (rclkSquelched s n = true → bitAt u 0x01400024 (8 + n.val) = true)))

/-! ## Serial lanes and Waiken (ch. 07) -/

/-- Waiken bring-up (R200, R202, R203, R209, R210). Where the spec leaves a point open, what is stated is the
model's choice: log entries 55 to 59 and 181 to 183 and 217. -/
def Obligations.WaikenBringup : Prop :=
  ∀ (s : State) (p : Fin 16), trunkLive s p = true →
    (∀ half r, setReady s p = false → exec (.waikenBringupStep p half r) s = .next s) ∧
    (∀ r, setReady s p = true → Completes (.waikenBringupStep p .rx r) s (fun u => PortKeep p s u ∧
      (waiken u p).txStep = (waiken s p).txStep ∧
      ((waiken s p).rxStep = 0 → (waiken u p).rxStep = 1 ∧ (waiken u p).step2At = some s.uptime ∧
        (waiken u p).version = (if wknMode s p = 0 then max 1 (if (waiken s p).version = 0 then 2 else (waiken s p).version)
          else wknMode s p) ∧ (waiken u p).rate = if (waiken u p).version = 1 then 0 else 2) ∧
      ((waiken s p).rxStep = 1 ∨ (waiken s p).rxStep = 2 ∨ (waiken s p).rxStep = 4 →
        (waiken u p).rxStep = (waiken s p).rxStep + 1) ∧
      ((waiken s p).rxStep = 3 → isOrder r.laneIds = false → (waiken u p).rxStep = 3 ∧ (waiken u p).fault = 2) ∧
      ((waiken s p).rxStep = 3 → isOrder r.laneIds = true → r.skewOk = false → (waiken u p).rxStep = 3 ∧ (waiken u p).fault = 3) ∧
      ((waiken s p).rxStep = 3 → isOrder r.laneIds = true → r.skewOk = true →
        (waiken u p).rxStep = 4 ∧ (waiken u p).fault = 0 ∧
        ∀ i : Fin 8, (laneOf u (128 + 8 * p.val + i.val)).rxInv = r.inverted.getLsbD i.val ∧
          (laneOf u (128 + 8 * p.val + i.val)).rxId = (r.laneIds.getD i.val 0).val) ∧
      ((waiken s p).rxStep = 5 → 
        let c := chooseWaiken s p (bits (r.caps.headD 0).toNat 15 8)
        (waiken u p).chosen = c ∧
        (c = 0 → (waiken u p).rxStep = 5 ∧ (waiken u p).fault = 4) ∧
        (c ≠ 0 → (waiken u p).rxStep = if bits (r.caps.headD 0).toNat 7 0 = c ∧
          (waiken s p).capRound = r.caps.take (if (waiken s p).version = 1 then 4 else 6) then 6 else 5) ∧
        ((waiken u p).rxStep = 6 → (waiken s p).version = 1 →
          (waiken u p).proposal = (nextRate u p).map fun x => (x, ((waiken s p).tick + 64) % 65536))) ∧
      ((waiken s p).rxStep = 6 → (waiken s p).rate ≠ 2 → u = s) ∧
      ((waiken s p).rxStep = 6 → (waiken s p).rate = 2 → (waiken u p).rxStep = 7 ∧ (waiken u p).checkDue = true))) ∧
    (∀ r, setReady s p = true → Completes (.waikenBringupStep p .tx r) s (fun u => PortKeep p s u ∧
      (waiken u p).rxStep = (waiken s p).rxStep ∧
      ((waiken s p).rxStep ≤ (waiken s p).txStep ∨ 7 ≤ (waiken s p).txStep → u = s) ∧
      ((waiken s p).txStep < (waiken s p).rxStep → (waiken s p).txStep < 7 → (waiken s p).txStep ≠ 4 →
        (waiken u p).txStep = (waiken s p).txStep + 1) ∧
      ((waiken s p).txStep < (waiken s p).rxStep → (waiken s p).txStep = 4 → (r.txSeen.headD 0).val ≠ 15 →
        (waiken u p).txStep = if isOrder r.txSeen then 5 else 4))) ∧
    Completes (.waikenTimeout p) s (fun u => PortKeep p s u ∧ (waiken u p).rxStep = (waiken s p).rxStep ∧
      ((∀ t, (waiken s p).step2At = some t → (waiken s p).rxStep ≠ 1 ∨ s.uptime < t + 2500000) → u = s) ∧
      (∀ t, (waiken s p).step2At = some t → (waiken s p).rxStep = 1 → t + 2500000 ≤ s.uptime → (waiken u p).fault = 1 ∧
        ((waiken s p).fault ≠ 1 → bitAt u (wknR p 8) 1 = true))) ∧
    Completes (.waikenCapRetry p) s (fun u => PortKeep p s u ∧
      ((waiken s p).rxStep ≠ 5 ∨ (waiken s p).chosen ≠ 0 → u = s) ∧
      ((waiken s p).rxStep = 5 → (waiken s p).chosen = 0 → (waiken u p).rxStep = 5 ∧
        (waiken u p).chosen = chooseWaiken s p (bits (capWord s p 0) 15 8) ∧
        ((waiken u p).chosen = 0 → (waiken u p).fault = 4))) ∧
    Completes (.waikenRateSwitch p) s (fun u => PortKeep p s u ∧
      let w := waiken s p
      (w.version ≠ 1 ∨ w.rxStep ≠ 6 ∨ w.txStep ≠ 6 ∨ w.rate = 2 → u = s) ∧
      (w.version = 1 → w.rxStep = 6 → w.txStep = 6 → w.rate ≠ 2 →
        (∀ r k, w.proposal = some (r, k) → capWord s p 2 % 2 ^ 24 = 2 ^ r * 2 ^ 16 + k → tickReached w k = true →
          (waiken u p).rate = r ∧ (waiken u p).rxStep = 2 ∧ (waiken u p).txStep = 2) ∧
        (∀ r k, w.proposal = some (r, k) → capWord s p 2 % 2 ^ 24 ≠ 2 ^ r * 2 ^ 16 + k ∨ tickReached w k = false → u = s) ∧
        (w.proposal = none → (waiken u p).fault = 5 ∧ (waiken u p).rate = w.rate ∧ (waiken u p).rxStep = 6))) ∧
    Completes (.waikenVersionAttempt p) s (fun u => PortKeep p s u ∧
      let w := waiken s p
      let due := decide (wknMode s p = 0) && decide (1 ≤ w.rxStep) && decide (w.rxStep < 4) &&
        decide (w.attemptAt + 500000 ≤ s.uptime)
      (due = false → u = s) ∧
      (due = true → (waiken u p).version = 3 - w.version ∧ (waiken u p).rxStep = 1 ∧ (waiken u p).attemptAt = s.uptime ∧
        (waiken u p).step2At = some (w.step2At.getD s.uptime) ∧ regN u (wknR p 0x10) = min (regN s (wknR p 0x10) + 1) (2 ^ 32 - 1)))

/-- The status fields of control blocks, as held by majority (R198). -/
def StatusOf (w : Waiken) : List Bool := [w.optLos, w.loUnlock, w.txReady, w.txFault, w.innerDeg, w.rqTrain]

/-- Control blocks and loss of lock (R197, R198, R204, R207, R209). Where the spec leaves a point open, what is stated is the
model's choice: log entries 55 to 59 and 181 to 183 and 217. -/
def Obligations.WaikenBlocks : Prop :=
  ∀ (s : State) (p : Fin 16), trunkLive s p = true →
    (∀ tick : ControlTick, Completes (.waikenControlBlock p tick) s (fun u =>
      let bs := tick.blocks.take 8
      let good := bs.filter blockGood
      let run := fun (i : Nat) => (laneOf s (128 + 8 * p.val + i)).failRun
      PortKeep p s u ∧ (waiken u p).tick = ((waiken s p).tick + 1) % 65536 ∧
      (∀ k, ownKind s p = some k → .blocks p.val ((upTo 8).map (ownBlock s p k (nextTick s p))) ∈ u.sent) ∧
      ((waiken s p).rxStep < 4 → Only [.waikens, .sent] s u ∧ StatusOf (waiken u p) = StatusOf (waiken s p) ∧
        (waiken u p).rxStep = (waiken s p).rxStep) ∧
      (4 ≤ (waiken s p).rxStep →
        (good.length < 5 → StatusOf (waiken u p) = StatusOf (waiken s p)) ∧
        (5 ≤ good.length → StatusOf (waiken u p) = [38, 37, 36, 35, 34, 42].map (majority good)) ∧
        (∀ i b, bs[i]? = some b → blockGood b = true → (laneOf u (128 + 8 * p.val + i)).failRun = 0) ∧
        (∀ i b, bs[i]? = some b → blockGood b = false → run i < 3 → (laneOf u (128 + 8 * p.val + i)).failRun = run i + 1) ∧
        (∀ i b, bs[i]? = some b → blockGood b = false → run i = 3 → (laneOf u (128 + 8 * p.val + i)).failRun = 0 ∧
          regN u (laneR (128 + 8 * p.val + i) 0x10C) = min (regN s (laneR (128 + 8 * p.val + i) 0x10C) + 1) (2 ^ 32 - 1)) ∧
        ((∀ i < 8, match bs[i]? with | some b => blockGood b = false → run i ≠ 3 | none => run i ≠ 4) →
          (waiken u p).rxStep = (waiken s p).rxStep) ∧
        ((∃ i b, bs[i]? = some b ∧ blockGood b = false ∧ run i = 3) →
          ((waiken s p).version ≠ 1 → (waiken u p).rxStep = 2 ∧ (waiken u p).sendRq = true) ∧
          ((waiken s p).version = 1 → (waiken u p).rxStep = 0 ∧ (waiken u p).txStep = 0 ∧ (waiken u p).rate = 0))))) ∧
    (∀ lane, Completes (.laneLockLoss p lane) s (fun u =>
      let l := if lane.val < 8 then 128 + 8 * p.val + lane.val else 256 + p.val
      PortKeep p s u ∧
      let holds := 3 ≤ (waiken s p).rxStep ∨
        ((waiken s p).rxStep = 2 ∧ (lane = 8 ∨ ((waiken s p).version = 1 ∧ (waiken s p).rate ≠ 0)))
      (¬ holds → u = s) ∧
      (holds → regN u (laneR l 0x10C) = min (regN s (laneR l 0x10C) + 1) (2 ^ 32 - 1) ∧
        bitAt u (laneR l 0x30) 0 = true ∧ (framerOn s p = true → (framer u p).raw.getLsbD bitLol = true) ∧
        ((waiken s p).version ≠ 1 → (waiken u p).rxStep = 2 ∧ (waiken u p).sendRq = true ∧
          (waiken u p).txStep = (waiken s p).txStep ∧
          (waiken u p).clockLost = ((waiken s p).clockLost || lane = 8)) ∧
        ((waiken s p).version = 1 → (waiken u p).rxStep = 0 ∧ (waiken u p).txStep = 0 ∧ (waiken u p).rate = 0)))) ∧
    Completes (.dozeCheck p) s (fun u => PortKeep p s u ∧ Only [.regs, .sent, .icSrc, .icMsix, .halyards, .lanes, .waikens, .reef] s u ∧
      ((waiken s p).checkDue = false → u = s) ∧
      ((waiken s p).checkDue = true →
        let dzIn := capWord s p 3 / 2 ^ 16
        let dzOut := capWord s p 3 % 2 ^ 16
        (waiken u p).checkDue = false ∧
        ((waiken u p).noDoze = false ↔ max 64 dzOut + 16 ≤ fld s (halR p 0xC) 15 0 ∧
          8 + dzIn + max 64 dzOut + 16 ≤ fld s (halR p 0xC) 31 16 ∧ dzOut ≠ 0 ∧ (waiken s p).version = 2))) ∧
    Completes (.txPllSourceChange p) s (fun u => Only [.waikens] s u ∧ PortKeep p s u ∧
      waiken u p = { waiken s p with pllOnClock := decide (2 ≤ (waiken s p).rxStep) && !(waiken s p).clockLost })

/-- Enables, retrains, opens and shorts (R200, R204, R213, R214). Where the spec leaves a point open, what is stated is the
model's choice: log entries 55 to 59 and 181 to 183 and 217. -/
def Obligations.LaneFaults : Prop :=
  ∀ (s : State) (l : Fin 279), coreOn s = true →
    (∀ en, Completes (.laneEnable l en) s (fun u => bitAt u (laneR l 0) 0 = en ∧
      (bitAt s (laneR l 0) 0 = en → u = s) ∧
      (bitAt s (laneR l 0) 0 ≠ en → en = false →
        (laneOf u l).tx = (if (laneOf s l).short then 8 else if bitAt s (laneR l 0x20) 31 then 7 else 0) ∧
        (laneOf u l).rx = (if bitAt s (laneR l 0x20) 30 then 7 else 0) ∧ (laneOf u l).rxInv = false ∧
        (laneOf u l).txInv = false ∧ (laneOf u l).isOpen = false ∧
        ∀ p, trunkOf l = some p → (waiken u p).rxStep = 0 ∧ (waiken u p).txStep = 0) ∧
      (bitAt s (laneR l 0) 0 ≠ en → en = true → lanePowered s l = true → laneServed s l = true →
        (laneOf u l).tx = (if (laneOf s l).isOpen || (laneOf s l).short then 8
          else if bitAt s (laneR l 0x20) 31 then 7 else firstState s l) ∧
        (laneOf u l).rx = if bitAt s (laneR l 0x20) 30 then 7 else firstState s l))) ∧
    Completes (.retrain l) s (fun u =>
      (lanePowered s l = false → u = s) ∧
      (lanePowered s l = true → (laneOf u l).short = false ∧ (laneOf u l).isOpen = false ∧
        (bitAt s (laneR l 0) 0 = true → laneServed s l = true → bitAt s (laneR l 0x20) 31 = false → (laneOf u l).tx = firstState s l) ∧
        (regN u (laneR l 0x114) = min (regN s (laneR l 0x114) + 1) (2 ^ 32 - 1)) ∧
        ∀ p, trunkOf l = some p → (waiken u p).rxStep = 0 ∧ (waiken u p).txStep = 0)) ∧
    (∀ found, Completes (.receiverDetect l found) s (fun u =>
      (bitAt s (laneR l 0) 0 = false ∨ 275 ≤ l.val ∨ (found = true ∧ (laneOf s l).isOpen = false) → u = s) ∧
      (bitAt s (laneR l 0) 0 = true → l.val < 275 → found = true → (laneOf s l).isOpen = true →
        (laneOf u l).isOpen = false ∧ (laneOf u l).tx = if (laneOf s l).short then 8
          else if bitAt s (laneR l 0x20) 31 then 7 else if lanePowered s l && laneServed s l then firstState s l else 0) ∧
      (bitAt s (laneR l 0) 0 = true → l.val < 275 → found = false →
        (laneOf u l).isOpen = true ∧ (laneOf u l).tx = 8 ∧
        ((laneOf s l).isOpen = false → bitAt u (laneR l 0x30) 2 = true) ∧
        ∀ p, trunkOf l = some p → (waiken u p).txStep = 0 ∧ (waiken u p).fault = 6))) ∧
    Completes (.legShort l) s (fun u => (laneOf u l).short = true ∧ (laneOf u l).tx = 8 ∧
      (laneOf u l).rx = (laneOf s l).rx ∧ bitAt u (laneR l 0x30) 3 = true ∧
      ∀ p, trunkOf l = some p → (waiken u p).txStep = 0 ∧ (waiken u p).fault = 7)

/-- Patterns and injections (R215 to R217). Where the spec leaves a point open, what is stated is the
model's choice: log entries 55 to 59 and 181 to 183 and 217. -/
def Obligations.LanePatterns : Prop :=
  ∀ (s : State) (l : Fin 279), coreOn s = true →
    (∀ v : Word, Completes (.patCtlWrite l v) s (fun u =>
      (patOk s l v = false → Only [.lanes] s u ∧ laneOf u l = { laneOf s l with patRej := true }) ∧
      (patOk s l v = true → reg u (laneR l 0x20) = v &&& 0xFFF00000 ∧ (laneOf u l).patRej = false ∧
        (v.getLsbD 31 = bitAt s (laneR l 0x20) 31 → trunkOf l = none ∨ v.getLsbD 30 = bitAt s (laneR l 0x20) 30 →
          (laneOf u l).tx = (laneOf s l).tx) ∧
        (v.getLsbD 30 = bitAt s (laneR l 0x20) 30 → (laneOf u l).rx = (laneOf s l).rx) ∧
        let rest := if bitAt s (laneR l 0) 0 && lanePowered s l && laneServed s l then firstState s l else 0
        (v.getLsbD 31 ≠ bitAt s (laneR l 0x20) 31 → (laneOf u l).tx =
          if (laneOf s l).isOpen || (laneOf s l).short then 8 else if v.getLsbD 31 then 7 else rest) ∧
        (v.getLsbD 30 ≠ bitAt s (laneR l 0x20) 30 → (laneOf u l).rx = if v.getLsbD 30 then 7 else rest)))) ∧
    (∀ n e, Completes (.patternLockChange l n e) s (fun u =>
      let x := laneOf s l
      let y := laneOf u l
      let counts : Nat → Nat → Prop := fun b k =>
        reg64 u (laneR l 0x100) = min (reg64 s (laneR l 0x100) + b) (2 ^ 64 - 1) ∧
        regN u (laneR l 0x108) = min (regN s (laneR l 0x108) + k) (2 ^ 32 - 1)
      (bitAt s (laneR l 0x20) 30 = false → u = s) ∧
      (bitAt s (laneR l 0x20) 30 = true → x.patLock = true →
        (e = 0 → y.patLock = true ∧ y.patWin = (x.patWin.map (· + n)).filter (· < 1024) ∧ counts n 0) ∧
        (e ≤ n → x.patWin.length + e < 64 → y.patLock = true ∧ counts n e) ∧
        (64 ≤ e → e ≤ n → n < e + 64 → n ≤ 1024 → y.patLock = false)) ∧
      (bitAt s (laneR l 0x20) 30 = true → x.patLock = false →
        (e = 0 → x.patRun + n < 64 → y.patLock = false ∧ y.patRun = x.patRun + n ∧ counts 0 0) ∧
        (e = 0 → 64 ≤ x.patRun + n → y.patLock = true ∧ counts (x.patRun + n - 64) 0) ∧
        (e ≠ 0 → e ≤ n → x.patRun + (n - e) < 64 → y.patLock = false ∧ y.patRun ≤ n - e ∧ counts 0 0) ∧
        (e ≠ 0 → e < 64 → 64 * (e + 1) ≤ n - e → y.patLock = true)))) ∧
    (∀ c n, (c = .injSingle l ∧ n = 1 ∨ ∃ k : BitVec 10, c = .injBurst l k ∧ n = k.toNat + 1) → Completes c s (fun u =>
      (injectable s l = false → u = s) ∧
      (injectable s l = true → (laneOf s l).injBusy = true → Only [.regs] s u ∧ RegsOnly (· == laneR l 0x118) s u ∧
        regN u (laneR l 0x118) = min (regN s (laneR l 0x118) + 1) (2 ^ 32 - 1)) ∧
      (injectable s l = true → (laneOf s l).injBusy = false → Only [.lanes, .sent] s u ∧
        u.sent = s.sent ++ [.inverted l n (!bitAt s (laneR l 0x20) 31)] ∧ laneOf u l = { laneOf s l with injBusy := true })))

/-- What the lane's commands do at the least, where each has its effect (R213 to R217). Where the spec leaves a point open, what is stated is the
model's choice: log entries 55 to 59 and 181 to 183 and 217. -/
def Obligations.LaneOperations : Prop :=
  ∀ (s : State) (l : Fin 279), coreOn s = true →
    (∀ en, Completes (.laneEnable l en) s (fun u => bitAt u (laneR l 0) 0 = en)) ∧
    (lanePowered s l = true → Completes (.retrain l) s (fun u => (laneOf u l).short = false ∧
      regN u (laneR l 0x114) = min (regN s (laneR l 0x114) + 1) (2 ^ 32 - 1))) ∧
    (∀ found, bitAt s (laneR l 0) 0 = true → l.val < 275 →
      Completes (.receiverDetect l found) s (fun u => (laneOf u l).isOpen = !found)) ∧
    Completes (.legShort l) s (fun u => (laneOf u l).short = true) ∧
    (∀ v : Word, patOk s l v = true → Completes (.patCtlWrite l v) s (fun u =>
      reg u (laneR l 0x20) = v &&& 0xFFF00000 ∧ (laneOf u l).patRej = false)) ∧
    (∀ n, bitAt s (laneR l 0x20) 30 = true → (laneOf s l).patLock = true → Completes (.patternLockChange l n 0) s (fun u =>
      reg64 u (laneR l 0x100) = min (reg64 s (laneR l 0x100) + n) (2 ^ 64 - 1))) ∧
    (injectable s l = true → (laneOf s l).injBusy = false →
      Completes (.injSingle l) s (fun u => u.sent = s.sent ++ [.inverted l 1 (!bitAt s (laneR l 0x20) 31)]) ∧
      ∀ len : BitVec 10, Completes (.injBurst l len) s (fun u =>
        u.sent = s.sent ++ [.inverted l (len.toNat + 1) (!bitAt s (laneR l 0x20) 31)]))

/-! ## Client ports (ch. 08) -/

/-- A change of block b's mode to m is allowed (R221). -/
def ModeAllowed (s : State) (b m : Nat) : Prop :=
  m ≤ 4 ∧ (∀ u, u < 4 → bitAt s (subR b u 0) 31 = false) ∧
  (m = 4 → b % 2 = 0 ∧ portMode s (b + 1) = 0 ∧ ∀ u, u < 4 → bitAt s (subR (b + 1) u 0) 31 = false)

/-- Modes, MAC control and links (R220 to R224, R232, R235). Where the spec leaves a point open, what is stated is the
model's choice: log entries 60 to 65 and 159 and 189 to 190 and 219. -/
def Obligations.ClientModes : Prop :=
  ∀ (s : State), coreOn s = true →
    (∀ (b : Fin 32) (v : Word), Completes (.portModeWrite b v) s (fun u =>
      let m := bits v.toNat 2 0
      let phy := if bitAt s 0x10108 0 then fld s (cliR b 0) 7 4 else bits v.toNat 7 4
      let same := m = portMode s b ∧ phy = fld s (cliR b 0) 7 4
      ((paired s b = true ∨ ¬ (same ∨ ModeAllowed s b m)) →
        bitAt u (cliR b 4) 31 = true ∧ reg u (cliR b 0) = reg s (cliR b 0) ∧ Only [.regs, .sent, .icSrc, .icMsix, .reef] s u) ∧
      (paired s b = false → (same ∨ ModeAllowed s b m) →
        bitAt u (cliR b 4) 31 = false ∧ portMode u b = m ∧ fld u (cliR b 0) 7 4 = phy ∧
        (¬ same → ∀ i, i < 4 →
          let on := bitAt u (laneR (4 * b.val + i) 0) 0 && laneServed u (4 * b.val + i) && lanePowered u (4 * b.val + i)
          (laneOf u (4 * b.val + i)).tx = restState on (laneOf s (4 * b.val + i)).tx ∧
          (laneOf u (4 * b.val + i)).rx = restState on (laneOf s (4 * b.val + i)).rx)))) ∧
    (∀ (b : Fin 33) (i : Fin 4) (v : Word), Completes (.macCtlWrite b i v) s (fun u =>
      (paired s b = true → reg u (subR b i 0) = reg s (subR b i 0) ∧ bitAt u (cliR b 4) 31 = true) ∧
      (paired s b = false → subExists s b i = false → reg u (subR b i 0) = reg s (subR b i 0)) ∧
      (paired s b = false → subExists s b i = true →
        let lpiBad := v.getLsbD 27 && b.val != 32 && !lpiOk s b i && !bitAt s (subR b i 0) 27
        let open_ := !bitAt s 0x10108 0 && b.val != 32
        let slotBad := v.getLsbD 25 && open_ && portMode s b != 2
        bitAt u (subR b i 0) 31 = v.getLsbD 31 ∧ bitAt u (subR b i 0) 30 = v.getLsbD 30 ∧
        fld u (subR b i 0) 13 0 = bits v.toNat 13 0 ∧
        bitAt u (subR b i 0) 27 = (v.getLsbD 27 && b.val != 32 && !lpiBad) ∧
        bitAt u (subR b i 0) 25 = (if open_ && !slotBad then v.getLsbD 25 else bitAt s (subR b i 0) 25) ∧
        bitAt u (subR b i 4) 24 = (lpiBad || slotBad)))) ∧
    (∀ (b : Fin 33) (i : Fin 4),
      (∀ remote, Completes (.linkDown b i remote) s (fun u =>
        (subExists s b i = false → u = s) ∧
        (subExists s b i = true → linkUp u b i = false ∧ bitAt u (subR b i 4) (if remote then 29 else 30) = true ∧
          bitAt u (subR b i 4) (if remote then 30 else 29) = false ∧
          (linkUp s b i = true → fld u (subR b i 0x860) 15 0 = min (fld s (subR b i 0x860) 15 0 + 1) (2 ^ 16 - 1) ∧
            reg u (subR b i 0x60) = 0 ∧ reg u (subR b i 0x64) = 0)))) ∧
      (∀ rxLat txLat, Completes (.linkUp b i rxLat txLat) s (fun u =>
        let ready := subExists s b i && !linkUp s b i && !portUnlit s b && !(s.boot.furled && decide (b.val < 32)) &&
          (subLanes s b i).all (laneCarries s)
        (ready = false → macUp s 32 0 = false ∨ s.xt.waitTx = [] → u = s) ∧
        (ready = true → linkUp u b i = true ∧ bitAt u (subR b i 4) 29 = false ∧ bitAt u (subR b i 4) 30 = false ∧
          regN u (subR b i 0x60) = 2 ^ 31 + rxLat.toNat ∧ regN u (subR b i 0x64) = 2 ^ 31 + txLat.toNat ∧
          (∀ l ∈ subLanes s b i, (laneOf s l).rx ≠ 0 → (laneOf u l).rx = 5) ∧
          (phyTrained s b = true → ∀ l ∈ subLanes s b i, (laneOf u l).rxInv = Config.rxSwapped l)))))

/-- PFC and LPI (R230 to R232). Where the spec leaves a point open, what is stated is the
model's choice: log entries 60 to 65 and 159 and 189 to 190 and 219. -/
def Obligations.PfcAndLpi : Prop :=
  ∀ (s : State) (b : Fin 32) (i : Fin 4), coreOn s = true →
    (∀ l, Completes (.pfcRx b i l) s (fun u =>
      (macUp s b i = false ∨ validPfc l = false → u = s) ∧
      (macUp s b i = true → validPfc l = true →
        regN u (subR b i 0x848) = min (regN s (subR b i 0x848) + 1) (2 ^ 32 - 1) ∧
        Only [.regs, .sent, .icSrc, .icMsix, .subs, .reef] s u ∧
        ∀ k, k < 8 → (l.getD 17 0).toNat.testBit k = true → (fld s (subR b i 0x14) 7 0).testBit k = true →
          ofBytes (slice l (18 + 2 * k) 2) ≠ 0 →
          (subOf u b i).pause.look 0 k = coreNow s + quanta s b (ofBytes (slice l (18 + 2 * k) 2))))) ∧
    (∀ k, Completes (.pfcPauseExpiry b i k) s (fun u =>
      let due := (subOf s b i).pause.has k && decide ((subOf s b i).pause.look 0 k ≤ coreNow s)
      (due = false → u = s) ∧ (due = true → subOf u b i = { subOf s b i with pause := (subOf s b i).pause.drop k }))) ∧
    Completes (.pfcRefresh b i) s (fun u =>
      let due := xoffTx s b i != 0 && decide ((subOf s b i).pfcAt + quanta s b (pfcRefresh s b i) ≤ coreNow s)
      (due = false → u = s) ∧
      (due = true → (subOf s b i).sending ≠ none → subOf u b i = { subOf s b i with pfcDue := true } ∧ Only [.subs] s u) ∧
      (due = true → (subOf s b i).sending = none → macUp s b i = true → (subOf u b i).pfcAt = coreNow s ∧
        regN u (subR b i 0x84C) = min (regN s (subR b i 0x84C) + 1) (2 ^ 32 - 1) ∧
        bitAt u (subR b i 4) 26 = false ∧
        ∃ l bytes, u.sent = s.sent ++ l ++ [.frame b i bytes] ∧ bytes.length = 64 ∧ validPfc bytes = true)) ∧
    Completes (.lpiEntry b i) s (fun u =>
      (macUp s b i = false ∨ bitAt s (subR b i 0) 27 = false ∨ lpiOk s b i = false ∨ (subOf s b i).sending ≠ none ∨
        (subOf s b i).pfcDue = true ∨ subHasFrame s b i = true ∨ gateOpensSoon s b i = true ∨
        coreNow s < (subOf s b i).idleFrom + 80000 * fld s (subR b i 0x18) 15 0 → u = s) ∧
      (macUp s b i = true → bitAt s (subR b i 0) 27 = true → lpiOk s b i = true → (subOf s b i).sending = none →
        (subOf s b i).pfcDue = false → subHasFrame s b i = false → gateOpensSoon s b i = false →
        (subOf s b i).idleFrom + 80000 * fld s (subR b i 0x18) 15 0 ≤ coreNow s → bitAt s (subR b i 4) 26 = false →
        bitAt u (subR b i 4) 26 = true ∧
        fld u (subR b i 0x860) 31 16 = min (fld s (subR b i 0x860) 31 16 + 1) (2 ^ 16 - 1))) ∧
    ∀ on, Completes (.receiveLpiChange b i on) s (fun u =>
      (linkUp s b i = false ∨ lpiOk s b i = false → u = s) ∧
      (linkUp s b i = true → lpiOk s b i = true → bitAt u (subR b i 4) 25 = on ∧
        Only [.regs, .sent, .icSrc, .icMsix, .reef] s u))

/-- Queue q may be served with its head of `len` bytes without waiting for another round (R348). -/
def Affords (s : State) (q len : Nat) : Prop :=
  len ≤ (queueOf s q).deficit + if (queueOf s q).fresh then quantum s q else 0

/-- Client egress and transmit stamps (R227, R228, R234, R351). Where the spec leaves a point open, what is stated is the
model's choice: log entries 60 to 65 and 159 and 189 to 190 and 219. -/
def Obligations.ClientEgress : Prop :=
  (∀ (s : State) (b : Fin 32) (i : Fin 4), coreOn s = true →
    Completes (.egressSelect b i) s (fun u =>
      (macUp s b i = false ∨ subSlotted s b i = true ∨ (subOf s b i).sending ≠ none ∨ (subOf s b i).pfcDue = true → u = s) ∧
      (macUp s b i = true → subSlotted s b i = false → (subOf s b i).sending = none → (subOf s b i).pfcDue = false →
        ((∀ q, dnEligible s b i q = false) → (subOf u b i).sending = none ∧ u.sent = s.sent) ∧
        (∀ n q, (subOf u b i).sending = some (n, q) → dnEligible s b i q = true ∧
          (queueOf s q).frames.head? = some n ∧ (queueOf u q).frames = (queueOf s q).frames.tail ∧
          headLen s q ≤ maxFrame s b i) ∧
        (∀ q, firstEligible s (dnEligible s b i) (subRound b i) 8 = some q → Affords s q (headLen s q) →
          headLen s q ≤ maxFrame s b i → ∃ n, (subOf u b i).sending = some (n, q)))) ∧
    (∀ t, Completes (.frameTxComplete b i t) s (fun u =>
      ((subOf s b i).sending = none → u = s) ∧
      (∀ n q f, (subOf s b i).sending = some (n, q) → frameOf s n = some f → (subOf u b i).sending = none ∧
        (∃ l, u.sent = s.sent ++ .frame b i (wireBytes f) :: l) ∧
        reg64 u (subR b i 0x810) = min (reg64 s (subR b i 0x810) + 1) (2 ^ 64 - 1) ∧
        regN u (subR b i 0x854) = min (regN s (subR b i 0x854) + bitN f.damaged) (2 ^ 32 - 1) ∧
        (∀ tag, f.tsTag = some tag → (subOf u b i).stamps =
          if 16 ≤ (subOf s b i).stamps.length then (subOf s b i).stamps
          else (subOf s b i).stamps ++ [(tag, readAt s t, !timeHeld s)])))) ∧
    Completes (.txDownDiscard b.castSucc i) s (fun u =>
      (subExists s b i = false ∨ macUp s b i = true ∨ bitAt s (subR b i 0) 26 = false → u = s) ∧
      (∀ q, subExists s b i = true → macUp s b i = false → bitAt s (subR b i 0) 26 = true →
        firstEligible s (fun q => !(queueOf s q).frames.isEmpty) (subRound b i) 8 = some q → Affords s q (headLen s q) →
        (queueOf u q).frames = (queueOf s q).frames.tail ∧
        regN u (subR b i 0x858) = min (regN s (subR b i 0x858) + 1) (2 ^ 32 - 1)))) ∧
  (∀ (s : State), coreOn s = true → Completes (.txDownDiscard 32 0) s (fun u =>
    (macUp s 32 0 = true ∨ bitAt s (subR 32 0 0) 26 = false ∨ s.xt.waitTx = [] → u = s) ∧
    (macUp s 32 0 = false → bitAt s (subR 32 0 0) 26 = true → s.xt.waitTx ≠ [] →
      u.xt = { s.xt with waitTx := s.xt.waitTx.tail } ∧ Only [.regs, .xt] s u ∧
      regN u (subR 32 0 0x858) = min (regN s (subR 32 0 0x858) + 1) (2 ^ 32 - 1)))) ∧
  ∀ (s : State) (a : Path) (b : Fin 33) (i : Fin 4), Completes (.tsTxPop a b i) s (fun u =>
    ((coreOn s && subExists s b i) = false → u.sent = s.sent ++ [.data a [0]] ∧ Only [.sent] s u) ∧
    ((coreOn s && subExists s b i) = true →
      subOf u b i = { subOf s b i with stamps := (subOf s b i).stamps.drop 1 } ∧
      ((subOf s b i).stamps = [] → u.sent = s.sent ++ [.data a [0]]) ∧
      (∀ tag nt unset rest, (subOf s b i).stamps = (tag, nt, unset) :: rest →
        u.sent = s.sent ++ [.data a [BitVec.ofNat 32 (2 ^ 31 + bitN unset * 2 ^ 30 + tag % 2 ^ 16)]] ∧
        (pathOf u a).snap.look 0 (subR b i 0x44) = BitVec.ofNat 32 (ntFormat nt % 2 ^ 16))))

/-- A frame counts in exactly this counter of its sub-port and goes no further (R225, R226). -/
def DroppedIn (b i o : Nat) (s u : State) : Prop :=
  regN u (subR b i o) = min (regN s (subR b i o) + 1) (2 ^ 32 - 1) ∧ Only [.regs, .sent, .icSrc, .icMsix, .reef] s u

/-- Frames received at the client ports and the management port (R225, R226, R229, R236 to R238). Where the spec leaves a point open, what is stated is the
model's choice: log entries 60 to 65 and 159 and 189 to 190 and 219. -/
def Obligations.FramesReceived : Prop :=
  (∀ (s : State) (b : Fin 32) (i : Fin 4) (f : ClientFrame), coreOn s = true → Completes (.clientRxFrame b i f) s (fun u =>
    (macUp s b i = false → u = s) ∧
    (macUp s b i = true → subSlotted s b i = true → Only [.regs, .sent, .icSrc, .icMsix, .reef] s u ∧
      reg64 u (subR b i 0x820) = min (reg64 s (subR b i 0x820) + f.corrCw) (2 ^ 64 - 1) ∧
      reg64 u (subR b i 0x828) = min (reg64 s (subR b i 0x828) + f.uncorrCw) (2 ^ 64 - 1)) ∧
    (macUp s b i = true → subSlotted s b i = false →
      (f.good = true → validPfc f.bytes = true → regN u (subR b i 0x848) = min (regN s (subR b i 0x848) + 1) (2 ^ 32 - 1) ∧
        u.fifos = s.fifos ∧ u.buf = s.buf) ∧
      (f.good = false → DroppedIn b i 0x830 s u) ∧
      (f.good = true → validPfc f.bytes = false →
        (f.bytes.length < 64 → DroppedIn b i 0x834 s u) ∧
        (64 ≤ f.bytes.length → maxFrame s b i < f.bytes.length → DroppedIn b i 0x838 s u) ∧
        (64 ≤ f.bytes.length → f.bytes.length ≤ maxFrame s b i →
          (etherType f.bytes = 0x8808 → DroppedIn b i 0x83C s u) ∧
          (etherType f.bytes ≠ 0x8808 → filterPasses s b i f.bytes = false → DroppedIn b i 0x840 s u) ∧
          (etherType f.bytes ≠ 0x8808 → filterPasses s b i f.bytes = true →
            (fifoShare s b < shareFill s b i + maxFrame s b i → DroppedIn b i 0x844 s u) ∧
            (shareFill s b i + maxFrame s b i ≤ fifoShare s b →
              reg64 u (subR b i 0x800) = min (reg64 s (subR b i 0x800) + 1) (2 ^ 64 - 1) ∧
              reg64 u (subR b i 0x808) = min (reg64 s (subR b i 0x808) + f.bytes.length) (2 ^ 64 - 1)))))))) ∧
  ∀ (s : State) (l : List Byte) (good : Bool), Completes (.mgmtRxFrame l good) s (fun u =>
    (s.reef.level = 3 → good = false ∨ s.reef.phase = .entering ∨ bitAt s (laneR 274 0) 0 = false → u = s) ∧
    (s.reef.level = 3 → good = true → s.reef.phase ≠ .entering → bitAt s (laneR 274 0) 0 = true →
      ∀ k, k < 8 → bitAt u 0x2100 k = (bitAt s 0x2100 k || patternMatches s k l)) ∧
    (s.reef.level ≠ 3 → (coreOn s && macUp s 32 0) = false → u = s) ∧
    (s.reef.level ≠ 3 → coreOn s = true → macUp s 32 0 = true →
      (good = false → DroppedIn 32 0 0x830 s u) ∧
      (good = true → l.length < 64 → DroppedIn 32 0 0x834 s u) ∧
      (good = true → 64 ≤ l.length → l.length ≤ maxFrame s 32 0 → etherType l ≠ 0x8808 → etherType l ≠ 0x88B5 →
        filterPasses s 32 0 l = true → Only [.regs, .xt] s u ∧
        u.xt = { s.xt with rxStamp := some (readNow s, !timeHeld s) } ∧
        reg64 u (subR 32 0 0x800) = min (reg64 s (subR 32 0 0x800) + 1) (2 ^ 64 - 1))))

/-! ## Rigid tributaries and the time-slot interchange (ch. 09) -/

/-- Containers and playout (R245 to R248, R252). Where the spec leaves a point open, what is stated is the
model's choice: log entries 66 to 72 and 185 and 191 and 231. -/
def Obligations.Containers : Prop :=
  ∀ (s : State) (t : Fin 5120), coreOn s = true →
    (∀ l, Completes (.containerCut t l) s (fun u =>
      (tsiOn s = false → u = s) ∧
      (s.tsi.ended.look none t = none → activeEntry s t false = none ∨ cutDue s (upConn s t) l = false → u = s) ∧
      (∀ e, tsiOn s = true → s.tsi.ended.look none t = some e → u.tsi.ended.look none t = none ∧
        (upConn u t).seq = (upConn s t).seq ∧ (upConn u t).cutIn = (upConn s t).cutIn ∧
        ∃ c, (upConn u t).stored.getLast? = some c ∧ c.slot = t ∧ c.entry = e.entry ∧
          bits (ofBytes (c.body.take 8)) 63 48 = e.seq % 2 ^ 16 ∧
          bits (ofBytes (c.body.take 8)) 47 37 = if slotFailed s t then 0 else min l.length 1224) ∧
      (∀ w, tsiOn s = true → s.tsi.ended.look none t = none → activeEntry s t false = some w → cutDue s (upConn s t) l = true →
        let own := (upConn s t).stored.filter fun x => x.entry == w
        (upConn u t).seq = ((upConn s t).seq + 1) % 2 ^ 16 ∧ (upConn u t).start = false ∧
        (upConn u t).cutIn = some (readNow s / 1024000000) ∧
        (∃ c, (upConn u t).stored.getLast? = some c ∧ c.slot = t ∧ c.entry = w ∧
          bits (ofBytes (c.body.take 8)) 63 48 = (upConn s t).seq % 2 ^ 16 ∧
          (ofBytes (c.body.take 8)).testBit 36 = slotFailed s t ∧
          bits (ofBytes (c.body.take 8)) 47 37 = (if slotFailed s t then 0 else min l.length 1224) ∧
          c.body.length = 8 + ceilDiv (66 * if slotFailed s t then 0 else min l.length 1224) 8) ∧
        ((upConn u t).stored.filter fun x => x.entry == w).length = min (own.length + 1) (max 16 own.length) ∧
        (own.length < 16 → Only [.tsi] s u) ∧
        (16 ≤ own.length → regN u 0x02400120 = min (regN s 0x02400120 + 1) (2 ^ 32 - 1) ∧ bitAt u 0x02400018 9 = true)))) ∧
    Completes (.playoutStart t) s (fun u => Only [.tsi] s u ∧
      let ready := tsiOn s && (activeEntry s t true).isSome && !(dnConn s t).playing &&
        decide (min (max (fld s 0x02400000 29 16) 1024) 15360 ≤ (dnConn s t).fifo.length)
      (ready = false → u = s) ∧ (ready = true → dnConn u t = { dnConn s t with playing := true })) ∧
    Completes (.playoutUnderrun t) s (fun u =>
      ((dnConn s t).playing = false ∨ (dnConn s t).fifo ≠ [] → u = s) ∧
      ((dnConn s t).playing = true → (dnConn s t).fifo = [] → dnConn u t = { dnConn s t with playing := false } ∧
        regN u 0x02400128 = min (regN s 0x02400128 + 1) (2 ^ 32 - 1) ∧ bitAt u 0x02400018 7 = true))

/-- The pages are as they were: active, armed, pending (R255). -/
def PagesKept (s u : State) : Prop :=
  u.tsi.active = s.tsi.active ∧ u.tsi.armed = s.tsi.armed ∧ u.tsi.pend = s.tsi.pend

/-- The standby page has become the active one (R258). -/
def PagesSwitched (s u : State) : Prop :=
  let old := activePage s
  let new := (pageEntries s (1 - s.tsi.active)).map Prod.snd
  u.tsi.active = 1 - s.tsi.active ∧ u.tsi.armed = false ∧ u.tsi.pend = none ∧ bitAt u 0x02400018 0 = true ∧
  fld u 0x0240012C 15 0 = min (fld s 0x0240012C 15 0 + 1) (2 ^ 16 - 1) ∧
  (∀ t, (upConn u t).stored = (upConn s t).stored) ∧
  (∀ w ∈ old, cmDown w = false → new.any (sameConn w) = false → ∃ e, u.tsi.ended.look none (cmSlot w) = some e ∧
    cmSlot e.entry = cmSlot w ∧ e.seq = (upConn s (cmSlot w)).seq ∧ e.start = (upConn s (cmSlot w)).start) ∧
  (∀ t, (∀ w ∈ old ++ new, cmSlot w = t → old.any (sameConn w) = true ∧ new.any (sameConn w) = true) →
    upConn u t = upConn s t ∧ dnConn u t = dnConn s t) ∧
  (∀ w ∈ new, cmDown w = false → old.any (sameConn w) = false → (upConn u (cmSlot w)).seq = 0 ∧ (upConn u (cmSlot w)).start = true) ∧
  (∀ w ∈ new, cmDown w = true → old.any (sameConn w) = false → dnConn u (cmSlot w) = {})

/-- Pages of connection memory (R254, R255, R258, R261). Where the spec leaves a point open, what is stated is the
model's choice: log entries 66 to 72 and 185 and 191 and 231. -/
def Obligations.PageCommands : Prop :=
  ∀ (s : State), coreOn s = true →
    (∀ (path : Path) (addr v : Word), Completes (.connMemWrite path addr v) s (fun u =>
      (pageOfAddr addr.toNat = none → u = s) ∧ PagesKept s u ∧
      (∀ q e, q < 2 → e < 8192 → addr.toNat = pageR q e →
        (q = s.tsi.active ∨ s.tsi.armed = true → u.regs = s.regs ∧ u.tsi.wrRej = true) ∧
        (q ≠ s.tsi.active → s.tsi.armed = false → u.tsi.wrRej = false ∧ fld u (pageR q e) 31 5 = v.toNat / 2 ^ 5 ∧
          ((pathOf s path).high.has (pageR q e + 4) = true →
            reg u (pageR q e + 4) = (pathOf s path).high.look 0 (pageR q e + 4)))) ∧
      (∀ q e, q < 2 → e < 8192 → addr.toNat = pageR q e + 4 → u.regs = s.regs ∧
        (pathOf u path).high.look 0 (pageR q e + 4) = v))) ∧
    Completes .pageArm s (fun u => PagesKept s u ∧ u.tsi.arming = !s.tsi.armed ∧ u.tsi.wrRej = false ∧ Only [.tsi] s u) ∧
    Completes .pageArmDone s (fun u =>
      (s.tsi.arming = false → u = s) ∧
      (s.tsi.arming = true → pageFails s [] (pageEntries s (1 - s.tsi.active)) = none → u.tsi.armed = true ∧
        u.tsi.arming = false ∧ regN u 0x0240000C = 0 ∧ Only [.regs, .tsi] s u) ∧
      (∀ e k, s.tsi.arming = true → pageFails s [] (pageEntries s (1 - s.tsi.active)) = some (e, k) →
        PagesKept s u ∧ u.tsi.arming = false ∧ bitAt u 0x02400018 2 = true ∧ fld u 0x0240000C 12 0 = e ∧
        fld u 0x0240000C 27 24 = k ∧ bitAt u 0x0240000C 31 = true ∧
        regN u 0x02400130 = min (regN s 0x02400130 + 1) (2 ^ 32 - 1))) ∧
    Completes .pageDisarm s (fun u => Only [.tsi] s u ∧
      (s.tsi.armed = true → s.tsi.pend ≠ none → PagesKept s u ∧ u.tsi.wrRej = true) ∧
      (s.tsi.armed = false ∨ s.tsi.pend = none → u.tsi.armed = false ∧ u.tsi.active = s.tsi.active ∧ u.tsi.wrRej = false)) ∧
    Completes .pageForce s (fun u =>
      (s.tsi.armed = false → u = s) ∧ (s.tsi.armed = true → PagesSwitched s u)) ∧
    Completes .pageSwitch s (fun u =>
      (s.tsi.pend = none → u = s) ∧
      ∀ w, s.tsi.pend = some w → (lineNow s w.port < tRx s w.port w.sf → u = s) ∧ (tRx s w.port w.sf ≤ lineNow s w.port → PagesSwitched s u)) ∧
    (∀ en, Completes (.tsiEnableWrite en) s (fun u => bitAt u 0x02400000 0 = en ∧ u.tsi.active = s.tsi.active ∧
      (en = true → u.tsi = s.tsi ∧ Only [.regs] s u) ∧
      (en = false → u.tsi.pend = none ∧
        (s.tsi.pend ≠ none → fld u 0x0240012C 31 16 = min (fld s 0x0240012C 31 16 + 1) (2 ^ 16 - 1) ∧
          bitAt u 0x02400018 1 = true))))

/-- TSI_SWITCH and FlexE overhead (R241, R243, R257, R259). Where the spec leaves a point open, what is stated is the
model's choice: log entries 66 to 72 and 185 and 191 and 231. -/
def Obligations.TsiSwitches : Prop :=
  (∀ (s : State) (p : Fin 16) (t : TmmIn) (rest : List TmmIn), coreOn s = true → TmmDue s p 0x0B t rest →
    inOperation s p = true → Completes (.tsiSwitch p) s (fun u =>
      let page := bitN (t.bits.getLsbD 351)
      let sf := tf t.bits 350 300
      let bad := !frameInReach false s p t sf || !tsiOn s || (page != s.tsi.active && !s.tsi.armed)
      (framer u p).queue = rest ∧ PortKeep p s u ∧ u.tsi.active = s.tsi.active ∧
      (bad = true → Answered s p t 3 [] u ∧ u.tsi = s.tsi) ∧
      (bad = false → s.tsi.pend = none → page = s.tsi.active → Answered s p t 0 [] u ∧ u.tsi = s.tsi) ∧
      (bad = false → s.tsi.pend = none → page ≠ s.tsi.active → Answered s p t 0 [] u ∧
        u.tsi.pend = some { page := page, port := p, sf := sf } ∧
        ∀ k, k < 64 → slotted s k = true → pageCal s 0 k ≠ pageCal s 1 k → bitAt u (spR k 4) 27 = true) ∧
      (∀ w, bad = false → s.tsi.pend = some w → u.tsi = s.tsi ∧
        let a := coreAt s p (tRx s p sf)
        let b := coreAt s w.port (tRx s w.port w.sf)
        Answered s p t (if w.page = page ∧ a ≤ b + 80000 ∧ b ≤ a + 80000 then 0 else 1) [] u))) ∧
  ∀ (s : State) (k : Fin 64), coreOn s = true →
    (∀ o, Completes (.flexeOverheadRx k o) s (fun u =>
      (slotted s k = false → u = s) ∧
      (slotted s k = true → bitAt u (spR k 4) 31 = o.lock ∧
        (o.lock = true → bitAt u (spR k 4) 29 = o.c ∧ bitAt u (spR k 4) 26 = o.ca ∧ bitAt u (spR k 4) 30 = o.rpf ∧
          bitAt u (spR k 4) 25 = (o.group.toNat != fld s (spR k 0) 27 8) ∧
          ∀ c : Fin 80, calEntry u (calR k true false) c = (o.calA.getD c 0).toNat ∧
            calEntry u (calR k true true) c = (o.calB.getD c 0).toNat) ∧
        (∃ oh, u.sent.getLast? = some (.overhead k (fld s (spR k 0) 7 0) oh) ∧ oh.ca = (o.lock && o.cr) ∧ oh.rpf = !o.lock ∧
          oh.c = bitAt s (spR k 4) 28 ∧ oh.cr = bitAt s (spR k 4) 27 ∧ oh.group.toNat = fld s (spR k 0) 27 8) ∧
        (o.lock = false → bitAt u (spR k 4) 29 = bitAt s (spR k 4) 29 ∧ bitAt u (spR k 4) 25 = bitAt s (spR k 4) 25)))) ∧
    Completes (.calendarCChange k) s (fun u =>
      (s.tsi.dueC.contains k.val = false ∨ bitAt s (spR k 4) 26 = false → u = s) ∧
      (s.tsi.dueC.contains k.val = true → bitAt s (spR k 4) 26 = true →
        bitAt u (spR k 4) 28 = pageCal s s.tsi.active k ∧ u.tsi.dueC.contains k.val = false ∧ PagesKept s u ∧
        bitAt u (spR k 4) 27 = (s.tsi.pend.isSome && pageCal s 0 k != pageCal s 1 k)))

/-! ## Parse graph and classifier (ch. 10) -/

/-- Node or transition memory's word k of node n, or of transition e (R267, R268). -/
def PgWord (a : Nat) : Prop := (∃ n k, n < 256 ∧ k < 16 ∧ a = 0x03001000 + 0x40 * n + 4 * k) ∨
  (∃ e k, e < 2048 ∧ k < 4 ∧ a = 0x03008000 + 0x10 * e + 4 * k)

/-- The parse graph's banks (R287). Where the spec leaves a point open, what is stated is the
model's choice: log entries 73 to 81. -/
def Obligations.ParseGraph : Prop :=
  ∀ (s : State), coreOn s = true →
    (s.pg.copyBusy = true → ∃ u, Sys2Proof.Machine.exec .pgCommit s = .next u ∧ Only [.regs, .sent, .icSrc, .icMsix, .pg, .reef] s u ∧
      u.pg = { s.pg with wrRej := true } ∧ bitAt u 0x03000008 1 = true ∧ ∀ a, pgMemory a = true → reg u a = reg s a) ∧
    (s.pg.copyBusy = false → ∃ u, Sys2Proof.Machine.exec .pgCommit s = .next u ∧ Only [.regs, .sent, .icSrc, .icMsix, .pg, .reef] s u ∧
      u.pg.active = s.regs.filter (fun x => pgMemory x.1) ∧ u.pg.bank = !s.pg.bank ∧
      u.pg.copyBusy = true ∧ u.pg.wrRej = false ∧ bitAt u 0x03000008 0 = true) ∧
    (s.pg.copyBusy = false → Sys2Proof.Machine.exec .pgCopyDone s = .next s) ∧
    (s.pg.copyBusy = true → ∃ u, Sys2Proof.Machine.exec .pgCopyDone s = .next u ∧ Only [.regs, .pg] s u ∧
      u.pg = { s.pg with copyBusy := false } ∧
      (∀ a v l m, s.pg.active = l ++ (a, v) :: m → a ∉ Tab.keys m → reg u a = v) ∧
      (∀ a, a ∉ s.pg.active.keys → pgMemory a = false → reg u a = reg s a) ∧
      (∀ a, a ∉ s.pg.active.keys → pgMemory a = true → s.regs.has a = true → reg u a = 0)) ∧
    ∀ (path : Path) (addr v : Word),
      (pgMemory addr.toNat = false → Sys2Proof.Machine.exec (.pgMemoryWrite path addr v) s = .next s) ∧
      (PgWord addr.toNat → s.pg.copyBusy = true → ∃ u, Sys2Proof.Machine.exec (.pgMemoryWrite path addr v) s = .next u ∧
        u.pg = { s.pg with wrRej := true } ∧ bitAt u 0x03000008 1 = true ∧ reg u addr.toNat = reg s addr.toNat) ∧
      (PgWord addr.toNat → s.pg.copyBusy = false → ∃ u, Sys2Proof.Machine.exec (.pgMemoryWrite path addr v) s = .next u ∧
        u.pg = { s.pg with wrRej := false } ∧ reg u addr.toNat = v &&& pgBits addr.toNat ∧
        (∀ n k, n < 256 → 10 ≤ k → k < 16 → addr.toNat = 0x03001000 + 0x40 * n + 4 * k → reg u addr.toNat = 0) ∧
        (∀ e, e < 2048 → addr.toNat = 0x03008000 + 0x10 * e + 12 → reg u addr.toNat = 0) ∧
        (∀ a, a ≠ addr.toNat → reg u a = reg s a) ∧ Only [.regs, .pg] s u)

/-- A rule command has completed: its status and the rest of its answer, and RING_DONE (R278, R290). -/
def RuleAnswer (s u : State) (status : Nat) (existed : Bool) (result : BitVec 64) : Prop :=
  (∃ l, u.sent = s.sent ++ .ruleDone status existed false 0 0 result :: l) ∧ bitAt u 0x03100008 5 = true

/-- The rule tables are as they were. -/
def RulesKept (s u : State) : Prop := ∀ k, ruleTable u k = ruleTable s k

/-- Only position p of rule table t has changed: it holds e. -/
def RulePut (s u : State) (t p : Nat) (e : Entry) : Prop :=
  (ruleTable u t).atPos false p = some e ∧ (∀ q, q ≠ p → (ruleTable u t).atPos false q = (ruleTable s t).atPos false q) ∧
  ∀ k, k ≠ t → ruleTable u k = ruleTable s k

/-- Rule tables (R276, R278). Where the spec leaves a point open, what is stated is the
model's choice: log entries 73 to 81. -/
def Obligations.RuleCommands : Prop :=
  ∀ (s : State), coreOn s = true →
    (∀ (t : Fin 16) (v : Word), Completes (.clsTblCtlWrite t v) s (fun u =>
      let w : Word := v &&& 0xEF0001FF
      let units := total ((upTo 16).map fun k =>
        let x := if k = t.val then w else reg s (ruleR k 0)
        if x.getLsbD 31 then bits x.toNat 8 0 else 0)
      let change := (w &&& 0x0F0001FF) != (reg s (ruleR t 0) &&& 0x0F0001FF)
      let bad := decide (256 < units)
      let late := !bad && change && ruleOn s t
      (∀ k, k ≠ t.val → ruleTable u k = ruleTable s k) ∧ (late = true → u = s) ∧ (late = false → u.cls.capRej = bad) ∧
      (bad = true → reg u (ruleR t 0) = reg s (ruleR t 0) ∧ ruleTable u t = ruleTable s t ∧ bitAt u 0x03100008 0 = true) ∧
      (bad = false → late = false → reg u (ruleR t 0) = w ∧ ruleTable u t = (if change then {} else ruleTable s t) ∧ Only [.regs, .cls] s u))) ∧
    ∀ (c : RuleCommand),
      let t := c.table.toNat
      let e : Entry := { key := ruleKey s t c.key, result := c.result.setWidth 96 }
      let hit := (ruleTable s t).find (ruleShape s t) false e.key
      let failing := s.faults.restoring.any fun x => x.1 == 7
      let meets := failing && freeBit s
      (meets = true → ∀ k : Instr, k = .ruleInsert c ∨ k = .ruleDelete c ∨ k = .ruleSearch c ∨ k = .ruleNext c →
        Completes k s (fun u => RuleAnswer s u 9 false 0 ∧ RulesKept s u ∧ u.cls = s.cls)) ∧
      (meets = false → ruleBad s c = true → ∀ k : Instr, k = .ruleInsert c ∨ k = .ruleDelete c ∨ k = .ruleSearch c →
        Completes k s (fun u => RuleAnswer s u 3 false 0 ∧ RulesKept s u)) ∧
      (meets = false → ruleBad s c = false →
        Completes (.ruleInsert c) s (fun u =>
          (∀ f, hit = some f → RuleAnswer s u 0 true 0 ∧ RulePut s u t f.2.1 e) ∧
          (hit = none → (ruleTable s t).free false ((ruleShape s t).positions false e.key) ≠ [] →
            RuleAnswer s u 0 false 0 ∧
            ∃ p ∈ (ruleTable s t).free false ((ruleShape s t).positions false e.key), RulePut s u t p e) ∧
          (hit = none → (ruleTable s t).place (ruleShape s t) e none (freeVal (if failing then drawn s else s)) = none → RuleAnswer s u 4 false 0 ∧ RulesKept s u)) ∧
        Completes (.ruleDelete c) s (fun u =>
          (∀ f, hit = some f → RuleAnswer s u 0 false 0 ∧ ruleTable u t = (ruleTable s t).dropPos false f.2.1 ∧
            ∀ k, k ≠ t → ruleTable u k = ruleTable s k) ∧
          (hit = none → RuleAnswer s u 5 false 0 ∧ RulesKept s u)) ∧
        Completes (.ruleSearch c) s (fun u => RulesKept s u ∧
          (∀ f, c.walk = false → hit = some f → RuleAnswer s u 0 false (f.2.2.result.setWidth 64)) ∧
          (c.walk = false → hit = none → RuleAnswer s u 5 false 0) ∧
          (c.walk = true → (∀ h, h < 8 → s.cls.walks.has h = true ∧ walkHeld s (s.cls.walks.look ⟨0, [], [], 0, [], 0, false, 0⟩ h) = true) →
            RuleAnswer s u 1 false 0 ∧ u.cls.walks = s.cls.walks) ∧
          (c.walk = true → (∃ h, h < 8 ∧ s.cls.walks.has h = false) →
            ∃ h n b, h < 8 ∧ n ≤ c.count.toNat ∧ .ruleDone 0 false b n h 0 ∈ u.sent ∧ u.cls.walks.has h = true))) ∧
      (meets = false → Completes (.ruleNext c) s (fun u => RulesKept s u ∧
        let h := c.handle.toNat
        let w := s.cls.walks.look ⟨0, [], [], 0, [], 0, false, 0⟩ h
        (c.other = true → .ruleDone 3 false false 0 h 0 ∈ u.sent ∧ u.cls.walks = s.cls.walks) ∧
        (c.other = false → s.cls.walks.has h = false ∨ walkHeld s w = false → .ruleDone 5 false false 0 h 0 ∈ u.sent ∧ u.cls.walks = s.cls.walks) ∧
        (c.other = false → s.cls.walks.has h = true → walkHeld s w = true → w.lost = true →
          .ruleDone 0xA false false 0 h 0 ∈ u.sent ∧ u.cls.walks = s.cls.walks.drop h) ∧
        (c.other = false → s.cls.walks.has h = true → walkHeld s w = true → w.lost = false → ruleOn s w.table = true →
          ∃ n b, n ≤ c.count.toNat ∧ .ruleDone 0 false b n h 0 ∈ u.sent ∧ (c.endWalk = true → u.cls.walks = s.cls.walks.drop h))))

/-- Instance i's mailbox has a request of the given code at the head of its queue, and no reef transition holds (R423, R459). -/
def MbFirst (s : State) (i : Nat) (code : Nat) (rest : List Nat) : Prop :=
  s.xt.requests = i :: rest ∧ (requestOf s i).code = code ∧ reefHolds s = false

/-- A request that is due for execution; the recovery monitor of Furled serves version 1 alone (R458). -/
def MbDue (s : State) (i : Nat) (code : Nat) (rest : List Nat) : Prop :=
  MbFirst s i code rest ∧ (s.boot.furled = true → (requestOf s i).ver = 1)

/-- The request in instance i's buffer is answered with a status, and with a body's words (R460). -/
def MbAnswered (s u : State) (i status : Nat) (body : List Nat) : Prop :=
  regN u (xtR i 0x2000) = (requestOf s i).ver * 2 ^ 24 + status * 2 ^ 16 + (requestOf s i).code ∧
  regN u (xtR i 0x2004) = (requestOf s i).tag * 2 ^ 16 + 4 * body.length ∧
  ∀ k, k < body.length → regN u (xtR i (0x2008 + 4 * k)) = body.getD k 0

/-- Exception classes and hash profiles (R280 to R285). Where the spec leaves a point open, what is stated is the
model's choice: log entries 73 to 81. -/
def Obligations.Classifier : Prop :=
  ∀ (s : State), coreOn s = true →
    (∀ (c : Fin 64) (v : Word), Completes (.excCtlWrite c v) s (fun u =>
      reg u (excR c 0) = v &&& 0xC0003FFF ∧ tokensNow u c = 1000000 * max 1 (fld s (excR c 8) 15 0) ∧
      (∀ k : Nat, k ≠ c.val → tokensNow u k = tokensNow s k) ∧ RegsOnly (· == excR c 0) s u ∧ Only [.regs, .cls] s u)) ∧
    (∀ (h : Fin 64) (v : Word), Completes (.hpCtlWrite h v) s (fun u =>
      reg u (profR h 0) = v &&& 0xE00FFFFF ∧ RegsOnly (· == profR h 0) s u ∧ Only [.regs, .cls] s u ∧
      (v.getLsbD 30 = false ∨ repairOn s h = true → u.cls = s.cls) ∧
      (v.getLsbD 30 = true → repairOn s h = false → ∀ i : Fin 4096, s.regs.has (indR h i) = true →
        homeEntry u h i = reg64 s (indR h i)))) ∧
    (∀ (path : Path) (addr v : Word), Completes (.indEntryWrite path addr v) s (fun u =>
      (isIndirection addr.toNat = false → u = s) ∧
      ∀ (h : Fin 64) (i : Fin 4096),
        (addr.toNat = indR h i ∨ addr.toNat = indR h i + 4 → repairOn s h = true →
          u.regs = s.regs ∧ u.cls = { s.cls with indRej := true } ∧ (pathOf u path).high.has (indR h i + 4) = false) ∧
        (addr.toNat = indR h i + 4 → repairOn s h = false →
          u.regs = s.regs ∧ u.cls = s.cls ∧ (pathOf u path).high.look 0 addr.toNat = v) ∧
        (addr.toNat = indR h i → repairOn s h = false → u.cls = { s.cls with indRej := false } ∧ reg u (indR h i) = v &&& 0xFFFF ∧
          reg u (indR h i + 4) = (pathOf s path).high.look (reg s (indR h i + 4)) (indR h i + 4) &&& 0xC00FFFF0 ∧
          RegsOnly (fun a => a == indR h i || a == indR h i + 4) s u))) ∧
    Completes .indirectionRepair s (fun u =>
      let ok := usablePorts s
      (ok = s.cls.usable → u = s) ∧
      (ok ≠ s.cls.usable → u.cls = { s.cls with usable := ok } ∧ bitAt u 0x03100008 3 = true ∧
        ∀ (h : Fin 64),
          (repairOn s h = false → ∀ i : Fin 4096, reg64 u (indR h i) = reg64 s (indR h i)) ∧
          (repairOn s h = true → (∃ j : Fin 4096, bits (homeEntry s h j) 63 62 = 2 ∧ ok.getLsbD (bits (homeEntry s h j) 51 48) = true) →
            ∀ i : Fin 4096, bits (homeEntry s h i) 63 62 = 2 → reg64 u (indR h i) = repaired s ok h i % 2 ^ 64) ∧
          (repairOn s h = true →
            (∀ j : Fin 4096, bits (homeEntry s h j) 63 62 = 2 → ok.getLsbD (bits (homeEntry s h j) 51 48) = false) →
            bitAt u 0x03100008 4 = true ∧ ∀ i : Fin 4096, reg64 u (indR h i) = reg64 s (indR h i)))) ∧
    ∀ (i : Fin 2) (rest : List Nat), MbDue s i 0x60 rest → Completes (.indWrite i) s (fun u =>
      let r := requestOf s i
      let bad := decide (64 ≤ r.arg 0) || decide (4096 < r.arg 1 + r.arg 2) || decide (r.len < 12 + 8 * r.arg 2)
      (bad = true → MbAnswered s u i 3 [] ∧ u.cls = s.cls ∧ ∀ a, isIndirection a = true → reg u a = reg s a) ∧
      (bad = false → MbAnswered s u i 0 [] ∧ ∀ k, k < r.arg 2 →
        homeEntry u (r.arg 0) (r.arg 1 + k) = r.arg64 (3 + 2 * k) &&& 0xC00FFFF00000FFFF ∧
        reg64 u (indR (r.arg 0) (r.arg 1 + k)) = repaired u (usablePorts s) (r.arg 0) (r.arg 1 + k) % 2 ^ 64))

/-! ## Canopy and the prefix TCAM (ch. 11) -/

/-- Descriptor d of ring r is the next command, with an opcode, and the engine may start it (R303 to R305). -/
def RingDue (s : State) (r d op : Nat) : Prop :=
  coreOn s = true ∧ engineFree s = true ∧ ringHead s r = some d ∧ d < 1024 ∧
  bits (regN s (descR r d 0)) 31 24 = op ∧ bits (regN s (descR r d 0)) 23 19 ≤ 16

/-- Descriptor d of ring r has completed: its word 1, RING_CONS past it, RING_DONE (R303). -/
def RingEnded (s u : State) (r d status : Nat) (existed ended : Bool) (n : Nat) : Prop :=
  regN u (descR r d 1) = 2 ^ 31 + bitN existed * 2 ^ 30 + bitN ended * 2 ^ 29 + status * 2 ^ 16 + n ∧
  ringWaiting u r < ringWaiting s r ∧ bitAt u 0x04000008 0 = true

/-- Canopy and its TCAM are as they were, but for which ring was served last (R305). -/
def CanKept (s u : State) : Prop := u.can = { s.can with lastRing := u.can.lastRing }

/-- No Canopy table has changed. -/
def TablesKept (s u : State) : Prop := u.can.tables = s.can.tables

/-- Of Canopy's tables only position p of a tier of table t has changed: it holds e. -/
def TablePut (s u : State) (t : Nat) (hbm : Bool) (p : Nat) (e : Entry) : Prop :=
  (canTable u t).atPos hbm p = some e ∧
  (∀ h q, (h, q) ≠ (hbm, p) → (canTable u t).atPos h q = (canTable s t).atPos h q) ∧ ∀ k, k ≠ t → canTable u k = canTable s k

/-- Canopy's tables (R297 to R302, R308 to R310). Where the spec leaves a point open, what is stated is the
model's choice: log entries 82 to 96 and 192. -/
def Obligations.CanopyTables : Prop :=
  (∀ (s : State) (r : Fin 8) (d : Nat),
    let c := commandOf s r d
    let x := canTable s c.table
    let hit := x.find (canShape s c.table) (hbmAvail s) (ringKey s c)
    (c.table < 16 → RingDue s r d 1 → Completes (.insert r) s (fun u =>
      let e : Entry := { key := ringKey s c, result := c.result, stamp := x.now, isStatic := c.flags.testBit 0, owner := c.owner, finger := (canShape s c.table).finger (ringKey s c) }
      let free := x.free false ((canShape s c.table).positions false e.key)
      (keyBad s c = true → RingEnded s u r d 3 false false 0 ∧ TablesKept s u) ∧
      (keyBad s c = false → (∀ f, hit = some f → RingEnded s u r d 0 true false 0 ∧ TablePut s u c.table f.1 f.2.1 e) ∧
        (hit = none → hbmAvail s = true → free ≠ [] → RingEnded s u r d 0 false false 0 ∧
          ∃ p ∈ free, TablePut s u c.table false p e) ∧
        (hit = none → hbmAvail s = true → x.place (canShape s c.table) e (some (bitAt s (canR c.table 0) 28)) (freeVal s) = none →
          RingEnded s u r d 4 false false 0 ∧ TablesKept s u) ∧
        (hit = none → hbmAvail s = false → (canShape s c.table).hbmB ≠ 0 → free = [] →
          RingEnded s u r d 1 false false 0 ∧ TablesKept s u)))) ∧
    (c.table < 16 → RingDue s r d 2 → Completes (.delete r) s (fun u =>
      (keyBad s c = true → RingEnded s u r d 3 false false 0 ∧ TablesKept s u) ∧
      (keyBad s c = false → (hit = none → RingEnded s u r d 5 false false 0 ∧ TablesKept s u) ∧
        ∀ f, hit = some f → RingEnded s u r d 0 false false 0 ∧ canTable u c.table = x.dropPos f.1 f.2.1 ∧
          ∀ k, k ≠ c.table → canTable u k = canTable s k))) ∧
    (c.table < 16 → RingDue s r d 3 → c.flags % 4 = 0 → Completes (.search r) s (fun u => TablesKept s u ∧
      (keyBad s c = true → RingEnded s u r d 3 false false 0) ∧
      (keyBad s c = false → (hit = none → RingEnded s u r d 5 false false 0) ∧
        ∀ f, hit = some f → RingEnded s u r d 0 false false 0 ∧ regN u (descR r d 8) = f.2.2.result.toNat / 2 ^ 64 ∧
          regN u (descR r d 9) = f.2.2.result.toNat / 2 ^ 32 % 2 ^ 32 ∧ regN u (descR r d 10) = f.2.2.result.toNat % 2 ^ 32 ∧
          regN u (descR r d 11) = (f.2.2.stamp * 2 ^ 16 + 2 ^ 15 + bitN f.2.2.isStatic * 2 ^ 14 + bitN f.2.2.learned * 2 ^ 13 +
            f.2.2.owner) % 2 ^ 32)))) ∧
  ∀ (s : State), coreOn s = true →
    Completes .learn s (fun u => (s.can.learns = [] → u = s) ∧
      ∀ (l : Learn) (rest : List Learn), s.can.learns = l :: rest → l.table < 16 → u.can.learns = rest ∧
        let x := canTable s l.table
        let hit := x.find (canShape s l.table) (hbmAvail s) l.key
        let free := x.free false ((canShape s l.table).positions false l.key)
        (flushHides s l.table l.owner false = true → TablesKept s u ∧ Counted (canCnt l.table 0x24) s u) ∧
        (s.can.flush = none →
          (∀ f, hit = some f → f.2.2.owner = l.owner → bitAt s (canR l.table 0) 25 = true →
            TablePut s u l.table f.1 f.2.1 { f.2.2 with stamp := x.now } ∧ u.can.events = s.can.events) ∧
          (∀ f, hit = some f → f.2.2.owner = l.owner → bitAt s (canR l.table 0) 25 = false → TablesKept s u) ∧
          (∀ f, hit = some f → f.2.2.owner ≠ l.owner → f.2.2.isStatic = true → TablesKept s u ∧ u.can.events = s.can.events) ∧
          (∀ f, hit = some f → f.2.2.owner ≠ l.owner → f.2.2.isStatic = false → eventRoom s = 0 →
            TablesKept s u ∧ Counted (canCnt l.table 0x24) s u ∧ bitAt u 0x04000008 3 = true) ∧
          (∀ f, hit = some f → f.2.2.owner ≠ l.owner → f.2.2.isStatic = false → 0 < eventRoom s →
            TablePut s u l.table f.1 f.2.1 { f.2.2 with
              result := BitVec.ofNat 96 (withBits f.2.2.result.toNat 63 48 (bits l.result.toNat 63 48))
              owner := l.owner, stamp := x.now } ∧
            Counted (canCnt l.table 0x14) s u ∧ u.can.events.length = s.can.events.length + 1) ∧
          (hit = none → hbmAvail s = true → free ≠ [] → 0 < eventRoom s →
            Counted (canCnt l.table 0x10) s u ∧ u.can.events.length = s.can.events.length + 1 ∧
            ∃ p ∈ free, TablePut s u l.table false p
              { key := l.key, result := l.result, stamp := x.now, learned := true, owner := l.owner, finger := (canShape s l.table).finger l.key }))) ∧
    (∀ (t : Fin 16) (k : Fin 2) (v : Word), Completes (.canTblWrite (BitVec.ofNat 32 (canR t (4 * k))) v) s (fun u =>
      let a := canR t (4 * k)
      let w : Word := v &&& (if k.val = 0 then 0xFF000003 else 0x07FF01FF)
      let change := if k.val = 0 then (w &&& 0x60000003) != (reg s a &&& 0x60000003) else w != reg s a
      let also := fun (j : Nat) => j == t.val && k.val == 1
      let bad := decide (256 < canUnits (setReg a w s) false also) || decide (1024 < canUnits (setReg a w s) true also)
      let late := !bad && change && canOnT s t
      (∀ j, j ≠ t.val → canTable u j = canTable s j) ∧
      (bad = true → TablesKept s u ∧ reg u a = reg s a ∧ bitAt u 0x04000008 7 = true) ∧
      (late = true → u = s) ∧
      (bad = false → late = false → reg u a = w ∧ (change = false → TablesKept s u) ∧
        (change = true → canTable u t = { canTable s t with on := [], hbm := [] })))) ∧
    ∀ (path : Path), Completes (.evtPopRead path) s (fun u => TablesKept s u ∧
      let named := bitAt s 0x04000010 31 == (path != .xt)
      u.can.events = (if named then s.can.events.tail else s.can.events) ∧
      u.sent = s.sent ++ [.data path [BitVec.ofNat 32 (if named then (s.can.events.headD []).getD 0 0 else 0)]])

/-- Canopy's rings, walks, flush and aging (R303 to R307, R311 to R313). Where the spec leaves a point open, what is stated is the
model's choice: log entries 82 to 96 and 192. -/
def Obligations.RingWalks : Prop :=
  (∀ (s : State), coreOn s = true →
    (∀ (r : Fin 8) (v : Word), Completes (.ringProdWrite r v) s (fun u => TablesKept s u ∧
      let fewer := decide ((v.toNat % 1024 + 1024 - regN s (ringConsR r)) % 1024 < ringWaiting s r)
      u.can.wrRej = fewer ∧ regN u (ringProdR r) = (if fewer then regN s (ringProdR r) else v.toNat % 1024) ∧
      (fewer = true → bitAt u 0x04000008 6 = true ∧ regN u (ringConsR r) = regN s (ringConsR r)))) ∧
    (∀ (r : Fin 8) (off : Fin 16384) (v : Word), Completes (.descriptorWrite r off v) s (fun u => TablesKept s u ∧
      let pending := decide ((off / 16 + 1024 - regN s (ringConsR r)) % 1024 < ringWaiting s r)
      u.can.wrRej = pending ∧ reg u (descR r 0 0 + 4 * off) = (if pending then reg s (descR r 0 0 + 4 * off) else v) ∧
      (pending = false → RegsOnly (· == descR r 0 0 + 4 * off) s u))) ∧
    (∀ (h : Fin 8), Completes (.walkHandleTimeout h) s (fun u =>
      let late := s.can.walks.has h && decide ((s.can.walks.look noWalk h).used + 80000000000 ≤ coreNow s)
      (late = false → u = s) ∧
      (late = true → u.can = { s.can with walks := s.can.walks.drop h } ∧ bitAt u 0x04000008 5 = true))) ∧
    Completes .flushSweepDone s (fun u => (s.can.flush = none → u = s) ∧
      ∀ f, s.can.flush = some f → u.can.flush = none ∧ (∀ k, k ≠ f.table → canTable u k = canTable s k) ∧
        (canTable u f.table).on = ((canTable s f.table).on.filter fun y => !flushHides s f.table y.2.owner y.2.isStatic) ∧
        (canTable u f.table).hbm = ((canTable s f.table).hbm.filter fun y => !flushHides s f.table y.2.owner y.2.isStatic)) ∧
    (∀ (t : Fin 16), Completes (.ageClockTick t) s (fun u =>
      let start := max (canTable s t).tickAt s.can.ageFrom
      let k := (s.uptime - start) / ageTicks s t
      (s.uptime < start + ageTicks s t → u = s) ∧
      (start + ageTicks s t ≤ s.uptime → (canTable u t).now = ((canTable s t).now + k) % 65536 ∧
        (canTable u t).tickAt = start + k * ageTicks s t ∧
        (canTable u t).on = (canTable s t).on ∧ (canTable u t).hbm = (canTable s t).hbm ∧ Only [.can] s u ∧
        ∀ k, k ≠ t.val → canTable u k = canTable s k))) ∧
    ∀ (t : Fin 16), Completes (.ageScannerBucket t) s (fun u =>
      let c := canShape s t
      (bitAt s (canR t 0) 24 = false ∨ allBuckets c = 0 → u = s) ∧ (∀ k, k ≠ t.val → canTable u k = canTable s k) ∧
      (∀ h p e, (canTable s t).atPos h p = some e → e.isStatic = true ∨ (canTable s t).age e < ageLimit s t →
        (canTable u t).atPos h p = some e) ∧
      (bitAt s (canR t 0) 24 = true → hbmAvail s = true → (canTable s t).auto < allBuckets c →
        u.can.events.length = s.can.events.length + min (eventRoom s) (dueIn s t (bucketAt c (canTable s t).auto)).length))) ∧
  ∀ (s : State) (r : Fin 8) (d : Nat),
    let c := commandOf s r d
    (RingDue s r d 3 → c.flags % 2 = 1 → c.table ≠ 16 → keyBad s c = true →
      Completes (.walkStart r) s (fun u => RingEnded s u r d 3 false false 0 ∧ CanKept s u)) ∧
    (RingDue s r d 3 → c.flags % 2 = 1 → c.table = 16 ∨ keyBad s c = false → walkReads s c.table = true →
      Completes (.walkStart r) s (fun u => TablesKept s u ∧
        ((∀ h, h < 8 → s.can.walks.has h = true) → RingEnded s u r d 1 false false 0 ∧ u.can.walks = s.can.walks) ∧
        ((∃ h, h < 8 ∧ s.can.walks.has h = false) → dmaOk c.outTgt s = false →
          RingEnded s u r d 9 false false 0 ∧ u.can.walks = s.can.walks) ∧
        ((∃ h, h < 8 ∧ s.can.walks.has h = false) → dmaOk c.outTgt s = true →
          ∃ h b n, h < 8 ∧ s.can.walks.has h = false ∧ n ≤ c.count ∧ RingEnded s u r d 0 false b n ∧
            fld u (descR r d 2) 23 16 = h ∧ u.can.walks.has h = true))) ∧
    (RingDue s r d 4 → Completes (.next r) s (fun u => TablesKept s u ∧
      let w := s.can.walks.look noWalk c.handle
      (s.can.walks.has c.handle = false → RingEnded s u r d 5 false false 0 ∧ CanKept s u) ∧
      (s.can.walks.has c.handle = true → w.lost = true → RingEnded s u r d 0xA false false 0 ∧
        u.can = { s.can with walks := s.can.walks.drop c.handle, lastRing := u.can.lastRing } ∧ bitAt u 0x04000008 5 = true) ∧
      (s.can.walks.has c.handle = true → w.lost = false → walkReads s w.table = true → dmaOk c.outTgt s = true →
        ∃ b n, n ≤ c.count ∧ RingEnded s u r d 0 false b n ∧
          (c.flags.testBit 0 = true → u.can.walks = s.can.walks.drop c.handle)))) ∧
    (RingDue s r d 5 → Completes (.flushPort r) s (fun u => TablesKept s u ∧
      (c.table = 16 → RingEnded s u r d 3 false false 0 ∧ CanKept s u) ∧
      (c.table ≠ 16 → sweepReads s c.table = true → Only [.can] s u ∧
        u.can = { s.can with flush := some ⟨c.ring, c.table, c.owner, c.mask, c.flags.testBit 0⟩ }))) ∧
    (RingDue s r d 6 → Completes (.ageScan r) s (fun u => (∀ k, k ≠ c.table → canTable u k = canTable s k) ∧
      (c.table = 16 → RingEnded s u r d 3 false false 0 ∧ CanKept s u) ∧
      (c.table ≠ 16 → (∀ h p e, (canTable s c.table).atPos h p = some e →
          c.flags.testBit 0 = true ∨ e.isStatic = true ∨ (canTable s c.table).age e < ageLimit s c.table →
          (canTable u c.table).atPos h p = some e) ∧
        (sweepReads s c.table = true → s.can.scan = none → 8 * c.count ≤ eventRoom s →
          u.can.scan = none ∧ ∃ n, n ≤ 8 * c.count ∧ RingEnded s u r d 0 false false n))))

/-- The prefix TCAM (R314 to R319). Where the spec leaves a point open, what is stated is the
model's choice: log entries 82 to 96 and 192. -/
def Obligations.PrefixTcam : Prop :=
  (∀ (s : State) (r : Fin 8) (d : Nat),
    let c := commandOf s r d
    let p := ringPrefix c
    c.table = 16 →
    (RingDue s r d 1 → Completes (.insert r) s (fun u =>
      (prefixBad p = true → RingEnded s u r d 3 false false 0 ∧ CanKept s u) ∧
      (prefixBad p = false → (findPrefix s p).isSome = true → RingEnded s u r d 0 true false 0 ∧ u.can.caches = [] ∧
        Counted 0x04103024 s u) ∧
      (prefixBad p = false → findPrefix s p = none → placeAll s p (prefixBanks s p) = none →
        RingEnded s u r d 4 false false 0 ∧ CanKept s u ∧ bitAt u 0x04100008 1 = true) ∧
      ∀ l, prefixBad p = false → findPrefix s p = none → placeAll s p (prefixBanks s p) = some l →
        RingEnded s u r d 0 false false 0 ∧ u.can.caches = [] ∧ Counted 0x04103024 s u ∧
        (∀ x ∈ l, placeInBank (bankOf s x.1) p = some x.2 ∧ bankOf u x.1 = x.2) ∧
        ∀ b, b ∉ prefixBanks s p → bankOf u b = bankOf s b)) ∧
    (RingDue s r d 2 → Completes (.delete r) s (fun u =>
      (prefixBad p = true → RingEnded s u r d 3 false false 0 ∧ CanKept s u) ∧
      (prefixBad p = false → findPrefix s p = none → RingEnded s u r d 5 false false 0 ∧ CanKept s u) ∧
      (prefixBad p = false → (findPrefix s p).isSome = true → RingEnded s u r d 0 false false 0 ∧ u.can.caches = [] ∧
        Counted 0x04103024 s u ∧ ∀ b, bankOf u b = dropPrefix p (bankOf s b)))) ∧
    (RingDue s r d 3 → c.flags % 4 = 0 → Completes (.search r) s (fun u => CanKept s u ∧
      (prefixBad p = true → RingEnded s u r d 3 false false 0) ∧
      (prefixBad p = false → findPrefix s p = none → RingEnded s u r d 5 false false 0) ∧
      ∀ q, prefixBad p = false → findPrefix s p = some q → RingEnded s u r d 0 false false 0 ∧
        regN u (descR r d 8) = q.result.toNat / 2 ^ 64 ∧ regN u (descR r d 10) = q.result.toNat % 2 ^ 32)) ∧
    (RingDue s r d 3 → c.flags % 4 = 2 → Completes (.searchLpm r) s (fun u => CanKept s u ∧
      let m := bankMatch (bankOf s (steerBank s c.v6 (steerValue c.v6 p.addr))) c.v6 c.owner p.addr
      (2 ^ addrWidth c.v6 ≤ p.addr → RingEnded s u r d 3 false false 0) ∧
      (p.addr < 2 ^ addrWidth c.v6 → m = none → RingEnded s u r d 5 false false 0) ∧
      ∀ q, p.addr < 2 ^ addrWidth c.v6 → m = some q → RingEnded s u r d 0 false false 0 ∧
        fld u (descR r d 2) 31 24 = q.len % 256 ∧ regN u (descR r d 8) = q.result.toNat / 2 ^ 64 ∧
        regN u (descR r d 10) = q.result.toNat % 2 ^ 32)) ∧
    (RingDue s r d 7 →
      let v := c.key.getD 3 0
      let bad := decide (4096 ≤ v) || (c.key.take 3).any (· != 0)
      let old := steerBank s c.v6 v
      let held := ((heads (bankOf s old)).map Prod.snd).filter fun q => q.v6 == c.v6 && (coveredValues q).contains v
      let placed := (held.filter fun q => !((heads (bankOf s c.bank)).any fun y => y.2.same q)).foldl
        (fun (x : Option TcamBank) q => x.bind fun b => placeInBank b q) (some (bankOf s c.bank))
      (bad = true → ∃ u, Sys2Proof.Machine.exec (.steer r) s = .next u ∧ RingEnded s u r d 3 false false 0 ∧ CanKept s u) ∧
      (bad = false → old = c.bank →
        ∃ u, Sys2Proof.Machine.exec (.steer r) s = .next u ∧ RingEnded s u r d 0 false false 0 ∧ CanKept s u) ∧
      (bad = false → old ≠ c.bank → placed = none → ∃ u, Sys2Proof.Machine.exec (.steer r) s = .next u ∧
        RingEnded s u r d 4 false false 0 ∧ CanKept s u ∧ bitAt u 0x04100008 1 = true ∧
        ∀ f (k : Fin 4096), steerBank u f k = steerBank s f k) ∧
      ∀ b, bad = false → old ≠ c.bank → placed = some b → ∃ u, Sys2Proof.Machine.exec (.steer r) s = .next u ∧
        RingEnded s u r d 0 false false 0 ∧ u.can.caches = [] ∧ Counted 0x04103024 s u ∧ steerBank u c.v6 v = c.bank ∧
        bankOf u c.bank = b ∧ (∀ f (k : Fin 4096), (f, k.val) ≠ (c.v6, v) → steerBank u f k = steerBank s f k) ∧
        ∀ k, k ≠ c.bank → k ≠ old → bankOf u k = bankOf s k)) ∧
  ∀ (s : State), coreOn s = true →
    (∀ (v6 : Bool) (k : Fin 1024) (v : Word), Completes (.steerRegWrite v6 k v) s (fun u =>
      let a := (if v6 then 0x04102000 else 0x04101000) + 4 * k
      u.can = { s.can with tcamRej := tcamOn s } ∧ reg u a = (if tcamOn s then reg s a else v &&& 0x3F3F3F3F) ∧
      (tcamOn s = true → bitAt u 0x04100008 2 = true) ∧ (tcamOn s = false → RegsOnly (· == a) s u))) ∧
    Completes .skewWindow s (fun u =>
      let late := s.can.window.any fun x => decide (total (s.can.window.map Prod.snd) < 8 * x.2)
      (s.uptime < s.can.windowFrom + 25 → u = s) ∧
      (s.can.windowFrom + 25 ≤ s.uptime → u.can = { s.can with window := [], windowFrom := s.uptime } ∧
        (late = false → Only [.can] s u) ∧ (late = true → bitAt u 0x04100008 0 = true ∧ Counted 0x04103020 s u)))

/-! ## Buffer manager (ch. 12) -/

/-- No frame waits before a pipeline, so that none is taken when a pipeline comes free (R226, R266). -/
def PipesQuiet (s : State) : Prop := (∀ b, b < 32 → fifoOf s b = []) ∧ s.shrOut = []

/-- A new frame of the processor path as the buffer manager takes it: its owner is CPU_OWNER (R323). -/
def CpuStored (s : State) (f : CpuFrame) : Stored :=
  { bytes := f.bytes, owner := fld s 0x05000024 8 0, pool := 0, hbm := false, queue := 0, gran := 0, refs := 0, tsTag := f.tag.map (·.toNat) }

/-- Waiting for cells (R332, R333). Where the spec leaves a point open, what is stated is the
model's choice: log entries 97 to 103 and 193. -/
def Obligations.BufferCells : Prop :=
  (∀ (s : State) (k : Fin 64) (w : Waiting), coreOn s = true → PipesQuiet s → s.buf.cpu = [] → s.buf.waiting = [w] →
    w.frame.pool = k → w.requester < 21 → Completes (.cellRequest ⟨k, none⟩) s (fun u =>
      let lacks := pagesMissing s w.frame
      let free := if w.frame.hbm then (if lacks = [] then pagesFit s w.frame else decide (0 < pagesFree s w.frame))
        else decide (0 < cellsFree s w.frame.owner 1)
      let stored := free && (if w.frame.hbm then decide (lacks.length ≤ 1) else decide (w.got + 1 = cellsOf w.frame))
      (free = false → u.buf.waiting = [w] ∧ u.buf.frames = s.buf.frames ∧ u.buf.rotation = s.buf.rotation) ∧
      (free = true → stored = false → u.buf.frames = s.buf.frames ∧ u.buf.waiting =
        [if w.frame.hbm then { w with pages := w.pages ++ lacks.take 1 } else { w with got := w.got + 1 }]) ∧
      (stored = true → u.buf.waiting = [] ∧ u.buf.nextFrame = s.buf.nextFrame + 1 ∧
        frameOf u s.buf.nextFrame = some { w.frame with refs := w.queues.length, staged := w.frame.hbm }) ∧
      (free = true → (if w.frame.hbm then lacks ≠ [] else ownRsv s w.frame.owner ≤ ownUse s w.frame.owner) →
        u.buf.rotation.look 0 k = (w.requester + 1) % 21))) ∧
  (∀ (s : State) (k : Fin 64) (f : CpuFrame), coreOn s = true → PipesQuiet s →
    (∀ w, s.buf.waiting = [w] → w.requester = 20 → w.frame.pool ≠ k → Completes (.cellRequest ⟨k, some f⟩) s (fun u =>
      u.buf.cpu = s.buf.cpu ++ [(CpuStored s f, 65536 + f.queue.val)] ∧ u.buf.waiting = [w] ∧ u.buf.frames = s.buf.frames)) ∧
    (s.buf.cpu = [] → s.buf.waiting = [] → tierOf s (some (65536 + f.queue.val)) (CpuStored s f).owner = some false →
      cellsOf (CpuStored s f) ≤ cellsFree s (CpuStored s f).owner (cellsOf (CpuStored s f)) →
      Completes (.cellRequest ⟨k, some f⟩) s (fun u => u.buf.waiting = [] ∧ u.buf.cpu = [] ∧
        u.buf.nextFrame = s.buf.nextFrame + 1 ∧ frameOf u s.buf.nextFrame = some { CpuStored s f with
          pool := ownPool s (CpuStored s f).owner, queue := 65536 + f.queue.val, refs := 1 }))) ∧
  ∀ (s : State) (k : Fin 64) (r : Fin 21), coreOn s = true →
    ((∀ w ∈ s.buf.waiting, w.requester ≠ r ∨ w.frame.pool ≠ k) → Completes (.cellWaitExpiry k r) s (fun u => u = s)) ∧
    ∀ (w : Waiting), s.buf.waiting = [w] → w.requester = r → w.frame.pool = k → PipesQuiet s → s.buf.cpu = [] →
      Completes (.cellWaitExpiry k r) s (fun u =>
        (coreNow s < w.since + 80 * fld s (poolR k 0) 15 0 → u = s) ∧
        (w.since + 80 * fld s (poolR k 0) 15 0 ≤ coreNow s → u.buf.waiting = [] ∧ u.buf.frames = s.buf.frames ∧
          Counted 0x05000830 s u ∧ reg64 u (0x05000A00 + 8 * k) = min (reg64 s (0x05000A00 + 8 * k) + 1) (2 ^ 64 - 1) ∧
          bitAt u 0x05000010 2 = true))

/-- The buffer manager's commands (R324, R335, R338, R340, R476). Where the spec leaves a point open, what is stated is the
model's choice: log entries 97 to 103 and 193. -/
def Obligations.BufferCommands : Prop :=
  ∀ (s : State), coreOn s = true →
    (∀ (addr v : Word), isLimit addr.toNat = true → bufMask addr.toNat ≠ 0 → Completes (.bufLimitWrite addr v) s (fun u =>
      let a := addr.toNat
      let s1 := setReg a (v &&& bufMask a) s
      let ok := if a = 0x05000020 then decide (bits v.toNat 31 24 + bits v.toNat 23 16 + bits v.toNat 15 8 + bits v.toNat 7 0 ≤ 100)
        else decide (cellsPlanned s1 ≤ 786432) && decide (pagesPlanned s1 ≤ 25165824)
      u.buf.frames = s.buf.frames ∧ u.buf.queues = s.buf.queues ∧ u.buf.waiting = s.buf.waiting ∧
      (ok = true → reg u a = v &&& bufMask a ∧ (s.buf.rejBy = a → bitAt u 0x05000004 29 = false)) ∧
      (ok = false → reg u a = reg s a ∧ bitAt u 0x05000004 29 = true ∧ u.buf.rejBy = a ∧ bitAt u 0x05000010 9 = true))) ∧
    (∀ (q : Nat), Completes (.qflush q) s (fun u => u.buf.frames = s.buf.frames ∧
      (s.buf.flush.isSome = true → u.buf = { s.buf with rejBy := 0x05000030 } ∧ bitAt u 0x05000004 29 = true ∧ bitAt u 0x05000010 9 = true) ∧
      (s.buf.flush = none → 67584 ≤ q → u = s) ∧
      (s.buf.flush = none → q < 67584 → u.buf.flush = some (queueOf s q).frames ∧ (queueOf u q).frames = [] ∧
        (queueOf u q).deficit = 0 ∧ ∀ k, k ≠ q → queueOf u k = queueOf s k))) ∧
    Completes .qflushDone s (fun u => u.buf.queues = s.buf.queues ∧ (s.buf.flush = none → u = s) ∧
      ∀ l, s.buf.flush = some l → u.buf.flush = none ∧ bitAt u 0x05000010 8 = true ∧
        reg64 u 0x05000820 = min (reg64 s 0x05000820 + l.length) (2 ^ 64 - 1) ∧
        (∀ n f, n ∉ l → frameOf s n = some f → frameOf u n = some f) ∧
        (∀ n f, l.Nodup → n ∈ l → frameOf s n = some f → 1 < f.refs → frameOf u n = some { f with refs := f.refs - 1 })) ∧
    (∀ n damaged, Completes (.bufferReadComplete n damaged) s (fun u => u.buf.queues = s.buf.queues ∧
      (readingPort s n = none → damaged = false ∨ inEgress s n = false → u = s) ∧
      (∀ f, readingPort s n = none → damaged = true → inEgress s n = true → frameOf s n = some f → f.damaged = false →
        frameOf u n = some { f with damaged := true }) ∧
      (∀ f, damaged = true → (readingPort s n).isSome = true ∨ inEgress s n = true → frameOf s n = some f → f.damaged = false →
        Counted 0x05000840 s u ∧ bitAt u 0x05000010 6 = true) ∧
      (∀ p, readingPort s n = some p → PortKeep p s u ∧ (damaged = false → (∀ f, frameOf s n = some f → f.damaged = false) →
        (s.faults.restoring.any fun x => x.1 == 0xB) = false ∨ freeBit s = false → u.buf = s.buf)))) ∧
    Completes .spillWriteComplete s (fun u => Only [.buf] s u ∧
      (hbmAvail s = false ∨ (∀ x ∈ s.buf.frames, x.2.staged = false) → u = s) ∧
      ∀ n f, hbmAvail s = true → s.buf.frames.find? (fun x => x.2.staged) = some (n, f) →
        u.buf = { s.buf with frames := s.buf.frames.put n { f with staged := false } }) ∧
    Completes .bufferAudit s (fun u =>
      let n := total (s.faults.withheld.map Prod.snd)
      let due := n != 0 && (s.faults.auditAt == 0 || decide (s.faults.auditAt + 250000000 ≤ s.uptime))
      (due = false → u = s) ∧
      (due = true → u.faults.withheld = [] ∧ u.faults.auditAt = s.uptime ∧ regN u 0x05000048 = 0 ∧
        regN u 0x5110 = min (regN s 0x5110 + n) (2 ^ 32 - 1)))

/-! ## Scheduler (ch. 13) -/

/-- Queue q has moved from its round to the tail of another, with deficit 0 and fresh set, keeping its frames (R345, R348). -/
def QueueMoved (s u : State) (q : Nat) : Prop :=
  (queueOf u q).frames = (queueOf s q).frames ∧ (queueOf u q).deficit = 0 ∧ (queueOf u q).fresh = true ∧
  q ∉ roundOf u (roundKey s q) ∧ (∀ k, k ≠ q → queueOf u k = queueOf s k) ∧
  ((queueOf s q).frames ≠ [] → (roundOf u (roundKey u q)).getLast? = some q)

/-- Queues, refill and gates (R345, R348, R352, R358, R361). Where the spec leaves a point open, what is stated is the
model's choice: log entries 97 to 103 and 193. -/
def Obligations.SchedulerQueues : Prop :=
  ∀ (s : State), coreOn s = true →
    (∀ (q : Fin 65536) (ctx : BitVec 12), Completes (.qCtxWrite q ctx) s (fun u =>
      (queueCtx s q = ctx.toNat → u = s) ∧
      (queueCtx s q ≠ ctx.toNat → queueCtx u q = ctx.toNat ∧ QueueMoved s u q ∧ RegsOnly (· == schQueueR q + 4) s u ∧
        Only [.regs, .buf] s u))) ∧
    (∀ (down : Bool) (n : Fin 65536) (v : Word), Completes (.qLevelWrite down n v) s (fun u =>
      let q := if down then 65536 + n.val else n.val
      (down = true → 2048 ≤ n.val → u = s) ∧
      (down = false ∨ n.val < 2048 → reg u (schQueueR q) = v &&& 0xBFFFFFFF ∧ RegsOnly (· == schQueueR q) s u ∧
        (queueLevel s q = bits v.toNat 15 13 → Only [.regs] s u) ∧
        (queueLevel s q ≠ bits v.toNat 15 13 → QueueMoved s u q ∧ Only [.regs, .buf] s u)))) ∧
    (s.time.frc < 8000 * (s.sch.refills + 1) → Sys2Proof.Machine.exec .shaperRefillTick s = .next s) ∧
    (8000 * (s.sch.refills + 1) ≤ s.time.frc → Completes .shaperRefillTick s (fun u => Only [.sch] s u ∧
      u.sch.refills = s.sch.refills + 1 ∧
      (∀ k,
        let x := shaperOf s k
        let y := shaperOf u k
        let gain := x.part.val + 512 * x.rate
        y.en = x.en ∧ y.rate = x.rate ∧ y.burst = x.burst ∧ y.adj = x.adj ∧ (x.en = false → y = x) ∧
        (x.en = true → x.credit + (gain / 625 : Nat) < 65536 * (x.burst : Int) →
          y.credit = x.credit + (gain / 625 : Nat) ∧ y.part.val = gain % 625) ∧
        (x.en = true → 65536 * (x.burst : Int) ≤ x.credit + (gain / 625 : Nat) → y.credit = max x.credit (65536 * (x.burst : Int)))) ∧
      ∀ k,
        let m := meterOf s k
        (m.mode = 0 → meterOf u k = m) ∧ (meterOf u k).cfg = m.cfg ∧
        (m.mode ≠ 0 → (meterOf u k).tc = min (m.tc + (m.tcPart.val + 512 * m.word 1) / 625) (max m.tc (65536 * m.cbs))))) ∧
    (∀ (l : Fin 64), Completes (.glChangeEffect l) s (fun u =>
      (s.sch.change.look none l = none → u = s) ∧
      ∀ ct x, s.sch.change.look none l = some (ct, x) →
        (ct ≠ 0 → timeHeld s = false ∨ readNs s < (ct : Int) → u = s) ∧
        (ct = 0 ∨ (timeHeld s = true ∧ (ct : Int) ≤ readNs s) → operList u l = x ∧ u.sch.change.look none l = none ∧ bitAt u 0x06000008 2 = true ∧
          ∀ k : Nat, k ≠ l.val → operList u k = operList s k))) ∧
    ∀ (l : Fin 64), Completes (.gateTransition l) s (fun u => Only [.sch] s u ∧ (glRunning s l = false → u = s) ∧
      ∀ g k, glRunning s l = true → (operList s l).cycle ≠ 0 →
        entryAt (operList s l).entries ((readNs s - (operList s l).base).toNat % (operList s l).cycle) 0 = some (g, k) →
        u.sch = { s.sch with cur := s.sch.cur.put l k })

/-- The command in progress has ended with a status (R364). -/
def SchEnded (u : State) (code : Nat) : Prop :=
  u.sch.cmd = none ∧ fld u 0x06000014 25 18 = code ∧ bitAt u 0x06000008 0 = true ∧ (code ≠ 0 → bitAt u 0x06000008 1 = true)

/-- The scheduler's commands with their opcodes (R364). -/
def SchCommand (c : Instr) (op : Nat) : Prop :=
  (c = .meterSet ∧ op = 0) ∨ (c = .meterRead ∧ op = 1) ∨ (c = .meterClr ∧ op = 2) ∨ (c = .shaperSet ∧ op = 3) ∨
  (c = .shaperRead ∧ op = 4) ∨ (c = .glChange ∧ op = 5) ∨ (c = .glCancel ∧ op = 6)

/-- The scheduler's commands (R353, R357, R361, R364). Where the spec leaves a point open, what is stated is the
model's choice: log entries 97 to 103 and 193. -/
def Obligations.SchedulerCommands : Prop :=
  ∀ (s : State), coreOn s = true →
    (∀ (v : Word), Completes (.schCmdGo v) s (fun u =>
      (s.sch.cmd.isSome = true → u.sch = s.sch ∧ bitAt u 0x06000014 30 = true ∧ bitAt u 0x06000008 1 = true) ∧
      (s.sch.cmd = none → v.getLsbD 31 = false → u = s) ∧
      (s.sch.cmd = none → v.getLsbD 31 = true → bitAt u 0x06000014 30 = false ∧
        (cmdOp v ≤ 6 → u.sch = { s.sch with cmd := some v } ∧ Only [.regs, .sch] s u) ∧ (6 < cmdOp v → SchEnded u 3)))) ∧
    (∀ (v : Word), Completes (.schCmdOverrun v) s (fun u => u.sch = s.sch ∧ (s.sch.cmd = none → u = s) ∧
      (s.sch.cmd.isSome = true → bitAt u 0x06000014 30 = true ∧ bitAt u 0x06000008 1 = true))) ∧
    (∀ c op, SchCommand c op → (∀ w, s.sch.cmd = some w → cmdOp w ≠ op) → exec c s = .next s) ∧
    ∀ (w : Word), s.sch.cmd = some w →
      let k := cmdIndex w
      (cmdOp w = 0 → Completes .meterSet s (fun u =>
        let mode := bits (stage s 0) 31 30
        let bad := (mode == 2 && decide (stage s 2 < stage s 1)) || (mode == 1 && stage s 2 != 0)
        (∀ j, j ≠ k → meterOf u j = meterOf s j) ∧ (bad = true → SchEnded u 3 ∧ meterOf u k = meterOf s k) ∧
        (bad = false → SchEnded u 0 ∧ (meterOf u k).mode = mode ∧ (meterOf u k).word 1 = stage s 1 ∧ (meterOf u k).word 2 = stage s 2 ∧
          (meterOf u k).cbs = bits (stage s 3) 23 0 ∧ (meterOf u k).ebs = bits (stage s 4) 23 0 ∧
          (meterOf u k).tc = 65536 * bits (stage s 3) 23 0 ∧ (meterOf u k).te = 65536 * bits (stage s 4) 23 0))) ∧
      (cmdOp w = 1 → Completes .meterRead s (fun u => SchEnded u 0 ∧ u.sch.meters = s.sch.meters ∧
        (∀ i, i < 5 → stage u i = (meterOf s k).word i) ∧ stage u 5 = (meterOf s k).tc / 65536 % 2 ^ 32 ∧
        stage u 6 = (meterOf s k).te / 65536 % 2 ^ 32 ∧ reg64 u (stageR 7) = (meterOf s k).green % 2 ^ 64 ∧
        reg64 u (stageR 9) = (meterOf s k).yellow % 2 ^ 64 ∧ reg64 u (stageR 11) = (meterOf s k).red % 2 ^ 64)) ∧
      (cmdOp w = 2 → Completes .meterClr s (fun u => SchEnded u 0 ∧ (∀ j, j ≠ k → meterOf u j = meterOf s j) ∧
        meterOf u k = { meterOf s k with green := 0, yellow := 0, red := 0 })) ∧
      (cmdOp w = 3 → Completes .shaperSet s (fun u =>
        let en := (reg s (stageR 0)).getLsbD 31
        let cap : Int := 65536 * (bits (stage s 2) 23 0 : Nat)
        let x := shaperOf s k
        (∀ j, j ≠ k → shaperOf u j = shaperOf s j) ∧ (16384 ≤ k → SchEnded u 3 ∧ shaperOf u k = x) ∧
        (k < 16384 → SchEnded u 0 ∧ (shaperOf u k).en = en ∧ (shaperOf u k).rate = stage s 1 ∧
          (shaperOf u k).burst = bits (stage s 2) 23 0 ∧
          (en = true → x.en = false → (shaperOf u k).credit = 0) ∧
          (en = false ∨ x.en = true → x.credit < 0 → (shaperOf u k).credit = if w.getLsbD 30 then 0 else x.credit) ∧
          (en = false ∨ x.en = true → 0 ≤ x.credit → (shaperOf u k).credit = min x.credit cap)))) ∧
      (cmdOp w = 4 → Completes .shaperRead s (fun u => u.sch.shapers = s.sch.shapers ∧ (16384 ≤ k → SchEnded u 3) ∧
        (k < 16384 → SchEnded u 0 ∧ stage u 1 = (shaperOf s k).rate % 2 ^ 32 ∧ stage u 2 = (shaperOf s k).burst % 2 ^ 32 ∧
          stage u 3 = ((shaperOf s k).credit / 65536 % 2 ^ 32).toNat ∧ stage u 4 = ((shaperOf s k).credit % 65536).toNat ∧
          (reg u (stageR 0)).getLsbD 31 = (shaperOf s k).en))) ∧
      (cmdOp w = 5 → Completes .glChange s (fun u =>
        let x := adminList s k
        let ct := nsAt s (listR k 0x1C) (listR k 0x20)
        let busy := (s.sch.change.look none k).isSome
        let bad := decide (x.cycle < 1000) || decide (1000000000 < x.cycle) || x.entries.any (fun e => decide (e.2 < 8)) ||
          (ct != 0 && (!timeHeld s || decide (65536 * (ct : Int) < readNow s + 655360000)))
        (64 ≤ k → SchEnded u 3) ∧ (k < 64 → busy = true → SchEnded u 1) ∧ (k < 64 → busy = false → bad = true → SchEnded u 3) ∧
        (k < 64 → busy = false → bad = false → SchEnded u 0 ∧ u.sch = { s.sch with cmd := none, change := s.sch.change.put k (some (ct, x)) }) ∧
        (64 ≤ k ∨ busy = true ∨ bad = true → u.sch = { s.sch with cmd := none } ∧ bitAt u 0x06000008 3 = true))) ∧
      (cmdOp w = 6 → Completes .glCancel s (fun u =>
        let pend := stillPending s k
        (64 ≤ k → SchEnded u 3) ∧ (k < 64 → pend = false → SchEnded u 5) ∧
        (64 ≤ k ∨ s.sch.change.look none k = none → u.sch = { s.sch with cmd := none }) ∧
        (∀ ct x, k < 64 → s.sch.change.look none k = some (ct, x) → ct ≠ 0 → timeHeld s = true → (ct : Int) ≤ readNs s →
          SchEnded u 5 ∧ operList u k = x ∧ u.sch.change.look none k = none ∧ bitAt u 0x06000008 2 = true) ∧
        (k < 64 → pend = true → SchEnded u 0 ∧ u.sch = { s.sch with cmd := none, change := s.sch.change.put k none })))

/-! ## Shroud (ch. 14) -/

/-- No envelope of port p has been delivered, and no replay window moved (R370 to R372). -/
def NotDelivered (s u : State) (p : Nat) : Prop :=
  (portKeys u p).windows = (portKeys s p).windows ∧ u.shrOut = s.shrOut ∧ u.tsi = s.tsi

/-- Downstream envelopes and key epochs (R57 to R61, R370 to R372, R379, R380). Where the spec leaves a point open, what is stated is the
model's choice: log entries 104 to 111 and 204 and 208 and 225 to 226. -/
def Obligations.ShroudTraffic : Prop :=
  (∀ (s : State) (p : Fin 16) (got : Nat), coreOn s = true → Completes (.downstreamEnvelope p got) s (fun u =>
    let f := framer s p
    let here := min got f.run.length
    let h := (frontHeader f.run)
    let len := bits h 29 16
    let key := bits h 35 34
    let x := if f.head = none then headerEpoch p (frontFrame f) s else s
    let m := f.head.getD { entry := filterEntry x p (bits h 63 52), key := headerKey x p key (frontFrame f) }
    let pay := slice f.run 8 len
    let seq := ofBytes (slice pay 4 8)
    (framerOn s p = false ∨ f.locked = false → u = s) ∧
    (framerOn s p = true → f.locked = true →
      (f.delin = .hunt → Only [.framers] s u ∧
        (∀ k, 4 * k + 8 ≤ here → envHeaderGood (frontHeader (f.run.drop (4 * k))) = true →
          (∀ j, j < k → envHeaderGood (frontHeader (f.run.drop (4 * j))) = false) →
          (framer u p).delin = .presync ∧ (framer u p).run = f.run.drop (4 * k)) ∧
        ((∀ k, 4 * k + 8 ≤ here → envHeaderGood (frontHeader (f.run.drop (4 * k))) = false) → (framer u p).delin = .hunt)) ∧
      (f.delin = .presync →
        (here < envSize len + 8 → u = s) ∧
        (envSize len + 8 ≤ here → envHeaderGood (frontHeader (f.run.drop (envSize len))) = false →
          u = setFramer p { f with delin := .hunt, run := f.run.drop 4 } s) ∧
        (envSize len + 8 ≤ here → envHeaderGood (frontHeader (f.run.drop (envSize len))) = true →
          Sys2Proof.Machine.exec (.downstreamEnvelope p (got - envSize len))
            (setFramer p { f with delin := .sync, run := f.run.drop (envSize len), head := none } s) = .next u)) ∧
      (f.delin = .sync →
        (here < 8 → u = s) ∧
        (8 ≤ here → envHeaderGood h = false → (framer u p).delin = .hunt ∧ NotDelivered s u p) ∧
        (8 ≤ here → envHeaderGood h = true → here < envSize len → u = setFramer p { f with head := some m } x) ∧
        (envHeaderGood h = true → envSize len ≤ here → 8 ≤ here →
          (len = 0 → reg64 u (trkR p 0x228) = min (reg64 s (trkR p 0x228) + 1) (2 ^ 64 - 1) ∧ NotDelivered x u p) ∧
          (0 < len → m.entry = none →
            reg64 u (trkR p 0x220) = min (reg64 s (trkR p 0x220) + 1) (2 ^ 64 - 1) ∧ NotDelivered x u p) ∧
          (∀ k, 0 < len → m.entry = some k →
            let v2 := (regnOf s p).version == 2
            let none_ := m.key.isNone || (epochOf x p key).isNone || (v2 && decide (2 ≤ key))
            (none_ = true → Counted (trkR p 0x234) s u ∧ NotDelivered x u p) ∧
            (none_ = false → v2 = true → h.testBit 33 = true → Counted (trkR p 0x238) s u ∧ NotDelivered x u p) ∧
            ∀ e, none_ = false → (v2 && h.testBit 33) = false → m.key = some e →
              let same := epochOf x p key = some e
              let w := if same then (portKeys x p).windows.look none (8 * key + k) else none
              let whole := decide (128 ≤ len) && pay.getD 12 0 == 1
              (bitAt s 0x07000000 0 = false → Counted (shrR p 0x10) s u ∧ NotDelivered x u p) ∧
              (bitAt s 0x07000000 0 = true → whole = false → Counted (shrR p 0x18) s u ∧ bitAt u 0x07000008 2 = true ∧
                NotDelivered x u p) ∧
              (bitAt s 0x07000000 0 = true → whole = true → windowPasses w seq = false →
                Counted (shrR p 0x14) s u ∧ bitAt u 0x07000008 1 = true ∧ NotDelivered x u p) ∧
              (bitAt s 0x07000000 0 = true → whole = true → windowPasses w seq = true →
                let ct := slice pay 16 (len - 32)
                let dk := envKey x e key false (bits h 63 52)
                let good := decide (gcmTag dk (pay.take 12) ((toBytes 8 h).take 6 ++ pay.take 16) ct = slice pay (len - 16) 16)
                (good = false → Counted (shrR p 0x10) s u ∧ bitAt u 0x07000008 0 = true ∧ NotDelivered x u p) ∧
                (good = true → bits (ofBytes (slice (gcmText dk (pay.take 12) ct) (len - 128) 2)) 13 0 = len - 128 →
                  h.testBit 33 = true → reg64 u (shrR p 8) = min (reg64 s (shrR p 8) + 1) (2 ^ 64 - 1) ∧
                  (portKeys u p).windows = if same then (portKeys x p).windows.put (8 * key + k) (some (windowAfter w seq))
                    else (portKeys x p).windows)))))))) ∧
  (∀ (s : State) (p : Fin 16) (t : TmmIn) (rest : List TmmIn), coreOn s = true → TmmDue s p 0x09 t rest → inService s p = true →
    Completes (.keyRotate p) s (fun u =>
      let e := tf t.bits 351 350
      let sf := tf t.bits 344 294
      let root := tf t.bits 349 345
      let k := portKeys s p
      let clash := match k.pend with
        | some r => r.epoch != e || decide (sf ≤ r.sf) || r.dn
        | none => false
      let bad := ((regnOf s p).version == 2 && decide (2 ≤ e)) || !frameInReach false s p t sf || k.tx == some e || clash
      (framer u p).queue = rest ∧ (∀ q, q ≠ p.val → portKeys u q = portKeys s q) ∧
      (bad = true → Answered s p t 3 [] u ∧ portKeys u p = k) ∧
      (bad = false → rootFor s root 0 = false → Answered s p t 5 [] u ∧ portKeys u p = k) ∧
      (bad = false → rootFor s root 0 = true →
        let mat : Epoch := { root := root, label := BitVec.ofNat 192 (tf t.bits 293 102) }
        portKeys u p = { k with pend := some { epoch := e, key := mat, sf := sf, dn := false } } ∧
        u.shr.deriv.getLast? = some (.env p true e (ownId s p), some (p.val, t))))) ∧
  ∀ (s : State), coreOn s = true →
    Completes .keyDerived s (fun u => (s.shr.deriv = [] → u = s) ∧
      ∀ k w rest, s.shr.deriv = (k, w) :: rest → u.shr.deriv = rest ∧ u.shr.cache.head? = some k ∧
        reg64 u 0x07002000 = min (reg64 s 0x07002000 + 1) (2 ^ 64 - 1) ∧ ∀ p t, w = some (p, t) → Answered s p t 0 [] u) ∧
    ∀ (p : Fin 16),
      Completes (.epochDownstreamEffect p) s (fun u => (∀ q, q ≠ p.val → portKeys u q = portKeys s q) ∧
        ((portKeys s p).pend = none → u = s) ∧
        ∀ r, (portKeys s p).pend = some r →
          (r.dn = true ∨ (framer s p).e < r.sf → u = s) ∧
          (r.dn = false → r.sf ≤ (framer s p).e → epochOf u p r.epoch = some r.key ∧
            (∀ k, k < 8 → (portKeys u p).windows.look none (8 * r.epoch + k) = none) ∧
            (hasUpstream s p = true → (portKeys u p).pend = some { r with dn := true } ∧ (portKeys u p).tx = (portKeys s p).tx) ∧
            (hasUpstream s p = false → (portKeys u p).pend = none ∧ (portKeys u p).tx = some r.epoch ∧ bitAt u 0x07000008 3 = true))) ∧
      Completes (.epochComplete p) s (fun u => (∀ q, q ≠ p.val → portKeys u q = portKeys s q) ∧
        ((portKeys s p).pend = none → u = s) ∧
        ∀ r, (portKeys s p).pend = some r → (r.dn = false → u = s) ∧
          (r.dn = true → hasUpstream s p = true → lineNow s p < upStart s p r.sf (halEqd s p r.sf) → u = s) ∧
          (r.dn = true → hasUpstream s p = false ∨ upStart s p r.sf (halEqd s p r.sf) ≤ lineNow s p →
            portKeys u p = { portKeys s p with tx := some r.epoch, pend := none } ∧ bitAt u 0x07000008 3 = true))

/-- Descriptor d of job ring r is its next job, of a mode (R383). -/
def JobDue (s : State) (r d mode : Nat) : Prop :=
  coreOn s = true ∧ jobHead s r = some d ∧ fld s (jobR r d 0) 31 28 = mode

/-- Descriptor d of job ring r has ended with a status and a count of output bytes (R383). -/
def JobEnded (s u : State) (r d status out : Nat) : Prop :=
  regN u (jobR r d 1) = 2 ^ 31 + status * 2 ^ 16 ∧ regN u (jobR r d 14) = out ∧ bitAt u 0x07000008 6 = true ∧
  ringPending (fld u (jrProdR r) 7 0) (fld u (jrConsR r) 7 0) 256 < ringPending (fld s (jrProdR r) 7 0) (fld s (jrConsR r) 7 0) 256

/-- The memories are as they were (R303, R383). -/
def MemKept (s u : State) : Prop := u.hostMem = s.hostMem ∧ u.xtMem = s.xtMem

/-- The key of n bytes that a job uses, where it has one (R383, R384). -/
def KeyFor (s : State) (j : Job) (n : Nat) : Option (List Byte) := (jobKey j n s).2

/-- The job engine, root slots and XMSS (R375, R383 to R386, R389 to R391). Where the spec leaves a point open, what is stated is the
model's choice: log entries 104 to 111 and 204 and 208 and 225 to 226. -/
def Obligations.ShroudJobs : Prop :=
  (∀ (s : State) (r : Fin 4), coreOn s = true → ∀ v : Word, Completes (.jrProdWrite r v) s (fun u => MemKept s u ∧
    let c := fld s (jrConsR r) 7 0
    let fewer := decide (ringPending (bits v.toNat 7 0) c 256 < ringPending (fld s (jrProdR r) 7 0) c 256)
    (fewer = true → u = s) ∧ (fewer = false → regN u (jrProdR r) = bits v.toNat 7 0))) ∧
  (∀ (s : State) (r : Fin 4) (d : Nat), s.memOk →
    let j := jobOf s r d
    let reach := !jobFails j s
    let whole := j.first && j.last
    let data := dmaRead j.inTgt j.inAddr j.len s
    (∀ c mode, ((c = .jobGcm r ∧ mode = 1) ∨ (c = .jobCtr r ∧ mode = 2) ∨ (c = .jobCbc r ∧ mode = 3) ∨ (c = .jobXts r ∧ mode = 4)) →
      JobDue s r d mode →
      (reach = false → Completes c s (fun u => JobEnded s u r d 9 0 ∧ MemKept s u)) ∧
      (reach = true → whole = false → 3 ≤ mode ∨ (mode = 1 ∧ j.decrypt = true) →
        Completes c s (fun u => JobEnded s u r d 3 0 ∧ MemKept s u)) ∧
      (reach = true → whole = true → j.len % 16 = 0 → 0 < j.len → mode ≠ 4 → KeyFor s j 32 = none →
        Completes c s (fun u => JobEnded s u r d 5 0 ∧ MemKept s u))) ∧
    (JobDue s r d 1 → reach = true → whole = true → j.decrypt = true → ∀ key, KeyFor s j 32 = some key →
      Completes (.jobGcm r) s (fun u =>
        let good := decide (gcmTag key (j.iv.take 12) (dmaRead j.outTgt (j.aux + 128) j.aadLen s) data = dmaRead j.outTgt (j.aux + 64) 16 s)
        JobEnded s u r d (if good then 0 else 7) j.len ∧
        dmaRead j.outTgt j.outAddr j.len u = if good then gcmText key (j.iv.take 12) data else List.replicate j.len 0)) ∧
    (JobDue s r d 1 → reach = true → whole = true → j.decrypt = false → j.outAddr + j.len ≤ j.aux → ∀ key, KeyFor s j 32 = some key →
      Completes (.jobGcm r) s (fun u => JobEnded s u r d 0 j.len ∧
        dmaRead j.outTgt j.outAddr j.len u = gcmText key (j.iv.take 12) data)) ∧
    (JobDue s r d 2 → reach = true → whole = true → ∀ key, KeyFor s j 32 = some key →
      Completes (.jobCtr r) s (fun u => JobEnded s u r d 0 j.len ∧
        dmaRead j.outTgt j.outAddr j.len u = ctrCrypt key (ofBytes j.iv) data)) ∧
    (JobDue s r d 3 → reach = true → whole = true → j.decrypt = true → j.len = 0 ∨ j.len % 16 ≠ 0 →
      Completes (.jobCbc r) s (fun u => JobEnded s u r d 3 0 ∧ MemKept s u)) ∧
    (JobDue s r d 3 → reach = true → whole = true → ∀ key, KeyFor s j 32 = some key →
      (j.decrypt = true → 0 < j.len → j.len % 16 = 0 → unpadded (cbcDec key (j.len / 16) j.iv data) = none →
        Completes (.jobCbc r) s (fun u => JobEnded s u r d 7 j.len ∧ dmaRead j.outTgt j.outAddr j.len u = List.replicate j.len 0)) ∧
      (∀ n, j.decrypt = true → 0 < j.len → j.len % 16 = 0 → unpadded (cbcDec key (j.len / 16) j.iv data) = some n →
        Completes (.jobCbc r) s (fun u => JobEnded s u r d 0 n)) ∧
      (j.decrypt = false → j.len < 2 ^ 32 - 16 → Completes (.jobCbc r) s (fun u => JobEnded s u r d 0 (16 * (j.len / 16 + 1))))) ∧
    (JobDue s r d 4 → reach = true → whole = true →
      (j.len < 16 → Completes (.jobXts r) s (fun u => JobEnded s u r d 3 0 ∧ MemKept s u)) ∧
      (2 ^ 24 < j.len → Completes (.jobXts r) s (fun u => JobEnded s u r d 8 0 ∧ MemKept s u)) ∧
      (∀ key, 16 ≤ j.len → j.len ≤ 2 ^ 24 → KeyFor s j 64 = some key →
        (key.take 32 = key.drop 32 → Completes (.jobXts r) s (fun u => JobEnded s u r d 3 0 ∧ MemKept s u)) ∧
        (key.take 32 ≠ key.drop 32 → Completes (.jobXts r) s (fun u => JobEnded s u r d 0 j.len))))) ∧
  ∀ (s : State), coreOn s = true →
    Completes .xmssReady s (fun u => u.shr.xmssReady = true ∧
      let next := if s.shr.block.isSome then s.shr.nextIdx else 1024 * nextBlock s
      let gone := decide (s.shr.fuses = 1024) && s.shr.block.isNone
      u.shr.nextIdx = next ∧ (gone = true → u.shr.exhausted = true ∧ (s.shr.exhausted = false → bitAt u 0x07000008 9 = true)) ∧
      (gone = false → u.shr = { s.shr with xmssReady := true, nextIdx := next } ∧ Only [.shr] s u)) ∧
    ∀ (i : Fin 2) (rest : List Nat),
      let r := requestOf s i
      let n := r.arg 0
      (MbDue s i 0x70 rest → Completes (.shrRootLoad i) s (fun u =>
        let key := unwrapKey (bytesOfWords (slice r.body 2 10))
        let bad := decide (32 ≤ n) || r.arg 1 == 0 || decide (4 ≤ r.arg 1)
        (∀ k, k ≠ n → rootKey u k = rootKey s k) ∧
        (bad = true → MbAnswered s u i 3 [] ∧ u.shr = s.shr) ∧
        (bad = false → rootNamed s n = true → MbAnswered s u i 1 [] ∧ u.shr = s.shr) ∧
        (bad = false → rootNamed s n = false → key = none → MbAnswered s u i 7 [] ∧ u.shr = s.shr) ∧
        ∀ k, bad = false → rootNamed s n = false → key = some k → MbAnswered s u i 0 [] ∧ bitAt u 0x07000008 4 = true ∧
          rootKey u n = some { key := k, use := r.arg 1, kcv := kcvOf k })) ∧
      (MbDue s i 0x71 rest → Completes (.shrRootClear i) s (fun u =>
        (∀ k, k ≠ n → rootKey u k = rootKey s k) ∧
        (32 ≤ n → MbAnswered s u i 3 [] ∧ u.shr = s.shr) ∧
        (n < 32 → rootNamed s n = true → MbAnswered s u i 1 [] ∧ u.shr = s.shr) ∧
        (n < 32 → rootNamed s n = false → MbAnswered s u i 0 [] ∧ rootKey u n = none ∧ bitAt u 0x07000008 4 = true))) ∧
      (MbDue s i 0x72 rest → Completes (.shrAttest i) s (fun u =>
        (s.shr.xmssReady = false → MbAnswered s u i 1 [] ∧ u.shr = s.shr) ∧
        (s.shr.xmssReady = true → s.shr.exhausted = true → MbAnswered s u i 8 [] ∧ u.shr = s.shr) ∧
        (s.shr.xmssReady = true → s.shr.exhausted = false → s.shr.block.isSome = true →
          regN u (xtR i 0x2000) = r.ver * 2 ^ 24 + r.code ∧ u.shr.nextIdx = s.shr.nextIdx + 1 ∧ Counted 0x0700201C s u))) ∧
      (MbDue s i 0x73 rest → Completes (.shrIdentity i) s (fun u => u.shr = s.shr ∧
        regN u (xtR i 0x2000) = r.ver * 2 ^ 24 + r.code ∧ regN u (xtR i 0x2008) = regN s 0x10008 ∧
        regN u (xtR i 0x200C) = regN s 0x1000C))

/-! ## Interrupt controller (ch. 15) -/

/-- Sources and targets are as they were, but for source k. -/
def SrcKept (k : Nat) (s u : State) : Prop := ∀ n, n ≠ k → icSrc u n = icSrc s n
/-- Targets are as they were, but for target t. -/
def TgtKept (t : Nat) (s u : State) : Prop := ∀ n, n ≠ t → icTgt u n = icTgt s n

/-- The interrupt controller (R394 to R407). Where the spec leaves a point open, what is stated is the
model's choice: log entry 229. -/
def Obligations.Interrupts : Prop :=
  (∀ (s : State) (n : BitVec 10),
    let k := n.toNat
    let takes := sourceExists k && srcEn s k && coreOn s
    Completes (.srcSetSignal n) s (fun u => SrcKept k s u ∧ TgtKept 22 s u ∧ (takes = false → u = s) ∧
      (takes = true → icSrc u k = { icSrc s k with
        pending := true
        count := if (icSrc s k).pending || (icSrc s k).active then min ((icSrc s k).count + 1) 255 else (icSrc s k).count })) ∧
    Completes (.srcSetClear n) s (fun u => SrcKept k s u ∧ TgtKept 22 s u ∧ (coreOn s = false ∨ sourceExists k = false → u = s) ∧
      (coreOn s = true → sourceExists k = true → icSrc u k = { icSrc s k with pending := false, count := 0 })) ∧
    ∀ v : Word, Completes (.srcCfgWrite n v) s (fun u => SrcKept k s u ∧ TgtKept 22 s u ∧
      let ok := sourceExists k && (decide (k < 64) || coreOn s)
      (ok = false → u = s) ∧
      (ok = true → reg u (srcCfgR k) = v &&& (if k < 64 then 0xE01F003F else 0xC01F003F) ∧ RegsOnly (· == srcCfgR k) s u ∧
        icSrc u k = if v.getLsbD 31 then icSrc s k else { icSrc s k with pending := false, count := 0 }))) ∧
  (∀ (s : State) (path : Path) (t : Fin 22), Completes (.ackRead path t) s (fun u => TgtKept t s u ∧
    let open_ := !(icTgt s t).frozen && tgtEnabled s t
    (tgtReached s t = false → u = emit (.data path [0]) s) ∧
    (tgtReached s t = true → (open_ = false ∨ highest s (qualifying s t) = none) →
      u.sent.getLast? = some (.data path [0x3FF]) ∧ Counted (tgtCntR t 4) s u ∧ u.ic.src = s.ic.src ∧ icTgt u t = icTgt s t) ∧
    ∀ n, tgtReached s t = true → open_ = true → highest s (qualifying s t) = some n →
      qualifies s t n = true ∧ (∀ m, s.ic.src.has m = true → qualifies s t m = true → srcPrio s n ≤ srcPrio s m) ∧
      (16 ≤ (icTgt s t).stack.length → u.sent.getLast? = some (.data path [0x3FF]) ∧
        fld u (tgtCntR t 8) 15 0 = min (fld s (tgtCntR t 8) 15 0 + 1) (2 ^ 16 - 1) ∧ u.ic.src = s.ic.src ∧ icTgt u t = icTgt s t) ∧
      ((icTgt s t).stack.length < 16 →
        u.sent.getLast? = some (.data path [BitVec.ofNat 32 ((icSrc s n).count * 2 ^ 16 + srcPrio s n * 2 ^ 10 + n)]) ∧
        Counted (tgtCntR t 0) s u ∧ SrcKept n s u ∧
        icSrc u n = { icSrc s n with pending := false, count := 0, active := true, on := t } ∧
        icTgt u t = { icTgt s t with stack := (n, srcPrio s n) :: (icTgt s t).stack }))) ∧
  (∀ (s : State) (path : Path) (t : Fin 22),
    (∀ v : Word, Completes (.eoiWrite path t v) s (fun u => TgtKept t s u ∧
      let n := bits v.toNat 9 0
      let x := icTgt s t
      (tgtReached s t = false → u = s) ∧
      (tgtReached s t = true → x.frozen = true → Counted (tgtCntR t 12) s u ∧ Only [.regs] s u ∧ RegsOnly (· == tgtCntR t 12) s u) ∧
      (∀ pr rest, tgtReached s t = true → x.frozen = false → x.stack = (n, pr) :: rest → SrcKept n s u ∧ u.regs = s.regs ∧
        icTgt u t = { x with stack := rest } ∧ (icSrc u n).active = false ∧ (icSrc u n).pending = (icSrc s n).pending ∧
        (icSrc u n).count = if (icSrc s n).pending && (icSrc s n).count != 255 then (icSrc s n).count - 1 else (icSrc s n).count) ∧
      (tgtReached s t = true → x.frozen = false → (∀ pr rest, x.stack ≠ (n, pr) :: rest) → SrcKept 1010 s u ∧
        icTgt u t = { x with frozen := true, faultValid := true, faultTop := (x.stack.head?.map Prod.fst).getD 1023, faultNamed := n } ∧
        fld u (tgtCntR t 8) 31 16 = min (fld s (tgtCntR t 8) 31 16 + 1) (2 ^ 16 - 1)))) ∧
    Completes (.thaw path t) s (fun u => TgtKept t s u ∧ u.ic.src = s.ic.src ∧
      (path = .bmc ∨ tgtReached s t = false → u = s) ∧
      (path ≠ .bmc → tgtReached s t = true → icTgt u t = { icTgt s t with frozen := false, faultValid := false }))) ∧
  (∀ (s : State), coreOn s = true →
    (∀ k : Fin 4, Completes (.msixUnmask (some k)) s (fun u => vecMasked u k = false ∧ u.ic.src = s.ic.src ∧ u.ic.tgt = s.ic.tgt ∧
      (s.ic.funcMask = true → u.ic.msixPend = s.ic.msixPend ∧ u.sent = s.sent) ∧
      (s.ic.funcMask = false → u.ic.msixPend.look false k = false ∧
        u.sent = s.sent ++ (if s.ic.msixPend.look false k && tgtSignal s (16 + k) && s.ic.linkUp then
          [.msix k (BitVec.ofNat 64 (reg64 s (0x00108000 + 0x10 * k))) (reg s (0x00108008 + 0x10 * k))] else [])))) ∧
    Completes (.msixUnmask none) s (fun u => u.ic.funcMask = false ∧ u.ic.src = s.ic.src ∧ u.ic.tgt = s.ic.tgt ∧ u.regs = s.regs ∧
      ∀ k : Fin 4, u.ic.msixPend.look false k = (s.ic.msixPend.look false k && vecMasked s k))) ∧
  ∀ (s : State) (n : Fin 2), Completes (.irqPinFault n) s (fun u => bitAt u 0x3380 (31 - n) = true ∧
    (bitAt s 0x3380 (31 - n) = true → Only [.regs] s u ∧ RegsOnly (· == 0x3380) s u) ∧
    (bitAt s 0x3380 (31 - n) = false → u.faults.seq = s.faults.seq + 1))

/-! ## Power and reef levels (ch. 16) -/

/-- What R419 turns away: a bad LEVEL, PORTS with LEVEL 0, a darkness of lit ports outside its time, no port left, or more
than one left at Reef 2; a grant by lookout needs timing to be timed, and no frame that has begun is named (R477). -/
def GrantRefused (s : State) (p : Nat) (t : TmmIn) : Prop :=
  let stays := fun q : Nat => q < 16 ∧ trunkDisabled s q = false ∧ (grantPorts t).getLsbD q = false
  grantLevel t = 3 ∨ (grantLevel t = 0 ∧ grantPorts t ≠ 0) ∨
  (namedLit s t ≠ [] ∧ (grantSf t < t.sf + 16 ∨ t.sf + 8000 < grantSf t ∨ (t.lookout = true ∧ hasTiming s p = false) ∨
    (hasTiming s p = true ∧ tRx s p (grantSf t) ≤ lineNow s p))) ∨
  (¬ ∃ q, stays q) ∨ (grantLevel t = 2 ∧ ∃ q r, q ≠ r ∧ stays q ∧ stays r)

/-- The request in progress has ended with a result, and LAST_TRANS says so. -/
def ReefEnded (result reason : Nat) (u : State) : Prop :=
  u.reef.active = false ∧ u.reef.phase = .idle ∧ u.reef.notice = none ∧ fld u 0x0020001C 31 28 = result ∧
  fld u 0x0020001C 23 16 = reason

/-- The blocks whose darkness goes with an accepted grant: the answered notice's, or those of a darkness it replaces (R419, R420). -/
def GrantBlocks (s : State) : BitVec 32 :=
  match s.reef.notice, s.reef.dark with
  | some n, _ => n.clients
  | none, some d => d.clients
  | none, none => 0

/-- The target after an accepted grant: only a request that awaits one follows it (R419, R434). -/
def GrantTarget (s : State) (t : TmmIn) : Nat :=
  if s.reef.active = true ∧ s.reef.phase = .notice then min s.reef.target (grantLevel t) else s.reef.target

/-- No Voltage write reaches the regulator: PMBus or AVSBus is stuck (R482). -/
def RailHeld (s : State) : Prop := s.reef.busStuck = true ∨ s.reef.avsStuck = true

/-- Requests and darkness (R416 to R422, R427). Where the spec leaves a point open, what is stated is the
model's choice: log entries 112 to 121 and 194 and 205 and 224. -/
def Obligations.ReefRequests : Prop :=
  (∀ (s : State) (path : Path) (v : Word), Completes (.reefCmdGo path v) s (fun u =>
    let level := bits v.toNat 29 28
    let code := reefStatus s path level
    let noticed := v.getLsbD 27 = true ∧ (level = 1 ∨ level = 2)
    let someOn := ∃ p < 16, (regnOf s p).state = .operate
    u.reef.cmdCode = code ∧ u.reef.level = s.reef.level ∧
    (s.reef.active = true ∨ s.reef.phase = .waking → code = 1) ∧
    (path = .xt → level = 3 → s.reef.active = false → s.reef.phase ≠ .waking → s.reef.level ≠ 3 → s.boot.ready = true →
      s.reef.busStuck = false → s.reef.avsStuck = false → code = 3) ∧
    (code ≠ 0 → Only [.reef] s u ∧ { u.reef with cmdCode := s.reef.cmdCode } = s.reef) ∧
    (code = 0 → s.reef.level ≠ 3 → u.reef.target = level ∧ u.reef.origin = s.reef.level) ∧
    (code = 0 → s.reef.level ≠ 3 → noticed → someOn → u.reef.active = true ∧ u.reef.phase = .notice ∧ u.reef.target = level ∧
      ∃ n, u.reef.notice = some n ∧ n.level = level ∧ n.clients = reg s 0x00200010 ∧ n.sentAt = s.uptime ∧
        ∀ q < 16, n.ports.getLsbD q = if level = 2 then (litPorts s).contains q && decide (q ≠ bits v.toNat 19 16)
          else (reg s 0x0020000C).getLsbD q) ∧
    (code = 0 → s.reef.level ≠ 3 → noticed → ¬ someOn → ReefEnded 6 0 u) ∧
    (code = 0 → s.reef.level ≠ 3 → ¬ noticed → level = 0 → reg s 0x00200014 ≠ 0 → someOn →
      u.reef.notice = some ⟨1, 0, 0, false, s.uptime⟩ ∧ u.reef.target = 0 ∧ u.reef.phase = .notice) ∧
    (code = 0 → s.reef.level ≠ 3 → ¬ noticed → level ≠ 0 ∨ reg s 0x00200014 = 0 → level = s.reef.level → ReefEnded 1 0 u) ∧
    (code = 0 → s.reef.level ≠ 3 → ¬ noticed → level ≠ 0 ∨ reg s 0x00200014 = 0 → level ≠ s.reef.level →
      u.reef.active = true ∧ u.reef.phase = .prepare ∧ u.reef.target = level))) ∧
  (∀ (s : State) (i : Fin 2) (rest : List Nat), coreOn s = true → MbDue s i 0x80 rest → Completes (.reefSet i) s (fun u =>
    let r := requestOf s i
    let code := reefStatus s .pcie (bits (r.arg 0 % 2 ^ 32) 29 28)
    MbAnswered s u i code [] ∧
    (code ≠ 0 → u.reef = s.reef ∧ reg u 0x0020000C = reg s 0x0020000C ∧ reg u 0x00200010 = reg s 0x00200010) ∧
    (code = 0 → u.reef.cmdCode = 0 ∧ regN u 0x0020000C = r.arg 1 % 2 ^ 16 ∧ reg u 0x00200010 = BitVec.ofNat 32 (r.arg 2)) ∧
    (code = 0 → s.reef.level ≠ 3 → u.reef.target = bits (r.arg 0 % 2 ^ 32) 29 28 ∧ u.reef.origin = s.reef.level))) ∧
  (∀ (s : State) (p : Fin 16) (t : TmmIn) (rest : List TmmIn), coreOn s = true → (regnOf s p).state = .operate →
    (TmmDue s p 0x0C t rest → Completes (.reefNotice p) s (fun u =>
      let level := tf t.bits 351 350
      let takes := bitAt s 0x00200000 1 = true ∧ s.reef.active = false ∧ s.reef.phase ≠ .waking ∧ (level = 1 ∨ level = 2) ∧ ¬ RailHeld s
      (framer u p).queue = rest ∧
      (takes → Answered s p t 0 [] u ∧ u.reef.target = level ∧ u.reef.active = true ∧ u.reef.phase = .notice ∧
        u.reef.notice = some ⟨level, BitVec.ofNat 16 (tf t.bits 349 334), reg s 0x00200010, true, s.uptime⟩) ∧
      (¬ takes → Answered s p t 3 [] u ∧ u.reef = s.reef))) ∧
    (TmmDue s p 0x0D t rest → Completes (.reefGrant p) s (fun u =>
      (framer u p).queue = rest ∧
      (GrantRefused s p t → Answered s p t 3 [] u ∧ u.reef = s.reef) ∧
      (∀ d, ¬ GrantRefused s p t → s.reef.dark = some d → d.level = grantLevel t → d.asked = grantPorts t → d.sfEff = grantSf t →
        Answered s p t 0 [] u ∧ u.reef = s.reef) ∧
      (∀ d, ¬ GrantRefused s p t → s.reef.dark = some d → grantSf t ≤ d.sfEff →
        (d.level ≠ grantLevel t ∨ d.asked ≠ grantPorts t ∨ d.sfEff ≠ grantSf t) → Answered s p t 3 [] u ∧ u.reef = s.reef) ∧
      (¬ GrantRefused s p t → s.reef.dark = none → s.reef.notice = none → (namedLit s t ≠ [] ∨ s.reef.level < grantLevel t) →
        Answered s p t 5 [] u ∧ u.reef = s.reef) ∧
      (¬ GrantRefused s p t → (∃ d, s.reef.dark = some d ∧ d.sfEff < grantSf t) ∨ (s.reef.dark = none ∧
          (s.reef.notice ≠ none ∨ (namedLit s t = [] ∧ grantLevel t ≤ s.reef.level))) →
        Answered s p t 0 [] u ∧ u.reef.notice = none ∧ 
        (namedLit s t = [] → GrantBlocks s = 0 ∨ GrantTarget s t ≠ s.reef.level → u.reef.dark = none) ∧
        (namedLit s t ≠ [] ∨ (GrantBlocks s ≠ 0 ∧ GrantTarget s t = s.reef.level) → ∃ d, u.reef.dark = some d ∧
          d.level = grantLevel t ∧ d.sfEff = grantSf t ∧ d.carrier = p ∧ d.clients = GrantBlocks s ∧ ∀ q < 16, d.ports.getLsbD q = ((grantPorts t).getLsbD q && !portDark s q && !trunkDisabled s q)) ∧
        (∀ q < 16, portDark u q = (portDark s q && (grantPorts t).getLsbD q)) ∧
        (∀ q < 16, portDark s q = true → (grantPorts t).getLsbD q = false → domOn u (0x20 + q) = (!trunkDisabled s q || domOn s (0x20 + q))) ∧
        u.reef.target = GrantTarget s t)))) ∧
  (∀ (s : State), coreOn s = true →
    Completes .reefGrantTimeout s (fun u =>
      (noticeOver s = false → u = s) ∧
      (noticeOver s = true → ReefEnded 6 0 u ∧ u.reef.level = s.reef.level ∧ u.reef.dark = s.reef.dark ∧
        reg u 0x00200014 = reg s 0x00200014 ∧ reg u 0x00200018 = reg s 0x00200018)) ∧
    (∀ p : Fin 16, Completes (.portDark p) s (fun u =>
      (darkDue s p = false → u = s) ∧
      (darkDue s p = true → (∀ q < 16, portDark u q = (portDark s q || q == p.val)) ∧ domOn u (0x20 + p) = false ∧
        (halyard u p).grants = [] ∧ (regnOf u p).state = (regnOf s p).state ∧ (regnOf u p).tid = (regnOf s p).tid ∧
        (regnOf u p).eqd = (regnOf s p).eqd ∧ u.contexts = s.contexts ∧ u.shr = s.shr ∧
        (regnOf u p).litAt = none ∧ (∀ d, u.reef.dark = some d → d.ports.getLsbD p = false) ∧
        regN u (0x00200120 + 4 * p) = min (regN s (0x00200120 + 4 * p) +
          openGrants s p (lineNow s p) (halyard s p).grants) (2 ^ 32 - 1)))) ∧
    Completes .clientBlockDark s (fun u =>
      ((∀ d, s.reef.dark = some d → lineNow s d.carrier < darkFrom s d) → u = s) ∧
      ∀ d, s.reef.dark = some d → darkFrom s d ≤ lineNow s d.carrier →
        (∀ b < 32, blockDark u b = (blockDark s b || d.clients.getLsbD b)) ∧ ∀ e, u.reef.dark = some e → e.clients = 0) ∧
    (∀ p : Fin 16, Completes (.lightTimeout p) s (fun u =>
      ((regnOf s p).litAt = none ∨ hasTiming s p = true ∨ portDark s p = true → u = s) ∧
      ∀ n, (regnOf s p).litAt = some n → hasTiming s p = false → portDark s p = false →
        (s.uptime < n + 25000 * fld s 0x00200048 15 0 → u = s) ∧
        (n + 25000 * fld s 0x00200048 15 0 ≤ s.uptime → (regnOf u p).litAt = none ∧
          ((regnOf s p).releaseAt = none → (regnOf s p).state = .operate ∨ (regnOf s p).state = .silent ∨ (regnOf s p).state = .range →
            (regnOf u p).state = .hold)))) ∧
    ∀ (p : Fin 16) (t : TmmIn) (rest : List TmmIn), TmmDue s p 0x11 t rest →
      (regnOf s p).state = .operate ∨ (regnOf s p).state = .silent → Completes (.park p) s (fun u =>
      (framer u p).queue = rest ∧
      (s.reef.active = true ∨ s.reef.phase = .waking → u.reef = s.reef ∧ reg u 0x00200054 = reg s 0x00200054 ∧ reg u 0x00200058 = reg s 0x00200058) ∧
      (s.reef.active = false → s.reef.phase ≠ .waking →
        let sec := tf t.bits 351 320
        let armed := fun n => bitAt u (srcCfgR n) 31 = true ∧ bitAt u (srcCfgR n) 29 = true ∧ bitAt u 0x00200024 n = true
        regN u 0x00200054 = sec ∧ regN u 0x00200058 = 2 ^ 31 + tf t.bits 319 304 ∧ armed 4 ∧ (sec ≠ 0 → armed 5) ∧
        Answered s p t 0 [] u ∧ u.reef.active = true ∧ u.reef.target = 3 ∧ u.reef.phase = .prepare ∧
        u.reef.parkAt = some (p.val, t.sf + 2)))) ∧
  (∀ (s : State) (v : Word), Completes (.cliDarkReqWrite v) s (fun u => reg u 0x00200010 = v ∧
    (s.reef.level = 1 ∨ s.reef.level = 2 → ∀ b < 32, blockDark u b = (blockDark s b && v.getLsbD b)) ∧
    (s.reef.level ≠ 1 → s.reef.level ≠ 2 → Only [.regs] s u ∧ RegsOnly (· == 0x00200010) s u))) ∧
  ∀ s : State, Completes .reefClrFail s (fun u => Only [.reef] s u ∧ u.reef.wakeFail = false ∧
    { u.reef with wakeFail := s.reef.wakeFail } = s.reef)

/-- Some participant refuses in prepare, by its own reason or by silence (R423). -/
def SomeRefusal (s : State) (a : PrepareAnswer) : Prop :=
  let n := s.reef.target
  overloaded s n = true ∨ (∃ p, p ∈ litPorts s ∧ fld s (halR p 8) 7 0 < 27) ∨
  (2 ≤ n ∧ (a.drained = false ∨ sweepsHbm s = true ∨
    (bitAt s 0x02400000 0 = true ∧ ∃ e, e ∈ pageEntries s s.tsi.active ∧ e.2.testBit 63 = true))) ∨
  s.boot.flashBusy = true ∨ (n = 2 ∧ 1 < (litPorts s).length) ∨ (n = 3 ∧ wakeable s = false) ∨
  ∃ k, k ∈ a.silent ∧ k.val ≠ 0

/-- Transitions and waking (R422 to R433). Where the spec leaves a point open, what is stated is the
model's choice: log entries 112 to 121 and 194 and 205 and 224. -/
def Obligations.ReefTransitions : Prop :=
  (∀ (s : State) (a : PrepareAnswer), coreOn s = true → Completes (.reefPrepare a) s (fun u =>
    (s.reef.phase ≠ .prepare ∨ parkWaits s = true → u = s) ∧
    (s.reef.phase = .prepare → parkWaits s = false → u.reef.level = s.reef.level ∧
      (SomeRefusal s a → (∃ c, ReefEnded 2 c u) ∧ bitAt u 0x00200020 1 = true ∧
        (overloaded s s.reef.target = true → fld u 0x0020001C 23 16 = 1 ∧ fld u 0x0020001C 15 8 = 1)) ∧
      (¬ SomeRefusal s a → s.reef.target = 3 → u.reef.phase = .entering ∧ Only [.reef, .buf] s u) ∧
      (¬ SomeRefusal s a → s.reef.target ≠ 3 → s.reef.target < s.reef.level → u.reef.phase = .voltage ∧ u.reef.raising = true ∧
        u.reef.mvOld = s.reef.mv ∧ Only [.reef, .sent, .buf] s u ∧ (RailHeld s → u.sent = s.sent ∧ u.reef.mv = s.reef.mv) ∧
        (¬ RailHeld s → u.sent = s.sent ++ [Output.avs (oppOf s s.reef.target)] ∧ u.reef.mv = oppOf s s.reef.target)) ∧
      (¬ SomeRefusal s a → s.reef.target ≠ 3 → s.reef.level ≤ s.reef.target → u.reef.phase = .commit ∧ Only [.reef, .buf] s u) ∧
      (¬ SomeRefusal s a → 2 ≤ s.reef.target → ∀ x, x ∈ u.buf.frames → x.2.staged = false) ∧
      (s.reef.target < 2 → u.buf = s.buf)))) ∧
  (∀ (s : State) (m : Option (Fin 9)), coreOn s = true → Completes (.reefCommit m) s (fun u =>
    let late := overloaded s s.reef.target = true
    let stops := ¬ late ∧ ∃ k, m = some k ∧ k.val ≠ 0 ∧ (k.val < 5 ∨ 2 ≤ s.reef.target)
    (s.reef.phase ≠ .commit → s.reef.phase ≠ .entering → u = s) ∧
    (s.reef.phase = .commit → late → ReefEnded 2 1 u ∧ u.reef.level = s.reef.level ∧ u.lanes = s.lanes ∧
      bitAt u 0x00200020 1 = true ∧ u.boot = s.boot ∧
      (s.reef.target < s.reef.level → ¬ RailHeld s → u.reef.mv = s.reef.mvOld ∧ s.sent ++ [Output.avs s.reef.mvOld] <+: u.sent)) ∧
    (s.reef.phase = .commit → stops → ReefEnded 3 (m.elim 0 fun k => min k.val 5) u ∧ u.reef.level = s.reef.level ∧
      u.lanes = s.lanes ∧ bitAt u 0x00200020 2 = true ∧ u.boot = s.boot) ∧
    (s.reef.phase = .commit → ¬ late → ¬ stops → s.reef.target < s.reef.level → u.reef.level = s.reef.target ∧ ReefEnded 1 0 u ∧
      bitAt u 0x00200020 0 = true ∧ u.reef.coreMHz = clockOf s.reef.target ∧ ∀ b < 32, blockDark u b = false) ∧
    (s.reef.phase = .commit → ¬ late → ¬ stops → s.reef.level ≤ s.reef.target → u.reef.level = s.reef.level ∧ u.reef.phase = .voltage ∧
      u.reef.raising = false ∧ u.reef.coreMHz = clockOf s.reef.target ∧
      (¬ RailHeld s → u.sent.getLast? = some (Output.avs (oppOf s s.reef.target)) ∧ u.reef.mv = oppOf s s.reef.target) ∧
      (s.reef.target = 2 → bitAt u 0x05000004 31 = false) ∧
      (s.reef.granted = false → ∀ b < 32, blockDark u b = (blockDark s b || (reg s 0x00200010).getLsbD b))))) ∧
  (∀ (s : State), coreOn s = true →
    Completes .avsSettled s (fun u =>
      (s.reef.phase = .voltage → s.reef.raising = true → u.reef.phase = .commit ∧ u.reef.level = s.reef.level ∧
        u.reef.vHigh = false ∧ u.reef.lowerTo = none ∧ Only [.reef] s u) ∧
      (s.reef.phase = .voltage → s.reef.raising = false → u.reef.level = s.reef.target ∧ ReefEnded 1 0 u ∧
        u.reef.vHigh = false ∧ u.reef.lowerTo = none ∧ bitAt u 0x00200020 0 = true) ∧
      (s.reef.phase ≠ .voltage → Only [.reef] s u ∧ u.reef.phase = s.reef.phase ∧ (s.reef.lowerTo = none → u = s) ∧
        ∀ v, s.reef.lowerTo = some v → u.reef.vHigh = false ∧ u.reef.lowerTo = none ∧ u.reef.mv = v)) ∧
    Completes .avsTimeout s (fun u =>
      let due := s.reef.phase = .voltage ∧ s.reef.lowerAt + 25000 * max 1 (fld s 0x00200040 23 16) ≤ s.uptime
      (¬ due → u = s) ∧
      (due → ReefEnded 5 0 u ∧ regN u 0x0020010C = min (regN s 0x0020010C + 1) (2 ^ 32 - 1)) ∧
      (due → s.reef.raising = true → u.reef.level = s.reef.level ∧
        (¬ RailHeld s → s.sent ++ [Output.avs s.reef.mvOld] <+: u.sent ∧ u.reef.mv = s.reef.mvOld) ∧ bitAt u 0x00200020 1 = true) ∧
      (due → s.reef.raising = false → u.reef.level = s.reef.target ∧ u.reef.vHigh = true ∧ u.reef.lowerTo = some s.reef.mv ∧
        u.reef.mv = s.reef.mvOld ∧ u.reef.lowerAt = s.uptime)) ∧
    Completes .avsRetry s (fun u =>
      let due := s.reef.phase = .idle ∧ s.reef.lowerAt + 25000000 ≤ s.uptime ∧ ¬ RailHeld s
      (¬ due ∨ s.reef.lowerTo = none → u = s) ∧
      ∀ v, due → s.reef.lowerTo = some v → u.sent = s.sent ++ [Output.avs v] ∧ u.reef = { s.reef with lowerAt := s.uptime } ∧
        Only [.sent, .reef] s u)) ∧
  (∀ (s : State) (m : Option (Fin 9)), coreOn s = true → s.reef.phase = .entering → Completes (.reefCommit m) s (fun u =>
    let stops := ∃ k, m = some k ∧ k.val ≠ 0 ∧ (k.val < 5 ∨ 2 ≤ s.reef.target)
    (¬ stops → u = s) ∧
    (stops → u.lookouts = [] ∧ u.timed = [] ∧ u.reef.level = s.reef.level ∧ ReefEnded 3 (m.elim 0 fun k => min k.val 5) u ∧
      bitAt u 0x00200020 2 = true ∧ u.boot.coreUp = s.boot.coreUp ∧ u.boot.ready = s.boot.ready ∧ u.reef.wakeDue = false))) ∧
  (∀ s : State, coreOn s = true → Completes .reef3Entry s (fun u =>
    (s.reef.phase ≠ .entering → u = s) ∧
    (s.reef.phase = .entering → u.lookouts = [] ∧ u.timed = [] ∧ u.reef.level = 3 ∧ u.boot.coreUp = false ∧ u.boot.ready = false ∧
      fld u 0x0020001C 31 28 = 1 ∧ u.reef.active = false ∧ u.reef.phase = (if u.reef.wakeDue then .waking else .idle) ∧
      (s.reef.wakeDue = true → u.reef.wakeDue = true) ∧ u.reef.mv = 0 ∧ u.reef.coreMHz = 0 ∧ u.ic.linkUp = false ∧
      (∀ p : Fin 16, (regnOf u p).state = .init ∧ (halyard u p).grants = [] ∧ (reg u 0x00200060).getLsbD p = !trunkDisabled s p) ∧
      (∀ b < 32, (reg u 0x00200064).getLsbD b = (portMode s b != 0 || paired s b)) ∧
      (∀ d, d ∈ entryDoms → domOn u d = false) ∧ domOn u 0 = domOn s 0 ∧ domOn u 1 = domOn s 1 ∧
      (∀ l : Nat, 272 ≤ l → l ≤ 274 → reg u (laneR l 0) = reg s (laneR l 0)) ∧ reg u 0x01300000 = reg s 0x01300000 ∧
      u.shr.roots = [] ∧ u.xt.requests = []))) ∧
  (∀ s : State,
    Completes .wakeAEvent s (fun u => (bitAt s 0x00200050 31 = false → u = s) ∧
      (bitAt s 0x00200050 31 = true → u.reef.wakeAOut = bitAt s 0x00200050 30 ∧ bitAt u 0x00200020 3 = true ∧
        u.reef.level = s.reef.level ∧
        (s.reef.level = 3 → s.reef.phase = .idle → s.reef.wakeDue = false → wakeArmed s 3 = true → (icSrc s 3).pending = false →
          bitAt s 0x00200020 3 = false → u.reef.wakeDue = true ∧ u.reef.phase = .waking ∧ regN u 0x0020005C = 2 ^ 31 + 3) ∧
        (wakeArmed s 3 = false → u.reef.wakeDue = s.reef.wakeDue))) ∧
    Completes .wakeTimerExpiry s (fun u => (wakeTimerOver s = false → u = s) ∧
      (wakeTimerOver s = true → u.reef.timerFrom = none ∧ bitAt u 0x00200020 5 = true ∧
        (s.reef.phase = .idle → s.reef.wakeDue = false → wakeArmed s 5 = true → (icSrc s 5).pending = false →
          bitAt s 0x00200020 5 = false → u.reef.wakeDue = true ∧ u.reef.phase = .waking ∧ regN u 0x0020005C = 2 ^ 31 + 5))) ∧
    (∀ f : Option (Nat × Nat), Completes (.wakeSequence f) s (fun u =>
      let starts := s.reef.level = 3 ∧ s.reef.wakeDue = true ∧ s.reef.wakeRetry = false
      let two := s.reef.level = 2 ∧ s.reef.phase = .commit ∧ s.reef.target < 2
      (¬ starts → ¬ two ∨ f = none → u = s) ∧
      (starts → f = none → u.reef.level = 0 ∧ ReefEnded 1 0 u ∧ u.reef.wakeDue = false ∧ u.boot.coreUp = true ∧
        u.reef.coreMHz = 400 ∧ ∀ x, x ∈ wakeDoms s → domOn u x.2 = true) ∧
      ∀ n d, f = some (n, d) → starts ∨ two → u.reef.phase = .waking ∧ u.reef.level = s.reef.level ∧ u.reef.wakeRetry = true ∧
        u.reef.retryAt = s.uptime + 25000 ∧ u.boot.coreUp = s.boot.coreUp ∧ (two → Only [.reef] s u) ∧
        (starts → ∀ x, x ∈ domsBefore n d (wakeDoms s) → domOn u x.2 = true))) ∧
    ∀ w : WakeRetry, Completes (.wakeStepRetry w) s (fun u =>
      let waits := s.reef.wakeRetry = true ∧ s.reef.phase = .waking ∧ s.reef.retryAt ≤ s.uptime
      let r := s.reef
      let later := ∃ n d, w = .passes (some (n, d)) ∧
        (domsBefore r.wakeStep r.wakeDom (wakeDoms s)).length < (domsBefore n d (wakeDoms s)).length
      (¬ waits → u = s) ∧
      (waits → w ≠ .fails → r.level = 3 → ¬ later → u.reef.level = r.target ∧ ReefEnded 1 0 u ∧ u.reef.wakeRetry = false ∧
        ∀ x, x ∈ wakeDoms s → domOn u x.2 = true) ∧
      (waits → w ≠ .fails → r.level = 3 → later → u.reef.level = 3 ∧ u.reef.phase = .waking ∧ u.reef.wakeRetry = true ∧
        u.reef.retryAt = s.uptime + 25000 ∧ ∀ n d, w = .passes (some (n, d)) → ∀ x, x ∈ domsBefore n d (wakeDoms s) → domOn u x.2 = true) ∧
      (waits → w ≠ .fails → r.level ≠ 3 → Only [.reef] s u ∧ u.reef = { r with phase := .commit, wakeRetry := false }) ∧
      (waits → w = .fails → u.reef.level = r.level ∧ ReefEnded 4 (r.wakeStep % 256) u ∧ u.reef.wakeFail = true ∧
        u.reef.wakeRetry = false ∧ bitAt u 0x00200020 7 = true ∧
        (r.level = 3 → u.reef.wakeDue = false ∧ ∀ x, x ∈ domsBefore r.wakeStep r.wakeDom (wakeDoms s) → domOn u x.2 = false))))

/-! ## Start-up, images and the mailbox (ch. 17) -/

/-- The device is in Furled for a reason: stage 15, READY low, every ARM 0, every CLIp, TRKp and HBM domain off, no root key. -/
def IsFurled (reason : Nat) (u : State) : Prop :=
  u.boot.furled = true ∧ bootStage u = 15 ∧ regN u 0x10104 = reason ∧ u.boot.ready = false ∧ reg u 0x10108 = 0 ∧
  (∀ p < 16, bitAt u (bksR p 0) 0 = false) ∧ (∀ d, d ∈ cliDoms ++ trkDoms ++ hbmDoms → domOn u d = false) ∧
  u.shr.roots = [] ∧ bitAt u 0x10170 1 = true

/-- Start-up and the doorbell (R447 to R461). Where the spec leaves a point open, what is stated is the
model's choice: log entries 122 to 137 and 195 and 201 to 202 and 227 and 230 and 233. -/
def Obligations.StartUp : Prop :=
  (∀ s : State, Completes .suppliesGood s (fun u => Only [.boot] s u ∧ u.boot.supplies = true ∧
    { u.boot with supplies := s.boot.supplies } = s.boot)) ∧
  (∀ (s : State) (r : StageResult), Completes (.startupStage r) s (fun u =>
    let n := bootStage s
    let found := r.flashOk = 3
    let order := slotOrder (bootRecord s)
    let passes := fun k => slotCheck s (k / 2) (k % 2)
    let parts := (sectionsOf s (usedFlash s) (usedSlot s)).filter fun x => x.type == 0x20 || x.type == 0x21 || x.type == 0x30
    (s.boot.supplies = false ∨ n = 0 ∨ 14 ≤ n → u = s) ∧
    (s.boot.supplies = true → s.boot.furled = false →
      (n = 1 → bootStage u = 2 ∧ u.boot.strapPcie = r.straps.getLsbD 0 ∧ u.boot.strapMgt = r.straps.getLsbD 1 ∧
        u.boot.latchPcie = r.straps.getLsbD 0 ∧ u.boot.latchMgt = r.straps.getLsbD 1 ∧ Only [.regs, .boot] s u) ∧
      (n = 2 → bootStage u = 3 ∧ u.boot.flashFault = ~~~r.flashOk ∧ u.boot.flashOctal = r.octal &&& r.flashOk ∧ domOn u 4 = true) ∧
      (n = 3 → found → (∀ k, k ∈ order → (passes k).1 ≠ 1) → (bootRecord s).testBit 31 = false → IsFurled 1 u) ∧
      (n = 3 → found → (bootRecord s).testBit 31 = false → ∀ a k b, order = a ++ k :: b → (∀ j, j ∈ a → (passes j).1 ≠ 1) → (passes k).1 = 1 →
        bootStage u = (if bootKind s = 2 then 5 else 4) ∧ u.boot.slot = k ∧ u.boot.trial = false ∧ fld u 0x10100 20 18 = 4 + k ∧
        regN u (0x10120 + 4 * k) = 2 ^ 28 ∧ (∀ j, j ∈ a → regN u (0x10120 + 4 * j) = (passes j).1 * 2 ^ 28 + (passes j).2 * 2 ^ 24) ∧
        (∀ j, j ∈ b → regN u (0x10120 + 4 * j) = if s.boot.flashFault.getLsbD (j / 2) then 2 ^ 29 else 0) ∧ (a ≠ [] → bitAt u 0x10170 2 = true)) ∧
      (n = 3 → found → (bootRecord s).testBit 31 = true → regN u 0x10160 = bits (bootRecord s) 30 0) ∧
      (n = 4 → (r.pass = true → s.reef.busStuck = false → bootStage u = 5 ∧ (∀ x, x ∈ u.boot.regMap → Output.regulator x ∈ u.sent) ∧
          u.boot.hwmSets = manifestSets (oneSection s (usedFlash s) (usedSlot s) 4)) ∧
        (r.pass = false ∨ s.reef.busStuck = true → IsFurled 2 u)) ∧
      (n = 5 → bootKind s ≠ 1 ∨ (r.pass = true ∧ s.boot.coreTries ≠ 2) → bootStage u = 6 ∧ u.boot.coreUp = true ∧ u.reef.coreMHz = 400 ∧
        (bootKind s ≠ 2 → domOn u 3 = true ∧ domOn u 6 = true ∧ domOn u 2 = true ∧ (s.boot.strapPcie = true → domOn u 5 = true))) ∧
      (n = 5 → bootKind s = 1 → r.pass = false → (s.boot.coreTries = 0 → bootStage u = 5 ∧ u.boot.coreTries = 1 ∧ domOn u 3 = false) ∧
        (s.boot.coreTries = 1 → bootStage u = 5 ∧ u.boot.coreTries = 2 ∧ u.reef.wakeFail = true ∧ bitAt u 0x00200020 7 = true ∧
          ReefEnded 4 3 u ∧ ∀ d, d ∈ [2, 6, 5, 3] → domOn u d = false)) ∧
      (n = 5 → bootKind s = 1 → s.boot.coreTries = 2 → bootStage u = 5) ∧
      (n = 6 → found →
        (Config.shake256 32 (oneSection s (usedFlash s) (usedSlot s) 1) ≠ s.boot.fwDigest → IsFurled 3 u) ∧
        (Config.shake256 32 (oneSection s (usedFlash s) (usedSlot s) 1) = s.boot.fwDigest →
          (r.pass = true → bootStage u = 7 ∧ (bootKind s ≠ 2 → regN u 0x501C = 0xFF) ∧ ∀ x, x ∈ u.faults.owners → x.2 < 8) ∧
          (r.pass = false → IsFurled (if r.which = 0 then 3 else 4) u))) ∧
      (n = 7 → (∀ k < 3, regN u (0x00200030 + 4 * k) = oppValue s k) ∧
        (r.pass = true → ¬ RailHeld s → bootStage u = 8 ∧ u.reef.mv = oppValue s 0 ∧ u.reef.coreMHz = 1600) ∧
        (r.pass = false ∨ RailHeld s → IsFurled 2 u)) ∧
      (n = 8 → bootStage u = 9) ∧
      (n = 9 → (r.pass = true → bootStage u = 10 ∧ bitAt u 0x05000004 31 = true) ∧ (r.pass = false → IsFurled 5 u)) ∧
      (n = 10 ∨ n = 11 → (r.pass = true → bootStage u = n + 1) ∧ (r.pass = false → IsFurled 6 u)) ∧
      (n = 12 → found → parts = [] → (r.pass = true → bootStage u = 13) ∧ (r.pass = false → IsFurled 7 u)) ∧
      (n = 13 → bootStage u = 14 ∧ u.boot.ready = true ∧ Output.ready true ∈ u.sent ∧ reg u 0x10108 = 1 ∧
        reg64 u 0x1010C = s.uptime % 2 ^ 64 ∧ bitAt u 0x10170 0 = true ∧ bitAt u 0x00100000 0 = true ∧
        (∀ a, a ∈ [0x03000000, 0x03100000, 0x04000000, 0x04100000, 0x05000000, 0x06000000, 0x07000000] → bitAt u a 0 = true) ∧
        ∀ p < 16, bitAt u (bksR p 0) 0 = true ∧ bitAt u (halR p 0) 0 = true ∧ bitAt u (trkR p 0x400) 0 = true)))) ∧
  ∀ (s : State) (i : Fin 2), coreOn s = true →
    Completes (.mbDoorbell i) s (fun u =>
      let r := requestOf s i
      (bitAt s (xtR i 4) 31 = true → u.xt = s.xt ∧ bitAt u (xtR i 4) 31 = true ∧ bitAt u (xtR i 4) 29 = true ∧
        bitAt u (xtR i 8) 1 = true) ∧
      (bitAt s (xtR i 4) 31 = false → ∀ st, mbJudge s r = some st → MbAnswered s u i st [] ∧ u.xt = s.xt ∧
        bitAt u (xtR i 4) 31 = false ∧ bitAt u (xtR i 4) 30 = true ∧ bitAt u (xtR i 4) 29 = false) ∧
      (bitAt s (xtR i 4) 31 = false → mbJudge s r = none → u.xt = { s.xt with requests := s.xt.requests ++ [i.val] } ∧
        bitAt u (xtR i 4) 31 = true ∧ bitAt u (xtR i 4) 30 = false ∧ bitAt u (xtR i 4) 29 = false) ∧
      (s.boot.furled = false → bootStage s ≤ 6 → mbJudge s r = some 1) ∧
      (6 < bootStage s ∨ s.boot.furled = true → mbVersion s r.ver = false → mbJudge s r = some 6) ∧
      (mbJudge s r = none → mbVersion s r.ver = true ∧ r.len % 4 = 0 ∧ r.len ≤ 4088 ∧ mbDefined r.code ≠ none ∧
        (r.ver = 1 ∨ (s.boot.furled = false ∧ bootStage s < 14) → mbDefined r.code = some true) ∧ 4 * mbFixed r.code ≤ r.len)) ∧
    Completes (.devReset i) s (fun u =>
      ((∀ rest, ¬ MbFirst s i 0x18 rest) → u = s) ∧
      (∀ rest, MbFirst s i 0x18 rest → ¬ MbDue s i 0x18 rest → MbAnswered s u i 6 [] ∧ u.boot = s.boot) ∧
      ∀ rest, MbDue s i 0x18 rest → 3 ≤ bootStage s → bootStage u = 3 ∧ bootKind u = 1 ∧ regN u 0x5018 = 2 * 2 ^ 28 ∧
        u.boot.coreUp = false ∧ u.boot.furled = false ∧ u.boot.ready = false ∧ u.reef.coreMHz = 400 ∧ reg u 0x10108 = 0 ∧ u.xt.requests = [] ∧
        u.uptime = s.uptime ∧ u.flash = s.flash ∧ u.shr.roots = [] ∧ ∀ p < 16, (regnOf u p).state = .init)

/-- Flash f of state u reads as in s outside n bytes from address a, and the other flash as it did. -/
def FlashKept (f a n : Nat) (s u : State) : Prop :=
  (∀ b, b < a ∨ a + n ≤ b → memByte 0xFF (flashOf u f) b = memByte 0xFF (flashOf s f) b) ∧ ∀ g, g ≠ f → flashOf u g = flashOf s g

/-- A flash and a slot argument of 0 or 1. -/
def SlotArgs (r : MbRequest) : Prop := r.arg 0 < 2 ∧ r.arg 1 < 2

/-- Mailbox commands and the ring (R88, R188, R461, R462, R464). Where the spec leaves a point open, what is stated is the
model's choice: log entries 122 to 137 and 195 and 201 to 202 and 227 and 230 and 233. -/
def Obligations.MailboxCommands : Prop :=
  (∀ (s : State) (i : Fin 2) (rest : List Nat), coreOn s = true →
    let r := requestOf s i
    let f := r.arg 0
    let base := slotBase (r.arg 1)
    (MbDue s i 0x01 rest → Completes (.mbHello i) s (fun u => u.flash = s.flash ∧
      MbAnswered s u i 0 ([regN s 0x1014C, s.boot.build % 2 ^ 32, (showReg s 0x10100).toNat, regN s 0x10104,
        regN s 0x10120, regN s 0x10124, regN s 0x10128, regN s 0x1012C]))) ∧
    (MbDue s i 0x10 rest → ∀ cut, Completes (.imgErase ⟨i, cut⟩) s (fun u =>
      (¬ SlotArgs r → MbAnswered s u i 3 [] ∧ u.flash = s.flash) ∧
      (SlotArgs r → runningSlot s f (r.arg 1) = true → MbAnswered s u i 1 [] ∧ u.flash = s.flash) ∧
      (SlotArgs r → runningSlot s f (r.arg 1) = false → flashUp s f = false → MbAnswered s u i 9 [] ∧ u.flash = s.flash) ∧
      (SlotArgs r → runningSlot s f (r.arg 1) = false → flashUp s f = true → MbAnswered s u i (if cut then 9 else 0) [] ∧
        (s.memOk → FlashKept f base 0x0F000000 s u ∧
          ∀ a, cut = false → base ≤ a → a < base + 0x0F000000 → memByte 0xFF (flashOf u f) a = 0xFF)))) ∧
    (MbDue s i 0x11 rest → ∀ cut, Completes (.imgWrite ⟨i, cut⟩) s (fun u =>
      let data := bytesOfWords (r.body.drop 3)
      let bad := ¬ SlotArgs r ∨ 0x0F000000 < r.arg 2 + data.length
      (bad → MbAnswered s u i 3 [] ∧ u.flash = s.flash) ∧
      (¬ bad → runningSlot s f (r.arg 1) = true → MbAnswered s u i 1 [] ∧ u.flash = s.flash) ∧
      (¬ bad → runningSlot s f (r.arg 1) = false → flashUp s f = false → MbAnswered s u i 9 [] ∧ u.flash = s.flash) ∧
      (¬ bad → runningSlot s f (r.arg 1) = false → flashUp s f = true → MbAnswered s u i (if cut then 9 else 0) [] ∧
        (cut = false → u.boot.flashBusy = true) ∧ (cut = true → tornSlot u f (r.arg 1) = true ∨ data = []) ∧
        (s.memOk → FlashKept f (base + r.arg 2) data.length s u ∧
          (cut = false → memRead 0xFF (flashOf u f) (base + r.arg 2) data.length = data))))) ∧
    (MbDue s i 0x12 rest → ∀ bad1, Completes (.imgRead ⟨i, bad1⟩) s (fun u => u.flash = s.flash ∧
      let n := r.arg 3
      let bad := ¬ SlotArgs r ∨ 4088 < n ∨ 0x0F000000 < r.arg 2 + n
      (bad → MbAnswered s u i 3 []) ∧
      (¬ bad → flashUp s f = false ∨ bad1 = true → MbAnswered s u i 9 []) ∧
      (¬ bad → flashUp s f = true → bad1 = true → flashUp u f = false ∧ regN u (0x10120 + 8 * f) = 2 ^ 29 ∧ regN u (0x10124 + 8 * f) = 2 ^ 29) ∧
      (¬ bad → flashUp s f = true → bad1 = false → fld u (xtR i 0x2000) 23 16 = 0 ∧ fld u (xtR i 0x2004) 15 0 = n ∧
        ∀ k, 4 * k < n → regN u (xtR i (0x2008 + 4 * k)) = (wordsOf (slotBytes s f (r.arg 1) (r.arg 2) n)).getD k 0))) ∧
    (MbDue s i 0x13 rest → ∀ unread, Completes (.imgCheck ⟨i, unread⟩) s (fun u => u.flash = s.flash ∧
      let c := if unread && flashUp s f then (2, 0) else slotCheck s f (r.arg 1)
      (¬ SlotArgs r → MbAnswered s u i 3 []) ∧
      (SlotArgs r → MbAnswered s u i (checkStatus c.1) [c.1 * 2 ^ 28 + c.2 * 2 ^ 24]))) ∧
    (MbDue s i 0x14 rest → ∀ unread, Completes (.imgSelect ⟨i, unread⟩) s (fun u =>
      let c := if unread && flashUp s f then (2, 0) else slotCheck s f (r.arg 1)
      (¬ SlotArgs r → MbAnswered s u i 3 [] ∧ u.flash = s.flash) ∧
      (SlotArgs r → MbAnswered s u i (checkStatus c.1) [c.1 * 2 ^ 28 + c.2 * 2 ^ 24]) ∧
      (SlotArgs r → checkStatus c.1 ≠ 0 → u.flash = s.flash ∧ reg u 0x10160 = reg s 0x10160) ∧
      (SlotArgs r → checkStatus c.1 = 0 →
        regN u 0x10160 = selected (bootRecord s) f (r.arg 1) (r.arg 2 % 2 == 1) % 2 ^ 32 ∧
        (s.memOk → ∀ g b, 65536 ≤ b → memByte 0xFF (flashOf u g) b = memByte 0xFF (flashOf s g) b)))) ∧
    (MbDue s i 0x15 rest → Completes (.imgConfirm i) s (fun u =>
      (s.boot.trial = false → MbAnswered s u i 5 [] ∧ u.flash = s.flash) ∧
      (s.boot.trial = true → goodFlashes s = [] → MbAnswered s u i 9 [] ∧ u.flash = s.flash) ∧
      (s.boot.trial = true → goodFlashes s ≠ [] → MbAnswered s u i 0 [] ∧
        regN u 0x10160 = withBits (bootRecord s) 1 0 s.boot.slot % 2 ^ 32 ∧
        (s.memOk → ∀ g b, 65536 ≤ b → memByte 0xFF (flashOf u g) b = memByte 0xFF (flashOf s g) b))))) ∧
  (∀ (s : State) (i : Fin 2) (rest : List Nat), coreOn s = true →
    let r := requestOf s i
    let p := r.arg 0
    (16 ≤ p → (MbDue s i 0x40 rest → Completes (.regEnable i) s (fun u => MbAnswered s u i 3 [] ∧ u.regn = s.regn)) ∧
      (MbDue s i 0x41 rest → Completes (.regRelease i) s (fun u => MbAnswered s u i 3 [] ∧ u.regn = s.regn)) ∧
      (MbDue s i 0x42 rest → Completes (.regSilence i) s (fun u => MbAnswered s u i 3 [] ∧ u.regn = s.regn)) ∧
      (MbDue s i 0x43 rest → Completes (.regStatus i) s (fun u => MbAnswered s u i 3 [] ∧ u.regn = s.regn))) ∧
    (p < 16 →
      (MbDue s i 0x40 rest → Completes (.regEnable i) s (fun u => MbAnswered s u i 0 [] ∧
        bitAt u (trkR p 0x400) 0 = (r.arg 1 % 2 == 1) ∧ (r.arg 1 % 2 = 0 → (regnOf u p).state = .init) ∧
        (r.arg 1 % 2 = 1 → hasTiming s p = false → (regnOf u p).state = (regnOf s p).state))) ∧
      (MbDue s i 0x41 rest → Completes (.regRelease i) s (fun u =>
        let st := (regnOf s p).state
        (st = .init ∨ st = .listen → MbAnswered s u i 2 [] ∧ u.regn = s.regn ∧ Counted (trkR p 0x440) s u) ∧
        (st = .hold → MbAnswered s u i 0 [] ∧ (regnOf u p).state = .init ∧ (regnOf u p).tid = none) ∧
        (st ≠ .init → st ≠ .listen → st ≠ .hold → MbAnswered s u i 0 [] ∧ (regnOf u p).state = .listen ∧ (regnOf u p).tid = none))) ∧
      (MbDue s i 0x42 rest → Completes (.regSilence i) s (fun u =>
        (silenceOk s p = false → MbAnswered s u i 2 [] ∧ u.regn = s.regn ∧ u.guards = s.guards ∧ Counted (trkR p 0x440) s u) ∧
        (silenceOk s p = true → MbAnswered s u i 0 [] ∧ (guardOf u p).gateClosed = true ∧ (regnOf u p).state = .silent ∧
          ∃ x, (regnOf u p).silence = some x ∧ x.reason = 0xFF ∧ x.left = r.arg 1))) ∧
      (MbDue s i 0x43 rest → Completes (.regStatus i) s (fun u => u.regn = s.regn ∧
        MbAnswered s u i 0 ([0x404, 0x408, 0x40C, 0x410, 0x414].map fun o => (showReg s (trkR p o)).toNat)))) ∧
    (MbDue s i 0x50 rest → Completes (.timeTod i) s (fun u =>
      (ppsSource s = false → MbAnswered s u i 3 [] ∧ u.time = s.time) ∧
      (ppsSource s = true → MbAnswered s u i 0 [] ∧
        u.time = { s.time with tod := some (r.arg 0 + 2 ^ 32 * r.arg 1), todFirst := true }))) ∧
    (MbDue s i 0x51 rest → Completes (.timeArmStep i) s (fun u => MbAnswered s u i 0 [] ∧ u.time = s.time ∧
      bitAt u 0x01400004 28 = true)) ∧
    (MbDue s i 0x52 rest → Completes (.timeRead i) s (fun u => u.time = s.time ∧
      MbAnswered s u i 0 (([0x01400010, 0x01400014, 0x01400018, 0x0140001C].map fun a => (showReg s a).toNat) ++
        [tbState s, fld s 0x01400004 29 29, regN s 0x108, (showReg s 0x100).toNat, (showReg s 0x104).toNat])))) ∧
  ∀ s : State, coreOn s = true → Completes .nrRecordWrite s (fun u =>
    (nextRecord s = none → u = s) ∧
    ∀ n, nextRecord s = some n →
      let c := n.content
      let units := ceilDiv (16 + c.2.length) 64
      let at_ := if nrUnits s < nrProd s + units then 0 else nrProd s
      let pad := if nrUnits s < nrProd s + units then nrUnits s - nrProd s else 0
      let fits := s.ic.linkUp = true ∧ (nrProd s + nrUnits s - nrCons s) % nrUnits s + pad + units < nrUnits s
      (bitAt s 0x0A020000 31 = false → u = n.taken s) ∧
      (bitAt s 0x0A020000 31 = true → s.xt.records ≠ [] → ¬ fits → u.xt.records = s.xt.records ∧ u.can = s.can ∧
        (s.cls.cpu = [] → u = s) ∧
        ∀ x l, s.cls.cpu = x :: l → u.cls.cpu = l ∧ ((reg64 s 0x0A020018).testBit x.cls = false → u = (NextRecord.copy x l).taken s)) ∧
      (bitAt s 0x0A020000 31 = true → s.xt.records ≠ [] → fits →
        regN u 0x0A020010 = (at_ + units) % nrUnits s ∧ Counted 0x0A020108 s u ∧ u.xt.records = (n.taken s).xt.records ∧
        (s.memOk → memRead 0 u.hostMem (reg64 s 0x0A020004 + 64 * at_) 4 = toBytes 4 (c.1 * 2 ^ 24) ∧
          memRead 0 u.hostMem (reg64 s 0x0A020004 + 64 * at_ + 16) c.2.length = c.2)) ∧
      ∀ x l, bitAt s 0x0A020000 31 = true → n = .copy x l → (reg64 s 0x0A020018).testBit x.cls = true → ¬ fits →
        Counted 0x0A02010C s u ∧ u.cls.cpu = l ∧ u.hostMem = s.hostMem)

/-! ## Faults and recovery (ch. 18) -/

/-- The core domain has been reset with a cause: a warm start begins at stage 3, every port is in INIT, the level is Reef 0,
READY is low, the lock clear, the watchdog off (R451, R479). -/
def WarmStarted (cause : Nat) (s u : State) : Prop :=
  bootStage u = 3 ∧ bootKind u = 1 ∧ regN u 0x5018 = cause * 2 ^ 28 ∧ u.boot.coreUp = false ∧ u.boot.furled = false ∧
  u.boot.ready = false ∧ reg u 0x10108 = 0 ∧ u.reef.level = 0 ∧ u.reef.coreMHz = 400 ∧ domOn u 4 = true ∧ bitAt u 0x5004 31 = false ∧ u.uptime = s.uptime ∧ u.flash = s.flash ∧
  u.shr.roots = [] ∧ ∀ p < 16, (regnOf u p).state = .init ∧ (regnOf u p).tid = none ∧ (guardOf u p).windows = []

/-- Memory errors (R472 to R475, R481). Where the spec leaves a point open, what is stated is the
model's choice: log entries 138 to 150 and 196 to 197 and 200 and 206 to 207 and 232 and 234. -/
def Obligations.MemoryFaults : Prop :=
  (∀ (s : State) (k : Fin 16) (addr : BitVec 64),
    Completes (.correctableError k addr) s (fun u =>
      let recent := (s.faults.ceTimes.look [] k).filter fun t => decide (s.uptime < t + 25000000)
      (structOn s k = false → u = s) ∧
      (structOn s k = true → Counted (ceR k) s u ∧ Only [.regs, .sent, .icSrc, .icMsix, .reef, .faults] s u ∧
        bitAt u 0x5010 3 = (bitAt s 0x5010 3 || decide (max 1 (fld s 0x5000 15 0) ≤ recent.length + 1)) ∧
        (hbmStruct k = true → Counted (stkR (Config.hbmStack addr.toNat).val 0x10) s u))) ∧
    (∀ err : Bool, Completes (.scrubRead k addr err) s (fun u =>
      let reads := coreOn s && structOn s k && k.val != 8
      (reads = false → u = s) ∧
      (reads = true → Only [.regs, .sent, .icSrc, .icMsix, .reef, .faults] s u ∧
        (err = false → reg u (ceR k) = reg s (ceR k)) ∧ (err = true → Counted (ceR k) s u)))) ∧
    (∀ copyBad : Bool, Completes (.uncorrectableError k addr copyBad) s (fun u =>
      let starting := 9 ≤ bootStage s ∧ bootStage s ≤ 12
      let outside := (restorable k = true ∧ (copyBad = true ∨ ∃ x, x ∈ s.faults.restoring ∧ x.1 = k.val)) ∨
        ∃ a, (k.val, a, s.uptime) ∈ s.faults.lastUe ∧ s.faults.lastUe.look (0, 0) k.val = (a, s.uptime) ∧ a ≠ addr.toNat
      (structOn s k = false → u = s) ∧
      (structOn s k = true → Counted (ceR k + 4) s u ∧ bitAt u 0x5010 2 = true) ∧
      (structOn s k = true → s.boot.furled = false → starting → IsFurled (stageReason (bootStage s)) u) ∧
      (structOn s k = true → s.boot.furled = false → ¬ starting → outside → IsFurled 8 u) ∧
      (structOn s k = true → ¬ starting → ¬ outside → restorable k = true → k.val ≠ 5 →
        u.faults.restoring = s.faults.restoring ++ [(k.val, addr.toNat)] ∧
        Only [.regs, .fresh, .sent, .icSrc, .icMsix, .can, .sch, .reef, .faults] s u ∧
        (k.val ≠ 4 → k.val ≠ 6 → k.val ≠ 9 → Only [.regs, .sent, .icSrc, .icMsix, .reef, .faults] s u)) ∧
      (structOn s k = true → ¬ starting → ¬ outside → hbmStruct k = true →
        Counted (stkR (Config.hbmStack addr.toNat).val 0x14) s u)))) ∧
  (∀ s : State, coreOn s = true → Completes .restoreDone s (fun u =>
    let waits := fun (x : Nat × Nat) => needsMirror x = true ∧ hbmAvail s = false
    ((∀ x, x ∈ s.faults.restoring → waits x) → u = s) ∧
    ∀ a x b, s.faults.restoring = a ++ x :: b → (∀ y, y ∈ a → waits y) → ¬ waits x →
      u.faults.restoring = a ++ b ∧ Only [.fresh, .can, .buf, .sch, .faults] s u ∧
        (x.1 ≠ 4 → x.1 ≠ 5 → x.1 ≠ 9 → Only [.faults] s u))) ∧
  ∀ (s : State) (n : Fin 4), Completes (.hbmStackFault n) s (fun u =>
    let hit := coreOn s && domOn s (0x10 + n.val) && !s.boot.furled
    (hit = false → u = s) ∧
    (hit = true → IsFurled 8 u ∧ bitAt u (stkR n 0) 29 = true ∧ bitAt u 0x05000004 31 = false))

/-- Lockstep, resets, pins and the log (R477 to R483). Where the spec leaves a point open, what is stated is the
model's choice: log entries 138 to 150 and 196 to 197 and 200 and 206 to 207 and 232 and 234. -/
def Obligations.ResetsAndPins : Prop :=
  (∀ (s : State) (k : Fin 8),
    Completes (.lockstepMismatch k) s (fun u =>
      let hit := coreOn s && !s.boot.furled && pairServes s k
      let recent := ((pairOf s k).mismatches.filter fun t => decide (s.uptime < t + 25000000 * 86400)).length
      (hit = false → u = s) ∧
      (hit = true → Counted 0x5104 s u ∧ pairServes u k = false ∧ bitAt u 0x5010 1 = true ∧
        (takingOver s k = true → IsFurled 8 u) ∧
        (takingOver s k = false → recent < 2 → pairRetired u k = pairRetired s k ∧
          Only [.regs, .fresh, .sent, .icSrc, .icTgt, .icMsix, .reef, .faults] s u) ∧
        (takingOver s k = false → (∃ j < 8, j ≠ k.val ∧ pairServes s j = true) → ∀ x, x ∈ u.faults.owners → x.2 ≠ k.val) ∧
        (takingOver s k = false → 2 ≤ recent → pairRetired u k = true ∧
          (2 ≤ ((upTo 8).filter fun j => j != k.val && pairRetired s j).length → IsFurled 8 u)))) ∧
    (∀ passed : Bool, Completes (.pairReturn k passed) s (fun u =>
      let waits := coreOn s && !s.boot.furled && (pairOf s k).down && !pairRetired s k
      (waits = false → u = s) ∧
      (waits = true → (pairOf u k).down = false ∧ pairServes u k = passed ∧ pairRetired u k = !passed)))) ∧
  (∀ s : State,
    (∀ v : Word, Completes (.wdogKick v) s (fun u => (bits v.toNat 15 0 ≠ 0x7A3C → u = s) ∧
      (bits v.toNat 15 0 = 0x7A3C → Only [.faults] s u ∧ u.faults = { s.faults with kickAt := s.uptime }))) ∧
    Completes .watchdogExpiry s (fun u =>
      let due := coreOn s = true ∧ s.boot.furled = false ∧ bitAt s 0x5004 31 = true ∧
        s.faults.kickAt + 25000 * max 1 (fld s 0x5004 15 0) ≤ s.uptime
      (¬ due → u = s) ∧
      (due → Counted 0x5108 s u ∧ bitAt u 0x5010 7 = true ∧ (3 ≤ bootStage s → WarmStarted 4 s u))) ∧
    (∀ cause : BitVec 4, Completes (.coreReset cause) s (fun u =>
      let takes := 2 ≤ cause.toNat ∧ cause.toNat ≤ 6 ∧ 3 ≤ bootStage s ∧
        (s.boot.furled = false ∨ cause.toNat = 2 ∨ cause.toNat = 3)
      (¬ takes → u = s) ∧ (takes → WarmStarted cause.toNat s u))) ∧
    (∀ d : Byte, Completes (.powerGoodLoss d) s (fun u =>
      let n := d.toNat
      (domPowered s n = false → u = s) ∧
      (domPowered s n = true → bitAt u 0x00200020 8 = true ∧
        (n = 3 ∨ (0x10 ≤ n ∧ n < 0x14) → s.boot.furled = false → 3 ≤ bootStage s →
          WarmStarted (if n = 3 then 5 else 6) s u ∧ domOn u n = false) ∧
        (n = 5 → u.ic.linkUp = false ∧ u.ic.msixPend = [] ∧ u.ic.funcMask = false ∧ u.ic.bar0 = 0) ∧
        (∀ p < 16, n = 0x20 + p → (waiken u p).noLight = true ∧ ∀ b < 32, ∀ k < 4, linkUp u b k = linkUp s b k) ∧
        (∀ b < 32, n = 0x40 + b → ∀ k < 4, linkUp u b k = false)))) ∧
    Completes .heartwoodPowerOn s (fun u => u.flash = s.flash ∧ u.hostMem = s.hostMem ∧ u.pending = s.pending ∧
      u.shr.fuses = s.shr.fuses ∧ u.uptime = 0 ∧ u.regs = State.reset.regs ∧ u.boot = { State.reset.boot with torn := s.boot.torn } ∧
      u.reef = State.reset.reef ∧ u.contexts = [] ∧ u.can = State.reset.can ∧ u.buf = State.reset.buf ∧ s.sent <+: u.sent) ∧
    Completes .pcieReset s (fun u => (coreOn s = false → u = s) ∧
      (coreOn s = true → Only [.icMsix] s u ∧ u.ic.msixPend = [] ∧ u.ic.funcMask = false ∧ u.ic.bar0 = 0 ∧ u.ic.readRequest = 2 ∧ u.ic.linkUp = s.ic.linkUp)) ∧
    (∀ up : Bool, Completes (.pcieLinkChange up) s (fun u =>
      (domOn s 5 = false ∨ s.ic.linkUp = up → u = s) ∧
      (domOn s 5 = true → s.ic.linkUp ≠ up → u.ic.linkUp = up ∧ Only [.regs, .sent, .icSrc, .icMsix, .lanes, .reef] s u ∧
        (∀ l, l ∈ [275, 276, 277, 278] → (laneOf u l).tx = linkCode up (bitAt s (laneR l 0) 0) (laneOf s l).tx ∧
          (laneOf u l).rx = linkCode up (bitAt s (laneR l 0) 0) (laneOf s l).rx) ∧
        (∀ l, l < 275 → laneOf u l = laneOf s l) ∧
        (up = false → u.ic.msixPend = [] ∧ ∀ v a d, Output.msix v a d ∈ u.sent → Output.msix v a d ∈ s.sent))))) ∧
  (∀ s : State,
    Completes .xtalFailure s (fun u => (s.faults.xtalInt = true → u = s) ∧
      (s.faults.xtalInt = false → u.faults.xtalInt = true ∧ bitAt u 0x5010 4 = true ∧ (s.boot.furled = false → IsFurled 8 u))) ∧
    ∀ avs : Bool,
      Completes (.pmbusStuck avs) s (fun u =>
        let was := if avs then s.reef.avsStuck else s.reef.busStuck
        (was = true → u = s) ∧
        (was = false → (if avs then u.reef.avsStuck else u.reef.busStuck) = true ∧ bitAt u 0x5010 4 = true ∧
          (s.reef.mv ≠ 0 → u.reef.mv = s.reef.mv) ∧
          (4 ≤ bootStage s → bootStage s < 14 → s.boot.furled = false → IsFurled 2 u) ∧
          (14 ≤ bootStage s → u.reef.level = s.reef.level ∧ Only [.regs, .sent, .icSrc, .icMsix, .reef, .faults] s u))) ∧
      Completes (.pmbusAnswersAgain avs) s (fun u => Only [.reef] s u ∧
        (if avs then u.reef.avsStuck else u.reef.busStuck) = false ∧
        (if avs then u.reef.busStuck = s.reef.busStuck else u.reef.avsStuck = s.reef.avsStuck))) ∧
  ∀ s : State,
    Completes .logCopy s (fun u =>
      let x := s.faults
      let can := coreOn s && (flashUp s 0 || flashUp s 1)
      let full := s.uptime < x.copyFrom + 25000000 ∧ 16 ≤ x.copied
      let r := if x.lost ≠ 0 then lostRecord s else x.ring.look [] ((x.nextPos + 256 - x.uncopied) % 256)
      (can = false ∨ x.uncopied = 0 ∨ full → u = s) ∧
      (can = true → x.uncopied ≠ 0 → ¬ full → u.faults.logged = x.logged + 1 ∧ u.faults.lost = 0 ∧
        u.xt.records = s.xt.records ++ [(3, recordBytes r)] ∧
        (x.lost = 0 → u.faults.uncopied = x.uncopied - 1) ∧
        u.faults.seq = x.seq ∧ (x.lost ≠ 0 → u.faults.uncopied = x.uncopied ∧ bitAt u 0x5010 5 = true) ∧
        ∀ f < 2, (flashUp s f = false → flashOf u f = flashOf s f) ∧
          (flashUp s f = true → s.memOk →
            memRead 0xFF (flashOf u f) (0x100000 + 64 * (x.logged % 245760)) (recordBytes r).length = recordBytes r ∧
            ∀ a, a < 0x100000 → memByte 0xFF (flashOf u f) a = memByte 0xFF (flashOf s f) a))) ∧
    ∀ i : Byte, Completes (.logIdxWrite i) s (fun u =>
      let l := s.faults.ring.look (List.replicate 16 0) i.toNat
      Only [.regs] s u ∧ regN u 0x5028 = i.toNat ∧ ∀ k (h : k < l.length), reg u (0x5040 + 4 * k) = l[k])

/-! ## Management access and register map (ch. 19) -/

/-- A counter clear: registers that w picks hold 0 or read their reset value, every other register is as it was. -/
def Clears (w : Nat → Bool) (s u : State) : Prop :=
  (∀ a, w a = true → reg u a = 0 ∨ reg u a = resetOf a) ∧ RegsOnly w s u

/-- Register access (R8 to R13, R503, R504). Where the spec leaves a point open, what is stated is the
model's choice: log entries 151 to 158 and 198 and 228. -/
def Obligations.RegisterAccess : Prop :=
  (∀ (s : State) (path : Path) (addr v : Word),
    let a := canonAddr addr.toNat
    Completes (.registerWrite path addr v) s (fun u =>
      let b := (a - 0x02000000) / 0x10000
      let odd := answers s a && absentSet s a && a % 0x1000 == 0 && paired s b
      (odd = true → bitAt u (cliR b 4) 31 = true ∧ bitAt u (cliR b 8) 6 = true ∧ Only [.regs] s u ∧
        RegsOnly (fun x => x == cliR b 4 || x == cliR b 8) s u) ∧
      (odd = false → present s a = false ∨ rowOf a = none → u = s) ∧
      ∀ d w, present s a = true → rowOf a = some (d, w) → writeEffect path a v s = none →
        (d.words = 1 → w = 0 → Only [.regs] s u ∧ RegsOnly (· == a) s u ∧ ∀ i < 32,
          let opens := d.rwMask.getLsbD i || (!bitAt s 0x10108 0 && d.rwlMask.getLsbD i)
          bitAt u a i = ((if opens then v.getLsbD i else bitAt s a i) && !(v.getLsbD i && d.w1cMask.getLsbD i))) ∧
        (1 < d.words → w ≠ 0 → (openBits s d w ||| d.w1cMask) ≠ 0 → Only [.paths] s u ∧
          (pathOf u path).high.look 0 a = v ∧ (pathOf u path).high.has a = true)) ∧
    Completes (.wideWriteCommit path addr v) s (fun u =>
      ∀ d, present s a = true → rowOf a = some (d, 0) → writeEffect path a v s = none → d.words = 2 →
        (writable s d 0 ||| d.w1cMask) ≠ 0 → reg u a = writtenWord s d 0 a v ∧
        ((pathOf s path).high.has (a + 4) = true → (pathOf u path).high.has (a + 4) = false ∧
          reg u (a + 4) = writtenWord s d 1 (a + 4) ((pathOf s path).high.look 0 (a + 4))) ∧
        ((pathOf s path).high.has (a + 4) = false → reg u (a + 4) = reg s (a + 4)) ∧ Only [.regs, .paths] s u) ∧
    Completes (.wideReadSnapshot path addr) s (fun u =>
      (present s a = false ∨ rowOf a = none → readEffect path a s = none → u = emit (.data path [0]) s) ∧
      ∀ d w, present s a = true → rowOf a = some (d, w) → readEffect path a s = none →
        (d.words ≤ 1 → u = emit (.data path [showReg s a]) s) ∧
        (1 < d.words → w ≠ 0 → u = emit (.data path [(pathOf s path).snap.look 0 a]) s) ∧
        (1 < d.words → w = 0 → u.sent = s.sent ++ [.data path [showReg s a]] ∧ Only [.paths, .sent] s u ∧
          ∀ k, 0 < k → k < d.words → (pathOf u path).snap.look 0 (a + 4 * k) = showReg s (a + 4 * k)))) ∧
  (∀ s : State,
    Completes .bksCntClr s (fun u => Only [.regs] s u ∧ Clears (fun a => within 0x01200100 0x400 a && decide (0x20 ≤ a % 0x40)) s u) ∧
    Completes .reefCntClr s (fun u => Only [.regs] s u ∧ Clears (within 0x00200100 0x60) s u) ∧
    Completes .fltCntClr s (fun u => Only [.regs] s u ∧ Clears (fun a => within 0x5100 0x18 a || within 0x5200 0x80 a) s u) ∧
    Completes .accCntClr s (fun u => Only [.regs] s u ∧ Clears (within 0x10030 12) s u)) ∧
  (∀ s : State, coreOn s = true →
    Completes .tbCntClr s (fun u => Only [.regs] s u ∧ Clears (within 0x01400200 0x1C) s u) ∧
    (∀ l : Fin 279, Completes (.laneCntClr l) s (fun u => Only [.regs] s u ∧ Clears (fun a => within (laneR l 0x100) 0x1C a ||
      (decide (256 ≤ l.val ∧ l.val < 272) && a == wknR (l - 256) 0x10)) s u)) ∧
    (∀ b : Fin 33, Completes (.cliCntClr b) s (fun u => Only [.regs] s u ∧
      Clears (fun a => (upTo 4).any fun k => within (subR b k 0x800) 0x64 a) s u)) ∧
    Completes .tsiCntClr s (fun u => Only [.regs] s u ∧ Clears (within 0x02400100 0x34) s u) ∧
    Completes .pgCntClr s (fun u => Only [.regs] s u ∧ Clears (within 0x03000200 0x20) s u) ∧
    Completes .clsCntClr s (fun u => Only [.regs] s u ∧
      Clears (fun a => within 0x03100600 0x100 a || within 0x03102000 0x400 a || within 0x03104000 0x10 a) s u) ∧
    Completes .canCntClr s (fun u => Only [.regs] s u ∧ Clears (within 0x04004000 0x500) s u) ∧
    Completes .tcamCntClr s (fun u => Only [.regs] s u ∧ Clears (within 0x04103000 0x28) s u) ∧
    Completes .bufCntClr s (fun u => Only [.regs] s u ∧
      Clears (fun a => within 0x05000800 0x4C a || within 0x05000A00 0x200 a) s u) ∧
    Completes .schCntClr s (fun u => Only [.regs, .sch] s u ∧
      Clears (fun a => within 0x06000800 0x38 a || (decide (16 ≤ a % 32) && (within 0x060C0000 0x10000 a || within 0x06400000 0x200000 a))) s u ∧
      ∀ k, (meterOf u k).green = 0 ∧ (meterOf u k).yellow = 0 ∧ (meterOf u k).red = 0 ∧ (meterOf u k).tc = (meterOf s k).tc) ∧
    Completes .shrCntClr s (fun u => Only [.regs] s u ∧ Clears (fun a => within 0x07001000 0x400 a || within 0x07002000 0x20 a) s u) ∧
    Completes .icCntClr s (fun u => Only [.regs] s u ∧ Clears (within 0x00106000 0x160) s u) ∧
    Completes .nrCntClr s (fun u => Only [.regs] s u ∧ Clears (fun a => within 0x0A020100 16 a || within 0x0A030100 8 a) s u) ∧
    (∀ n : Fin 4, Completes (.stkCntClr n) s (fun u => Only [.regs] s u ∧ Clears (within (0x09000010 + 0x1000 * n) 12) s u))) ∧
  ∀ (s : State) (c : Instr), coreOn s = true → Completes .pmSnapInterval s (fun u => snapDue s = false → u = s) ∧
    (c = .pmSnap ∨ (c = .pmSnapInterval ∧ fld s 0x0B000000 15 0 ≠ 0 ∧ s.xt.snapFrom + 25000 * fld s 0x0B000000 15 0 ≤ s.uptime) → Completes c s (fun u =>
    (c = .pmSnap → Only [.regs] s u) ∧
    (c = .pmSnapInterval → Only [.regs, .xt] s u ∧ u.xt = { s.xt with snapFrom := s.xt.snapFrom + 25000 * fld s 0x0B000000 15 0 }) ∧
    regN u 0x0B000004 = (regN s 0x0B000004 + 1) % 65536 ∧ reg64 u 0x0B000008 = s.uptime % 2 ^ 64 ∧
    ∀ n < 256,
      let a := canonAddr (fld s (0x0B001000 + 4 * n) 27 2 * 4)
      let hit := answers s a && (match rowOf a with | some (d, _) => d.isCnt | none => false)
      let err := bitAt u (0x0B000020 + 4 * (n / 32)) (n % 32)
      (bitAt s (0x0B001000 + 4 * n) 31 = false → err = false ∧ reg u (0x0B002000 + 8 * n) = reg s (0x0B002000 + 8 * n) ∧
        reg u (0x0B002004 + 8 * n) = reg s (0x0B002004 + 8 * n)) ∧
      (bitAt s (0x0B001000 + 4 * n) 31 = true → err = !hit ∧ reg u (0x0B002000 + 8 * n) = (if hit then showReg s a else 0) ∧
        reg u (0x0B002004 + 8 * n) = if hit && bitAt s (0x0B001000 + 4 * n) 30 then showReg s (a + 4) else 0)))

/-- An access is turned away: its latch bit is set and its counter counts, and nothing else changes but what l allows. -/
def Rejected (i : Nat) (l : List Part) (s u : State) : Prop :=
  Only (.regs :: l) s u ∧ bitAt u 0x10020 i = true ∧ Counted (0x10030 + 4 * i) s u ∧
  RegsOnly (fun a => a == 0x10020 || a == 0x10030 + 4 * i) s u

/-- Access paths (R488 to R500). Where the spec leaves a point open, what is stated is the
model's choice: log entries 151 to 158 and 198 and 228. -/
def Obligations.AccessPaths : Prop :=
  (∀ (s : State) (q : PcieRequest) (c : ConfigRequest), q.config = some c → Completes (.pcieMemoryRequest q) s (fun u =>
    (s.ic.linkUp = false → u = s) ∧
    (∀ n, s.ic.linkUp = true → c = .header n → u = emit (.data .pcie [configHeader s n]) s ∧ configHeader s 0 = 0x00961A47 ∧
      configHeader s 2 = 0x028000B0) ∧
    (∀ v, s.ic.linkUp = true → c = .bar0 v → u = { s with ic := { s.ic with bar0 := v &&& 0xF0000000 } }) ∧
    (∀ n, s.ic.linkUp = true → c = .readRequest n → u = { s with ic := { s.ic with readRequest := n } }) ∧
    ∀ b, s.ic.linkUp = true → c = .functionMask b → u.ic.funcMask = b ∧ (b = true → Only [.icMsix] s u ∧ u.ic.msixPend = s.ic.msixPend))) ∧
  (∀ (s : State) (q : PcieRequest), q.config = none → Completes (.pcieMemoryRequest q) s (fun u =>
    let ok := q.addr.toNat % 4 = 0 ∧ q.fullEnables = true ∧ q.addr.toNat + 4 * q.dwords ≤ 0x10000000
    let a := q.addr.setWidth 32
    (s.ic.linkUp = false → u = s) ∧
    (s.ic.linkUp = true → q.data = none → 16 < q.dwords → u = emit .unsupported s) ∧
    (s.ic.linkUp = true → q.data = none → q.dwords ≤ 16 → ¬ ok → Rejected 0 [.sent] s u ∧
      u.sent = s.sent ++ [.data .pcie (List.replicate q.dwords 0)]) ∧
    (s.ic.linkUp = true → q.data = none → q.dwords = 1 → ok → exec (.wideReadSnapshot .pcie a) s = .next u) ∧
    (s.ic.linkUp = true → q.data = none → q.dwords ≤ 16 → ok → ∃ l, u.sent.getLast? = some (.data .pcie l) ∧ l.length = q.dwords) ∧
    ∀ l, s.ic.linkUp = true → q.data = some l →
      (16 < q.dwords → u = s) ∧ (q.dwords ≤ 16 → ¬ ok → Rejected 0 [] s u) ∧
      (∀ v, q.dwords = 1 → ok → l = [v] → exec (.registerWrite .pcie a v) s = .next u) ∧
      ∀ v r t, q.dwords ≤ 16 → ok → l = v :: r → q.dwords = r.length + 1 → exec (.registerWrite .pcie a v) s = .next t → t.ic.linkUp = true →
        exec (.pcieMemoryRequest { q with addr := q.addr + 4, dwords := r.length, data := some r }) t = .next u)) ∧
  (∀ (s : State) (write : Bool) (addr : BitVec 64) (size : Nat), Completes (.xtAccessReject write addr size) s (fun u =>
    let bad := coreOn s = true ∧ (size ≠ 4 ∨ addr.toNat % 4 ≠ 0 ∨ 0x0FFFFFFF < addr.toNat)
    (¬ bad → u = s) ∧
    (bad → Rejected 2 [.sent] s u ∧ u.sent = if write then s.sent else s.sent ++ [.data .xt [0]]))) ∧
  (∀ s : State,
    Completes .spiId s (fun u => Only [.bmc, .sent] s u ∧ u.bmc = { s.bmc with connected := true } ∧
      u.sent = s.sent ++ [.spi (misoWords [reg s 0x10000, reg s 0x10004, reg s 0x1000C, reg s 0x10008])]) ∧
    (s.bmc.code < 256 → Completes .spiStatus s (fun u => Only [.bmc, .sent] s u ∧ u.bmc = { s.bmc with connected := true } ∧
      ∃ w : Word, u.sent = s.sent ++ [.spi (misoWords [w])] ∧ w.getLsbD 31 = s.bmc.running.isSome ∧ w.getLsbD 30 = coreOn s ∧
        w.getLsbD 29 = s.boot.ready ∧ bits w.toNat 23 16 = s.bmc.code ∧ bits w.toNat 15 0 = 0)) ∧
    (∀ (b : Byte) (r : List Byte), b ∉ [0x9F, 0x05, 0x0B, 0x02, 0x21, 0x22, 0x23, 0xA5] → Completes (.spiReset (.unknown b r)) s (fun u =>
      u = emit (.spi (List.replicate r.length 0)) { s with bmc := { s.bmc with connected := true } })) ∧
    (∀ (l : List Byte) (c : Instr), l.length < 4 → c ∈ [Instr.spiRead l [], .spiWrite l [], .winRead l, .winWrite l [], .spiReset (.reset l)] →
      exec c s = .next { s with bmc := { s.bmc with connected := true } }) ∧
    (∀ (a : Word) (rest : List Byte), Completes (.spiRead (toBytes 4 a.toNat) rest) s (fun u => u.bmc.connected = true ∧
      let n := (rest.length - 1) / 4
      (∃ l, u.sent.getLast? = some (.spi l) ∧ l.length = 4 * n) ∧
      ((∃ k, k < n ∧ directOk (a.toNat + 4 * k) = false) → u.bmc.code = 3) ∧
      (n = 1 → directOk a.toNat = false → Rejected 1 [.bmc, .sent] s u ∧ u.sent = s.sent ++ [.spi [0, 0, 0, 0]]) ∧
      (n = 1 → directOk a.toNat = true → readEffect .bmc (canonAddr a.toNat) (bmcSeen s) = none →
        ∃ w t, exec (.wideReadSnapshot .bmc a) (bmcSeen s) = .next t ∧ t.sent = s.sent ++ [.data .bmc [w]] ∧
          u.sent = s.sent ++ [.spi (misoWords [w])] ∧ u.paths = t.paths ∧ u.regs = t.regs))) ∧
    (∀ (a v : Word) (cut : List Byte), cut.length < 4 → Completes (.spiWrite (toBytes 4 a.toNat) (toBytes 4 v.toNat ++ cut)) s (fun u =>
      u.bmc.connected = true ∧
      (directOk a.toNat = false → Rejected 1 [.bmc] s u ∧ u.bmc.code = 3) ∧
      (directOk a.toNat = true → exec (.registerWrite .bmc a v) (bmcSeen s) = .next u) ∧
      ∀ l, a.toNat + 4 < 2 ^ 32 → exec (.spiWrite (toBytes 4 a.toNat) (toBytes 4 v.toNat ++ l)) s =
        exec (.spiWrite (toBytes 4 (a.toNat + 4)) l) u)) ∧
    (∀ (a v : Word) (rest : List Byte) (c : Instr), c = .winRead (toBytes 4 a.toNat ++ rest) ∨
        c = .winWrite (toBytes 4 a.toNat) (toBytes 4 v.toNat ++ rest) → Completes c s (fun u => Only [.bmc] s u ∧
      (s.bmc.running = none → u.bmc = { s.bmc with
        connected := true, running := some (a, if c = .winRead (toBytes 4 a.toNat ++ rest) then none else some v) }) ∧
      (s.bmc.running ≠ none → u.bmc = { s.bmc with connected := true, code := 1 }))) ∧
    Completes .winAccessDone s (fun u => (s.bmc.running = none → u = s) ∧
      ∀ a v, s.bmc.running = some (a, v) →
        let x : State := { s with bmc := { s.bmc with running := none, code := 0 } }
        let code := if a.toNat % 4 ≠ 0 ∨ 0x0FFFFFFF < a.toNat then 3 else if answers s (canonAddr a.toNat) then 0 else 2
        u.bmc.running = none ∧ u.bmc.code = code ∧
        (code ≠ 0 → Only [.bmc] s u ∧ (v = none → u.bmc.data = 0 ∧ u.bmc.dataCode = code)) ∧
        (∀ w, code = 0 → v = some w → exec (.registerWrite .bmc a w) x = .next u) ∧
        (code = 0 → v = none → readEffect .bmc (canonAddr a.toNat) x = none → u.bmc.dataCode = 0 ∧
          ∃ t, exec (.wideReadSnapshot .bmc a) x = .next t ∧ t.sent = s.sent ++ [.data .bmc [u.bmc.data]] ∧ u.sent = s.sent)) ∧
    Completes .winData s (fun u => Only [.bmc, .sent] s u ∧ u.bmc = { s.bmc with connected := true } ∧
      u.sent = s.sent ++ [.spi (toBytes 4 s.bmc.data.toNat ++ toBytes 1 s.bmc.dataCode)]) ∧
    ∀ (key : Word) (rest : List Byte), Completes (.spiReset (.reset (toBytes 4 key.toNat ++ rest))) s (fun u =>
      (key ≠ 0x5A5AC3C3 → Only [.bmc] s u ∧ u.bmc = { s.bmc with connected := true, code := 3 }) ∧
      (key = 0x5A5AC3C3 → 3 ≤ bootStage s → WarmStarted 3 s u))) ∧
  ∀ (s : State) (m : InbandArrival), coreOn s = true → s.xt.requests = [] → Completes (.inbandRequest m) s (fun u =>
    let l := m.bytes
    let ver := fieldBe l 12 1
    let turned := l.length < 20 + fieldBe l 18 2 ∨ fieldBe l 0 2 ≠ 0x0101 ∨
      (s.boot.furled = false ∧ (bitAt s 0x0A030000 31 = false ∨ (m.fromTrunk = true ∧ bitAt s 0x0A030000 29 = false))) ∨
      ((s.boot.furled = true ∨ bitAt s 0x0A030000 30 = true) ∧ fieldBe l 4 8 ≤ reg64 s (mcSeqR m.fromTrunk)) ∨
      (s.boot.furled = true ∧ (m.fromTrunk = true ∨ ver ≠ 1)) ∨
      (s.boot.furled = false ∧ bitAt s 0x0A030000 30 = true ∧ rootFor s (fld s 0x0A030000 4 0) 1 = false)
    (turned → Counted 0x0A030104 s u ∧ Only [.regs] s u ∧ RegsOnly (· == 0x0A030104) s u) ∧
    (mcAccepts s m = true → m.fromTrunk = false → fieldBe l 14 2 = 1 → mbJudge s (msgRequest l) = none → Counted 0x0A030100 s u ∧
      reg64 u (mcSeqR m.fromTrunk) = max (reg64 s (mcSeqR m.fromTrunk)) (fieldBe l 4 8) ∧
      (macUp s 32 0 = true → s.sent.length < u.sent.length ∨ fld u (subR 32 0 0x850) 31 0 ≠ 0)))

end
end

