-- ==== Sys2Proof/Laws/Memory.lean ====
section
/-! SUPPORT. Every memory operation keeps the canonical form; a read after a write. -/
namespace Sys2Proof.Machine
open Sys2Proof

variable {d : Byte} {m : List Host.Cell}

theorem memWfFrom_mono {lo hi : Nat} (h : lo ≤ hi) (w : memWfFrom d hi m = true) : memWfFrom d lo m = true := by
  cases m with
  | nil => rfl
  | cons c r =>
    obtain ⟨k, x⟩ := c
    simp only [memWfFrom, Bool.and_eq_true, decide_eq_true_eq] at w ⊢
    exact ⟨⟨by omega, w.1.2⟩, w.2⟩

theorem memSet_wfFrom {lo a : Nat} (v : Byte) (h : lo ≤ a) (w : memWfFrom d lo m = true) :
    memWfFrom d lo (memSet d m a v) = true := by
  induction m generalizing lo with
  | nil =>
    simp only [memSet]; split
    · rfl
    · simp [memWfFrom, h]; assumption
  | cons c r ih =>
    obtain ⟨k, x⟩ := c
    simp only [memWfFrom, Bool.and_eq_true, decide_eq_true_eq] at w
    obtain ⟨⟨w1, w2⟩, w3⟩ := w
    simp only [memSet]
    split
    · split
      · simp [memWfFrom, w1, w2, w3]
      · rename_i h1 h2
        simp only [memWfFrom, Bool.and_eq_true, decide_eq_true_eq]
        exact ⟨⟨h, by simpa using h2⟩, ⟨by omega, w2⟩, w3⟩
    · split
      · split
        · exact memWfFrom_mono (by omega) w3
        · rename_i h1 h2 h3
          subst h2
          simp only [memWfFrom, Bool.and_eq_true, decide_eq_true_eq]
          exact ⟨⟨h, by simpa using h3⟩, w3⟩
      · simp only [memWfFrom, Bool.and_eq_true, decide_eq_true_eq]
        exact ⟨⟨w1, w2⟩, ih (by omega) w3⟩

/-- A write of one byte keeps the canonical form. -/
theorem memSet_wf (a : Nat) (v : Byte) (w : memWf d m = true) : memWf d (memSet d m a v) = true :=
  memSet_wfFrom v (Nat.zero_le a) w

/-- A write of any number of bytes keeps the canonical form. -/
theorem memWrite_wf (a : Nat) (l : List Byte) (w : memWf d m = true) : memWf d (memWrite d m a l) = true := by
  induction l generalizing m a with
  | nil => exact w
  | cons v l ih => exact ih _ (memSet_wf a v w)

/-- Dropping entries keeps the canonical form. -/
theorem memFilter_wf (p : Host.Cell → Bool) (w : memWf d m = true) : memWf d (m.filter p) = true := by
  unfold memWf at *
  generalize 0 = lo at *
  induction m generalizing lo with
  | nil => rfl
  | cons c r ih =>
    obtain ⟨k, x⟩ := c
    simp only [memWfFrom, Bool.and_eq_true, decide_eq_true_eq] at w
    simp only [List.filter]
    split
    · simp only [memWfFrom, Bool.and_eq_true, decide_eq_true_eq]
      exact ⟨w.1, ih _ w.2⟩
    · exact memWfFrom_mono (by omega) (ih _ w.2)

/-- Below every listed address a memory reads as d. -/
theorem memByte_low {lo a : Nat} (h : a < lo) (w : memWfFrom d lo m = true) : memByte d m a = d := by
  cases m with
  | nil => rfl
  | cons c r =>
    obtain ⟨k, x⟩ := c
    simp only [memWfFrom, Bool.and_eq_true, decide_eq_true_eq] at w
    simp only [memByte, if_pos (show a < k by omega)]

/-- A read after a write of one byte, in a canonical memory. -/
theorem memByte_memSet {lo : Nat} (a b : Nat) (v : Byte) (w : memWfFrom d lo m = true) :
    memByte d (memSet d m a v) b = if b = a then v else memByte d m b := by
  induction m generalizing lo with
  | nil =>
    by_cases hv : v = d
    · subst hv; simp [memSet, memByte]
    · simp only [memSet, if_neg hv, memByte]
      by_cases h1 : b < a
      · rw [if_pos h1, if_neg (by omega)]
      · rw [if_neg h1]
  | cons c r ih =>
    obtain ⟨k, x⟩ := c
    simp only [memWfFrom, Bool.and_eq_true, decide_eq_true_eq] at w
    obtain ⟨⟨w1, w2⟩, w3⟩ := w
    simp only [memSet]
    by_cases h1 : a < k
    · rw [if_pos h1]
      by_cases hv : v = d
      · rw [if_pos hv]
        by_cases hb : b = a
        · simp only [memByte, hb, if_pos h1, hv, if_true]
        · rw [if_neg hb]
      · rw [if_neg hv]
        simp only [memByte]
        by_cases hb : b < a
        · rw [if_pos hb, if_neg (by omega), if_pos (by omega)]
        · rw [if_neg hb]
    · rw [if_neg h1]
      by_cases h2 : a = k
      · subst h2
        rw [if_pos rfl]
        by_cases hv : v = d
        · rw [if_pos hv]
          by_cases hb : b < a + 1
          · rw [memByte_low hb w3]
            by_cases hba : b = a
            · rw [if_pos hba, hv]
            · simp only [memByte, if_neg hba, if_pos (show b < a by omega)]
          · simp only [memByte, if_neg (show ¬ b = a by omega), if_neg (show ¬ b < a by omega)]
        · rw [if_neg hv]
          simp only [memByte]
          by_cases hb : b < a
          · rw [if_pos hb, if_neg (by omega), if_pos hb]
          · by_cases hba : b = a
            · simp [hba]
            · simp [hb, hba]
      · rw [if_neg h2]
        simp only [memByte]
        by_cases hb : b < k
        · rw [if_pos hb, if_neg (by omega), if_pos hb]
        · rw [if_neg hb, if_neg hb]
          by_cases hbk : b = k
          · rw [if_pos hbk, if_pos hbk, if_neg (by omega)]
          · rw [if_neg hbk, if_neg hbk]; exact ih w3

/-- A read after a write of a row of bytes, in a canonical memory: outside the row nothing changes. -/
theorem memByte_memWrite_out {a b : Nat} {l : List Byte} (w : memWf d m = true) (h : b < a ∨ a + l.length ≤ b) :
    memByte d (memWrite d m a l) b = memByte d m b := by
  induction l generalizing m a with
  | nil => rfl
  | cons v l ih =>
    simp only [List.length_cons] at h
    simp only [memWrite]
    rw [ih (memSet_wf a v w) (by omega), memByte_memSet (lo := 0) a b v w, if_neg (by omega)]

/-- A read after a write of a row of bytes, in a canonical memory: inside the row its bytes. -/
theorem memByte_memWrite_in {a i : Nat} {l : List Byte} (w : memWf d m = true) (h : i < l.length) :
    memByte d (memWrite d m a l) (a + i) = l[i] := by
  induction l generalizing m a i with
  | nil => exact absurd h (Nat.not_lt_zero _)
  | cons v l ih =>
    simp only [memWrite]
    cases i with
    | zero =>
      rw [memByte_memWrite_out (memSet_wf a v w) (by omega)]
      exact (memByte_memSet (lo := 0) a a v w).trans (if_pos rfl)
    | succ i =>
      have := ih (a := a + 1) (i := i) (memSet_wf a v w) (by simpa using h)
      rw [show a + (i + 1) = a + 1 + i by omega, this]; rfl

end Sys2Proof.Machine
end

