-- ==== Sys2Proof/Laws/Tab.lean ====
section
/-! SUPPORT. Reading a table after a write to it. -/
namespace Sys2Proof

variable {α : Type}

@[simp] theorem Tab.look_put_self (d : α) (t : Tab α) (n : Nat) (x : α) : (t.put n x).look d n = x := by
  induction t with
  | nil => simp [Tab.put, Tab.look]
  | cons e r ih =>
    obtain ⟨k, v⟩ := e
    simp only [Tab.put]
    split
    · simp [Tab.look]
    · split
      · simp [Tab.look]
      · rename_i h1 h2; simp only [Tab.look, h1, h2, if_false]; exact ih

theorem Tab.look_put_ne (d : α) (t : Tab α) {n k : Nat} (h : k ≠ n) (x : α) : (t.put n x).look d k = t.look d k := by
  induction t with
  | nil =>
    simp only [Tab.put, Tab.look]
    rw [if_neg h, ite_self]
  | cons e r ih =>
    obtain ⟨j, v⟩ := e
    simp only [Tab.put]
    split
    · simp only [Tab.look]
      by_cases hk : k < n
      · rw [if_pos hk, if_pos (by omega)]
      · rw [if_neg hk, if_neg h]
    · split
      · simp only [Tab.look]; rename_i h1 h2; subst h2
        simp [h]
      · simp only [Tab.look]; rw [ih]

/-- A read after a write: the value written at its key, the old one elsewhere. -/
theorem Tab.look_put (d : α) (t : Tab α) (n k : Nat) (x : α) :
    (t.put n x).look d k = if k = n then x else t.look d k := by
  split
  · subst_vars; exact Tab.look_put_self ..
  · exact Tab.look_put_ne _ _ (by assumption) _

/-- An entrywise rewriting that fixes the default is seen at every key it rewrites. -/
theorem Tab.look_adjust (d : α) (f : Nat → α → α) (t : Tab α) (n : Nat) (h : f n d = d) :
    (t.adjust f).look d n = f n (t.look d n) := by
  induction t with
  | nil => simp [Tab.adjust, Tab.look, h]
  | cons e r ih =>
    obtain ⟨k, v⟩ := e
    simp only [Tab.adjust, Tab.look]
    split
    · exact h.symm
    · split
      · subst_vars; rfl
      · exact ih

/-- A table cut to the keys from n on reads as before there and as the default below. -/
theorem Tab.look_from (d : α) (t : Tab α) (n k : Nat) :
    Tab.look d (t.filter fun x => decide (n ≤ x.1)) k = if n ≤ k then t.look d k else d := by
  induction t with
  | nil => simp [Tab.look]
  | cons e r ih =>
    obtain ⟨j, v⟩ := e
    simp only [List.filter]
    by_cases hj : n ≤ j
    · simp only [hj, decide_true, Tab.look, ih]
      by_cases hk : n ≤ k
      · simp [hk]
      · simp [hk]; omega
    · simp only [hj, decide_false, ih, Tab.look]
      by_cases hk : n ≤ k
      · simp only [hk, if_true]; rw [if_neg (by omega), if_neg (by omega)]
      · simp [hk]

end Sys2Proof
end

