-- ==== Sys2Proof/Laws/Keep.lean ====
section
/-! SUPPORT. What an operation keeps: the relation every operation of the model satisfies (which parts it may change, that
what has left the device stays, that the memories stay canonical and the stacks bounded), and its composition. -/
namespace Sys2Proof.Machine
open Sys2Proof

/-- The place of a part in a mask. -/
def Part.bit : Part → Nat
  | .pending => 0
  | .regs => 1
  | .uptime => 2
  | .fresh => 3
  | .sent => 4
  | .icSrc => 5
  | .icTgt => 6
  | .icMsix => 7
  | .framers => 8
  | .pm => 9
  | .regn => 10
  | .timed => 11
  | .lookouts => 12
  | .halyards => 13
  | .contexts => 14
  | .guards => 15
  | .time => 16
  | .lanes => 17
  | .waikens => 18
  | .tsi => 19
  | .subs => 20
  | .fifos => 21
  | .shrOut => 22
  | .pg => 23
  | .cls => 24
  | .can => 25
  | .buf => 26
  | .sch => 27
  | .shr => 28
  | .reefLevel => 29
  | .reef => 30
  | .coreUp => 31
  | .boot => 32
  | .faults => 33
  | .paths => 34
  | .bmc => 35
  | .xt => 36
  | .flash => 37
  | .hostMem => 38
  | .xtMem => 39
  | .drift => 40

/-- From s to t only the parts of mask m have changed, nothing that left the device is taken back, the memories stay
canonical and the interrupt stacks bounded. -/
structure Keep (m : Nat) (s t : State) : Prop where
  same : ∀ p : Part, m.testBit p.bit = false → p.same s t
  sent : s.sent <+: t.sent
  fresh : s.fresh ≤ t.fresh
  mem : s.memOk → t.memOk
  stk : s.stacksOk → t.stacksOk

/-- What a step that answers a next state keeps. -/
def KeepN (m : Nat) (s : State) (o : Host.Outcome State Fault Refusal) : Prop := ∀ t, o = .next t → Keep m s t

/-- What a partial operation keeps where it answers. -/
def KeepO (m : Nat) (s : State) (o : Option State) : Prop := ∀ t, o = some t → Keep m s t

theorem Part.same_refl (p : Part) (s : State) : p.same s s := by
  cases p <;> first | exact ⟨rfl, rfl, rfl, rfl, rfl⟩ | rfl

theorem Part.same_trans (p : Part) {s t u : State} (h : p.same s t) (k : p.same t u) : p.same s u := by
  cases p <;> simp only [Part.same] at h k ⊢
  case reef => rw [← h, ← k]
  case boot => rw [← h, ← k]
  all_goals simp_all

variable {m mg : Nat} {r s t x y a b : State}

theorem Keep.refl : Keep m s s :=
  ⟨fun p _ => p.same_refl s, List.prefix_refl _, Nat.le_refl _, id, id⟩

theorem Keep.chain (k : Keep mg x y) (hm : mg &&& m = mg) (h : Keep m r x) : Keep m r y := by
  refine ⟨fun p hp => p.same_trans (h.same p hp) (k.same p ?_), h.sent.trans k.sent, Nat.le_trans h.fresh k.fresh,
    k.mem ∘ h.mem, k.stk ∘ h.stk⟩
  rw [← hm, Nat.testBit_and, hp, Bool.and_false]

theorem mask_sub {i j k : Nat} (h : i &&& j = i) (g : j &&& k = j) : i &&& k = i := by
  rw [← h, Nat.and_assoc, g]

theorem bit_sub {i j k : Nat} (h : i.testBit k = true) (g : i &&& j = i) : j.testBit k = true := by
  rw [← g, Nat.testBit_and, Bool.and_eq_true] at h; exact h.2

theorem Keep.hchain (k : Keep m x y) (h : Keep m r x) : Keep m r y := k.chain (Nat.and_self m) h

theorem Keep.weaken (k : Keep mg x y) (hm : mg &&& m = mg) : Keep m x y := k.chain hm .refl

theorem KeepN.chain {o : Host.Outcome State Fault Refusal} (k : KeepN mg x o) (hm : mg &&& m = mg) (h : Keep m r x) :
    KeepN m r o := fun t ht => (k t ht).chain hm h

theorem KeepO.chain {o : Option State} (k : KeepO mg x o) (hm : mg &&& m = mg) (h : Keep m r x) : KeepO m r o :=
  fun t ht => (k t ht).chain hm h

theorem KeepO.weaken {o : Option State} (k : KeepO mg x o) (hm : mg &&& m = mg) : KeepO m x o :=
  fun t ht => (k t ht).weaken hm

theorem KeepN.weaken {o : Host.Outcome State Fault Refusal} (k : KeepN mg x o) (hm : mg &&& m = mg) : KeepN m x o :=
  fun t ht => (k t ht).weaken hm

/-- Every part. -/
def Part.all : List Part := [.pending, .regs, .uptime, .fresh, .sent, .icSrc, .icTgt, .icMsix, .framers, .pm, .regn, .timed,
  .lookouts, .halyards, .contexts, .guards, .time, .lanes, .waikens, .tsi, .subs, .fifos, .shrOut, .pg, .cls, .can, .buf,
  .sch, .shr, .reefLevel, .reef, .coreUp, .boot, .faults, .paths, .bmc, .xt, .flash, .hostMem, .xtMem, .drift]

theorem Part.mem_all (p : Part) : p ∈ Part.all := by cases p <;> decide

/-- What an operation keeps, as the list of the parts it may change. -/
theorem Keep.only {l : List Part} (h : Keep m s t) (hl : (Part.all.all fun p => l.contains p || !m.testBit p.bit) = true) :
    Only l s t := fun p hp => h.same p (by
  have e := List.all_eq_true.1 hl p p.mem_all
  simpa [hp] using e)

theorem Keep.ite {c : Prop} [Decidable c] (h : Keep m r a) (k : Keep m r b) : Keep m r (if c then a else b) := by
  split <;> assumption

theorem Keep.ite1 {α : Type} {c : Prop} [Decidable c] {a b : State × α} (h : Keep m r a.1) (k : Keep m r b.1) :
    Keep m r (if c then a else b).1 := by split <;> assumption

theorem Keep.ite2 {α : Type} {c : Prop} [Decidable c] {a b : α × State} (h : Keep m r a.2) (k : Keep m r b.2) :
    Keep m r (if c then a else b).2 := by split <;> assumption

theorem Keep.iteMb {c : Prop} [Decidable c] {a b : MbAnswer} (h : Keep m r a.state) (k : Keep m r b.state) :
    Keep m r (if c then a else b).state := by split <;> assumption

theorem KeepN.next (h : Keep m s t) : KeepN m s (.next t) := by
  intro u hu; cases hu; exact h

theorem KeepN.ite {c : Prop} [Decidable c] {a b : Host.Outcome State Fault Refusal} (h : KeepN m r a) (k : KeepN m r b) :
    KeepN m r (if c then a else b) := by split <;> assumption

theorem KeepO.none : KeepO m s none := fun _ h => nomatch h

theorem KeepO.some (h : Keep m s t) : KeepO m s (some t) := by
  intro u hu; cases hu; exact h

theorem KeepO.ite {c : Prop} [Decidable c] {a b : Option State} (h : KeepO m r a) (k : KeepO m r b) :
    KeepO m r (if c then a else b) := by split <;> assumption

/-! One lemma per part: a state with that part replaced. -/

theorem Keep.pending {v : _} (h0 : m.testBit 0 = true) (h : Keep m r x) : Keep m r { x with pending := v } :=
  ⟨fun p hp => by cases p <;> first | exact h.same _ hp | (simp [Part.bit, h0] at hp), h.sent, h.fresh, h.mem, h.stk⟩
theorem Keep.regs {v : _} (h1 : m.testBit 1 = true) (h : Keep m r x) : Keep m r { x with regs := v } :=
  ⟨fun p hp => by cases p <;> first | exact h.same _ hp | (simp [Part.bit, h1] at hp), h.sent, h.fresh, h.mem, h.stk⟩
theorem Keep.uptime {v : _} (h2 : m.testBit 2 = true) (h : Keep m r x) : Keep m r { x with uptime := v } :=
  ⟨fun p hp => by cases p <;> first | exact h.same _ hp | (simp [Part.bit, h2] at hp), h.sent, h.fresh, h.mem, h.stk⟩
theorem Keep.framers {v : _} (h8 : m.testBit 8 = true) (h : Keep m r x) : Keep m r { x with framers := v } :=
  ⟨fun p hp => by cases p <;> first | exact h.same _ hp | (simp [Part.bit, h8] at hp), h.sent, h.fresh, h.mem, h.stk⟩
theorem Keep.pm {v : _} (h9 : m.testBit 9 = true) (h : Keep m r x) : Keep m r { x with pm := v } :=
  ⟨fun p hp => by cases p <;> first | exact h.same _ hp | (simp [Part.bit, h9] at hp), h.sent, h.fresh, h.mem, h.stk⟩
theorem Keep.regn {v : _} (h10 : m.testBit 10 = true) (h : Keep m r x) : Keep m r { x with regn := v } :=
  ⟨fun p hp => by cases p <;> first | exact h.same _ hp | (simp [Part.bit, h10] at hp), h.sent, h.fresh, h.mem, h.stk⟩
theorem Keep.timed {v : _} (h11 : m.testBit 11 = true) (h : Keep m r x) : Keep m r { x with timed := v } :=
  ⟨fun p hp => by cases p <;> first | exact h.same _ hp | (simp [Part.bit, h11] at hp), h.sent, h.fresh, h.mem, h.stk⟩
theorem Keep.lookouts {v : _} (h12 : m.testBit 12 = true) (h : Keep m r x) : Keep m r { x with lookouts := v } :=
  ⟨fun p hp => by cases p <;> first | exact h.same _ hp | (simp [Part.bit, h12] at hp), h.sent, h.fresh, h.mem, h.stk⟩
theorem Keep.halyards {v : _} (h13 : m.testBit 13 = true) (h : Keep m r x) : Keep m r { x with halyards := v } :=
  ⟨fun p hp => by cases p <;> first | exact h.same _ hp | (simp [Part.bit, h13] at hp), h.sent, h.fresh, h.mem, h.stk⟩
theorem Keep.contexts {v : _} (h14 : m.testBit 14 = true) (h : Keep m r x) : Keep m r { x with contexts := v } :=
  ⟨fun p hp => by cases p <;> first | exact h.same _ hp | (simp [Part.bit, h14] at hp), h.sent, h.fresh, h.mem, h.stk⟩
theorem Keep.guards {v : _} (h15 : m.testBit 15 = true) (h : Keep m r x) : Keep m r { x with guards := v } :=
  ⟨fun p hp => by cases p <;> first | exact h.same _ hp | (simp [Part.bit, h15] at hp), h.sent, h.fresh, h.mem, h.stk⟩
theorem Keep.time {v : _} (h16 : m.testBit 16 = true) (h : Keep m r x) : Keep m r { x with time := v } :=
  ⟨fun p hp => by cases p <;> first | exact h.same _ hp | (simp [Part.bit, h16] at hp), h.sent, h.fresh, h.mem, h.stk⟩
theorem Keep.lanes {v : _} (h17 : m.testBit 17 = true) (h : Keep m r x) : Keep m r { x with lanes := v } :=
  ⟨fun p hp => by cases p <;> first | exact h.same _ hp | (simp [Part.bit, h17] at hp), h.sent, h.fresh, h.mem, h.stk⟩
theorem Keep.waikens {v : _} (h18 : m.testBit 18 = true) (h : Keep m r x) : Keep m r { x with waikens := v } :=
  ⟨fun p hp => by cases p <;> first | exact h.same _ hp | (simp [Part.bit, h18] at hp), h.sent, h.fresh, h.mem, h.stk⟩
theorem Keep.tsi {v : _} (h19 : m.testBit 19 = true) (h : Keep m r x) : Keep m r { x with tsi := v } :=
  ⟨fun p hp => by cases p <;> first | exact h.same _ hp | (simp [Part.bit, h19] at hp), h.sent, h.fresh, h.mem, h.stk⟩
theorem Keep.subs {v : _} (h20 : m.testBit 20 = true) (h : Keep m r x) : Keep m r { x with subs := v } :=
  ⟨fun p hp => by cases p <;> first | exact h.same _ hp | (simp [Part.bit, h20] at hp), h.sent, h.fresh, h.mem, h.stk⟩
theorem Keep.fifos {v : _} (h21 : m.testBit 21 = true) (h : Keep m r x) : Keep m r { x with fifos := v } :=
  ⟨fun p hp => by cases p <;> first | exact h.same _ hp | (simp [Part.bit, h21] at hp), h.sent, h.fresh, h.mem, h.stk⟩
theorem Keep.shrOut {v : _} (h22 : m.testBit 22 = true) (h : Keep m r x) : Keep m r { x with shrOut := v } :=
  ⟨fun p hp => by cases p <;> first | exact h.same _ hp | (simp [Part.bit, h22] at hp), h.sent, h.fresh, h.mem, h.stk⟩
theorem Keep.pg {v : _} (h23 : m.testBit 23 = true) (h : Keep m r x) : Keep m r { x with pg := v } :=
  ⟨fun p hp => by cases p <;> first | exact h.same _ hp | (simp [Part.bit, h23] at hp), h.sent, h.fresh, h.mem, h.stk⟩
theorem Keep.cls {v : _} (h24 : m.testBit 24 = true) (h : Keep m r x) : Keep m r { x with cls := v } :=
  ⟨fun p hp => by cases p <;> first | exact h.same _ hp | (simp [Part.bit, h24] at hp), h.sent, h.fresh, h.mem, h.stk⟩
theorem Keep.can {v : _} (h25 : m.testBit 25 = true) (h : Keep m r x) : Keep m r { x with can := v } :=
  ⟨fun p hp => by cases p <;> first | exact h.same _ hp | (simp [Part.bit, h25] at hp), h.sent, h.fresh, h.mem, h.stk⟩
theorem Keep.buf {v : _} (h26 : m.testBit 26 = true) (h : Keep m r x) : Keep m r { x with buf := v } :=
  ⟨fun p hp => by cases p <;> first | exact h.same _ hp | (simp [Part.bit, h26] at hp), h.sent, h.fresh, h.mem, h.stk⟩
theorem Keep.sch {v : _} (h27 : m.testBit 27 = true) (h : Keep m r x) : Keep m r { x with sch := v } :=
  ⟨fun p hp => by cases p <;> first | exact h.same _ hp | (simp [Part.bit, h27] at hp), h.sent, h.fresh, h.mem, h.stk⟩
theorem Keep.shr {v : _} (h28 : m.testBit 28 = true) (h : Keep m r x) : Keep m r { x with shr := v } :=
  ⟨fun p hp => by cases p <;> first | exact h.same _ hp | (simp [Part.bit, h28] at hp), h.sent, h.fresh, h.mem, h.stk⟩
theorem Keep.faults {v : _} (h33 : m.testBit 33 = true) (h : Keep m r x) : Keep m r { x with faults := v } :=
  ⟨fun p hp => by cases p <;> first | exact h.same _ hp | (simp [Part.bit, h33] at hp), h.sent, h.fresh, h.mem, h.stk⟩
theorem Keep.paths {v : _} (h34 : m.testBit 34 = true) (h : Keep m r x) : Keep m r { x with paths := v } :=
  ⟨fun p hp => by cases p <;> first | exact h.same _ hp | (simp [Part.bit, h34] at hp), h.sent, h.fresh, h.mem, h.stk⟩
theorem Keep.bmc {v : _} (h35 : m.testBit 35 = true) (h : Keep m r x) : Keep m r { x with bmc := v } :=
  ⟨fun p hp => by cases p <;> first | exact h.same _ hp | (simp [Part.bit, h35] at hp), h.sent, h.fresh, h.mem, h.stk⟩
theorem Keep.xt {v : _} (h36 : m.testBit 36 = true) (h : Keep m r x) : Keep m r { x with xt := v } :=
  ⟨fun p hp => by cases p <;> first | exact h.same _ hp | (simp [Part.bit, h36] at hp), h.sent, h.fresh, h.mem, h.stk⟩
theorem Keep.drift {v : _} (h40 : m.testBit 40 = true) (h : Keep m r x) : Keep m r { x with drift := v } :=
  ⟨fun p hp => by cases p <;> first | exact h.same _ hp | (simp [Part.bit, h40] at hp), h.sent, h.fresh, h.mem, h.stk⟩
theorem Keep.icSrc {v : _} (h5 : m.testBit 5 = true) (h : Keep m r x) : Keep m r { x with ic := { x.ic with src := v } } :=
  ⟨fun p hp => by cases p <;> first | exact h.same _ hp | (simp [Part.bit, h5] at hp), h.sent, h.fresh, h.mem, h.stk⟩
theorem Keep.icMsix {v : Tab Bool} {f l : Bool} {b : Word} {n : Fin 6} (h7 : m.testBit 7 = true) (h : Keep m r x) :
    Keep m r { x with ic := { x.ic with msixPend := v, funcMask := f, linkUp := l, bar0 := b, readRequest := n } } :=
  ⟨fun p hp => by cases p <;> first | exact h.same _ hp | (simp [Part.bit, h7] at hp), h.sent, h.fresh, h.mem, h.stk⟩
theorem Keep.reefAll {v : Reef} (h29 : m.testBit 29 = true) (h30 : m.testBit 30 = true) (h : Keep m r x) :
    Keep m r { x with reef := v } :=
  ⟨fun p hp => by cases p <;> first | exact h.same _ hp | (simp [Part.bit, h29, h30] at hp), h.sent, h.fresh, h.mem, h.stk⟩
theorem Keep.reef {v : Reef} (h30 : m.testBit 30 = true) (hv : v.level = x.reef.level) (h : Keep m r x) :
    Keep m r { x with reef := v } :=
  ⟨fun p hp => by
    cases p <;> first | exact h.same _ hp | (simp [Part.bit, h30] at hp; done) | exact hv.trans (h.same .reefLevel hp),
   h.sent, h.fresh, h.mem, h.stk⟩
theorem Keep.bootAll {v : Boot} (h31 : m.testBit 31 = true) (h32 : m.testBit 32 = true) (h : Keep m r x) :
    Keep m r { x with boot := v } :=
  ⟨fun p hp => by cases p <;> first | exact h.same _ hp | (simp [Part.bit, h31, h32] at hp), h.sent, h.fresh, h.mem, h.stk⟩
theorem Keep.boot {v : Boot} (h32 : m.testBit 32 = true) (hv : v.coreUp = x.boot.coreUp) (h : Keep m r x) :
    Keep m r { x with boot := v } :=
  ⟨fun p hp => by
    cases p <;> first | exact h.same _ hp | (simp [Part.bit, h32] at hp; done) | exact hv.trans (h.same .coreUp hp),
   h.sent, h.fresh, h.mem, h.stk⟩

/-! ### What an operation of one trunk port leaves alone on the others (R22) -/

def PortKeepN (p : Nat) (s : State) (o : Host.Outcome State Fault Refusal) : Prop := ∀ t, o = .next t → PortKeep p s t

variable {p : Nat}

theorem PortKeep.refl : PortKeep p s s := fun _ _ => ⟨rfl, rfl, rfl, rfl, rfl, rfl⟩

theorem PortKeep.chain (k : PortKeep p x y) (h : PortKeep p r x) : PortKeep p r y := fun q hq =>
  have a := k q hq
  have b := h q hq
  ⟨a.1.trans b.1, a.2.1.trans b.2.1, a.2.2.1.trans b.2.2.1, a.2.2.2.1.trans b.2.2.2.1, a.2.2.2.2.1.trans b.2.2.2.2.1,
   a.2.2.2.2.2.trans b.2.2.2.2.2⟩

/-- An operation that changes none of these parts. -/
theorem Keep.port (h : m &&& 304896 = 0) (k : Keep m x y) : PortKeep p x y := fun q _ => by
  have e : ∀ i, (304896).testBit i = true → m.testBit i = false := fun i hi => by
    have := congrArg (fun n => n.testBit i) h
    simp only [Nat.testBit_and, hi, Bool.and_true, Nat.zero_testBit] at this
    exact this
  have h1 : y.framers = x.framers := k.same .framers (e 8 rfl)
  have h2 : y.pm = x.pm := k.same .pm (e 9 rfl)
  have h3 : y.regn = x.regn := k.same .regn (e 10 rfl)
  have h4 : y.halyards = x.halyards := k.same .halyards (e 13 rfl)
  have h5 : y.guards = x.guards := k.same .guards (e 15 rfl)
  have h6 : y.waikens = x.waikens := k.same .waikens (e 18 rfl)
  simp only [framer, pmStore, regnOf, halyard, guardOf, waiken, h1, h2, h3, h4, h5, h6, and_self]

theorem PortKeep.ite {c : Prop} [Decidable c] (h : PortKeep p r a) (k : PortKeep p r b) :
    PortKeep p r (if c then a else b) := by split <;> assumption

theorem PortKeep.ite1 {α : Type} {c : Prop} [Decidable c] {a b : State × α} (h : PortKeep p r a.1) (k : PortKeep p r b.1) :
    PortKeep p r (if c then a else b).1 := by split <;> assumption

theorem PortKeep.ite2 {α : Type} {c : Prop} [Decidable c] {a b : α × State} (h : PortKeep p r a.2) (k : PortKeep p r b.2) :
    PortKeep p r (if c then a else b).2 := by split <;> assumption

theorem PortKeepN.next (h : PortKeep p s t) : PortKeepN p s (.next t) := by
  intro u hu; cases hu; exact h

theorem setFramer_port {f} : PortKeep p s (setFramer p f s) := fun _ h => ⟨Tab.look_put_ne _ _ h _, rfl, rfl, rfl, rfl, rfl⟩
theorem setPmStore_port {f} : PortKeep p s (setPmStore p f s) := fun _ h => ⟨rfl, Tab.look_put_ne _ _ h _, rfl, rfl, rfl, rfl⟩
theorem setRegn_port {f} : PortKeep p s (setRegn p f s) := fun _ h => ⟨rfl, rfl, Tab.look_put_ne _ _ h _, rfl, rfl, rfl⟩
theorem setHalyard_port {f} : PortKeep p s (setHalyard p f s) := fun _ h => ⟨rfl, rfl, rfl, Tab.look_put_ne _ _ h _, rfl, rfl⟩
theorem setGuard_port {f} : PortKeep p s (setGuard p f s) := fun _ h => ⟨rfl, rfl, rfl, rfl, Tab.look_put_ne _ _ h _, rfl⟩
theorem setWaiken_port {f} : PortKeep p s (setWaiken p f s) := fun _ h => ⟨rfl, rfl, rfl, rfl, rfl, Tab.look_put_ne _ _ h _⟩

end Sys2Proof.Machine
end

