-- ==== Sys2Proof/Laws/Keep1.lean ====
section
/-! SUPPORT. What each operation of these files of the machine keeps: Ops, Ic, Trunk, TimeOps, LaneOps, CliOps, BufOps, SchOps, ShrOps, TsiOps, HalOps. -/
namespace Sys2Proof.Machine
open Sys2Proof

/-! ### Ops -/

theorem setReg_keep {a0 a1 s} : Keep 2 s (setReg a0 a1 s) := by
  unfold setReg
  exact (.regs rfl .refl)

theorem setRegN_keep {a0 a1 s} : Keep 2 s (setRegN a0 a1 s) := by
  unfold setRegN
  exact (setReg_keep.chain rfl .refl)

theorem setFld_keep {a0 a1 a2 a3 s} : Keep 2 s (setFld a0 a1 a2 a3 s) := by
  unfold setFld
  exact (setRegN_keep.chain rfl .refl)

theorem setBit_keep {a0 a1 a2 s} : Keep 2 s (setBit a0 a1 a2 s) := by
  unfold setBit
  exact (setReg_keep.chain rfl .refl)

theorem setReg64_keep {a0 a1 s} : Keep 2 s (setReg64 a0 a1 s) := by
  unfold setReg64
  exact (setRegN_keep.chain rfl (setRegN_keep.chain rfl .refl))

theorem setWide_keep {a k n s} : Keep 2 s (setWide a k n s) := by
  induction k generalizing a n s with
  | zero => exact .refl
  | succ k ih => exact ih.chain rfl (setRegN_keep.chain rfl .refl)

theorem bump_keep {a0 a1 s} : Keep 2 s (bump a0 a1 s) := by
  unfold bump
  exact (setRegN_keep.chain rfl .refl)

theorem bump64_keep {a0 a1 s} : Keep 2 s (bump64 a0 a1 s) := by
  unfold bump64
  exact (setReg64_keep.chain rfl .refl)

theorem bumpLo_keep {a0 a1 s} : Keep 2 s (bumpLo a0 a1 s) := by
  unfold bumpLo
  exact (setFld_keep.chain rfl .refl)

theorem bumpHi_keep {a0 a1 s} : Keep 2 s (bumpHi a0 a1 s) := by
  unfold bumpHi
  exact (setFld_keep.chain rfl .refl)

theorem zeroRegs_keep {a0 s} : Keep 2 s (zeroRegs a0 s) := by
  unfold zeroRegs
  exact (.regs rfl .refl)

theorem resetRegs_keep {a0 s} : Keep 2 s (resetRegs a0 s) := by
  unfold resetRegs
  exact (.regs rfl .refl)

theorem emit_keep {o s} : Keep 16 s (emit o s) :=
  ⟨fun p hp => by cases p <;> first | exact rfl | exact ⟨rfl, rfl, rfl, rfl, rfl⟩ | exact absurd hp (by decide), ⟨[o], rfl⟩, Nat.le_refl _, id, id⟩

theorem drawn_keep {s} : Keep 8 s (drawn s) :=
  ⟨fun p hp => by cases p <;> first | exact rfl | exact ⟨rfl, rfl, rfl, rfl, rfl⟩ | exact absurd hp (by decide), List.prefix_refl _, Nat.le_succ _, id, id⟩

theorem setPath_keep {a0 a1 s} : Keep 17179869184 s (setPath a0 a1 s) := by
  unfold setPath
  exact (.paths rfl .refl)

theorem snapWords_keep {a n l s} : Keep 17179869184 s (snapWords a n l s) := by
  induction l generalizing n s with
  | nil => exact .refl
  | cons w l ih => exact ih.chain rfl (setPath_keep.chain rfl .refl)

theorem onlyIf_keep {m c f s} (_h : 0 &&& m = 0) (hf : ∀ s, Keep m s (f s)) : Keep m s (onlyIf c f s) := by
  unfold onlyIf; split
  · exact hf s
  · exact .refl

theorem forAll_keep {m : Nat} {α : Type} {f : α → State → State} {l s} (_h : 0 &&& m = 0) (hf : ∀ x s, Keep m s (f x s)) :
    Keep m s (forAll f l s) := by
  induction l generalizing s with
  | nil => exact .refl
  | cons x l ih => exact Keep.hchain ih (hf x s)

/-! ### Ic -/

theorem setIcSrc_keep {a0 a1 s} : Keep 32 s (setIcSrc a0 a1 s) := by
  unfold setIcSrc
  exact (.icSrc rfl .refl)

theorem setIcTgt_keep {t x s} (hx : s.stacksOk → x.stack.length ≤ 16) : Keep 64 s (setIcTgt t x s) :=
  ⟨fun p hp => by cases p <;> first | exact rfl | exact ⟨rfl, rfl, rfl, rfl, rfl⟩ | exact absurd hp (by decide), List.prefix_refl _, Nat.le_refl _, id,
   fun h n => by
    show ((s.ic.tgt.put t x).look {} n).stack.length ≤ 16
    rw [Tab.look_put]
    split
    · exact hx h
    · exact h n⟩

theorem setMsixPend_keep {a0 a1 s} : Keep 128 s (setMsixPend a0 a1 s) := by
  unfold setMsixPend
  exact (.icMsix rfl .refl)

theorem sendMsix_keep {a0 s} : Keep 16 s (sendMsix a0 s) := by
  unfold sendMsix
  exact (emit_keep.chain rfl .refl)

theorem requestMsix_keep {a0 s} : Keep 144 s (requestMsix a0 s) := by
  unfold requestMsix
  exact (Keep.ite .refl (Keep.ite (setMsixPend_keep.chain rfl .refl) (sendMsix_keep.chain rfl .refl)))

theorem requestRises_keep {a0 s} : Keep 144 s (requestRises a0 s) := by
  unfold requestRises
  exact (Keep.hchain (forAll_keep rfl (fun _ _ => (Keep.ite (requestMsix_keep.chain rfl .refl) .refl))) .refl)

theorem withRises_keep {m : Nat} {f0 s} (hm : 144 &&& m = 144) (hf0 : ∀ v0, Keep m v0 (f0 v0)) : Keep m s (withRises f0 s) := by
  unfold withRises
  exact (requestRises_keep.chain (mask_sub rfl hm) (Keep.hchain (hf0 ..) .refl))

theorem requestWake_keep {a0 s} : Keep 1073741826 s (requestWake a0 s) := by
  unfold requestWake
  exact (Keep.ite (setRegN_keep.chain rfl (.reef rfl rfl .refl)) .refl)

theorem wakeOn_keep {a0 s} : Keep 1073741826 s (wakeOn a0 s) := by
  unfold wakeOn
  exact (Keep.ite (requestWake_keep.chain rfl .refl) .refl)

theorem signalSource_keep {a0 s} : Keep 1073742002 s (signalSource a0 s) := by
  unfold signalSource
  exact (Keep.ite (Keep.ite (requestRises_keep.chain rfl (setIcSrc_keep.chain rfl .refl)) (wakeOn_keep.chain rfl (requestRises_keep.chain rfl (setIcSrc_keep.chain rfl .refl)))) .refl)

theorem clearSource_keep {a0 s} : Keep 32 s (clearSource a0 s) := by
  unfold clearSource
  exact (setIcSrc_keep.chain rfl .refl)

theorem raise_keep {a0 a1 a2 a3 s} : Keep 1073742002 s (raise a0 a1 a2 a3 s) := by
  unfold raise
  exact (Keep.ite .refl (Keep.ite (signalSource_keep.chain rfl (setBit_keep.chain rfl .refl)) (setBit_keep.chain rfl .refl)))

theorem ackTarget_keep {t s} : Keep 98 s (ackTarget t s).1 := by
  unfold ackTarget
  refine .ite1 (bump_keep.chain rfl .refl) ?_
  split
  · exact bump_keep.chain rfl .refl
  · split
    · exact bumpLo_keep.chain rfl .refl
    · refine bump_keep.chain rfl ((setIcTgt_keep ?_).chain rfl (setIcSrc_keep.chain rfl .refl))
      rename_i h; intro _; simp only [List.length_cons]; omega

theorem requestAgain_keep {a0 s} : Keep 144 s (requestAgain a0 s) := by
  unfold requestAgain
  exact (Keep.ite (requestMsix_keep.chain rfl .refl) .refl)

theorem othersRise_keep {a0 a1 s} : Keep 144 s (othersRise a0 a1 s) := by
  unfold othersRise
  exact (Keep.hchain (forAll_keep rfl (fun _ _ => (Keep.ite (requestMsix_keep.chain rfl .refl) .refl))) .refl)

theorem eoiTarget_keep {t n s} : Keep 1073742066 s (eoiTarget t n s) := by
  unfold eoiTarget
  refine .ite (bump_keep.chain rfl .refl) ?_
  split
  · exact signalSource_keep.chain rfl (bumpHi_keep.chain rfl ((setIcTgt_keep (by intro h; exact h t)).chain rfl .refl))
  · rename_i h
    refine .ite (requestAgain_keep.chain rfl (othersRise_keep.chain rfl
      ((setIcTgt_keep fun k => ?_).chain rfl (setIcSrc_keep.chain rfl .refl))))
      (signalSource_keep.chain rfl (bumpHi_keep.chain rfl ((setIcTgt_keep (by intro h; exact h t)).chain rfl .refl)))
    have := k t
    have e : icTgt (setIcSrc n { icSrc s n with active := false, count := if (icSrc s n).pending && (icSrc s n).count != 255 then (icSrc s n).count - 1 else (icSrc s n).count } s) t = icTgt s t := rfl
    rw [e, h] at this
    simp only [List.length_cons] at this
    exact Nat.le_of_succ_le this

theorem thawTarget_keep {t s} : Keep 208 s (thawTarget t s) :=
  withRises_keep rfl fun _ => (setIcTgt_keep (by intro h; exact h t)).weaken rfl

theorem execAckRead_keep {a0 a1 s} : KeepN 242 s (execAckRead a0 a1 s) := by
  unfold execAckRead
  exact (KeepN.ite (.next (emit_keep.chain rfl (requestAgain_keep.chain rfl (ackTarget_keep.chain rfl .refl)))) (.next (emit_keep.chain rfl .refl)))

theorem execEoiWrite_keep {a0 a1 a2 s} : KeepN 1073742066 s (execEoiWrite a0 a1 a2 s) := by
  unfold execEoiWrite
  exact (.next (Keep.hchain (onlyIf_keep rfl (fun _ => (eoiTarget_keep.chain rfl .refl))) .refl))

theorem execSrcSetSignal_keep {a0 s} : KeepN 1073742002 s (execSrcSetSignal a0 s) := by
  unfold execSrcSetSignal
  exact (.next (Keep.hchain (onlyIf_keep rfl (fun _ => (signalSource_keep.chain rfl .refl))) .refl))

theorem execSrcSetClear_keep {a0 s} : KeepN 32 s (execSrcSetClear a0 s) := by
  unfold execSrcSetClear
  exact (.next (Keep.hchain (onlyIf_keep rfl (fun _ => (clearSource_keep.chain rfl .refl))) .refl))

theorem writeSrcCfg_keep {a0 a1 s} : Keep 178 s (writeSrcCfg a0 a1 s) := by
  unfold writeSrcCfg
  exact (Keep.ite (Keep.hchain (withRises_keep rfl (fun _ => (Keep.ite (setReg_keep.chain rfl .refl) (clearSource_keep.chain rfl (setReg_keep.chain rfl .refl))))) .refl) .refl)

theorem execSrcCfgWrite_keep {a0 a1 s} : KeepN 178 s (execSrcCfgWrite a0 a1 s) := by
  unfold execSrcCfgWrite
  exact (.next (writeSrcCfg_keep.chain rfl .refl))

theorem execThaw_keep {a0 a1 s} : KeepN 208 s (execThaw a0 a1 s) := by
  unfold execThaw
  exact (.next (Keep.hchain (onlyIf_keep rfl (fun _ => (thawTarget_keep.chain rfl .refl))) .refl))

theorem judgeVector_keep {a0 s} : Keep 144 s (judgeVector a0 s) := by
  unfold judgeVector
  exact (Keep.ite (Keep.ite (sendMsix_keep.chain rfl (setMsixPend_keep.chain rfl .refl)) (setMsixPend_keep.chain rfl .refl)) .refl)

theorem unmaskMsix_keep {a0 s} : Keep 146 s (unmaskMsix a0 s) := by
  unfold unmaskMsix
  split
  · exact (Keep.ite (setBit_keep.chain rfl .refl) (judgeVector_keep.chain rfl (setBit_keep.chain rfl .refl)))
  · exact (Keep.hchain (forAll_keep rfl (fun _ _ => (Keep.ite .refl (judgeVector_keep.chain rfl .refl)))) (.icMsix rfl .refl))

theorem execMsixUnmask_keep {a0 s} : KeepN 146 s (execMsixUnmask a0 s) := by
  unfold execMsixUnmask
  exact (.next (Keep.hchain (onlyIf_keep rfl (fun _ => (unmaskMsix_keep.chain rfl .refl))) .refl))

theorem icCntClr_keep {s} : Keep 2 s (icCntClr s) := by
  unfold icCntClr
  exact (zeroRegs_keep.chain rfl .refl)

theorem execIcCntClr_keep {s} : KeepN 2 s (execIcCntClr s) := by
  unfold execIcCntClr
  exact (.next (Keep.hchain (onlyIf_keep rfl (fun _ => (icCntClr_keep.chain rfl .refl))) .refl))

/-! ### Trunk -/

theorem setFramer_keep {a0 a1 s} : Keep 256 s (setFramer a0 a1 s) := by
  unfold setFramer
  exact (.framers rfl .refl)

theorem setRegn_keep {a0 a1 s} : Keep 1024 s (setRegn a0 a1 s) := by
  unfold setRegn
  exact (.regn rfl .refl)

theorem setHalyard_keep {a0 a1 s} : Keep 8192 s (setHalyard a0 a1 s) := by
  unfold setHalyard
  exact (.halyards rfl .refl)

theorem setGuard_keep {a0 a1 s} : Keep 32768 s (setGuard a0 a1 s) := by
  unfold setGuard
  exact (.guards rfl .refl)

theorem setLookout_keep {a0 a1 s} : Keep 4096 s (setLookout a0 a1 s) := by
  unfold setLookout
  exact (.lookouts rfl .refl)

theorem setLane_keep {a0 a1 s} : Keep 131072 s (setLane a0 a1 s) := by
  unfold setLane
  exact (.lanes rfl .refl)

theorem setWaiken_keep {a0 a1 s} : Keep 262144 s (setWaiken a0 a1 s) := by
  unfold setWaiken
  exact (.waikens rfl .refl)

theorem setPmStore_keep {a0 a1 s} : Keep 512 s (setPmStore a0 a1 s) := by
  unfold setPmStore
  exact (.pm rfl .refl)

theorem txDrop_keep {a0 s} : Keep 1073742002 s (txDrop a0 s) := by
  unfold txDrop
  exact (raise_keep.chain rfl (bump_keep.chain rfl .refl))

theorem startDelayAt_keep {a0 a1 s} : Keep 4104 s (startDelayAt a0 a1 s) := by
  unfold startDelayAt
  exact (drawn_keep.chain rfl (setLookout_keep.chain rfl .refl))

theorem startDelay_keep {a0 s} : Keep 4104 s (startDelay a0 s) := by
  unfold startDelay
  exact (startDelayAt_keep.chain rfl .refl)

theorem queueOn_keep {a0 a1 s} : Keep 1073746106 s (queueOn a0 a1 s) := by
  unfold queueOn
  exact (Keep.ite (txDrop_keep.chain rfl .refl) (Keep.ite (startDelay_keep.chain rfl (setLookout_keep.chain rfl .refl)) (setLookout_keep.chain rfl .refl)))

theorem queueLm_keep {a0 a1 a2 s} : Keep 1073746106 s (queueLm a0 a1 a2 s) := by
  unfold queueLm
  exact (Keep.ite (Keep.hchain (forAll_keep rfl (fun _ _ => (Keep.ite (queueOn_keep.chain rfl .refl) .refl))) .refl) (txDrop_keep.chain rfl (txDrop_keep.chain rfl .refl)))

theorem queueAlert_keep {a0 a1 a2 a3 s} : Keep 1073746106 s (queueAlert a0 a1 a2 a3 s) := by
  unfold queueAlert
  exact (queueLm_keep.chain rfl .refl)

theorem routeAway_keep {a0 a1 s} : Keep 1073747130 s (routeAway a0 a1 s) := by
  unfold routeAway
  exact (Keep.ite (queueLm_keep.chain rfl .refl) (Keep.ite (bump_keep.chain rfl .refl) (setRegn_keep.chain rfl .refl)))

theorem queueTmm_keep {a0 a1 a2 s} : Keep 1073747130 s (queueTmm a0 a1 a2 s) := by
  unfold queueTmm
  exact (Keep.ite (setRegn_keep.chain rfl .refl) (routeAway_keep.chain rfl .refl))

theorem flushOut_keep {a0 s} : Keep 1073747130 s (flushOut a0 s) := by
  unfold flushOut
  exact (Keep.hchain (forAll_keep rfl (fun _ _ => (routeAway_keep.chain rfl .refl))) (setRegn_keep.chain rfl .refl))

theorem flushOut2_keep {a0 s} : Keep 1073747130 s (flushOut2 a0 s) := by
  unfold flushOut2
  exact (Keep.hchain (forAll_keep rfl (fun _ _ => (routeAway_keep.chain rfl .refl))) (setRegn_keep.chain rfl .refl))

theorem frEvent_keep {a0 a1 s} : Keep 1073742002 s (frEvent a0 a1 s) := by
  unfold frEvent
  exact (raise_keep.chain rfl .refl)

theorem halEvent_keep {a0 a1 s} : Keep 1073742002 s (halEvent a0 a1 s) := by
  unfold halEvent
  exact (raise_keep.chain rfl .refl)

theorem withSummary_keep {m : Nat} {a0 f1 s} (hm : 1073742002 &&& m = 1073742002) (hf1 : ∀ v0, Keep m v0 (f1 v0)) : Keep m s (withSummary a0 f1 s) := by
  unfold withSummary
  exact (Keep.ite (signalSource_keep.chain (mask_sub rfl hm) (Keep.hchain (hf1 ..) .refl)) (Keep.hchain (hf1 ..) .refl))

theorem rgEvent_keep {a0 a1 s} : Keep 1073742002 s (rgEvent a0 a1 s) := by
  unfold rgEvent
  exact (Keep.hchain (withSummary_keep rfl (fun _ => (setBit_keep.chain rfl .refl))) .refl)

theorem pmCount_keep {a0 a1 s} : Keep 512 s (pmCount a0 a1 s) := by
  unfold pmCount
  exact (setPmStore_keep.chain rfl .refl)

theorem pmMissed_keep {a0 a1 s} : Keep 512 s (pmMissed a0 a1 s) := by
  unfold pmMissed
  exact (pmCount_keep.chain rfl .refl)

theorem pmInvalid_keep {a0 a1 s} : Keep 512 s (pmInvalid a0 a1 s) := by
  unfold pmInvalid
  exact (pmCount_keep.chain rfl .refl)

theorem pmDiscard_keep {a0 a1 s} : Keep 512 s (pmDiscard a0 a1 s) := by
  unfold pmDiscard
  exact (pmCount_keep.chain rfl .refl)

/-! ### TimeOps -/

theorem tbEvent_keep {a0 s} : Keep 1073742002 s (tbEvent a0 s) := by
  unfold tbEvent
  exact (raise_keep.chain rfl .refl)

theorem setTbState_keep {a0 s} : Keep 1073807538 s (setTbState a0 s) := by
  unfold setTbState
  exact (Keep.ite .refl (Keep.ite (.time rfl (tbEvent_keep.chain rfl (setFld_keep.chain rfl .refl))) (tbEvent_keep.chain rfl (setFld_keep.chain rfl .refl))))

theorem armStep_keep {a0 s} : Keep 2 s (armStep a0 s) := by
  unfold armStep
  exact (setBit_keep.chain rfl .refl)

theorem rclkTick_keep {s} : Keep 65536 s (rclkTick s) := by
  unfold rclkTick
  exact (.time rfl .refl)

theorem setSquelch_keep {a0 a1 s} : Keep 1073742002 s (setSquelch a0 a1 s) := by
  unfold setSquelch
  exact (Keep.ite .refl (tbEvent_keep.chain rfl (setBit_keep.chain rfl .refl)))

theorem rclkSettle_keep {s} : Keep 1073742002 s (rclkSettle s) := by
  unfold rclkSettle
  exact (Keep.hchain (forAll_keep rfl (fun _ _ => (Keep.ite (setSquelch_keep.chain rfl .refl) .refl))) .refl)

theorem retainTime_keep {s} : Keep 2 s (retainTime s) := by
  unfold retainTime
  exact (Keep.ite (setReg64_keep.chain rfl (setWide_keep.chain rfl (setRegN_keep.chain rfl .refl))) .refl)

/-! ### LaneOps -/

theorem laneEvent_keep {a0 a1 s} : Keep 1073742002 s (laneEvent a0 a1 s) := by
  unfold laneEvent
  exact (Keep.ite (signalSource_keep.chain rfl (setBit_keep.chain rfl .refl)) (setBit_keep.chain rfl .refl))

theorem laneStep_keep {a0 a1 s} : Keep 1073873074 s (laneStep a0 a1 s) := by
  unfold laneStep
  exact (Keep.ite (rclkSettle_keep.chain rfl (Keep.ite (laneEvent_keep.chain rfl (setLane_keep.chain rfl .refl)) (setLane_keep.chain rfl .refl))) (Keep.ite (laneEvent_keep.chain rfl (setLane_keep.chain rfl .refl)) (setLane_keep.chain rfl .refl)))

theorem laneHalf_keep {a0 a1 a2 s} : Keep 1073873074 s (laneHalf a0 a1 a2 s) := by
  unfold laneHalf
  exact (laneStep_keep.chain rfl .refl)

theorem setDom_keep {a0 a1 s} : Keep 4294967312 s (setDom a0 a1 s) := by
  unfold setDom
  exact (Keep.ite .refl (emit_keep.chain rfl (.boot rfl rfl .refl)))

theorem trkFollow_keep {a0 a1 s} : Keep 4294967312 s (trkFollow a0 a1 s) := by
  unfold trkFollow
  exact (Keep.ite .refl (setDom_keep.chain rfl .refl))

theorem pcieLanes_keep {a0 s} : Keep 1073873074 s (pcieLanes a0 s) := by
  unfold pcieLanes
  exact (Keep.hchain (forAll_keep rfl (fun _ _ => (laneStep_keep.chain rfl .refl))) .refl)

theorem countLockLoss_keep {a0 s} : Keep 1073742002 s (countLockLoss a0 s) := by
  unfold countLockLoss
  exact (laneEvent_keep.chain rfl (bump_keep.chain rfl .refl))

/-! ### CliOps -/

theorem setSub_keep {a0 a1 a2 s} : Keep 1048576 s (setSub a0 a1 a2 s) := by
  unfold setSub
  exact (.subs rfl .refl)

theorem cliEvent_keep {a0 a1 a2 s} : Keep 1073742002 s (cliEvent a0 a1 a2 s) := by
  unfold cliEvent
  exact (Keep.ite (setBit_keep.chain rfl .refl) (raise_keep.chain rfl .refl))

theorem macStatus_keep {a0 a1 a2 a3 a4 a5 s} : Keep 1073742002 s (macStatus a0 a1 a2 a3 a4 a5 s) := by
  unfold macStatus
  exact (Keep.ite .refl (cliEvent_keep.chain rfl (setFld_keep.chain rfl .refl)))

theorem lpiExit_keep {a0 a1 s} : Keep 1073742002 s (lpiExit a0 a1 s) := by
  unfold lpiExit
  exact (macStatus_keep.chain rfl .refl)

theorem sendPfc_keep {a0 a1 s} : Keep 1074790578 s (sendPfc a0 a1 s) := by
  unfold sendPfc
  exact (Keep.ite (setSub_keep.chain rfl .refl) (emit_keep.chain rfl (bump_keep.chain rfl (setSub_keep.chain rfl (lpiExit_keep.chain rfl (setSub_keep.chain rfl .refl))))))

theorem pfcNow_keep {a0 a1 s} : Keep 1074790578 s (pfcNow a0 a1 s) := by
  unfold pfcNow
  exact (Keep.ite (setSub_keep.chain rfl .refl) (sendPfc_keep.chain rfl .refl))

theorem pfcChange_keep {a0 a1 a2 s} : Keep 1074790578 s (pfcChange a0 a1 a2 s) := by
  unfold pfcChange
  exact (Keep.ite .refl (pfcNow_keep.chain rfl (setFld_keep.chain rfl (setSub_keep.chain rfl .refl))))

theorem setFifo_keep {a0 a1 s} : Keep 2097152 s (setFifo a0 a1 s) := by
  unfold setFifo
  exact (.fifos rfl .refl)

theorem pressureSettle_keep {a0 a1 s} : Keep 1048576 s (pressureSettle a0 a1 s) := by
  unfold pressureSettle
  exact (Keep.ite .refl (setSub_keep.chain rfl .refl))

theorem subLaneState_keep {a0 a1 a2 s} : Keep 1073873074 s (subLaneState a0 a1 a2 s) := by
  unfold subLaneState
  exact (Keep.hchain (forAll_keep rfl (fun _ _ => (laneStep_keep.chain rfl .refl))) .refl)

theorem linkFall_keep {a0 a1 s} : Keep 1073742002 s (linkFall a0 a1 s) := by
  unfold linkFall
  exact (Keep.ite (bumpLo_keep.chain rfl (setRegN_keep.chain rfl (setRegN_keep.chain rfl (cliEvent_keep.chain rfl (setBit_keep.chain rfl .refl))))) .refl)

theorem linkDown_keep {a0 a1 a2 s} : Keep 1073873074 s (linkDown a0 a1 a2 s) := by
  unfold linkDown
  exact (Keep.ite .refl (Keep.ite (macStatus_keep.chain rfl (macStatus_keep.chain rfl (linkFall_keep.chain rfl .refl))) (macStatus_keep.chain rfl (subLaneState_keep.chain rfl (macStatus_keep.chain rfl (macStatus_keep.chain rfl (linkFall_keep.chain rfl .refl)))))))

theorem trainPolarity_keep {a0 a1 s} : Keep 1073873074 s (trainPolarity a0 a1 s) := by
  unfold trainPolarity
  exact (Keep.ite (Keep.hchain (forAll_keep rfl (fun _ _ => (laneStep_keep.chain rfl .refl))) .refl) .refl)

theorem linkRise_keep {a0 a1 a2 a3 s} : Keep 1074921650 s (linkRise a0 a1 a2 a3 s) := by
  unfold linkRise
  exact (Keep.ite .refl (setSub_keep.chain rfl (cliEvent_keep.chain rfl (setBit_keep.chain rfl (setRegN_keep.chain rfl (setRegN_keep.chain rfl (macStatus_keep.chain rfl (macStatus_keep.chain rfl (subLaneState_keep.chain rfl (trainPolarity_keep.chain rfl .refl))))))))))

/-! ### BufOps -/

theorem setFrame_keep {a0 a1 s} : Keep 67108864 s (setFrame a0 a1 s) := by
  unfold setFrame
  exact (.buf rfl .refl)

theorem setQueue_keep {a0 a1 s} : Keep 67108864 s (setQueue a0 a1 s) := by
  unfold setQueue
  exact (.buf rfl .refl)

theorem setRound_keep {a0 a1 s} : Keep 67108864 s (setRound a0 a1 s) := by
  unfold setRound
  exact (.buf rfl .refl)

theorem joinRound_keep {a0 s} : Keep 67108864 s (joinRound a0 s) := by
  unfold joinRound
  exact (setQueue_keep.chain rfl (setRound_keep.chain rfl .refl))

theorem leaveRound_keep {a0 s} : Keep 67108864 s (leaveRound a0 s) := by
  unfold leaveRound
  exact (setRound_keep.chain rfl .refl)

theorem rejoinBlock_keep {m : Nat} {a0 f1 s} (hm : 67108864 &&& m = 67108864) (hf1 : ∀ v0, Keep m v0 (f1 v0)) : Keep m s (rejoinBlock a0 f1 s) := by
  unfold rejoinBlock
  exact (Keep.hchain (forAll_keep (mask_sub rfl hm) (fun _ _ => (joinRound_keep.chain (mask_sub rfl hm) .refl))) (Keep.hchain (hf1 ..) (Keep.hchain (forAll_keep (mask_sub rfl hm) (fun _ _ => (setRound_keep.chain (mask_sub rfl hm) .refl))) .refl)))

theorem enqueueOn_keep {a0 a1 s} : Keep 67108864 s (enqueueOn a0 a1 s) := by
  unfold enqueueOn
  exact (Keep.ite (joinRound_keep.chain rfl (setQueue_keep.chain rfl .refl)) (setQueue_keep.chain rfl .refl))

theorem returnHead_keep {a0 a1 s} : Keep 67108864 s (returnHead a0 a1 s) := by
  unfold returnHead
  exact (Keep.ite .refl (Keep.ite (joinRound_keep.chain rfl (setQueue_keep.chain rfl .refl)) (setQueue_keep.chain rfl .refl)))

theorem emptied_keep {a0 s} : Keep 67108864 s (emptied a0 s) := by
  unfold emptied
  exact (Keep.ite (leaveRound_keep.chain rfl (setQueue_keep.chain rfl .refl)) .refl)

theorem bufEvent_keep {a0 s} : Keep 1073742002 s (bufEvent a0 s) := by
  unfold bufEvent
  exact (raise_keep.chain rfl .refl)

theorem pfcSettle_keep {s} : Keep 1074790578 s (pfcSettle s) := by
  unfold pfcSettle
  exact (Keep.hchain (forAll_keep rfl (fun _ _ => (Keep.ite (pfcChange_keep.chain rfl .refl) .refl))) .refl)

theorem latchXoff_keep {a0 s} : Keep 67108864 s (latchXoff a0 s) := by
  unfold latchXoff
  exact (Keep.hchain (forAll_keep rfl (fun _ _ => (.buf rfl .refl))) .refl)

theorem bufSettle_keep {s} : Keep 1141899442 s (bufSettle s) := by
  unfold bufSettle
  exact (Keep.hchain (forAll_keep rfl (fun _ _ => (Keep.ite .refl (Keep.ite (bufEvent_keep.chain rfl (setBit_keep.chain rfl .refl)) (setBit_keep.chain rfl .refl))))) (pfcSettle_keep.chain rfl (latchXoff_keep.chain rfl .refl)))

theorem freeRef_keep {a0 s} : Keep 1140850866 s (freeRef a0 s) := by
  unfold freeRef
  split
  · exact (bufEvent_keep.chain rfl (bump_keep.chain rfl .refl))
  · exact (Keep.ite (bufEvent_keep.chain rfl (bump_keep.chain rfl .refl)) (Keep.ite (.buf rfl .refl) (setFrame_keep.chain rfl .refl)))

theorem dropAdmit_keep {a0 s} : Keep 1073742002 s (dropAdmit a0 s) := by
  unfold dropAdmit
  exact (bufEvent_keep.chain rfl (bump64_keep.chain rfl (bump64_keep.chain rfl .refl)))

theorem spillStall_keep {s} : Keep 1073742002 s (spillStall s) := by
  unfold spillStall
  exact (bufEvent_keep.chain rfl (bump64_keep.chain rfl .refl))

theorem storeFrame_keep {a0 a1 s} : Keep 1141899442 s (storeFrame a0 a1 s) := by
  unfold storeFrame
  exact (bufSettle_keep.chain rfl (Keep.hchain (forAll_keep rfl (fun _ _ => (enqueueOn_keep.chain rfl .refl))) (Keep.ite (bump64_keep.chain rfl (setFrame_keep.chain rfl (.buf rfl .refl))) (setFrame_keep.chain rfl (.buf rfl .refl)))))

theorem countAdmit_keep {a0 s} : Keep 67108866 s (countAdmit a0 s) := by
  unfold countAdmit
  exact (Keep.ite (bump64_keep.chain rfl (setQueue_keep.chain rfl .refl)) (bump64_keep.chain rfl .refl))

theorem givePlace_keep {a0 s} : Keep 67108864 s (givePlace a0 s) := by
  unfold givePlace
  exact (Keep.ite (setQueue_keep.chain rfl .refl) .refl)

theorem takeSpace_keep {a0 a1 a2 s} : Keep 1141899442 s (takeSpace a0 a1 a2 s) := by
  unfold takeSpace
  exact (Keep.ite (storeFrame_keep.chain rfl (countAdmit_keep.chain rfl .refl)) (Keep.ite (bufEvent_keep.chain rfl (bump64_keep.chain rfl (bump_keep.chain rfl (givePlace_keep.chain rfl (countAdmit_keep.chain rfl .refl))))) (bufSettle_keep.chain rfl (bump_keep.chain rfl (.buf rfl (Keep.ite (spillStall_keep.chain rfl (countAdmit_keep.chain rfl .refl)) (countAdmit_keep.chain rfl .refl)))))))

theorem admitFrame_keep {a0 a1 a2 s} : Keep 1141899442 s (admitFrame a0 a1 a2 s) := by
  unfold admitFrame
  first | (dsimp only; split) | (extract_lets; split) | split
  · exact (dropAdmit_keep.chain rfl .refl)
  · exact (takeSpace_keep.chain rfl .refl)

theorem replDrop_keep {a0 s} : Keep 1073742002 s (replDrop a0 s) := by
  unfold replDrop
  exact (Keep.ite .refl (bufEvent_keep.chain rfl (bump_keep.chain rfl .refl)))

theorem admitGroup_keep {a0 a1 a2 s} : Keep 1141899442 s (admitGroup a0 a1 a2 s) := by
  unfold admitGroup
  exact (Keep.ite (bump_keep.chain rfl .refl) (by
  split
  · exact (dropAdmit_keep.chain rfl .refl)
  · exact (Keep.ite (bump64_keep.chain rfl (replDrop_keep.chain rfl .refl)) (takeSpace_keep.chain rfl (replDrop_keep.chain rfl .refl)))
  ))

/-! ### SchOps -/

theorem schEvent_keep {a0 s} : Keep 1073742002 s (schEvent a0 s) := by
  unfold schEvent
  exact (raise_keep.chain rfl .refl)

theorem setShaper_keep {a0 a1 s} : Keep 134217728 s (setShaper a0 a1 s) := by
  unfold setShaper
  exact (.sch rfl .refl)

theorem chargeShaper_keep {a0 a1 s} : Keep 134217728 s (chargeShaper a0 a1 s) := by
  unfold chargeShaper
  exact (Keep.ite (setShaper_keep.chain rfl .refl) .refl)

theorem holdsFrom_keep {a0 s} : Keep 67108864 s (holdsFrom a0 s) := by
  unfold holdsFrom
  exact (.buf rfl .refl)

theorem toTail_keep {a0 s} : Keep 67108864 s (toTail a0 s) := by
  unfold toTail
  exact (joinRound_keep.chain rfl .refl)

theorem takeHead_keep {a0 a1 s} : Keep 201326594 s (takeHead a0 a1 s).1 := by
  unfold takeHead
  exact (emptied_keep.chain rfl (bump64_keep.chain rfl (bump64_keep.chain rfl (by
  split
  · exact (chargeShaper_keep.chain rfl (setQueue_keep.chain rfl .refl))
  · exact (setQueue_keep.chain rfl .refl)
  ))))

theorem selectUp_keep {c a b k n s} : Keep 201326594 s (selectUp c a b k n s).1 := by
  induction k generalizing n s with
  | zero => exact .refl
  | succ k ih =>
    unfold selectUp
    split
    · exact .refl
    · refine .ite1 (Keep.hchain ih (toTail_keep.chain rfl (.ite (setQueue_keep.chain rfl .refl) .refl))) (.ite1 (.ite (setQueue_keep.chain rfl .refl) .refl) ?_)
      exact Keep.hchain ih (bump64_keep.chain rfl (bump64_keep.chain rfl (takeHead_keep.chain rfl (.ite (setQueue_keep.chain rfl .refl) .refl))))

/-! ### ShrOps -/

theorem shrEvent_keep {a0 s} : Keep 1073742002 s (shrEvent a0 s) := by
  unfold shrEvent
  exact (raise_keep.chain rfl .refl)

theorem setPortKeys_keep {a0 a1 s} : Keep 268435456 s (setPortKeys a0 a1 s) := by
  unfold setPortKeys
  exact (.shr rfl .refl)

theorem useKey_keep {a0 s} : Keep 268435458 s (useKey a0 s) := by
  unfold useKey
  exact (Keep.ite (.shr rfl .refl) (Keep.ite .refl (bump64_keep.chain rfl (.shr rfl .refl))))

theorem pinKey_keep {a0 a1 a2 s} : Keep 268435456 s (pinKey a0 a1 a2 s) := by
  unfold pinKey
  exact (.shr rfl .refl)

theorem dropKeys_keep {a0 s} : Keep 268435456 s (dropKeys a0 s) := by
  unfold dropKeys
  exact (.shr rfl .refl)

theorem forgetKeys_keep {a0 s} : Keep 268435456 s (forgetKeys a0 s) := by
  unfold forgetKeys
  exact (dropKeys_keep.chain rfl (setPortKeys_keep.chain rfl .refl))

theorem sealEnvelope_keep {a0 a1 a2 a3 a4 a5 s} : Keep 268435458 s (sealEnvelope a0 a1 a2 a3 a4 a5 s).1 := by
  unfold sealEnvelope
  exact (bump64_keep.chain rfl (useKey_keep.chain rfl (setPortKeys_keep.chain rfl .refl)))

theorem rotationDone_keep {a0 s} : Keep 1342177458 s (rotationDone a0 s) := by
  unfold rotationDone
  first | (dsimp only; split) | (extract_lets; split) | split
  · exact (shrEvent_keep.chain rfl (setPortKeys_keep.chain rfl .refl))
  · exact .refl

theorem epochDown_keep {a0 s} : Keep 1342177458 s (epochDown a0 s) := by
  unfold epochDown
  first | (dsimp only; split) | (extract_lets; split) | split
  · exact (Keep.ite .refl (Keep.ite (dropKeys_keep.chain rfl (setPortKeys_keep.chain rfl .refl)) (rotationDone_keep.chain rfl (dropKeys_keep.chain rfl (setPortKeys_keep.chain rfl .refl)))))
  · exact .refl

theorem headerEpoch_keep {a0 a1 s} : Keep 1342177458 s (headerEpoch a0 a1 s) := by
  unfold headerEpoch
  split
  · exact (Keep.ite (epochDown_keep.chain rfl .refl) .refl)
  · exact .refl

theorem shrDiscard_keep {a0 a1 a2 s} : Keep 1073742514 s (shrDiscard a0 a1 a2 s) := by
  unfold shrDiscard
  exact (pmDiscard_keep.chain rfl (shrEvent_keep.chain rfl (bump_keep.chain rfl .refl)))

theorem useDown_keep {a0 a1 a2 a3 s} : Keep 268435458 s (useDown a0 a1 a2 a3 s) := by
  unfold useDown
  exact (Keep.ite (useKey_keep.chain rfl .refl) .refl)

theorem markSeq_keep {a0 a1 a2 a3 a4 s} : Keep 268435456 s (markSeq a0 a1 a2 a3 a4 s) := by
  unfold markSeq
  exact (Keep.ite (setPortKeys_keep.chain rfl .refl) .refl)

theorem openEnvelope_keep {a0 a1 a2 a3 a4 a5 s} : Keep 1342177970 s (openEnvelope a0 a1 a2 a3 a4 a5 s).1 := by
  unfold openEnvelope
  exact (Keep.ite1 (shrDiscard_keep.chain rfl .refl) (Keep.ite1 (shrDiscard_keep.chain rfl .refl) (Keep.ite1 (shrDiscard_keep.chain rfl .refl) (Keep.ite1 (shrDiscard_keep.chain rfl (useDown_keep.chain rfl .refl)) (Keep.ite1 (shrDiscard_keep.chain rfl (useDown_keep.chain rfl .refl)) (bump64_keep.chain rfl (markSeq_keep.chain rfl (useDown_keep.chain rfl .refl))))))))

/-! ### TsiOps -/

theorem tsiEvent_keep {a0 s} : Keep 1073742002 s (tsiEvent a0 s) := by
  unfold tsiEvent
  exact (raise_keep.chain rfl .refl)

theorem setTsi_keep {a0 s} : Keep 524288 s (setTsi a0 s) := by
  unfold setTsi
  exact (.tsi rfl .refl)

theorem setUpConn_keep {a0 a1 s} : Keep 524288 s (setUpConn a0 a1 s) := by
  unfold setUpConn
  exact (.tsi rfl .refl)

theorem setDnConn_keep {a0 a1 s} : Keep 524288 s (setDnConn a0 a1 s) := by
  unfold setDnConn
  exact (.tsi rfl .refl)

theorem withdrawSwitch_keep {s} : Keep 524290 s (withdrawSwitch s) := by
  unfold withdrawSwitch
  exact (Keep.hchain (forAll_keep rfl (fun _ _ => (setBit_keep.chain rfl .refl))) (setReg64_keep.chain rfl (setTsi_keep.chain rfl .refl)))

theorem cancelSwitch_keep {s} : Keep 1074266290 s (cancelSwitch s) := by
  unfold cancelSwitch
  split
  · exact .refl
  · exact (tsiEvent_keep.chain rfl (bumpHi_keep.chain rfl (withdrawSwitch_keep.chain rfl .refl)))

theorem tsiPortGone_keep {a0 s} : Keep 1074266290 s (tsiPortGone a0 s) := by
  unfold tsiPortGone
  split
  · exact (Keep.ite (cancelSwitch_keep.chain rfl .refl) .refl)
  · exact .refl

theorem takeContainers_keep {a0 s} : Keep 524290 s (takeContainers a0 s) := by
  unfold takeContainers
  exact (bump64_keep.chain rfl (Keep.hchain (forAll_keep rfl (fun _ _ => (setUpConn_keep.chain rfl .refl))) .refl))

theorem storeContainer_keep {a0 a1 s} : Keep 1074266290 s (storeContainer a0 a1 s) := by
  unfold storeContainer
  exact (Keep.ite (tsiEvent_keep.chain rfl (bump_keep.chain rfl (setUpConn_keep.chain rfl .refl))) (setUpConn_keep.chain rfl .refl))

theorem returnContainers_keep {a0 s} : Keep 1074266290 s (returnContainers a0 s) := by
  unfold returnContainers
  exact (Keep.hchain (forAll_keep rfl (fun _ _ => (storeContainer_keep.chain rfl .refl))) .refl)

/-! ### HalOps -/

theorem countMissed_keep {a0 a1 a2 s} : Keep 1073742514 s (countMissed a0 a1 a2 s) := by
  unfold countMissed
  exact (Keep.ite .refl (halEvent_keep.chain rfl (pmMissed_keep.chain rfl (bump_keep.chain rfl .refl))))

theorem returnFills_keep {a0 a1 s} : Keep 1141375154 s (returnFills a0 a1 s) := by
  unfold returnFills
  exact (bump_keep.chain rfl (returnContainers_keep.chain rfl (Keep.hchain (forAll_keep rfl (fun _ _ => (returnHead_keep.chain rfl .refl))) .refl)))

theorem sentFills_keep {a0 a1 s} : Keep 1141899442 s (sentFills a0 a1 s) := by
  unfold sentFills
  exact (bufSettle_keep.chain rfl (bump64_keep.chain rfl (bump64_keep.chain rfl (Keep.hchain (forAll_keep rfl (fun _ _ => (Keep.ite .refl (freeRef_keep.chain rfl .refl)))) .refl))))

theorem returnTmms_keep {a0 a1 s} : Keep 1024 s (returnTmms a0 a1 s) := by
  unfold returnTmms
  exact (Keep.ite .refl (Keep.ite (setRegn_keep.chain rfl .refl) (setRegn_keep.chain rfl .refl)))

theorem missGrants_keep {a0 a1 a2 a3 a4 a5 s} : Keep 1142425266 s (missGrants a0 a1 a2 a3 a4 a5 s) := by
  unfold missGrants
  exact (countMissed_keep.chain rfl (bump64_keep.chain rfl (returnTmms_keep.chain rfl (returnFills_keep.chain rfl (Keep.hchain (forAll_keep rfl (fun _ _ => (sentFills_keep.chain rfl .refl))) .refl)))))

theorem dataLanesTx_keep {a0 a1 a2 s} : Keep 1073873074 s (dataLanesTx a0 a1 a2 s) := by
  unfold dataLanesTx
  exact (Keep.hchain (forAll_keep rfl (fun _ _ => (Keep.ite (laneHalf_keep.chain rfl .refl) .refl))) .refl)

theorem dozeOut_keep {a0 s} : Keep 1074143410 s (dozeOut a0 s) := by
  unfold dozeOut
  exact (Keep.ite (dataLanesTx_keep.chain rfl (setWaiken_keep.chain rfl (setHalyard_keep.chain rfl .refl))) .refl)

theorem dozeIn_keep {a0 s} : Keep 1074143410 s (dozeIn a0 s) := by
  unfold dozeIn
  exact (Keep.ite (dataLanesTx_keep.chain rfl (setWaiken_keep.chain rfl (setHalyard_keep.chain rfl .refl))) .refl)

theorem missAll_keep {a0 a1 s} : Keep 1142826674 s (missAll a0 a1 s) := by
  unfold missAll
  exact (dozeIn_keep.chain rfl (missGrants_keep.chain rfl (setHalyard_keep.chain rfl .refl)))

theorem cutBurst_keep {a0 a1 a2 s} : Keep 1142826674 s (cutBurst a0 a1 a2 s) := by
  unfold cutBurst
  exact (dozeIn_keep.chain rfl (missGrants_keep.chain rfl (missGrants_keep.chain rfl (setHalyard_keep.chain rfl .refl))))

theorem loseWindow_keep {a0 a1 s} : Keep 1074144434 s (loseWindow a0 a1 s) := by
  unfold loseWindow
  exact (dozeIn_keep.chain rfl (bump_keep.chain rfl (setRegn_keep.chain rfl .refl)))

theorem missAnswer_keep {a0 s} : Keep 1074177202 s (missAnswer a0 s) := by
  unfold missAnswer
  exact (Keep.ite .refl (dozeIn_keep.chain rfl (bump_keep.chain rfl (bump64_keep.chain rfl (setGuard_keep.chain rfl (setHalyard_keep.chain rfl (setRegn_keep.chain rfl .refl)))))))

theorem halLost_keep {a0 s} : Keep 1142859442 s (halLost a0 s) := by
  unfold halLost
  exact (missAnswer_keep.chain rfl (missAll_keep.chain rfl (setHalyard_keep.chain rfl .refl)))

end Sys2Proof.Machine
end

