-- ==== Sys2Proof/Laws/Keep2.lean ====
section
/-! SUPPORT. What each operation of these files of the machine keeps: FaultLog, GuardOps, ReefOps, RegOps, Registration, Halyard. -/
namespace Sys2Proof.Machine
open Sys2Proof

/-! ### FaultLog -/

theorem fltEvent_keep {a0 s} : Keep 1073742002 s (fltEvent a0 s) := by
  unfold fltEvent
  exact (raise_keep.chain rfl .refl)

theorem writeLog_keep {a0 a1 a2 a3 a4 a5 a6 s} : Keep 8589934594 s (writeLog a0 a1 a2 a3 a4 a5 a6 s) := by
  unfold writeLog
  exact (Keep.ite (bump_keep.chain rfl (.faults rfl .refl)) (.faults rfl .refl))

theorem logEvent_keep {a0 a1 a2 a3 s} : Keep 8589934594 s (logEvent a0 a1 a2 a3 s) := by
  unfold logEvent
  exact (writeLog_keep.chain rfl .refl)

theorem logGuard_keep {a0 a1 s} : Keep 8589934594 s (logGuard a0 a1 s) := by
  unfold logGuard
  exact (logEvent_keep.chain rfl .refl)

theorem withPins_keep {m : Nat} {a0 a1 a2 f3 s} (hm : 9663676594 &&& m = 9663676594) (hf3 : ∀ v0, Keep m v0 (f3 v0)) : Keep m s (withPins a0 a1 a2 f3 s) := by
  unfold withPins
  exact (Keep.ite (Keep.hchain (hf3 ..) .refl) (logEvent_keep.chain (mask_sub rfl hm) (Keep.ite (fltEvent_keep.chain (mask_sub rfl hm) (Keep.hchain (hf3 ..) .refl)) (Keep.hchain (hf3 ..) .refl))))

/-! ### GuardOps -/

theorem countDefer_keep {a0 s} : Keep 32768 s (countDefer a0 s) := by
  unfold countDefer
  first | (dsimp only; split) | (extract_lets; split) | split
  · exact (Keep.ite (setGuard_keep.chain rfl .refl) .refl)
  · exact .refl

theorem bksEvent_keep {a0 a1 s} : Keep 1073742002 s (bksEvent a0 a1 s) := by
  unfold bksEvent
  exact (Keep.ite (raise_keep.chain rfl .refl) (Keep.ite (signalSource_keep.chain rfl (setBit_keep.chain rfl .refl)) (setBit_keep.chain rfl .refl)))

theorem alertMuzzled_keep {a0 s} : Keep 1073778874 s (alertMuzzled a0 s) := by
  unfold alertMuzzled
  exact (Keep.ite (queueAlert_keep.chain rfl (setGuard_keep.chain rfl .refl)) (setGuard_keep.chain rfl .refl))

theorem setMuzzle_keep {a0 a1 a2 a3 s} : Keep 9663713466 s (setMuzzle a0 a1 a2 a3 s) := by
  unfold setMuzzle
  exact (alertMuzzled_keep.chain rfl (logGuard_keep.chain rfl (bksEvent_keep.chain rfl (setReg64_keep.chain rfl (setRegN_keep.chain rfl (setGuard_keep.chain rfl (setFld_keep.chain rfl (setBit_keep.chain rfl .refl))))))))

theorem forceOff_keep {a0 s} : Keep 1074135218 s (forceOff a0 s) := by
  unfold forceOff
  exact (dataLanesTx_keep.chain rfl (setWaiken_keep.chain rfl .refl))

theorem forceOn_keep {a0 s} : Keep 1074135218 s (forceOn a0 s) := by
  unfold forceOn
  exact (Keep.ite (dataLanesTx_keep.chain rfl (setWaiken_keep.chain rfl .refl)) .refl)

theorem closeGate_keep {a0 s} : Keep 1142859442 s (closeGate a0 s) := by
  unfold closeGate
  exact (missAnswer_keep.chain rfl (missAll_keep.chain rfl (bump_keep.chain rfl (setGuard_keep.chain rfl .refl))))

theorem snoopSilence_keep {a0 s} : Keep 1142859442 s (snoopSilence a0 s) := by
  unfold snoopSilence
  exact (Keep.ite (setGuard_keep.chain rfl .refl) (closeGate_keep.chain rfl .refl))

theorem snoop_keep {a0 a1 s} : Keep 1142859442 s (snoop a0 a1 s) := by
  unfold snoop
  exact (Keep.ite (snoopSilence_keep.chain rfl .refl) .refl)

theorem openGate_keep {a0 s} : Keep 32768 s (openGate a0 s) := by
  unfold openGate
  exact (setGuard_keep.chain rfl .refl)

theorem bksGained_keep {a0 s} : Keep 32768 s (bksGained a0 s) := by
  unfold bksGained
  exact (setGuard_keep.chain rfl .refl)

theorem bksLost_keep {a0 s} : Keep 1142859442 s (bksLost a0 s) := by
  unfold bksLost
  exact (Keep.ite (closeGate_keep.chain rfl (setGuard_keep.chain rfl .refl)) (setGuard_keep.chain rfl .refl))

/-! ### ReefOps -/

theorem reefEvent_keep {a0 s} : Keep 1073742002 s (reefEvent a0 s) := by
  unfold reefEvent
  exact (raise_keep.chain rfl .refl)

theorem setReef_keep {a0 s} : Keep 1610612736 s (setReef a0 s) := by
  unfold setReef
  exact (.reefAll rfl rfl .refl)

theorem avsWrite_keep {a0 s} : Keep 1073741840 s (avsWrite a0 s) := by
  unfold avsWrite
  exact (Keep.ite .refl (emit_keep.chain rfl (.reef rfl rfl .refl)))

theorem coreBoot_keep {s} : Keep 1073741840 s (coreBoot s) := by
  unfold coreBoot
  exact (Keep.ite (.reef rfl rfl (.reef rfl rfl .refl)) (Keep.ite (.reef rfl rfl .refl) (avsWrite_keep.chain rfl (.reef rfl rfl .refl))))

theorem reefEnd_keep {a0 a1 a2 s} : Keep 9663676418 s (reefEnd a0 a1 a2 s) := by
  unfold reefEnd
  exact (Keep.ite (setRegN_keep.chain rfl (.reef rfl rfl .refl)) (logEvent_keep.chain rfl (setRegN_keep.chain rfl (.reef rfl rfl .refl))))

theorem reefProceed_keep {s} : Keep 9663676418 s (reefProceed s) := by
  unfold reefProceed
  exact (Keep.ite (Keep.ite (reefEnd_keep.chain rfl .refl) (.reef rfl rfl .refl)) .refl)

theorem darkLeft_keep {a0 a1 s} : Keep 9663676418 s (darkLeft a0 a1 s) := by
  unfold darkLeft
  split
  · exact (reefProceed_keep.chain rfl (.reef rfl rfl .refl))
  · exact .refl

theorem cancelDark_keep {a0 s} : Keep 9663676418 s (cancelDark a0 s) := by
  unfold cancelDark
  split
  · exact (Keep.ite (darkLeft_keep.chain rfl .refl) .refl)
  · exact .refl

/-! ### RegOps -/

theorem setState_keep {a0 a1 s} : Keep 9663677618 s (setState a0 a1 s) := by
  unfold setState
  exact (Keep.ite .refl (Keep.ite (cancelDark_keep.chain rfl (rgEvent_keep.chain rfl (setRegn_keep.chain rfl .refl))) (rgEvent_keep.chain rfl (setRegn_keep.chain rfl .refl))))

theorem setPend_keep {a0 a1 a2 s} : Keep 33792 s (setPend a0 a1 a2 s) := by
  unfold setPend
  exact (setGuard_keep.chain rfl (setRegn_keep.chain rfl .refl))

theorem dropEqd_keep {a0 s} : Keep 1073779898 s (dropEqd a0 s) := by
  unfold dropEqd
  first | (dsimp only; split) | (extract_lets; split) | split
  · exact (setPend_keep.chain rfl .refl)
  · exact (Keep.ite (setPend_keep.chain rfl .refl) (queueTmm_keep.chain rfl (setPend_keep.chain rfl .refl)))

theorem dropHeldTime_keep {a0 s} : Keep 65536 s (dropHeldTime a0 s) := by
  unfold dropHeldTime
  exact (.time rfl .refl)

theorem unbind_keep {a0 s} : Keep 16384 s (unbind a0 s) := by
  unfold unbind
  exact (.contexts rfl .refl)

theorem clearFilter_keep {a0 s} : Keep 2 s (clearFilter a0 s) := by
  unfold clearFilter
  exact (Keep.hchain (forAll_keep rfl (fun _ _ => (Keep.ite (setReg_keep.chain rfl .refl) .refl))) .refl)

theorem leaveBehind_keep {a0 s} : Keep 1411380922 s (leaveBehind a0 s) := by
  unfold leaveBehind
  exact (openGate_keep.chain rfl (setGuard_keep.chain rfl (setWaiken_keep.chain rfl (dropHeldTime_keep.chain rfl (tsiPortGone_keep.chain rfl (forgetKeys_keep.chain rfl (unbind_keep.chain rfl (clearFilter_keep.chain rfl (flushOut_keep.chain rfl (dropEqd_keep.chain rfl (missAnswer_keep.chain rfl (missAll_keep.chain rfl .refl))))))))))))

theorem leave_keep {a0 a1 s} : Keep 10001315514 s (leave a0 a1 s) := by
  unfold leave
  exact (setState_keep.chain rfl (Keep.ite (rgEvent_keep.chain rfl (setRegn_keep.chain rfl (leaveBehind_keep.chain rfl .refl))) (setRegn_keep.chain rfl (leaveBehind_keep.chain rfl .refl))))

theorem toSilent_keep {a0 a1 s} : Keep 9732798138 s (toSilent a0 a1 s) := by
  unfold toSilent
  exact (flushOut_keep.chain rfl (setState_keep.chain rfl (setRegn_keep.chain rfl (missAnswer_keep.chain rfl (missAll_keep.chain rfl .refl)))))

theorem endSilent_keep {a0 s} : Keep 9663710386 s (endSilent a0 s) := by
  unfold endSilent
  exact (Keep.ite (openGate_keep.chain rfl (setState_keep.chain rfl .refl)) .refl)

theorem endSilence_keep {a0 s} : Keep 9663710386 s (endSilence a0 s) := by
  unfold endSilence
  exact (Keep.ite (endSilent_keep.chain rfl (openGate_keep.chain rfl (setRegn_keep.chain rfl .refl))) .refl)

theorem muzzleRow_keep {a0 s} : Keep 9732798138 s (muzzleRow a0 s) := by
  unfold muzzleRow
  split
  · exact (toSilent_keep.chain rfl .refl)
  · exact (toSilent_keep.chain rfl .refl)
  · exact (toSilent_keep.chain rfl .refl)
  · exact (missAll_keep.chain rfl .refl)

theorem toHold_keep {a0 a1 s} : Keep 9664304314 s (toHold a0 a1 s) := by
  unfold toHold
  exact (Keep.ite (queueAlert_keep.chain rfl (flushOut_keep.chain rfl (setState_keep.chain rfl (setRegn_keep.chain rfl (dropHeldTime_keep.chain rfl (tsiPortGone_keep.chain rfl (dropEqd_keep.chain rfl .refl))))))) (flushOut_keep.chain rfl (setState_keep.chain rfl (setRegn_keep.chain rfl (dropHeldTime_keep.chain rfl (tsiPortGone_keep.chain rfl (dropEqd_keep.chain rfl .refl)))))))

theorem downstreamLost_keep {a0 s} : Keep 10001315514 s (downstreamLost a0 s) := by
  unfold downstreamLost
  exact (Keep.ite (leave_keep.chain rfl .refl) (by
  split
  · exact (leave_keep.chain rfl .refl)
  · exact (leave_keep.chain rfl .refl)
  · exact (toHold_keep.chain rfl .refl)
  · exact (toHold_keep.chain rfl .refl)
  · exact (toHold_keep.chain rfl .refl)
  · exact .refl
  ))

theorem downstreamAcquired_keep {a0 s} : Keep 9663677618 s (downstreamAcquired a0 s) := by
  unfold downstreamAcquired
  exact (Keep.ite .refl (by
  first | (dsimp only; split) | (extract_lets; split) | split
  · exact (setState_keep.chain rfl (setRegn_keep.chain rfl .refl))
  · exact (Keep.ite (setState_keep.chain rfl (setRegn_keep.chain rfl (setRegn_keep.chain rfl .refl))) (Keep.ite (setState_keep.chain rfl (setRegn_keep.chain rfl .refl)) (setState_keep.chain rfl (setRegn_keep.chain rfl .refl))))
  · exact (setRegn_keep.chain rfl .refl)
  ))

theorem withTiming_keep {m : Nat} {a0 f1 s} (hm : 10001315514 &&& m = 10001315514) (hf1 : ∀ v0, Keep m v0 (f1 v0)) : Keep m s (withTiming a0 f1 s) := by
  unfold withTiming
  exact (Keep.ite (downstreamLost_keep.chain (mask_sub rfl hm) (bksLost_keep.chain (mask_sub rfl hm) (halLost_keep.chain (mask_sub rfl hm) (Keep.hchain (hf1 ..) .refl)))) (Keep.ite (downstreamAcquired_keep.chain (mask_sub rfl hm) (bksGained_keep.chain (mask_sub rfl hm) (Keep.hchain (hf1 ..) .refl))) (Keep.hchain (hf1 ..) .refl)))

theorem remember_keep {a0 a1 a2 a3 s} : Keep 1024 s (remember a0 a1 a2 a3 s) := by
  unfold remember
  exact (setRegn_keep.chain rfl .refl)

theorem answer_keep {a0 a1 a2 a3 s} : Keep 1073747130 s (answer a0 a1 a2 a3 s) := by
  unfold answer
  exact (queueTmm_keep.chain rfl (remember_keep.chain rfl .refl))

theorem answerBusy_keep {a0 a1 s} : Keep 1073747130 s (answerBusy a0 a1 s) := by
  unfold answerBusy
  exact (queueTmm_keep.chain rfl .refl)

theorem notInState_keep {a0 a1 s} : Keep 1073779898 s (notInState a0 a1 s) := by
  unfold notInState
  exact (Keep.ite (openGate_keep.chain rfl (Keep.ite (queueTmm_keep.chain rfl (rgEvent_keep.chain rfl (bump_keep.chain rfl .refl))) (rgEvent_keep.chain rfl (bump_keep.chain rfl .refl)))) (Keep.ite (queueTmm_keep.chain rfl (rgEvent_keep.chain rfl (bump_keep.chain rfl .refl))) (rgEvent_keep.chain rfl (bump_keep.chain rfl .refl))))

theorem restartAnnounce_keep {a0 s} : Keep 1024 s (restartAnnounce a0 s) := by
  unfold restartAnnounce
  exact (Keep.ite (setRegn_keep.chain rfl .refl) .refl)

theorem withTmm_keep {m : Nat} {a0 a1 a2 f3 s} (hm : 1073780154 &&& m = 1073780154) (hf3 : ∀ v0 v1, Keep m v1 (f3 v0 v1)) : Keep m s (withTmm a0 a1 a2 f3 s) := by
  unfold withTmm
  split
  · exact .refl
  · exact (Keep.ite (Keep.ite (bump_keep.chain (mask_sub rfl hm) (setFramer_keep.chain (mask_sub rfl hm) .refl)) (by
  split
  · exact (Keep.ite (openGate_keep.chain (mask_sub rfl hm) (by
  split
  · exact (queueTmm_keep.chain (mask_sub rfl hm) (bump_keep.chain (mask_sub rfl hm) (setFramer_keep.chain (mask_sub rfl hm) .refl)))
  · exact (bump_keep.chain (mask_sub rfl hm) (setFramer_keep.chain (mask_sub rfl hm) .refl))
  )) (by
  split
  · exact (queueTmm_keep.chain (mask_sub rfl hm) (bump_keep.chain (mask_sub rfl hm) (setFramer_keep.chain (mask_sub rfl hm) .refl)))
  · exact (bump_keep.chain (mask_sub rfl hm) (setFramer_keep.chain (mask_sub rfl hm) .refl))
  ))
  · exact (Keep.ite (Keep.hchain (hf3 ..) (restartAnnounce_keep.chain (mask_sub rfl hm) (setFramer_keep.chain (mask_sub rfl hm) .refl))) (notInState_keep.chain (mask_sub rfl hm) (setFramer_keep.chain (mask_sub rfl hm) .refl)))
  )) .refl)

/-! ### Registration -/

theorem bindCtx_keep {a0 a1 s} : Keep 16384 s (bindCtx a0 a1 s) := by
  unfold bindCtx
  exact (.contexts rfl .refl)

theorem grantProfile_keep {p t s} : Keep 1073763514 s (grantProfile p t s) := by
  unfold grantProfile
  extract_lets alloc b v2
  clear_value alloc b v2
  generalize tf t.bits 351 350 = op
  generalize findCtx s p alloc = c
  split
  · exact answer_keep.chain rfl .refl
  · refine .ite (answer_keep.chain rfl .refl) ?_
    split
    · exact answer_keep.chain rfl (bindCtx_keep.chain rfl .refl)
    · exact answer_keep.chain rfl .refl
  · exact .ite (answer_keep.chain rfl .refl) (answer_keep.chain rfl .refl)
  · exact .ite (answer_keep.chain rfl .refl) (answer_keep.chain rfl (.contexts rfl .refl))
  · exact answer_keep.chain rfl .refl
  · exact .ite (answer_keep.chain rfl .refl) (answer_keep.chain rfl (bindCtx_keep.chain rfl .refl))
  · exact answer_keep.chain rfl .refl

theorem execGrantProfile_keep {a0 s} : KeepN 1073796538 s (execGrantProfile a0 s) := by
  unfold execGrantProfile
  exact (.next (Keep.hchain (onlyIf_keep rfl (fun _ => (Keep.hchain (withTmm_keep rfl (fun _ _ => (grantProfile_keep.chain rfl .refl))) .refl))) .refl))

theorem toAnnounce_keep {a0 s} : Keep 9663677618 s (toAnnounce a0 s) := by
  unfold toAnnounce
  exact (restartAnnounce_keep.chain rfl (setState_keep.chain rfl .refl))

theorem answerV3_keep {a0 a1 s} : Keep 9663679674 s (answerV3 a0 a1 s) := by
  unfold answerV3
  exact (Keep.ite .refl (Keep.ite (toAnnounce_keep.chain rfl (.timed rfl (drawn_keep.chain rfl (drawn_keep.chain rfl (Keep.ite .refl (setRegn_keep.chain rfl .refl)))))) (drawn_keep.chain rfl (Keep.ite .refl (setRegn_keep.chain rfl .refl)))))

theorem addWindow_keep {a0 a1 s} : Keep 33792 s (addWindow a0 a1 s) := by
  unfold addWindow
  exact (setGuard_keep.chain rfl (setRegn_keep.chain rfl .refl))

theorem answerV2_keep {a0 a1 s} : Keep 9663710394 s (answerV2 a0 a1 s) := by
  unfold answerV2
  exact (Keep.ite (Keep.ite (toAnnounce_keep.chain rfl (addWindow_keep.chain rfl (drawn_keep.chain rfl (drawn_keep.chain rfl .refl)))) (addWindow_keep.chain rfl (drawn_keep.chain rfl (drawn_keep.chain rfl .refl)))) (drawn_keep.chain rfl .refl))

theorem hail_keep {a0 a1 s} : Keep 9663712442 s (hail a0 a1 s) := by
  unfold hail
  exact (Keep.ite (bump_keep.chain rfl .refl) (Keep.ite (answerV2_keep.chain rfl .refl) (answerV3_keep.chain rfl .refl)))

theorem hailRow_keep {a0 s} : Keep 9663716794 s (hailRow a0 s) := by
  unfold hailRow
  split
  · exact .refl
  · exact (Keep.ite (Keep.ite (bump_keep.chain rfl (setFramer_keep.chain rfl .refl)) (Keep.ite (hail_keep.chain rfl (setFramer_keep.chain rfl .refl)) (notInState_keep.chain rfl (setFramer_keep.chain rfl .refl)))) .refl)

theorem execHail_keep {a0 s} : KeepN 9663716794 s (execHail a0 s) := by
  unfold execHail
  exact (.next (Keep.hchain (onlyIf_keep rfl (fun _ => (hailRow_keep.chain rfl .refl))) .refl))

theorem versionOffer_keep {a0 a1 s} : Keep 1073747130 s (versionOffer a0 a1 s) := by
  unfold versionOffer
  exact (Keep.ite (answer_keep.chain rfl (rgEvent_keep.chain rfl (Keep.ite (flushOut2_keep.chain rfl (setRegn_keep.chain rfl .refl)) (setRegn_keep.chain rfl .refl)))) (answer_keep.chain rfl (Keep.ite (flushOut2_keep.chain rfl (setRegn_keep.chain rfl .refl)) (setRegn_keep.chain rfl .refl))))

theorem execVersionOffer_keep {a0 s} : KeepN 1073780154 s (execVersionOffer a0 s) := by
  unfold execVersionOffer
  exact (.next (Keep.hchain (onlyIf_keep rfl (fun _ => (Keep.hchain (withTmm_keep rfl (fun _ _ => (versionOffer_keep.chain rfl .refl))) .refl))) .refl))

theorem headFilter_keep {a0 a1 a2 a3 s} : Keep 2 s (headFilter a0 a1 a2 a3 s) := by
  unfold headFilter
  exact (setRegN_keep.chain rfl .refl)

theorem assignId_keep {a0 a1 s} : Keep 9663993018 s (assignId a0 a1 s) := by
  unfold assignId
  exact (Keep.ite (Keep.ite (answer_keep.chain rfl (setBit_keep.chain rfl .refl)) (Keep.ite (answer_keep.chain rfl .refl) (answer_keep.chain rfl (headFilter_keep.chain rfl .refl)))) (Keep.ite (answer_keep.chain rfl .refl) (by
  split
  · exact (answer_keep.chain rfl .refl)
  · exact (answer_keep.chain rfl (setState_keep.chain rfl (rgEvent_keep.chain rfl (setWaiken_keep.chain rfl (setRegn_keep.chain rfl (setGuard_keep.chain rfl (setRegN_keep.chain rfl (bindCtx_keep.chain rfl .refl))))))))
  )))

theorem execAssignId_keep {a0 s} : KeepN 9663993274 s (execAssignId a0 s) := by
  unfold execAssignId
  exact (.next (Keep.hchain (onlyIf_keep rfl (fun _ => (Keep.hchain (withTmm_keep rfl (fun _ _ => (assignId_keep.chain rfl .refl))) .refl))) .refl))

theorem rangeSet_keep {a0 a1 s} : Keep 1073779898 s (rangeSet a0 a1 s) := by
  unfold rangeSet
  exact (Keep.ite (answer_keep.chain rfl .refl) (by
  split
  · exact (Keep.ite (answer_keep.chain rfl .refl) (setPend_keep.chain rfl .refl))
  · exact (setPend_keep.chain rfl .refl)
  ))

theorem execRangeSet_keep {a0 s} : KeepN 1073780154 s (execRangeSet a0 s) := by
  unfold execRangeSet
  exact (.next (Keep.hchain (onlyIf_keep rfl (fun _ => (Keep.hchain (withTmm_keep rfl (fun _ _ => (rangeSet_keep.chain rfl .refl))) .refl))) .refl))

theorem eqdConfirm_keep {a0 a1 s} : Keep 1073779898 s (eqdConfirm a0 a1 s) := by
  unfold eqdConfirm
  first | (dsimp only; split) | (extract_lets; split) | split
  · exact .refl
  · exact (Keep.ite .refl (Keep.ite (answer_keep.chain rfl (Keep.ite (bumpHi_keep.chain rfl (setRegn_keep.chain rfl (setGuard_keep.chain rfl .refl))) (setRegn_keep.chain rfl (setGuard_keep.chain rfl .refl)))) (answerBusy_keep.chain rfl (setPend_keep.chain rfl .refl))))

theorem execEqdConfirm_keep {a0 a1 a2 s} : KeepN 1073779898 s (execEqdConfirm a0 a1 a2 s) := by
  unfold execEqdConfirm
  exact (.next (Keep.hchain (onlyIf_keep rfl (fun _ => (eqdConfirm_keep.chain rfl .refl))) .refl))

theorem dropCut_keep {a0 a1 s} : Keep 8192 s (dropCut a0 a1 s) := by
  unfold dropCut
  exact (setHalyard_keep.chain rfl .refl)

theorem cutForEqd_keep {a0 a1 a2 a3 s} : Keep 1142826674 s (cutForEqd a0 a1 a2 a3 s) := by
  unfold cutForEqd
  exact (Keep.ite .refl (Keep.ite .refl (rgEvent_keep.chain rfl (bumpLo_keep.chain rfl (dozeIn_keep.chain rfl (missGrants_keep.chain rfl (dropCut_keep.chain rfl .refl)))))))

theorem eqdApply_keep {a0 s} : Keep 9732794034 s (eqdApply a0 s) := by
  unfold eqdApply
  first | (dsimp only; split) | (extract_lets; split) | split
  · exact .refl
  · exact (Keep.ite .refl (Keep.ite (rgEvent_keep.chain rfl (setRegn_keep.chain rfl (setWaiken_keep.chain rfl (setGuard_keep.chain rfl (cutForEqd_keep.chain rfl .refl))))) (by
  split
  · exact (setState_keep.chain rfl (rgEvent_keep.chain rfl (setRegn_keep.chain rfl (setWaiken_keep.chain rfl (setGuard_keep.chain rfl (cutForEqd_keep.chain rfl .refl))))))
  · exact (Keep.ite (setRegn_keep.chain rfl (rgEvent_keep.chain rfl (setRegn_keep.chain rfl (setWaiken_keep.chain rfl (setGuard_keep.chain rfl (cutForEqd_keep.chain rfl .refl)))))) (rgEvent_keep.chain rfl (setRegn_keep.chain rfl (setWaiken_keep.chain rfl (setGuard_keep.chain rfl (cutForEqd_keep.chain rfl .refl))))))
  · exact (rgEvent_keep.chain rfl (setRegn_keep.chain rfl (setWaiken_keep.chain rfl (setGuard_keep.chain rfl (cutForEqd_keep.chain rfl .refl)))))
  )))

theorem execEqdChangeApply_keep {a0 s} : KeepN 9732794034 s (execEqdChangeApply a0 s) := by
  unfold execEqdChangeApply
  exact (.next (Keep.hchain (onlyIf_keep rfl (fun _ => (eqdApply_keep.chain rfl .refl))) .refl))

theorem rangeProbe_keep {a0 a1 s} : Keep 1073749178 s (rangeProbe a0 a1 s) := by
  unfold rangeProbe
  exact (Keep.ite (answer_keep.chain rfl .refl) (remember_keep.chain rfl (.timed rfl .refl)))

theorem execRangeProbe_keep {a0 s} : KeepN 1073782202 s (execRangeProbe a0 s) := by
  unfold execRangeProbe
  exact (.next (Keep.hchain (onlyIf_keep rfl (fun _ => (Keep.hchain (withTmm_keep rfl (fun _ _ => (rangeProbe_keep.chain rfl .refl))) .refl))) .refl))

theorem silencePort_keep {a0 a1 a2 s} : Keep 9732798138 s (silencePort a0 a1 a2 s) := by
  unfold silencePort
  first | (dsimp only; split) | (extract_lets; split) | split
  · exact (toSilent_keep.chain rfl (setRegn_keep.chain rfl .refl))
  · exact (toSilent_keep.chain rfl (setRegn_keep.chain rfl .refl))
  · exact (toSilent_keep.chain rfl (setRegn_keep.chain rfl .refl))
  · exact (setRegn_keep.chain rfl .refl)

theorem execSilence_keep {a0 s} : KeepN 9732798394 s (execSilence a0 s) := by
  unfold execSilence
  exact (.next (Keep.hchain (onlyIf_keep rfl (fun _ => (Keep.hchain (withTmm_keep rfl (fun _ _ => (answer_keep.chain rfl (silencePort_keep.chain rfl .refl)))) .refl))) .refl))

theorem clearMuzzle_keep {a0 s} : Keep 9664103602 s (clearMuzzle a0 s) := by
  unfold clearMuzzle
  exact (endSilent_keep.chain rfl (forceOn_keep.chain rfl (setBit_keep.chain rfl .refl)))

theorem unmuzzle_keep {a0 a1 s} : Keep 9664107706 s (unmuzzle a0 a1 s) := by
  unfold unmuzzle
  exact (Keep.ite (answerBusy_keep.chain rfl .refl) (answer_keep.chain rfl (endSilent_keep.chain rfl (Keep.ite (endSilence_keep.chain rfl (Keep.ite (forceOn_keep.chain rfl (setBit_keep.chain rfl .refl)) .refl)) (Keep.ite (forceOn_keep.chain rfl (setBit_keep.chain rfl .refl)) .refl)))))

theorem execUnmuzzle_keep {a0 s} : KeepN 9664107962 s (execUnmuzzle a0 s) := by
  unfold execUnmuzzle
  exact (.next (Keep.hchain (onlyIf_keep rfl (fun _ => (Keep.hchain (withTmm_keep rfl (fun _ _ => (unmuzzle_keep.chain rfl .refl))) .refl))) .refl))

theorem release_keep {a0 a1 s} : Keep 10001315514 s (release a0 a1 s) := by
  unfold release
  exact (Keep.ite (leave_keep.chain rfl (answer_keep.chain rfl (setRegn_keep.chain rfl .refl))) (setRegn_keep.chain rfl (answer_keep.chain rfl (setRegn_keep.chain rfl .refl))))

theorem execRelease_keep {a0 s} : KeepN 10001315770 s (execRelease a0 s) := by
  unfold execRelease
  exact (.next (Keep.hchain (onlyIf_keep rfl (fun _ => (Keep.hchain (withTmm_keep rfl (fun _ _ => (release_keep.chain rfl .refl))) .refl))) .refl))

theorem releaseEffect_keep {a0 s} : Keep 10001315514 s (releaseEffect a0 s) := by
  unfold releaseEffect
  split
  · exact .refl
  · exact (Keep.ite (leave_keep.chain rfl .refl) .refl)

theorem execReleaseEffect_keep {a0 s} : KeepN 10001315514 s (execReleaseEffect a0 s) := by
  unfold execReleaseEffect
  exact (.next (Keep.hchain (onlyIf_keep rfl (fun _ => (releaseEffect_keep.chain rfl .refl))) .refl))

theorem execEcho_keep {a0 s} : KeepN 1073780154 s (execEcho a0 s) := by
  unfold execEcho
  exact (.next (Keep.hchain (onlyIf_keep rfl (fun _ => (Keep.hchain (withTmm_keep rfl (fun _ _ => (answer_keep.chain rfl .refl))) .refl))) .refl))

theorem tmmUnknown_keep {a0 s} : Keep 258 s (tmmUnknown a0 s) := by
  unfold tmmUnknown
  split
  · exact .refl
  · exact (Keep.ite .refl (Keep.ite (bump_keep.chain rfl (setFramer_keep.chain rfl .refl)) (bump_keep.chain rfl (setFramer_keep.chain rfl .refl))))

theorem execTmmUnknown_keep {a0 s} : KeepN 258 s (execTmmUnknown a0 s) := by
  unfold execTmmUnknown
  exact (.next (Keep.hchain (onlyIf_keep rfl (fun _ => (tmmUnknown_keep.chain rfl .refl))) .refl))

theorem execAnnounceTimerExpiry_keep {a0 s} : KeepN 10001315514 s (execAnnounceTimerExpiry a0 s) := by
  unfold execAnnounceTimerExpiry
  exact (.next (Keep.hchain (onlyIf_keep rfl (fun _ => (leave_keep.chain rfl .refl))) .refl))

theorem execRangeTimerExpiry_keep {a0 s} : KeepN 10001315514 s (execRangeTimerExpiry a0 s) := by
  unfold execRangeTimerExpiry
  exact (.next (Keep.hchain (onlyIf_keep rfl (fun _ => (leave_keep.chain rfl .refl))) .refl))

theorem execHoldTimerExpiry_keep {a0 s} : KeepN 10001315514 s (execHoldTimerExpiry a0 s) := by
  unfold execHoldTimerExpiry
  exact (.next (Keep.hchain (onlyIf_keep rfl (fun _ => (leave_keep.chain rfl .refl))) .refl))

theorem execSilenceDurationEnd_keep {a0 s} : KeepN 9663710386 s (execSilenceDurationEnd a0 s) := by
  unfold execSilenceDurationEnd
  exact (.next (Keep.hchain (onlyIf_keep rfl (fun _ => (endSilence_keep.chain rfl .refl))) .refl))

theorem replyFallback_keep {a0 s} : Keep 1073747130 s (replyFallback a0 s) := by
  unfold replyFallback
  first | (dsimp only; split) | (extract_lets; split) | split
  · exact .refl
  · exact (Keep.ite (queueLm_keep.chain rfl (setRegn_keep.chain rfl .refl)) .refl)

theorem execReplyLookoutFallback_keep {a0 s} : KeepN 1073747130 s (execReplyLookoutFallback a0 s) := by
  unfold execReplyLookoutFallback
  exact (.next (Keep.hchain (onlyIf_keep rfl (fun _ => (replyFallback_keep.chain rfl .refl))) .refl))

theorem hostNotInState_keep {a0 s} : Keep 1073742002 s (hostNotInState a0 s) := by
  unfold hostNotInState
  exact (rgEvent_keep.chain rfl (bump_keep.chain rfl .refl))

theorem regEnable_keep {a0 a1 s} : Keep 14296282810 s (regEnable a0 a1 s) := by
  unfold regEnable
  exact (trkFollow_keep.chain rfl (Keep.ite (Keep.ite (downstreamAcquired_keep.chain rfl (setBit_keep.chain rfl .refl)) (setBit_keep.chain rfl .refl)) (leave_keep.chain rfl (setBit_keep.chain rfl .refl))))

theorem regRelease_keep {a0 s} : Keep 10001315514 s (regRelease a0 s).1 := by
  unfold regRelease
  split
  · exact (hostNotInState_keep.chain rfl .refl)
  · exact (hostNotInState_keep.chain rfl .refl)
  · exact (leave_keep.chain rfl .refl)
  · exact (leave_keep.chain rfl .refl)

theorem regSilence_keep {a0 a1 s} : Keep 9732798138 s (regSilence a0 a1 s).1 := by
  unfold regSilence
  exact (Keep.ite1 (closeGate_keep.chain rfl (silencePort_keep.chain rfl .refl)) (hostNotInState_keep.chain rfl .refl))

/-! ### Halyard -/

theorem countInvalid_keep {a0 a1 s} : Keep 1073742514 s (countInvalid a0 a1 s) := by
  unfold countInvalid
  exact (halEvent_keep.chain rfl (pmInvalid_keep.chain rfl (bump_keep.chain rfl .refl)))

theorem holdGrant_keep {p : Nat} {ns : List Grant × State} {g : Grant} : Keep 1073750706 ns.2 (holdGrant p ns g).2 := by
  simp only [holdGrant]
  split
  · exact countInvalid_keep.chain rfl .refl
  · split
    · dsimp only; exact countMissed_keep.chain rfl .refl
    · split
      · dsimp only; exact countMissed_keep.chain rfl .refl
      · split
        · dsimp only; exact halEvent_keep.chain rfl (countMissed_keep.chain rfl .refl)
        · dsimp only; exact bump64_keep.chain rfl (setHalyard_keep.chain rfl .refl)

theorem holdGrants_keep {p : Nat} {gs : List Grant} {ns : List Grant × State} :
    Keep 1073750706 ns.2 (gs.foldl (holdGrant p) ns).2 := by
  induction gs generalizing ns with
  | nil => exact .refl
  | cons g gs ih => exact Keep.hchain ih holdGrant_keep

theorem markFollowed_keep {a0 a1 s} : Keep 8192 s (markFollowed a0 a1 s) := by
  unfold markFollowed
  exact (setHalyard_keep.chain rfl .refl)

theorem validateEntries_keep {p f es s} : Keep 1073750706 s (validateEntries p f es s) := by
  simp only [validateEntries]
  refine markFollowed_keep.chain rfl (Keep.hchain (holdGrants_keep (ns := ([], _))) (Keep.hchain (forAll_keep rfl fun e x => ?_) ?_))
  · split
    · exact countInvalid_keep.chain rfl .refl
    · exact .refl
  · split
    · exact .refl
    · exact setHalyard_keep.chain rfl .refl

theorem validateMap_keep {a0 s} : Keep 1074143922 s (validateMap a0 s) := by
  unfold validateMap
  first | (dsimp only; split) | (extract_lets; split) | split
  · exact .refl
  · exact (Keep.ite (setHalyard_keep.chain rfl .refl) (by
  split
  · exact (countMissed_keep.chain rfl (setHalyard_keep.chain rfl .refl))
  · exact (Keep.ite (countMissed_keep.chain rfl (setHalyard_keep.chain rfl .refl)) (Keep.ite (dozeOut_keep.chain rfl (validateEntries_keep.chain rfl (setHalyard_keep.chain rfl (setHalyard_keep.chain rfl .refl)))) (validateEntries_keep.chain rfl (setHalyard_keep.chain rfl (setHalyard_keep.chain rfl .refl)))))
  ))

theorem execGrantMapValidation_keep {a0 s} : KeepN 1074143922 s (execGrantMapValidation a0 s) := by
  unfold execGrantMapValidation
  exact (.next (Keep.hchain (onlyIf_keep rfl (fun _ => (validateMap_keep.chain rfl .refl))) .refl))

theorem setGrant_keep {a0 a1 s} : Keep 8192 s (setGrant a0 a1 s) := by
  unfold setGrant
  exact (setHalyard_keep.chain rfl .refl)

theorem dropGrants_keep {a0 a1 s} : Keep 8192 s (dropGrants a0 a1 s) := by
  unfold dropGrants
  exact (setHalyard_keep.chain rfl .refl)

theorem sealContainers_keep {p e l s} : Keep 268435458 s (sealContainers p e l s).1 := by
  induction l generalizing s with
  | nil => exact .refl
  | cons x l ih => exact Keep.hchain ih (sealEnvelope_keep.chain rfl .refl)

theorem fillGrant_keep {a0 a1 a2 a3 a4 s} : Keep 1544028338 s (fillGrant a0 a1 a2 a3 a4 s).1 := by
  unfold fillGrant
  first | (dsimp only; split) | (extract_lets; split) | split
  · exact (bump_keep.chain rfl .refl)
  · first | (dsimp only; split) | (extract_lets; split) | split
    · exact (shrEvent_keep.chain rfl (bump_keep.chain rfl .refl))
    · exact (Keep.ite1 .refl (Keep.ite1 (sealContainers_keep.chain rfl (takeContainers_keep.chain rfl .refl)) (Keep.ite1 .refl (selectUp_keep.chain rfl .refl))))

theorem commitNext_keep {a0 s} : Keep 1544038066 s (commitNext a0 s) := by
  unfold commitNext
  first | (dsimp only; split) | (extract_lets; split) | split
  · exact .refl
  · exact (Keep.ite (by
  split
  · exact (countMissed_keep.chain rfl (dropGrants_keep.chain rfl .refl))
  · exact (Keep.ite (countMissed_keep.chain rfl (dropGrants_keep.chain rfl .refl)) (setGrant_keep.chain rfl (fillGrant_keep.chain rfl .refl)))
  ) (setGrant_keep.chain rfl (fillGrant_keep.chain rfl (Keep.ite (setHalyard_keep.chain rfl (setRegn_keep.chain rfl .refl)) (setRegn_keep.chain rfl .refl)))))

theorem execBurstCommit_keep {a0 s} : KeepN 1544038066 s (execBurstCommit a0 s) := by
  unfold execBurstCommit
  exact (.next (Keep.hchain (onlyIf_keep rfl (fun _ => (commitNext_keep.chain rfl .refl))) .refl))

theorem fillRead_keep {a0 a1 a2 s} : Keep 1410343098 s (fillRead a0 a1 a2 s) := by
  unfold fillRead
  split
  · exact .refl
  · split
    · exact .refl
    · exact (Keep.ite (bufSettle_keep.chain rfl (freeRef_keep.chain rfl (setGrant_keep.chain rfl (Keep.ite (Keep.ite (drawn_keep.chain rfl .refl) .refl) (bump_keep.chain rfl (Keep.ite (drawn_keep.chain rfl .refl) .refl)))))) (by
    split
    · exact (Keep.ite (drawn_keep.chain rfl .refl) .refl)
    · exact (setGrant_keep.chain rfl (sealEnvelope_keep.chain rfl (Keep.ite (drawn_keep.chain rfl .refl) .refl)))
    ))

theorem lateMiss_keep {a0 s} : Keep 1141383346 s (lateMiss a0 s) := by
  unfold lateMiss
  split
  · exact .refl
  · exact (halEvent_keep.chain rfl (returnFills_keep.chain rfl (setGrant_keep.chain rfl .refl)))

theorem execLaunchDeadlineMiss_keep {a0 s} : KeepN 1141383346 s (execLaunchDeadlineMiss a0 s) := by
  unfold execLaunchDeadlineMiss
  exact (.next (Keep.hchain (onlyIf_keep rfl (fun _ => (lateMiss_keep.chain rfl .refl))) .refl))

theorem missParted_keep {a0 a1 s} : Keep 1142433458 s (missParted a0 a1 s) := by
  unfold missParted
  exact (missGrants_keep.chain rfl (dropGrants_keep.chain rfl .refl))

theorem launchNext_keep {a0 s} : Keep 1142433458 s (launchNext a0 s) := by
  unfold launchNext
  first | (dsimp only; split) | (extract_lets; split) | split
  · exact .refl
  · exact (Keep.ite .refl (missParted_keep.chain rfl (emit_keep.chain rfl (bump64_keep.chain rfl (Keep.ite (bump_keep.chain rfl (setHalyard_keep.chain rfl .refl)) (setHalyard_keep.chain rfl .refl))))))

theorem launchAnswer_keep {a0 a1 s} : Keep 271378 s (launchAnswer a0 a1 s) := by
  unfold launchAnswer
  exact (Keep.ite .refl (emit_keep.chain rfl (bump64_keep.chain rfl (setHalyard_keep.chain rfl (setWaiken_keep.chain rfl (setRegn_keep.chain rfl .refl))))))

theorem launchBurst_keep {a0 s} : Keep 1142695602 s (launchBurst a0 s) := by
  unfold launchBurst
  split
  · exact (launchAnswer_keep.chain rfl .refl)
  · exact (launchNext_keep.chain rfl .refl)

theorem execBurstLaunch_keep {a0 s} : KeepN 1142695602 s (execBurstLaunch a0 s) := by
  unfold execBurstLaunch
  exact (.next (Keep.hchain (onlyIf_keep rfl (fun _ => (launchBurst_keep.chain rfl .refl))) .refl))

theorem endAnswer_keep {a0 a1 s} : Keep 1074144434 s (endAnswer a0 a1 s) := by
  unfold endAnswer
  exact (dozeIn_keep.chain rfl (emit_keep.chain rfl (emit_keep.chain rfl (bump64_keep.chain rfl (setHalyard_keep.chain rfl (setWaiken_keep.chain rfl (setRegn_keep.chain rfl .refl)))))))

theorem endBurst_keep {a0 s} : Keep 1142826674 s (endBurst a0 s) := by
  unfold endBurst
  first | (dsimp only; split) | (extract_lets; split) | split
  · exact (endAnswer_keep.chain rfl .refl)
  · split
    · exact .refl
    · exact (Keep.ite (dozeIn_keep.chain rfl (emit_keep.chain rfl (emit_keep.chain rfl (missParted_keep.chain rfl (Keep.ite (halEvent_keep.chain rfl (bump_keep.chain rfl (bump64_keep.chain rfl (returnFills_keep.chain rfl (sentFills_keep.chain rfl (dropGrants_keep.chain rfl (setHalyard_keep.chain rfl .refl))))))) (bump64_keep.chain rfl (returnFills_keep.chain rfl (sentFills_keep.chain rfl (dropGrants_keep.chain rfl (setHalyard_keep.chain rfl .refl)))))))))) .refl)

theorem execBurstEnd_keep {a0 s} : KeepN 1142826674 s (execBurstEnd a0 s) := by
  unfold execBurstEnd
  exact (.next (Keep.hchain (onlyIf_keep rfl (fun _ => (endBurst_keep.chain rfl .refl))) .refl))

theorem execDozeExit_keep {a0 s} : KeepN 1074143410 s (execDozeExit a0 s) := by
  unfold execDozeExit
  exact (.next (Keep.hchain (onlyIf_keep rfl (fun _ => (dozeOut_keep.chain rfl .refl))) .refl))

theorem checkLanes_keep {a0 s} : Keep 1142826674 s (checkLanes a0 s) := by
  unfold checkLanes
  exact (Keep.ite .refl (by
  first | (dsimp only; split) | (extract_lets; split) | split
  · exact (loseWindow_keep.chain rfl (halEvent_keep.chain rfl (setHalyard_keep.chain rfl .refl)))
  · split
    · exact .refl
    · exact (halEvent_keep.chain rfl (setHalyard_keep.chain rfl (missGrants_keep.chain rfl (missGrants_keep.chain rfl (dropGrants_keep.chain rfl .refl)))))
  ))

theorem execLaneReadinessCheck_keep {a0 s} : KeepN 1142826674 s (execLaneReadinessCheck a0 s) := by
  unfold execLaneReadinessCheck
  exact (.next (Keep.hchain (onlyIf_keep rfl (fun _ => (checkLanes_keep.chain rfl .refl))) .refl))

theorem halEnable_keep {a0 a1 s} : Keep 1142859442 s (halEnable a0 a1 s) := by
  unfold halEnable
  exact (dozeIn_keep.chain rfl (setBit_keep.chain rfl (Keep.ite .refl (missAnswer_keep.chain rfl (missAll_keep.chain rfl (setHalyard_keep.chain rfl .refl))))))

theorem writeHalEnable_keep {a0 a1 s} : Keep 5437826738 s (writeHalEnable a0 a1 s) := by
  unfold writeHalEnable
  exact (trkFollow_keep.chain rfl (halEnable_keep.chain rfl .refl))

theorem execHalEnableWrite_keep {a0 a1 s} : KeepN 5437826738 s (execHalEnableWrite a0 a1 s) := by
  unfold execHalEnableWrite
  exact (.next (Keep.hchain (onlyIf_keep rfl (fun _ => (writeHalEnable_keep.chain rfl .refl))) .refl))

theorem writeDozeCtl_keep {a0 a1 s} : Keep 270338 s (writeDozeCtl a0 a1 s) := by
  unfold writeDozeCtl
  exact (setWaiken_keep.chain rfl (setHalyard_keep.chain rfl (setReg_keep.chain rfl .refl)))

theorem execDozeCtlWrite_keep {a0 a1 s} : KeepN 270338 s (execDozeCtlWrite a0 a1 s) := by
  unfold execDozeCtlWrite
  exact (.next (Keep.hchain (onlyIf_keep rfl (fun _ => (writeDozeCtl_keep.chain rfl .refl))) .refl))

theorem lookupCtx_keep {a0 a1 s} : Keep 2 s (lookupCtx a0 a1 s) := by
  unfold lookupCtx
  exact (setRegN_keep.chain rfl (setRegN_keep.chain rfl .refl))

theorem execCtxLookupWrite_keep {a0 a1 s} : KeepN 2 s (execCtxLookupWrite a0 a1 s) := by
  unfold execCtxLookupWrite
  exact (.next (Keep.hchain (onlyIf_keep rfl (fun _ => (lookupCtx_keep.chain rfl .refl))) .refl))

theorem halCntClr_keep {a0 s} : Keep 2 s (halCntClr a0 s) := by
  unfold halCntClr
  exact (zeroRegs_keep.chain rfl .refl)

theorem execHalCntClr_keep {a0 s} : KeepN 2 s (execHalCntClr a0 s) := by
  unfold execHalCntClr
  exact (.next (Keep.hchain (onlyIf_keep rfl (fun _ => (halCntClr_keep.chain rfl .refl))) .refl))

end Sys2Proof.Machine
end

