-- ==== Sys2Proof/Laws/Keep3.lean ====
section
/-! SUPPORT. What each operation of these files of the machine keeps: Backstay, Framer, Pm, Dma, Mailbox, Resets. -/
namespace Sys2Proof.Machine
open Sys2Proof

/-! ### Backstay -/

theorem backstayMap_keep {a0 s} : Keep 32770 s (backstayMap a0 s) := by
  unfold backstayMap
  first | (dsimp only; split) | (extract_lets; split) | split
  · exact .refl
  · first | (dsimp only; split) | (extract_lets; split) | split
    · exact (setGuard_keep.chain rfl .refl)
    · exact (Keep.ite (bump_keep.chain rfl (setGuard_keep.chain rfl .refl)) (Keep.ite (setGuard_keep.chain rfl .refl) (Keep.ite (setGuard_keep.chain rfl (setGuard_keep.chain rfl .refl)) (setGuard_keep.chain rfl (setGuard_keep.chain rfl .refl)))))

theorem execBackstayMap_keep {a0 s} : KeepN 32770 s (execBackstayMap a0 s) := by
  unfold execBackstayMap
  exact (.next (Keep.hchain (onlyIf_keep rfl (fun _ => (backstayMap_keep.chain rfl .refl))) .refl))

theorem closedFrame_keep {a0 a1 s} : Keep 32770 s (closedFrame a0 a1 s) := by
  unfold closedFrame
  exact (Keep.ite (Keep.ite (bump_keep.chain rfl (setGuard_keep.chain rfl .refl)) .refl) (setGuard_keep.chain rfl .refl))

theorem execClosedFrame_keep {a0 a1 s} : KeepN 32770 s (execClosedFrame a0 a1 s) := by
  unfold execClosedFrame
  exact (.next (Keep.hchain (onlyIf_keep rfl (fun _ => (closedFrame_keep.chain rfl .refl))) .refl))

theorem answerInterval_keep {a0 a1 s} : Keep 1074177202 s (answerInterval a0 a1 s) := by
  unfold answerInterval
  exact (Keep.ite (Keep.ite (setGuard_keep.chain rfl .refl) .refl) (setGuard_keep.chain rfl (setHalyard_keep.chain rfl (Keep.hchain (forAll_keep rfl (fun _ _ => (Keep.ite (endAnswer_keep.chain rfl .refl) (loseWindow_keep.chain rfl .refl)))) .refl))))

theorem execVersion2AnswerInterval_keep {a0 a1 s} : KeepN 1074177202 s (execVersion2AnswerInterval a0 a1 s) := by
  unfold execVersion2AnswerInterval
  exact (.next (Keep.hchain (onlyIf_keep rfl (fun _ => (answerInterval_keep.chain rfl .refl))) .refl))

theorem unclean_keep {a0 s} : Keep 2 s (unclean a0 s) := by
  unfold unclean
  exact (Keep.ite (setFld_keep.chain rfl .refl) .refl)

theorem discardRun_keep {a0 a1 s} : Keep 32768 s (discardRun a0 a1 s) := by
  unfold discardRun
  first | (dsimp only; split) | (extract_lets; split) | split
  · exact (Keep.ite (setGuard_keep.chain rfl .refl) .refl)
  · exact .refl

theorem cutOff_keep {a0 a1 a2 s} : Keep 9732798138 s (cutOff a0 a1 a2 s) := by
  unfold cutOff
  exact (Keep.ite (bump_keep.chain rfl (unclean_keep.chain rfl .refl)) (Keep.ite .refl (muzzleRow_keep.chain rfl (missAnswer_keep.chain rfl (cutBurst_keep.chain rfl (forceOff_keep.chain rfl (setMuzzle_keep.chain rfl (bump_keep.chain rfl (discardRun_keep.chain rfl .refl)))))))))

theorem execCutOff_keep {a0 a1 a2 s} : KeepN 9732798138 s (execCutOff a0 a1 a2 s) := by
  unfold execCutOff
  exact (.next (Keep.hchain (onlyIf_keep rfl (fun _ => (cutOff_keep.chain rfl .refl))) .refl))

theorem repeatAlert_keep {a0 s} : Keep 1073778874 s (repeatAlert a0 s) := by
  unfold repeatAlert
  exact (Keep.ite (alertMuzzled_keep.chain rfl .refl) .refl)

theorem execMuzzleAlertRepeat_keep {a0 s} : KeepN 1073778874 s (execMuzzleAlertRepeat a0 s) := by
  unfold execMuzzleAlertRepeat
  exact (.next (Keep.hchain (onlyIf_keep rfl (fun _ => (repeatAlert_keep.chain rfl .refl))) .refl))

theorem cleanFrame_keep {a0 a1 s} : Keep 32770 s (cleanFrame a0 a1 s) := by
  unfold cleanFrame
  exact (Keep.ite .refl (Keep.ite (setFld_keep.chain rfl .refl) (Keep.ite .refl (setGuard_keep.chain rfl (setFld_keep.chain rfl .refl)))))

theorem execCleanFrameCount_keep {a0 a1 s} : KeepN 32770 s (execCleanFrameCount a0 a1 s) := by
  unfold execCleanFrameCount
  exact (.next (Keep.hchain (onlyIf_keep rfl (fun _ => (cleanFrame_keep.chain rfl .refl))) .refl))

theorem setUnlock_keep {a0 a1 s} : Keep 17179869184 s (setUnlock a0 a1 s) := by
  unfold setUnlock
  exact (setPath_keep.chain rfl .refl)

theorem unlockRej_keep {s} : Keep 2 s (unlockRej s) := by
  unfold unlockRej
  exact (setBit_keep.chain rfl .refl)

theorem hostUnlock_keep {a0 s} : Keep 9664103602 s (hostUnlock a0 s) := by
  unfold hostUnlock
  split
  · exact (clearMuzzle_keep.chain rfl .refl)
  · exact (clearMuzzle_keep.chain rfl .refl)
  · exact (Keep.ite (hostNotInState_keep.chain rfl (clearMuzzle_keep.chain rfl .refl)) (clearMuzzle_keep.chain rfl .refl))

theorem writeUnlock_keep {a0 a1 a2 s} : Keep 26843972786 s (writeUnlock a0 a1 a2 s) := by
  unfold writeUnlock
  exact (Keep.ite .refl (by
  split
  · exact (Keep.ite (setUnlock_keep.chain rfl .refl) (Keep.ite (unlockRej_keep.chain rfl .refl) .refl))
  · exact (Keep.ite (Keep.ite (unlockRej_keep.chain rfl (setUnlock_keep.chain rfl .refl)) (hostUnlock_keep.chain rfl (setUnlock_keep.chain rfl .refl))) (unlockRej_keep.chain rfl (setUnlock_keep.chain rfl .refl)))
  ))

theorem execUnlockFirstWrite_keep {a0 a1 s} : KeepN 26843972786 s (execUnlockFirstWrite a0 a1 s) := by
  unfold execUnlockFirstWrite
  exact (.next (writeUnlock_keep.chain rfl .refl))

theorem execUnlockSecondWrite_keep {a0 a1 s} : KeepN 26843972786 s (execUnlockSecondWrite a0 a1 s) := by
  unfold execUnlockSecondWrite
  exact (.next (writeUnlock_keep.chain rfl .refl))

theorem execSilenceGateClose_keep {a0 s} : KeepN 1142859442 s (execSilenceGateClose a0 s) := by
  unfold execSilenceGateClose
  exact (.next (Keep.hchain (onlyIf_keep rfl (fun _ => (closeGate_keep.chain rfl .refl))) .refl))

theorem setGuardFault_keep {a0 s} : Keep 2 s (setGuardFault a0 s) := by
  unfold setGuardFault
  exact (setBit_keep.chain rfl .refl)

theorem faultCopies_keep {a0 a1 a2 s} : Keep 9732798138 s (faultCopies a0 a1 a2 s) := by
  unfold faultCopies
  exact (Keep.ite (Keep.ite (setGuardFault_keep.chain rfl (Keep.hchain (forAll_keep rfl (fun _ _ => (bksEvent_keep.chain rfl (bumpLo_keep.chain rfl (unclean_keep.chain rfl (logGuard_keep.chain rfl (setBit_keep.chain rfl .refl))))))) .refl)) (muzzleRow_keep.chain rfl (setMuzzle_keep.chain rfl (setGuardFault_keep.chain rfl (Keep.hchain (forAll_keep rfl (fun _ _ => (bksEvent_keep.chain rfl (bumpLo_keep.chain rfl (unclean_keep.chain rfl (logGuard_keep.chain rfl (setBit_keep.chain rfl .refl))))))) .refl))))) (Keep.hchain (forAll_keep rfl (fun _ _ => (bksEvent_keep.chain rfl (bumpLo_keep.chain rfl (unclean_keep.chain rfl (logGuard_keep.chain rfl (setBit_keep.chain rfl .refl))))))) .refl))

theorem execCopyFault_keep {a0 a1 s} : KeepN 9732798138 s (execCopyFault a0 a1 s) := by
  unfold execCopyFault
  exact (.next (Keep.hchain (onlyIf_keep rfl (fun _ => (faultCopies_keep.chain rfl .refl))) .refl))

theorem lastTest_keep {a0 a1 a2 s} : Keep 2 s (lastTest a0 a1 a2 s) := by
  unfold lastTest
  exact (setRegN_keep.chain rfl .refl)

theorem failTest_keep {a0 a1 s} : Keep 9732798138 s (failTest a0 a1 s) := by
  unfold failTest
  exact (muzzleRow_keep.chain rfl (setMuzzle_keep.chain rfl (bksEvent_keep.chain rfl (bumpLo_keep.chain rfl (setGuardFault_keep.chain rfl .refl)))))

theorem lowSeen_keep {a0 s} : Keep 1073774770 s (lowSeen a0 s) := by
  unfold lowSeen
  exact (bksEvent_keep.chain rfl (setGuard_keep.chain rfl .refl))

theorem heldLow_keep {a0 s} : Keep 9663709362 s (heldLow a0 s) := by
  unfold heldLow
  exact (Keep.hchain (withPins_keep rfl (fun _ => (lowSeen_keep.chain rfl .refl))) .refl)

theorem dryFire_keep {a0 a1 a2 s} : Keep 9732798138 s (dryFire a0 a1 a2 s) := by
  unfold dryFire
  first | (dsimp only; split) | (extract_lets; split) | split
  · exact (setBit_keep.chain rfl .refl)
  · exact (Keep.ite (heldLow_keep.chain rfl (lastTest_keep.chain rfl (setBit_keep.chain rfl .refl))) (Keep.ite (faultCopies_keep.chain rfl (Keep.ite (setFld_keep.chain rfl (setBit_keep.chain rfl (bump_keep.chain rfl (setBit_keep.chain rfl (forceOn_keep.chain rfl (setGuard_keep.chain rfl (lastTest_keep.chain rfl (setBit_keep.chain rfl .refl)))))))) (bump_keep.chain rfl (setBit_keep.chain rfl (forceOn_keep.chain rfl (setGuard_keep.chain rfl (lastTest_keep.chain rfl (setBit_keep.chain rfl .refl)))))))) (Keep.ite (forceOn_keep.chain rfl (setGuard_keep.chain rfl (lastTest_keep.chain rfl (setBit_keep.chain rfl .refl)))) (faultCopies_keep.chain rfl (failTest_keep.chain rfl (forceOn_keep.chain rfl (setGuard_keep.chain rfl (lastTest_keep.chain rfl (setBit_keep.chain rfl .refl)))))))))

theorem execDryFireStartup_keep {a0 a1 s} : KeepN 9732798138 s (execDryFireStartup a0 a1 s) := by
  unfold execDryFireStartup
  exact (.next (Keep.hchain (onlyIf_keep rfl (fun _ => (dryFire_keep.chain rfl .refl))) .refl))

theorem execRetest_keep {a0 a1 s} : KeepN 9732798138 s (execRetest a0 a1 s) := by
  unfold execRetest
  exact (.next (Keep.hchain (onlyIf_keep rfl (fun _ => (dryFire_keep.chain rfl .refl))) .refl))

theorem periodicDryFire_keep {a0 a1 s} : Keep 9732798138 s (periodicDryFire a0 a1 s) := by
  unfold periodicDryFire
  exact (Keep.ite .refl (by
  split
  · exact (countDefer_keep.chain rfl (setGuard_keep.chain rfl .refl))
  · exact (Keep.ite (heldLow_keep.chain rfl (lastTest_keep.chain rfl (setGuard_keep.chain rfl .refl))) (Keep.ite (bump_keep.chain rfl (lastTest_keep.chain rfl (setGuard_keep.chain rfl .refl))) (Keep.ite (faultCopies_keep.chain rfl (lastTest_keep.chain rfl (setGuard_keep.chain rfl .refl))) (faultCopies_keep.chain rfl (failTest_keep.chain rfl (lastTest_keep.chain rfl (setGuard_keep.chain rfl .refl)))))))
  ))

theorem execPeriodicDryFire_keep {a0 a1 s} : KeepN 9732798138 s (execPeriodicDryFire a0 a1 s) := by
  unfold execPeriodicDryFire
  exact (.next (Keep.hchain (onlyIf_keep rfl (fun _ => (periodicDryFire_keep.chain rfl .refl))) .refl))

theorem deferDryFire_keep {a0 s} : Keep 1073774770 s (deferDryFire a0 s) := by
  unfold deferDryFire
  first | (dsimp only; split) | (extract_lets; split) | split
  · exact (Keep.ite (bksEvent_keep.chain rfl (bumpHi_keep.chain rfl (setGuard_keep.chain rfl (countDefer_keep.chain rfl .refl)))) (countDefer_keep.chain rfl .refl))
  · exact (countDefer_keep.chain rfl .refl)

theorem execDryFireDefer_keep {a0 s} : KeepN 1073774770 s (execDryFireDefer a0 s) := by
  unfold execDryFireDefer
  exact (.next (Keep.hchain (onlyIf_keep rfl (fun _ => (deferDryFire_keep.chain rfl .refl))) .refl))

theorem clockFault_keep {a0 s} : Keep 9663709362 s (clockFault a0 s) := by
  unfold clockFault
  exact (Keep.ite .refl (logGuard_keep.chain rfl (bksEvent_keep.chain rfl (bumpHi_keep.chain rfl (unclean_keep.chain rfl (setGuard_keep.chain rfl .refl))))))

theorem execClockFault_keep {a0 s} : KeepN 9663709362 s (execClockFault a0 s) := by
  unfold execClockFault
  exact (.next (Keep.hchain (onlyIf_keep rfl (fun _ => (clockFault_keep.chain rfl .refl))) .refl))

theorem execClockFaultClear_keep {a0 s} : KeepN 32768 s (execClockFaultClear a0 s) := by
  unfold execClockFaultClear
  exact (.next (Keep.hchain (onlyIf_keep rfl (fun _ => (setGuard_keep.chain rfl .refl))) .refl))

theorem pinFault_keep {a0 a1 s} : Keep 9664102578 s (pinFault a0 a1 s) := by
  unfold pinFault
  exact (Keep.ite (Keep.ite (setGuard_keep.chain rfl .refl) .refl) (Keep.ite (forceOff_keep.chain rfl (setGuardFault_keep.chain rfl (logGuard_keep.chain rfl (bksEvent_keep.chain rfl (setGuard_keep.chain rfl .refl))))) (logGuard_keep.chain rfl (bksEvent_keep.chain rfl (setGuard_keep.chain rfl .refl)))))

theorem execTxdisPinFault_keep {a0 a1 s} : KeepN 9664102578 s (execTxdisPinFault a0 a1 s) := by
  unfold execTxdisPinFault
  exact (.next (Keep.hchain (withPins_keep rfl (fun _ => (pinFault_keep.chain rfl .refl))) .refl))

theorem bksCntClr_keep {s} : Keep 2 s (bksCntClr s) := by
  unfold bksCntClr
  exact (zeroRegs_keep.chain rfl .refl)

theorem execBksCntClr_keep {s} : KeepN 2 s (execBksCntClr s) := by
  unfold execBksCntClr
  exact (.next (bksCntClr_keep.chain rfl .refl))

/-! ### Framer -/

theorem setRaws_keep {a0 a1 s} : Keep 1073742770 s (setRaws a0 a1 s) := by
  unfold setRaws
  exact (Keep.hchain (forAll_keep rfl (fun _ _ => (Keep.ite (frEvent_keep.chain rfl .refl) .refl))) (setPmStore_keep.chain rfl (setFramer_keep.chain rfl .refl)))

theorem setRaw_keep {a0 a1 a2 s} : Keep 1073742770 s (setRaw a0 a1 a2 s) := by
  unfold setRaw
  exact (Keep.ite (setRaws_keep.chain rfl .refl) .refl)

theorem toHunt_keep {a0 a1 s} : Keep 770 s (toHunt a0 a1 s) := by
  unfold toHunt
  exact (Keep.ite (pmDiscard_keep.chain rfl (bump_keep.chain rfl (Keep.ite (bump_keep.chain rfl (setFramer_keep.chain rfl .refl)) (setFramer_keep.chain rfl .refl)))) (Keep.ite (bump_keep.chain rfl (setFramer_keep.chain rfl .refl)) (setFramer_keep.chain rfl .refl)))

theorem dropLock_keep {a0 s} : Keep 1073742770 s (dropLock a0 s) := by
  unfold dropLock
  exact (setRaw_keep.chain rfl (setFramer_keep.chain rfl (toHunt_keep.chain rfl .refl)))

theorem raiseLoss_keep {a0 a1 s} : Keep 10001315770 s (raiseLoss a0 a1 s) := by
  unfold raiseLoss
  exact (Keep.ite (rclkSettle_keep.chain rfl (Keep.hchain (withTiming_keep rfl (fun _ => (dropLock_keep.chain rfl (setRaw_keep.chain rfl .refl)))) .refl)) .refl)

theorem startFramer_keep {a0 s} : Keep 1073742770 s (startFramer a0 s) := by
  unfold startFramer
  exact (setRaws_keep.chain rfl (setFramer_keep.chain rfl .refl))

theorem stopFramer_keep {a0 s} : Keep 770 s (stopFramer a0 s) := by
  unfold stopFramer
  exact (setReg64_keep.chain rfl (setFramer_keep.chain rfl (Keep.ite (pmDiscard_keep.chain rfl (bump_keep.chain rfl .refl)) .refl)))

theorem lightLost_keep {a0 s} : Keep 10001315770 s (lightLost a0 s) := by
  unfold lightLost
  exact (raiseLoss_keep.chain rfl (setWaiken_keep.chain rfl .refl))

theorem execLosRaise_keep {a0 s} : KeepN 10001315770 s (execLosRaise a0 s) := by
  unfold execLosRaise
  exact (.next (Keep.hchain (onlyIf_keep rfl (fun _ => (lightLost_keep.chain rfl .refl))) .refl))

theorem execLosClear_keep {a0 s} : KeepN 10001315770 s (execLosClear a0 s) := by
  unfold execLosClear
  exact (.next (Keep.hchain (onlyIf_keep rfl (fun _ => (Keep.hchain (withTiming_keep rfl (fun _ => (setRaw_keep.chain rfl .refl))) (setWaiken_keep.chain rfl .refl)))) .refl))

theorem execLolClear_keep {a0 s} : KeepN 10001315770 s (execLolClear a0 s) := by
  unfold execLolClear
  exact (.next (Keep.hchain (onlyIf_keep rfl (fun _ => (Keep.hchain (withTiming_keep rfl (fun _ => (setRaw_keep.chain rfl .refl))) .refl))) .refl))

theorem execForceHunt_keep {a0 s} : KeepN 10001315770 s (execForceHunt a0 s) := by
  unfold execForceHunt
  exact (.next (Keep.hchain (onlyIf_keep rfl (fun _ => (Keep.hchain (withTiming_keep rfl (fun _ => (dropLock_keep.chain rfl .refl))) .refl))) .refl))

theorem frEnable_keep {a0 a1 s} : Keep 10001315770 s (frEnable a0 a1 s) := by
  unfold frEnable
  exact (Keep.ite .refl (Keep.ite (Keep.ite (setBit_keep.chain rfl .refl) (rclkSettle_keep.chain rfl (startFramer_keep.chain rfl (setBit_keep.chain rfl .refl)))) (rclkSettle_keep.chain rfl (setBit_keep.chain rfl (stopFramer_keep.chain rfl (Keep.hchain (withTiming_keep rfl (fun _ => (setFramer_keep.chain rfl .refl))) .refl))))))

theorem writeFrEn_keep {a0 a1 s} : Keep 14296283066 s (writeFrEn a0 a1 s) := by
  unfold writeFrEn
  exact (trkFollow_keep.chain rfl (frEnable_keep.chain rfl .refl))

theorem execFrCtlEnWrite_keep {a0 a1 s} : KeepN 14296283066 s (execFrCtlEnWrite a0 a1 s) := by
  unfold execFrCtlEnWrite
  exact (.next (Keep.hchain (onlyIf_keep rfl (fun _ => (writeFrEn_keep.chain rfl .refl))) .refl))

theorem frCntClr_keep {a0 s} : Keep 2 s (frCntClr a0 s) := by
  unfold frCntClr
  exact (zeroRegs_keep.chain rfl .refl)

theorem execFrCntClr_keep {a0 s} : KeepN 2 s (execFrCntClr a0 s) := by
  unfold execFrCntClr
  exact (.next (Keep.hchain (onlyIf_keep rfl (fun _ => (frCntClr_keep.chain rfl .refl))) .refl))

theorem execLodChange_keep {a0 s} : KeepN 1073742770 s (execLodChange a0 s) := by
  unfold execLodChange
  exact (.next (Keep.hchain (onlyIf_keep rfl (fun _ => (setRaw_keep.chain rfl .refl))) .refl))

theorem keyfChange_keep {a0 s} : Keep 1073742770 s (keyfChange a0 s) := by
  unfold keyfChange
  exact (Keep.ite (setRaw_keep.chain rfl .refl) (Keep.ite (setRaw_keep.chain rfl .refl) .refl))

theorem execKeyfChange_keep {a0 s} : KeepN 1073742770 s (execKeyfChange a0 s) := by
  unfold execKeyfChange
  exact (.next (Keep.hchain (onlyIf_keep rfl (fun _ => (keyfChange_keep.chain rfl .refl))) .refl))

theorem sdWindow_keep {a0 s} : Keep 1073742770 s (sdWindow a0 s) := by
  unfold sdWindow
  exact (Keep.ite (Keep.ite (setRaw_keep.chain rfl (setFramer_keep.chain rfl .refl)) (Keep.ite (setRaw_keep.chain rfl (setFramer_keep.chain rfl .refl)) (setFramer_keep.chain rfl .refl))) .refl)

theorem execSdWindow_keep {a0 s} : KeepN 1073742770 s (execSdWindow a0 s) := by
  unfold execSdWindow
  exact (.next (Keep.hchain (onlyIf_keep rfl (fun _ => (sdWindow_keep.chain rfl .refl))) .refl))

theorem sighting_keep {a0 a1 a2 s} : Keep 258 s (sighting a0 a1 a2 s) := by
  unfold sighting
  exact (Keep.ite .refl (by
  split
  · exact (bump_keep.chain rfl (setFramer_keep.chain rfl .refl))
  · exact (bump_keep.chain rfl .refl)
  ))

theorem execSighting_keep {a0 a1 a2 s} : KeepN 258 s (execSighting a0 a1 a2 s) := by
  unfold execSighting
  exact (.next (Keep.hchain (onlyIf_keep rfl (fun _ => (sighting_keep.chain rfl .refl))) .refl))

theorem deliverTmm_keep {a0 a1 s} : Keep 1142859698 s (deliverTmm a0 a1 s) := by
  unfold deliverTmm
  exact (snoop_keep.chain rfl (Keep.ite (frEvent_keep.chain rfl (bump_keep.chain rfl .refl)) (bump_keep.chain rfl (setFramer_keep.chain rfl .refl))))

theorem examineTmm_keep {a0 a1 a2 s} : Keep 1142859698 s (examineTmm a0 a1 a2 s) := by
  unfold examineTmm
  exact (Keep.ite (bump_keep.chain rfl .refl) (Keep.ite (bump_keep.chain rfl .refl) (deliverTmm_keep.chain rfl .refl)))

theorem deliverOverhead_keep {a0 a1 a2 s} : Keep 1142859698 s (deliverOverhead a0 a1 a2 s) := by
  unfold deliverOverhead
  exact (setGuard_keep.chain rfl (setHalyard_keep.chain rfl (Keep.ite (frEvent_keep.chain rfl (bump_keep.chain rfl (Keep.hchain (forAll_keep rfl (fun _ _ => (examineTmm_keep.chain rfl .refl))) .refl))) (Keep.hchain (forAll_keep rfl (fun _ _ => (examineTmm_keep.chain rfl .refl))) .refl))))

theorem noMap_keep {a0 a1 s} : Keep 8192 s (noMap a0 a1 s) := by
  unfold noMap
  exact (setHalyard_keep.chain rfl .refl)

theorem setSf_keep {a0 a1 s} : Keep 258 s (setSf a0 a1 s) := by
  unfold setSf
  exact (setReg64_keep.chain rfl (setFramer_keep.chain rfl .refl))

theorem keepStamp_keep {a0 a1 s} : Keep 256 s (keepStamp a0 a1 s) := by
  unfold keepStamp
  exact (setFramer_keep.chain rfl .refl)

theorem countFec_keep {a0 a1 s} : Keep 514 s (countFec a0 a1 s) := by
  unfold countFec
  exact (setPmStore_keep.chain rfl (bump64_keep.chain rfl (bump64_keep.chain rfl (bump64_keep.chain rfl .refl))))

theorem countSd_keep {a0 a1 s} : Keep 256 s (countSd a0 a1 s) := by
  unfold countSd
  exact (Keep.ite (setFramer_keep.chain rfl .refl) .refl)

theorem addPayload_keep {a0 a1 s} : Keep 256 s (addPayload a0 a1 s) := by
  unfold addPayload
  exact (setFramer_keep.chain rfl .refl)

theorem reachLock_keep {a0 a1 s} : Keep 10001315770 s (reachLock a0 a1 s) := by
  unfold reachLock
  exact (Keep.ite (countSd_keep.chain rfl (countFec_keep.chain rfl (Keep.hchain (withTiming_keep rfl (fun _ => (setSf_keep.chain rfl (setRaw_keep.chain rfl (setFramer_keep.chain rfl .refl))))) .refl))) (deliverOverhead_keep.chain rfl (keepStamp_keep.chain rfl (countSd_keep.chain rfl (countFec_keep.chain rfl (Keep.hchain (withTiming_keep rfl (fun _ => (setSf_keep.chain rfl (setRaw_keep.chain rfl (setFramer_keep.chain rfl .refl))))) .refl))))))

theorem trackerCheck_keep {a0 a1 a2 s} : Keep 10001315770 s (trackerCheck a0 a1 a2 s) := by
  unfold trackerCheck
  first | (dsimp only; split) | (extract_lets; split) | split
  · exact .refl
  · exact (Keep.ite .refl (Keep.ite (Keep.ite (reachLock_keep.chain rfl .refl) (setFramer_keep.chain rfl .refl)) (setFramer_keep.chain rfl .refl)))

theorem execTrackerCheck_keep {a0 a1 a2 s} : KeepN 10001315770 s (execTrackerCheck a0 a1 a2 s) := by
  unfold execTrackerCheck
  exact (.next (Keep.hchain (onlyIf_keep rfl (fun _ => (trackerCheck_keep.chain rfl .refl))) .refl))

theorem endKeyFrame_keep {a0 s} : Keep 256 s (endKeyFrame a0 s) := by
  unfold endKeyFrame
  exact (setFramer_keep.chain rfl .refl)

theorem countSilence_keep {a0 s} : Keep 1024 s (countSilence a0 s) := by
  unfold countSilence
  first | (dsimp only; split) | (extract_lets; split) | split
  · exact (Keep.ite .refl (setRegn_keep.chain rfl .refl))
  · exact .refl

theorem huntFrame_keep {a0 a1 s} : Keep 770 s (huntFrame a0 a1 s) := by
  unfold huntFrame
  exact (setFramer_keep.chain rfl (toHunt_keep.chain rfl .refl))

theorem missFrame_keep {a0 a1 s} : Keep 10001315770 s (missFrame a0 a1 s) := by
  unfold missFrame
  exact (noMap_keep.chain rfl (Keep.ite (Keep.hchain (withTiming_keep rfl (fun _ => (dropLock_keep.chain rfl .refl))) (huntFrame_keep.chain rfl (bump_keep.chain rfl (setFramer_keep.chain rfl .refl)))) (huntFrame_keep.chain rfl (bump_keep.chain rfl (setFramer_keep.chain rfl .refl)))))

theorem badHeader_keep {a0 a1 s} : Keep 8962 s (badHeader a0 a1 s) := by
  unfold badHeader
  exact (noMap_keep.chain rfl (huntFrame_keep.chain rfl (bump_keep.chain rfl (setFramer_keep.chain rfl .refl))))

theorem losfHeader_keep {a0 a1 a2 a3 s} : Keep 10001315770 s (losfHeader a0 a1 a2 a3 s) := by
  unfold losfHeader
  exact (Keep.ite (deliverOverhead_keep.chain rfl (keepStamp_keep.chain rfl (Keep.hchain (withTiming_keep rfl (fun _ => (setSf_keep.chain rfl (setRaw_keep.chain rfl (setFramer_keep.chain rfl .refl))))) (setFramer_keep.chain rfl (Keep.ite (setSf_keep.chain rfl .refl) (bump_keep.chain rfl .refl)))))) (noMap_keep.chain rfl (setFramer_keep.chain rfl (Keep.ite (setSf_keep.chain rfl .refl) (bump_keep.chain rfl .refl)))))

theorem goodHeader_keep {a0 a1 a2 s} : Keep 10001315770 s (goodHeader a0 a1 a2 s) := by
  unfold goodHeader
  exact (Keep.ite (deliverOverhead_keep.chain rfl (setSf_keep.chain rfl (setFramer_keep.chain rfl .refl))) (noMap_keep.chain rfl (Keep.ite (Keep.hchain (withTiming_keep rfl (fun _ => (setRaw_keep.chain rfl (setFramer_keep.chain rfl .refl)))) (bump_keep.chain rfl (setFramer_keep.chain rfl .refl))) (bump_keep.chain rfl (setFramer_keep.chain rfl .refl)))))

theorem downstreamFrame_keep {a0 a1 s} : Keep 10001315770 s (downstreamFrame a0 a1 s) := by
  unfold downstreamFrame
  exact (Keep.ite .refl (countDefer_keep.chain rfl (countSd_keep.chain rfl (Keep.ite (missFrame_keep.chain rfl (countFec_keep.chain rfl (setFramer_keep.chain rfl (countSilence_keep.chain rfl (endKeyFrame_keep.chain rfl .refl))))) (Keep.ite (badHeader_keep.chain rfl (Keep.ite (setFramer_keep.chain rfl (countFec_keep.chain rfl (setFramer_keep.chain rfl (countSilence_keep.chain rfl (endKeyFrame_keep.chain rfl .refl))))) (keepStamp_keep.chain rfl (setFramer_keep.chain rfl (countFec_keep.chain rfl (setFramer_keep.chain rfl (countSilence_keep.chain rfl (endKeyFrame_keep.chain rfl .refl)))))))) (Keep.ite (losfHeader_keep.chain rfl (addPayload_keep.chain rfl (Keep.ite (setFramer_keep.chain rfl (countFec_keep.chain rfl (setFramer_keep.chain rfl (countSilence_keep.chain rfl (endKeyFrame_keep.chain rfl .refl))))) (keepStamp_keep.chain rfl (setFramer_keep.chain rfl (countFec_keep.chain rfl (setFramer_keep.chain rfl (countSilence_keep.chain rfl (endKeyFrame_keep.chain rfl .refl))))))))) (goodHeader_keep.chain rfl (addPayload_keep.chain rfl (Keep.ite (setFramer_keep.chain rfl (countFec_keep.chain rfl (setFramer_keep.chain rfl (countSilence_keep.chain rfl (endKeyFrame_keep.chain rfl .refl))))) (keepStamp_keep.chain rfl (setFramer_keep.chain rfl (countFec_keep.chain rfl (setFramer_keep.chain rfl (countSilence_keep.chain rfl (endKeyFrame_keep.chain rfl .refl)))))))))))))))

theorem execDownstreamFrame_keep {a0 a1 s} : KeepN 10001315770 s (execDownstreamFrame a0 a1 s) := by
  unfold execDownstreamFrame
  exact (.next (Keep.hchain (onlyIf_keep rfl (fun _ => (downstreamFrame_keep.chain rfl .refl))) .refl))

theorem writeFilter_keep {a0 a1 a2 s} : Keep 2 s (writeFilter a0 a1 a2 s) := by
  unfold writeFilter
  exact (Keep.ite (setBit_keep.chain rfl .refl) (setReg_keep.chain rfl .refl))

theorem execAfEntryWrite_keep {a0 a1 a2 s} : KeepN 2 s (execAfEntryWrite a0 a1 a2 s) := by
  unfold execAfEntryWrite
  exact (.next (Keep.hchain (onlyIf_keep rfl (fun _ => (writeFilter_keep.chain rfl .refl))) .refl))

/-! ### Pm -/

theorem pmSecond_keep {a0 s} : Keep 512 s (pmSecond a0 s) := by
  unfold pmSecond
  exact (setPmStore_keep.chain rfl .refl)

theorem execPmSecond_keep {a0 s} : KeepN 512 s (execPmSecond a0 s) := by
  unfold execPmSecond
  exact (.next (Keep.hchain (onlyIf_keep rfl (fun _ => (pmSecond_keep.chain rfl .refl))) .refl))

theorem endBin_keep {a0 a1 a2 a3 s} : Keep 512 s (endBin a0 a1 a2 a3 s) := by
  unfold endBin
  exact (setPmStore_keep.chain rfl .refl)

theorem execPmBinEnd_keep {a0 a1 s} : KeepN 512 s (execPmBinEnd a0 a1 s) := by
  unfold execPmBinEnd
  exact (.next (Keep.hchain (onlyIf_keep rfl (fun _ => (endBin_keep.chain rfl .refl))) .refl))

theorem closeBin_keep {a0 a1 s} : Keep 1073742514 s (closeBin a0 a1 s) := by
  unfold closeBin
  exact (Keep.ite (by
  split
  · exact (frEvent_keep.chain rfl (setPmStore_keep.chain rfl .refl))
  · exact .refl
  ) (by
  split
  · exact (frEvent_keep.chain rfl (setPmStore_keep.chain rfl .refl))
  · exact .refl
  ))

theorem execPmBinClose_keep {a0 a1 s} : KeepN 1073742514 s (execPmBinClose a0 a1 s) := by
  unfold execPmBinClose
  exact (.next (Keep.hchain (onlyIf_keep rfl (fun _ => (closeBin_keep.chain rfl .refl))) .refl))

theorem brokenSecond_keep {a0 s} : Keep 512 s (brokenSecond a0 s) := by
  unfold brokenSecond
  exact (setPmStore_keep.chain rfl .refl)

theorem pmAcquire_keep {s} : Keep 512 s (pmAcquire s) := by
  unfold pmAcquire
  exact (Keep.hchain (forAll_keep rfl (fun _ _ => (brokenSecond_keep.chain rfl (endBin_keep.chain rfl (endBin_keep.chain rfl .refl))))) .refl)

theorem pmStop_keep {a0 a1 s} : Keep 512 s (pmStop a0 a1 s) := by
  unfold pmStop
  exact (setPmStore_keep.chain rfl .refl)

theorem pmRestore_keep {s} : Keep 512 s (pmRestore s) := by
  unfold pmRestore
  exact (Keep.hchain (forAll_keep rfl (fun _ _ => (endBin_keep.chain rfl (endBin_keep.chain rfl .refl)))) .refl)

theorem pmStart_keep {s} : Keep 512 s (pmStart s) := by
  unfold pmStart
  exact (Keep.hchain (forAll_keep rfl (fun _ _ => (brokenSecond_keep.chain rfl .refl))) .refl)

theorem pmEpoch_keep {a0 s} : Keep 512 s (pmEpoch a0 s) := by
  unfold pmEpoch
  exact (Keep.hchain (forAll_keep rfl (fun _ _ => (setPmStore_keep.chain rfl .refl))) .refl)

theorem clearCur_keep {a0 s} : Keep 512 s (clearCur a0 s) := by
  unfold clearCur
  exact (setPmStore_keep.chain rfl .refl)

theorem execPmClrCur_keep {a0 s} : KeepN 512 s (execPmClrCur a0 s) := by
  unfold execPmClrCur
  exact (.next (Keep.hchain (onlyIf_keep rfl (fun _ => (clearCur_keep.chain rfl .refl))) .refl))

theorem putWords_keep {a l s} : Keep 2 s (putWords a l s) := by
  induction l generalizing a s with
  | nil => exact .refl
  | cons w l ih => exact Keep.hchain ih (setReg_keep.chain rfl .refl)

theorem selectPm_keep {a0 a1 s} : Keep 2 s (selectPm a0 a1 s) := by
  unfold selectPm
  exact (putWords_keep.chain rfl (setRegN_keep.chain rfl .refl))

theorem execPmSelWrite_keep {a0 a1 s} : KeepN 2 s (execPmSelWrite a0 a1 s) := by
  unfold execPmSelWrite
  exact (.next (Keep.hchain (onlyIf_keep rfl (fun _ => (selectPm_keep.chain rfl .refl))) .refl))

/-! ### Dma -/

theorem dmaWrite_keep {tgt a l s} : Keep 824633720848 s (dmaWrite tgt a l s) := by
  unfold dmaWrite
  refine .ite .refl (.ite ?_ (emit_keep.chain rfl ?_))
  · exact ⟨fun p hp => by cases p <;> first | exact rfl | exact ⟨rfl, rfl, rfl, rfl, rfl⟩ | exact absurd hp (by decide), List.prefix_refl _, Nat.le_refl _,
      fun h => ⟨h.1, memWrite_wf _ _ h.2.1, h.2.2⟩, id⟩
  · exact ⟨fun p hp => by cases p <;> first | exact rfl | exact ⟨rfl, rfl, rfl, rfl, rfl⟩ | exact absurd hp (by decide), List.prefix_refl _, Nat.le_refl _,
      fun h => ⟨memWrite_wf _ _ h.1, h.2⟩, id⟩

/-! ### Mailbox -/

theorem mbStatus_keep {a0 s} : Keep 0 s (mbStatus a0 s).state := by
  unfold mbStatus
  exact .refl

theorem mbEvent_keep {a0 a1 s} : Keep 1073742002 s (mbEvent a0 a1 s) := by
  unfold mbEvent
  exact (raise_keep.chain rfl .refl)

theorem setWords_keep {a l s} : Keep 2 s (setWords a l s) := by
  induction l generalizing a s with
  | nil => exact .refl
  | cons w l ih => exact Keep.hchain ih (setRegN_keep.chain rfl .refl)

theorem mbReply_keep {i r a} : Keep 1073742002 a.state (mbReply i r a) := by
  unfold mbReply
  exact mbEvent_keep.chain rfl (setBit_keep.chain rfl (setBit_keep.chain rfl (setWords_keep.chain rfl .refl)))

theorem mbGo_keep {a0 s} : Keep 69793218738 s (mbGo a0 s) := by
  unfold mbGo
  exact (Keep.ite (mbEvent_keep.chain rfl (setBit_keep.chain rfl .refl)) (by
  first | (dsimp only; split) | (extract_lets; split) | split
  · exact (mbReply_keep.chain rfl (mbStatus_keep.chain rfl (setBit_keep.chain rfl (setBit_keep.chain rfl (setBit_keep.chain rfl .refl)))))
  · exact (.xt rfl (setBit_keep.chain rfl (setBit_keep.chain rfl (setBit_keep.chain rfl .refl))))
  ))

theorem mbRunThen_keep {m : Nat} {a0 a1 f2 f3 s} (hm : 69793218738 &&& m = 69793218738) (hf2 : ∀ v0, Keep m v0 (f2 v0)) (hf3 : ∀ v0 v1, Keep m v1 (f3 v0 v1).state) : Keep m s (mbRunThen a0 a1 f2 f3 s) := by
  unfold mbRunThen
  split
  · exact .refl
  · exact (Keep.ite .refl (Keep.ite (mbReply_keep.chain (mask_sub rfl hm) (mbStatus_keep.chain (mask_sub rfl hm) (.xt (bit_sub rfl hm) .refl))) (Keep.hchain (hf2 ..) (mbReply_keep.chain (mask_sub rfl hm) (bump_keep.chain (mask_sub rfl hm) (Keep.hchain (hf3 ..) (.xt (bit_sub rfl hm) .refl)))))))

theorem mbRun_keep {m : Nat} {a0 a1 f2 s} (hm : 69793218738 &&& m = 69793218738) (hf2 : ∀ v0 v1, Keep m v1 (f2 v0 v1).state) : Keep m s (mbRun a0 a1 f2 s) := by
  unfold mbRun
  exact (Keep.hchain (mbRunThen_keep (mask_sub rfl hm) (fun _ => .refl) (fun _ _ => (Keep.hchain (hf2 ..) .refl))) .refl)

theorem execMbDoorbell_keep {a0 s} : KeepN 69793218738 s (execMbDoorbell a0 s) := by
  unfold execMbDoorbell
  exact (.next (Keep.hchain (onlyIf_keep rfl (fun _ => (mbGo_keep.chain rfl .refl))) .refl))

/-! ### Resets -/

theorem raiseReady_keep {s} : Keep 4294967312 s (raiseReady s) := by
  unfold raiseReady
  exact (emit_keep.chain rfl (.boot rfl rfl .refl))

theorem lowerReady_keep {s} : Keep 4294967312 s (lowerReady s) := by
  unfold lowerReady
  exact (Keep.ite (emit_keep.chain rfl (.boot rfl rfl .refl)) .refl)

theorem setStage_keep {a0 s} : Keep 2 s (setStage a0 s) := by
  unfold setStage
  exact (setFld_keep.chain rfl .refl)

theorem bootEvent_keep {a0 s} : Keep 1073742002 s (bootEvent a0 s) := by
  unfold bootEvent
  exact (raise_keep.chain rfl .refl)

theorem setHbmAvail_keep {a0 s} : Keep 2 s (setHbmAvail a0 s) := by
  unfold setHbmAvail
  exact (setBit_keep.chain rfl .refl)

theorem coreLost_keep {s} : Keep 635655159266 s (coreLost s) :=
  ⟨fun p hp => by cases p <;> first | exact rfl | exact ⟨rfl, rfl, rfl, rfl, rfl⟩ | exact absurd hp (by decide), List.prefix_refl _, Nat.le_refl _,
   fun h => ⟨h.1, rfl, h.2.2⟩, fun h t => by
    show ((Tab.look {} (s.ic.tgt.filter fun x => decide (20 ≤ x.1)) t)).stack.length ≤ 16
    rw [Tab.look_from]
    split
    · exact h t
    · exact Nat.zero_le 16⟩

theorem pmStopAll_keep {a0 s} : Keep 512 s (pmStopAll a0 s) := by
  unfold pmStopAll
  exact (Keep.ite (Keep.hchain (forAll_keep rfl (fun _ _ => (pmStop_keep.chain rfl .refl))) .refl) .refl)

theorem coreReset_keep {a0 s} : Keep 635655159794 s (coreReset a0 s) := by
  unfold coreReset
  exact (reefEvent_keep.chain rfl (setDom_keep.chain rfl (coreBoot_keep.chain rfl (.boot rfl rfl (setRegN_keep.chain rfl (setFld_keep.chain rfl (setFld_keep.chain rfl (setStage_keep.chain rfl (setReg_keep.chain rfl (setReg_keep.chain rfl (setBit_keep.chain rfl (setReg_keep.chain rfl (coreLost_keep.chain rfl (lowerReady_keep.chain rfl (retainTime_keep.chain rfl (pmStopAll_keep.chain rfl .refl))))))))))))))))

theorem warmStart_keep {a0 s} : Keep 635655159794 s (warmStart a0 s) := by
  unfold warmStart
  exact (Keep.hchain (onlyIf_keep rfl (fun _ => (coreReset_keep.chain rfl .refl))) .refl)

theorem drawIvHi_keep {s} : Keep 1342177466 s (drawIvHi s) := by
  unfold drawIvHi
  exact (Keep.ite (shrEvent_keep.chain rfl (drawn_keep.chain rfl (.shr rfl .refl))) .refl)

theorem coreRise_keep {s} : Keep 7784628922 s (coreRise s) := by
  unfold coreRise
  exact (Keep.ite .refl (pmStart_keep.chain rfl (Keep.ite (pmRestore_keep.chain rfl (drawIvHi_keep.chain rfl (.bootAll rfl rfl .refl))) (drawIvHi_keep.chain rfl (.bootAll rfl rfl .refl)))))

theorem lanesOff_keep {a0 s} : Keep 1073873074 s (lanesOff a0 s) := by
  unfold lanesOff
  exact (rclkSettle_keep.chain rfl (.lanes rfl .refl))

theorem furledState_keep {s} : Keep 6711152640 s (furledState s) := by
  unfold furledState
  exact ⟨fun p hp => by cases p <;> first | exact rfl | exact ⟨rfl, rfl, rfl, rfl, rfl⟩ | exact absurd hp (by decide),
    List.prefix_refl _, Nat.le_refl _, id, id⟩

theorem furlWith_keep {a0 a1 s} : Keep 16443766714 s (furlWith a0 a1 s) := by
  unfold furlWith
  exact (Keep.ite .refl (bootEvent_keep.chain rfl (writeLog_keep.chain rfl (Keep.ite (setBit_keep.chain rfl (setBit_keep.chain rfl (setBit_keep.chain rfl (furledState_keep.chain rfl (setRegN_keep.chain rfl (setStage_keep.chain rfl (coreBoot_keep.chain rfl (lowerReady_keep.chain rfl (setReg_keep.chain rfl (setHbmAvail_keep.chain rfl (Keep.hchain (forAll_keep rfl (fun _ _ => (setDom_keep.chain rfl .refl))) (Keep.hchain (forAll_keep rfl (fun _ _ => (setDom_keep.chain rfl .refl))) (lanesOff_keep.chain rfl (Keep.hchain (forAll_keep rfl (fun _ _ => (Keep.hchain (forAll_keep rfl (fun _ _ => (Keep.ite (linkDown_keep.chain rfl .refl) .refl))) .refl))) (Keep.hchain (forAll_keep rfl (fun _ _ => (Keep.hchain (withTiming_keep rfl (fun _ => (Keep.ite (dropLock_keep.chain rfl .refl) .refl))) (setBit_keep.chain rfl .refl)))) .refl))))))))))))))) (furledState_keep.chain rfl (setRegN_keep.chain rfl (setStage_keep.chain rfl (coreBoot_keep.chain rfl (lowerReady_keep.chain rfl (setReg_keep.chain rfl (setHbmAvail_keep.chain rfl (Keep.hchain (forAll_keep rfl (fun _ _ => (setDom_keep.chain rfl .refl))) (Keep.hchain (forAll_keep rfl (fun _ _ => (setDom_keep.chain rfl .refl))) (lanesOff_keep.chain rfl (Keep.hchain (forAll_keep rfl (fun _ _ => (Keep.hchain (forAll_keep rfl (fun _ _ => (Keep.ite (linkDown_keep.chain rfl .refl) .refl))) .refl))) (Keep.hchain (forAll_keep rfl (fun _ _ => (Keep.hchain (withTiming_keep rfl (fun _ => (Keep.ite (dropLock_keep.chain rfl .refl) .refl))) (setBit_keep.chain rfl .refl)))) .refl))))))))))))))))

theorem furl_keep {a0 s} : Keep 16443766714 s (furl a0 s) := by
  unfold furl
  exact (furlWith_keep.chain rfl .refl)

end Sys2Proof.Machine
end

