-- ==== Sys2Proof/Laws/Keep4.lean ====
section
/-! SUPPORT. What each operation of these files of the machine keeps: Lanes, Lookout, Parse, Classify, CanOps. -/
namespace Sys2Proof.Machine
open Sys2Proof

/-! ### Lanes -/

theorem wknEvent_keep {a0 a1 s} : Keep 1073742002 s (wknEvent a0 a1 s) := by
  unfold wknEvent
  exact (raise_keep.chain rfl .refl)

theorem wknFault_keep {a0 a1 s} : Keep 1074004146 s (wknFault a0 a1 s) := by
  unfold wknFault
  exact (Keep.ite (setWaiken_keep.chain rfl .refl) (Keep.ite (wknEvent_keep.chain rfl (wknEvent_keep.chain rfl (setWaiken_keep.chain rfl .refl))) (wknEvent_keep.chain rfl (setWaiken_keep.chain rfl .refl))))

theorem toStep_keep {a0 a1 a2 s} : Keep 1074135218 s (toStep a0 a1 a2 s) := by
  unfold toStep
  exact (Keep.ite (wknEvent_keep.chain rfl (Keep.hchain (forAll_keep rfl (fun _ _ => (Keep.ite .refl (laneHalf_keep.chain rfl .refl)))) (setWaiken_keep.chain rfl .refl))) (Keep.hchain (forAll_keep rfl (fun _ _ => (Keep.ite .refl (laneHalf_keep.chain rfl .refl)))) (setWaiken_keep.chain rfl .refl)))

theorem countRetrain_keep {a0 s} : Keep 2 s (countRetrain a0 s) := by
  unfold countRetrain
  exact (Keep.hchain (forAll_keep rfl (fun _ _ => (bump_keep.chain rfl .refl))) .refl)

theorem dozeDrop_keep {a0 s} : Keep 8192 s (dozeDrop a0 s) := by
  unfold dozeDrop
  exact (setHalyard_keep.chain rfl .refl)

theorem rxBack_keep {a0 a1 s} : Keep 10001315770 s (rxBack a0 a1 s) := by
  unfold rxBack
  exact (Keep.ite .refl (raiseLoss_keep.chain rfl (toStep_keep.chain rfl .refl)))

theorem txBack_keep {a0 a1 s} : Keep 1074143410 s (txBack a0 a1 s) := by
  unfold txBack
  exact (Keep.ite .refl (toStep_keep.chain rfl (dozeDrop_keep.chain rfl .refl)))

theorem restartSets_keep {a0 s} : Keep 10001315770 s (restartSets a0 s) := by
  unfold restartSets
  exact (raiseLoss_keep.chain rfl (countRetrain_keep.chain rfl (setWaiken_keep.chain rfl (toStep_keep.chain rfl (dozeDrop_keep.chain rfl (toStep_keep.chain rfl .refl))))))

theorem rxCorrect_keep {a0 a1 s} : Keep 131072 s (rxCorrect a0 a1 s) := by
  unfold rxCorrect
  exact (setLane_keep.chain rfl (Keep.hchain (forAll_keep rfl (fun _ _ => (setLane_keep.chain rfl .refl))) .refl))

theorem txCorrect_keep {a0 a1 s} : Keep 131072 s (txCorrect a0 a1 s) := by
  unfold txCorrect
  exact (Keep.hchain (forAll_keep rfl (fun _ _ => (setLane_keep.chain rfl .refl))) .refl)

theorem rechoose_keep {a0 s} : Keep 1074004146 s (rechoose a0 s) := by
  unfold rechoose
  exact (Keep.ite (wknEvent_keep.chain rfl (wknFault_keep.chain rfl (setWaiken_keep.chain rfl .refl))) (Keep.ite (wknFault_keep.chain rfl (setWaiken_keep.chain rfl .refl)) (setWaiken_keep.chain rfl .refl)))

theorem capStep_keep {a0 a1 s} : Keep 1074135218 s (capStep a0 a1 s) := by
  unfold capStep
  exact (Keep.ite (rechoose_keep.chain rfl (Keep.hchain (forAll_keep rfl (fun _ _ => (setReg_keep.chain rfl .refl))) (setWaiken_keep.chain rfl .refl))) (Keep.ite (wknFault_keep.chain rfl (Keep.ite (setWaiken_keep.chain rfl (toStep_keep.chain rfl (setWaiken_keep.chain rfl (rechoose_keep.chain rfl (Keep.hchain (forAll_keep rfl (fun _ _ => (setReg_keep.chain rfl .refl))) (setWaiken_keep.chain rfl .refl)))))) (toStep_keep.chain rfl (setWaiken_keep.chain rfl (rechoose_keep.chain rfl (Keep.hchain (forAll_keep rfl (fun _ _ => (setReg_keep.chain rfl .refl))) (setWaiken_keep.chain rfl .refl))))))) (Keep.ite (setWaiken_keep.chain rfl (toStep_keep.chain rfl (setWaiken_keep.chain rfl (rechoose_keep.chain rfl (Keep.hchain (forAll_keep rfl (fun _ _ => (setReg_keep.chain rfl .refl))) (setWaiken_keep.chain rfl .refl)))))) (toStep_keep.chain rfl (setWaiken_keep.chain rfl (rechoose_keep.chain rfl (Keep.hchain (forAll_keep rfl (fun _ _ => (setReg_keep.chain rfl .refl))) (setWaiken_keep.chain rfl .refl))))))))

theorem rxStep_keep {a0 a1 s} : Keep 1074135218 s (rxStep a0 a1 s) := by
  unfold rxStep
  split
  · exact (toStep_keep.chain rfl (setWaiken_keep.chain rfl .refl))
  · exact (wknFault_keep.chain rfl (toStep_keep.chain rfl (setWaiken_keep.chain rfl .refl)))
  · exact (toStep_keep.chain rfl (setWaiken_keep.chain rfl .refl))
  · exact (Keep.ite (wknFault_keep.chain rfl .refl) (Keep.ite (wknFault_keep.chain rfl .refl) (wknFault_keep.chain rfl (toStep_keep.chain rfl (rxCorrect_keep.chain rfl .refl)))))
  · exact (toStep_keep.chain rfl .refl)
  · exact (capStep_keep.chain rfl .refl)
  · exact (Keep.ite .refl (toStep_keep.chain rfl (setWaiken_keep.chain rfl .refl)))
  · exact .refl

theorem txStep_keep {a0 a1 s} : Keep 1074143410 s (txStep a0 a1 s) := by
  unfold txStep
  exact (Keep.ite .refl (Keep.ite (Keep.ite (setLane_keep.chain rfl .refl) (Keep.ite (toStep_keep.chain rfl (txCorrect_keep.chain rfl .refl)) .refl)) (Keep.ite (dozeIn_keep.chain rfl (toStep_keep.chain rfl .refl)) (toStep_keep.chain rfl .refl))))

theorem bringupStep_keep {a0 a1 a2 s} : Keep 1074143410 s (bringupStep a0 a1 a2 s) := by
  unfold bringupStep
  exact (Keep.ite .refl (by
  split
  · exact (rxStep_keep.chain rfl .refl)
  · exact (txStep_keep.chain rfl .refl)
  ))

theorem withFramerEn_keep {m : Nat} {a0 f1 s} (hm : 14296283066 &&& m = 14296283066) (hf1 : ∀ v0, Keep m v0 (f1 v0)) : Keep m s (withFramerEn a0 f1 s) := by
  unfold withFramerEn
  exact (Keep.ite (writeFrEn_keep.chain (mask_sub rfl hm) (Keep.hchain (hf1 ..) .refl)) (Keep.hchain (hf1 ..) .refl))

theorem execWaikenBringupStep_keep {a0 a1 a2 s} : KeepN 14296283066 s (execWaikenBringupStep a0 a1 a2 s) := by
  unfold execWaikenBringupStep
  exact (.next (Keep.hchain (onlyIf_keep rfl (fun _ => (Keep.hchain (withFramerEn_keep rfl (fun _ => (bringupStep_keep.chain rfl .refl))) .refl))) .refl))

theorem waikenTimeout_keep {a0 s} : Keep 1074004146 s (waikenTimeout a0 s) := by
  unfold waikenTimeout
  split
  · exact (Keep.ite (wknFault_keep.chain rfl .refl) .refl)
  · exact .refl

theorem execWaikenTimeout_keep {a0 s} : KeepN 1074004146 s (execWaikenTimeout a0 s) := by
  unfold execWaikenTimeout
  exact (.next (Keep.hchain (onlyIf_keep rfl (fun _ => (waikenTimeout_keep.chain rfl .refl))) .refl))

theorem execWaikenCapRetry_keep {a0 s} : KeepN 1074004146 s (execWaikenCapRetry a0 s) := by
  unfold execWaikenCapRetry
  exact (.next (Keep.hchain (onlyIf_keep rfl (fun _ => (rechoose_keep.chain rfl .refl))) .refl))

theorem rateSwitch_keep {a0 s} : Keep 1074135218 s (rateSwitch a0 s) := by
  unfold rateSwitch
  exact (Keep.ite .refl (by
  split
  · exact (Keep.ite (toStep_keep.chain rfl (toStep_keep.chain rfl (setWaiken_keep.chain rfl .refl))) .refl)
  · exact (wknFault_keep.chain rfl .refl)
  ))

theorem execWaikenRateSwitch_keep {a0 s} : KeepN 1074135218 s (execWaikenRateSwitch a0 s) := by
  unfold execWaikenRateSwitch
  exact (.next (Keep.hchain (onlyIf_keep rfl (fun _ => (rateSwitch_keep.chain rfl .refl))) .refl))

theorem versionAttempt_keep {a0 s} : Keep 1074135218 s (versionAttempt a0 s) := by
  unfold versionAttempt
  exact (Keep.ite .refl (bump_keep.chain rfl (toStep_keep.chain rfl (toStep_keep.chain rfl (setWaiken_keep.chain rfl .refl)))))

theorem execWaikenVersionAttempt_keep {a0 s} : KeepN 1074135218 s (execWaikenVersionAttempt a0 s) := by
  unfold execWaikenVersionAttempt
  exact (.next (Keep.hchain (onlyIf_keep rfl (fun _ => (versionAttempt_keep.chain rfl .refl))) .refl))

theorem setLost_keep {a0 a1 s} : Keep 10001315770 s (setLost a0 a1 s) := by
  unfold setLost
  exact (Keep.ite (restartSets_keep.chain rfl (setWaiken_keep.chain rfl .refl)) (raiseLoss_keep.chain rfl (countRetrain_keep.chain rfl (rxBack_keep.chain rfl (setWaiken_keep.chain rfl .refl)))))

theorem lockLoss_keep {a0 a1 s} : Keep 10001315770 s (lockLoss a0 a1 s) := by
  unfold lockLoss
  exact (Keep.ite (setLost_keep.chain rfl (setLane_keep.chain rfl (countLockLoss_keep.chain rfl .refl))) .refl)

theorem execLaneLockLoss_keep {a0 a1 s} : KeepN 10001315770 s (execLaneLockLoss a0 a1 s) := by
  unfold execLaneLockLoss
  exact (.next (Keep.hchain (onlyIf_keep rfl (fun _ => (lockLoss_keep.chain rfl .refl))) .refl))

theorem laneBlock_keep {a0 a1 a2 s} : Keep 1073873074 s (laneBlock a0 a1 a2 s) := by
  unfold laneBlock
  exact (Keep.ite (setLane_keep.chain rfl .refl) (Keep.ite (countLockLoss_keep.chain rfl (bump_keep.chain rfl (setLane_keep.chain rfl .refl))) (bump_keep.chain rfl (setLane_keep.chain rfl .refl))))

theorem engineRetrain_keep {a0 s} : Keep 1074143410 s (engineRetrain a0 s) := by
  unfold engineRetrain
  exact (Keep.ite .refl (countRetrain_keep.chain rfl (txBack_keep.chain rfl .refl)))

theorem takeStatus_keep {a0 a1 s} : Keep 10001315770 s (takeStatus a0 a1 s) := by
  unfold takeStatus
  exact (Keep.ite .refl (Keep.ite (engineRetrain_keep.chain rfl (Keep.ite (lightLost_keep.chain rfl (setWaiken_keep.chain rfl .refl)) (setWaiken_keep.chain rfl .refl))) (Keep.ite (lightLost_keep.chain rfl (setWaiken_keep.chain rfl .refl)) (setWaiken_keep.chain rfl .refl))))

theorem takeEcho_keep {a0 a1 s} : Keep 2 s (takeEcho a0 a1 s) := by
  unfold takeEcho
  first | (dsimp only; split) | (extract_lets; split) | split
  · exact (Keep.ite (setRegN_keep.chain rfl .refl) .refl)
  · exact .refl

theorem sendBlocks_keep {a0 s} : Keep 262160 s (sendBlocks a0 s) := by
  unfold sendBlocks
  first | (dsimp only; split) | (extract_lets; split) | split
  · exact (emit_keep.chain rfl (setWaiken_keep.chain rfl .refl))
  · exact (setWaiken_keep.chain rfl .refl)

theorem takeBlocks_keep {a0 a1 s} : Keep 10001315770 s (takeBlocks a0 a1 s) := by
  unfold takeBlocks
  exact (Keep.ite .refl (takeStatus_keep.chain rfl (takeEcho_keep.chain rfl (Keep.ite (Keep.hchain (forAll_keep rfl (fun _ _ => (setLane_keep.chain rfl .refl))) (Keep.hchain (forAll_keep rfl (fun _ _ => (laneBlock_keep.chain rfl .refl))) .refl)) (setLost_keep.chain rfl (Keep.hchain (forAll_keep rfl (fun _ _ => (setLane_keep.chain rfl .refl))) (Keep.hchain (forAll_keep rfl (fun _ _ => (laneBlock_keep.chain rfl .refl))) .refl)))))))

theorem controlBlock_keep {a0 a1 s} : Keep 10001315770 s (controlBlock a0 a1 s) := by
  unfold controlBlock
  exact (takeBlocks_keep.chain rfl (sendBlocks_keep.chain rfl .refl))

theorem execWaikenControlBlock_keep {a0 a1 s} : KeepN 10001315770 s (execWaikenControlBlock a0 a1 s) := by
  unfold execWaikenControlBlock
  exact (.next (Keep.hchain (onlyIf_keep rfl (fun _ => (controlBlock_keep.chain rfl .refl))) .refl))

theorem dozeCheck_keep {a0 s} : Keep 1074143410 s (dozeCheck a0 s) := by
  unfold dozeCheck
  exact (dozeIn_keep.chain rfl (setWaiken_keep.chain rfl .refl))

theorem execDozeCheck_keep {a0 s} : KeepN 1074143410 s (execDozeCheck a0 s) := by
  unfold execDozeCheck
  exact (.next (Keep.hchain (onlyIf_keep rfl (fun _ => (dozeCheck_keep.chain rfl .refl))) .refl))

theorem execTxPllSourceChange_keep {a0 s} : KeepN 262144 s (execTxPllSourceChange a0 s) := by
  unfold execTxPllSourceChange
  exact (.next (Keep.hchain (onlyIf_keep rfl (fun _ => (setWaiken_keep.chain rfl .refl))) .refl))

theorem restLane_keep {a0 s} : Keep 1073873074 s (restLane a0 s) := by
  unfold restLane
  exact (laneStep_keep.chain rfl .refl)

theorem enableLane_keep {a0 a1 s} : Keep 10001315770 s (enableLane a0 a1 s) := by
  unfold enableLane
  exact (Keep.ite .refl (by
  first | (dsimp only; split) | (extract_lets; split) | split
  · exact (Keep.ite (restLane_keep.chain rfl (Keep.ite (setBit_keep.chain rfl .refl) (setLane_keep.chain rfl (setBit_keep.chain rfl .refl)))) (restartSets_keep.chain rfl (restLane_keep.chain rfl (Keep.ite (setBit_keep.chain rfl .refl) (setLane_keep.chain rfl (setBit_keep.chain rfl .refl))))))
  · exact (restLane_keep.chain rfl (Keep.ite (setBit_keep.chain rfl .refl) (setLane_keep.chain rfl (setBit_keep.chain rfl .refl))))
  ))

theorem enablePort_keep {a0 a1 s} : Keep 14296283066 s (enablePort a0 a1 s) := by
  unfold enablePort
  split
  · exact (trkFollow_keep.chain rfl (enableLane_keep.chain rfl .refl))
  · exact (enableLane_keep.chain rfl .refl)

theorem execLaneEnable_keep {a0 a1 s} : KeepN 14296283066 s (execLaneEnable a0 a1 s) := by
  unfold execLaneEnable
  exact (.next (Keep.hchain (onlyIf_keep rfl (fun _ => (enablePort_keep.chain rfl .refl))) .refl))

theorem clearPairFault_keep {a0 s} : Keep 1074004146 s (clearPairFault a0 s) := by
  unfold clearPairFault
  split
  · exact (Keep.ite (wknFault_keep.chain rfl .refl) .refl)
  · exact .refl

theorem retrain_keep {a0 s} : Keep 10001315770 s (retrain a0 s) := by
  unfold retrain
  exact (Keep.ite .refl (by
  first | (dsimp only; split) | (extract_lets; split) | split
  · exact (restartSets_keep.chain rfl (clearPairFault_keep.chain rfl (restLane_keep.chain rfl (setLane_keep.chain rfl .refl))))
  · exact (bump_keep.chain rfl (clearPairFault_keep.chain rfl (restLane_keep.chain rfl (setLane_keep.chain rfl .refl))))
  ))

theorem execRetrain_keep {a0 s} : KeepN 10001315770 s (execRetrain a0 s) := by
  unfold execRetrain
  exact (.next (Keep.hchain (onlyIf_keep rfl (fun _ => (retrain_keep.chain rfl .refl))) .refl))

theorem laneCntClr_keep {a0 s} : Keep 2 s (laneCntClr a0 s) := by
  unfold laneCntClr
  exact (zeroRegs_keep.chain rfl .refl)

theorem execLaneCntClr_keep {a0 s} : KeepN 2 s (execLaneCntClr a0 s) := by
  unfold execLaneCntClr
  exact (.next (Keep.hchain (onlyIf_keep rfl (fun _ => (laneCntClr_keep.chain rfl .refl))) .refl))

theorem detect_keep {a0 a1 s} : Keep 1074143410 s (detect a0 a1 s) := by
  unfold detect
  exact (Keep.ite .refl (Keep.ite (Keep.ite (clearPairFault_keep.chain rfl (laneStep_keep.chain rfl .refl)) .refl) (by
  first | (dsimp only; split) | (extract_lets; split) | split
  · exact (txBack_keep.chain rfl (wknFault_keep.chain rfl (Keep.ite (laneStep_keep.chain rfl .refl) (laneEvent_keep.chain rfl (laneStep_keep.chain rfl .refl)))))
  · exact (Keep.ite (laneStep_keep.chain rfl .refl) (laneEvent_keep.chain rfl (laneStep_keep.chain rfl .refl)))
  )))

theorem execReceiverDetect_keep {a0 a1 s} : KeepN 9664078002 s (execReceiverDetect a0 a1 s) := by
  unfold execReceiverDetect
  exact (.next (Keep.hchain (onlyIf_keep rfl (fun _ => (Keep.hchain (withPins_keep rfl (fun _ => (detect_keep.chain rfl .refl))) .refl))) .refl))

theorem legShort_keep {a0 s} : Keep 1074143410 s (legShort a0 s) := by
  unfold legShort
  first | (dsimp only; split) | (extract_lets; split) | split
  · exact (txBack_keep.chain rfl (wknFault_keep.chain rfl (laneEvent_keep.chain rfl (laneStep_keep.chain rfl .refl))))
  · exact (laneEvent_keep.chain rfl (laneStep_keep.chain rfl .refl))

theorem execLegShort_keep {a0 s} : KeepN 9664078002 s (execLegShort a0 s) := by
  unfold execLegShort
  exact (.next (Keep.hchain (onlyIf_keep rfl (fun _ => (Keep.hchain (withPins_keep rfl (fun _ => (legShort_keep.chain rfl .refl))) .refl))) .refl))

theorem writePat_keep {a0 a1 s} : Keep 10001315770 s (writePat a0 a1 s) := by
  unfold writePat
  exact (Keep.ite (setLane_keep.chain rfl .refl) (by
  first | (dsimp only; split) | (extract_lets; split) | split
  · exact (Keep.ite (rxBack_keep.chain rfl (Keep.ite (txBack_keep.chain rfl (Keep.ite (laneEvent_keep.chain rfl (laneStep_keep.chain rfl (setReg_keep.chain rfl .refl))) (laneStep_keep.chain rfl (setReg_keep.chain rfl .refl)))) (Keep.ite (laneEvent_keep.chain rfl (laneStep_keep.chain rfl (setReg_keep.chain rfl .refl))) (laneStep_keep.chain rfl (setReg_keep.chain rfl .refl))))) (Keep.ite (txBack_keep.chain rfl (Keep.ite (laneEvent_keep.chain rfl (laneStep_keep.chain rfl (setReg_keep.chain rfl .refl))) (laneStep_keep.chain rfl (setReg_keep.chain rfl .refl)))) (Keep.ite (laneEvent_keep.chain rfl (laneStep_keep.chain rfl (setReg_keep.chain rfl .refl))) (laneStep_keep.chain rfl (setReg_keep.chain rfl .refl)))))
  · exact (Keep.ite (laneEvent_keep.chain rfl (laneStep_keep.chain rfl (setReg_keep.chain rfl .refl))) (laneStep_keep.chain rfl (setReg_keep.chain rfl .refl)))
  ))

theorem execPatCtlWrite_keep {a0 a1 s} : KeepN 10001315770 s (execPatCtlWrite a0 a1 s) := by
  unfold execPatCtlWrite
  exact (.next (Keep.hchain (onlyIf_keep rfl (fun _ => (writePat_keep.chain rfl .refl))) .refl))

theorem checkBits_keep {e g c s} : Keep 8 s (checkBits e g c s).2 := by
  induction e generalizing g c s with
  | zero => exact .refl
  | succ e ih => exact Keep.hchain ih (drawn_keep.chain rfl .refl)

theorem patternLock_keep {a0 a1 a2 s} : Keep 1073873082 s (patternLock a0 a1 a2 s) := by
  unfold patternLock
  exact (Keep.ite .refl (Keep.ite (laneEvent_keep.chain rfl (bump_keep.chain rfl (bump64_keep.chain rfl (setLane_keep.chain rfl (checkBits_keep.chain rfl .refl))))) (bump_keep.chain rfl (bump64_keep.chain rfl (setLane_keep.chain rfl (checkBits_keep.chain rfl .refl))))))

theorem execPatternLockChange_keep {a0 a1 a2 s} : KeepN 1073873082 s (execPatternLockChange a0 a1 a2 s) := by
  unfold execPatternLockChange
  exact (.next (Keep.hchain (onlyIf_keep rfl (fun _ => (patternLock_keep.chain rfl .refl))) .refl))

theorem inject_keep {a0 a1 s} : Keep 131090 s (inject a0 a1 s) := by
  unfold inject
  exact (Keep.ite .refl (Keep.ite (bump_keep.chain rfl .refl) (emit_keep.chain rfl (setLane_keep.chain rfl .refl))))

theorem writeInj_keep {a0 a1 s} : Keep 131090 s (writeInj a0 a1 s) := by
  unfold writeInj
  exact (Keep.ite (inject_keep.chain rfl (Keep.ite (inject_keep.chain rfl .refl) .refl)) (Keep.ite (inject_keep.chain rfl .refl) .refl))

theorem execInjSingle_keep {a0 s} : KeepN 131090 s (execInjSingle a0 s) := by
  unfold execInjSingle
  exact (.next (Keep.hchain (onlyIf_keep rfl (fun _ => (inject_keep.chain rfl .refl))) .refl))

theorem execInjBurst_keep {a0 a1 s} : KeepN 131090 s (execInjBurst a0 a1 s) := by
  unfold execInjBurst
  exact (.next (Keep.hchain (onlyIf_keep rfl (fun _ => (inject_keep.chain rfl .refl))) .refl))

/-! ### Lookout -/

theorem lkoEvent_keep {a0 s} : Keep 1073742002 s (lkoEvent a0 s) := by
  unfold lkoEvent
  exact (raise_keep.chain rfl .refl)

theorem laneUp_keep {a0 a1 s} : Keep 1073873074 s (laneUp a0 a1 s) := by
  unfold laneUp
  exact (Keep.ite .refl (Keep.ite (lkoEvent_keep.chain rfl (Keep.ite (laneStep_keep.chain rfl (setBit_keep.chain rfl .refl)) (countLockLoss_keep.chain rfl (laneStep_keep.chain rfl (setBit_keep.chain rfl .refl))))) (setBit_keep.chain rfl .refl)))

theorem execLookoutLaneUpChange_keep {a0 a1 s} : KeepN 1073873074 s (execLookoutLaneUpChange a0 a1 s) := by
  unfold execLookoutLaneUpChange
  exact (.next (laneUp_keep.chain rfl .refl))

theorem lmToPort_keep {a0 a1 s} : Keep 1142859698 s (lmToPort a0 a1 s) := by
  unfold lmToPort
  exact (Keep.ite (deliverTmm_keep.chain rfl .refl) (bump_keep.chain rfl .refl))

theorem lmReceived_keep {a0 a1 s} : Keep 1142863794 s (lmReceived a0 a1 s) := by
  unfold lmReceived
  exact (Keep.ite (lkoEvent_keep.chain rfl (bump_keep.chain rfl .refl)) (Keep.ite (bump_keep.chain rfl .refl) (Keep.ite (bump_keep.chain rfl .refl) (Keep.ite (Keep.hchain (forAll_keep rfl (fun _ _ => (lmToPort_keep.chain rfl .refl))) (bump_keep.chain rfl (setLookout_keep.chain rfl .refl))) (lmToPort_keep.chain rfl (bump_keep.chain rfl (setLookout_keep.chain rfl .refl)))))))

theorem execLookoutLmReceived_keep {a0 a1 s} : KeepN 1142863794 s (execLookoutLmReceived a0 a1 s) := by
  unfold execLookoutLmReceived
  exact (.next (Keep.ite (Keep.hchain (onlyIf_keep rfl (fun _ => (raise_keep.chain rfl .refl))) .refl) (Keep.hchain (onlyIf_keep rfl (fun _ => (lmReceived_keep.chain rfl .refl))) .refl)))

theorem nextLm_keep {a0 s} : Keep 4104 s (nextLm a0 s) := by
  unfold nextLm
  exact (Keep.ite (setLookout_keep.chain rfl .refl) (startDelay_keep.chain rfl (setLookout_keep.chain rfl .refl)))

theorem lmDelayEnd_keep {a0 s} : Keep 1073746106 s (lmDelayEnd a0 s) := by
  unfold lmDelayEnd
  first | (dsimp only; split) | (extract_lets; split) | split
  · exact (Keep.ite .refl (Keep.ite (startDelay_keep.chain rfl .refl) (Keep.ite (nextLm_keep.chain rfl (txDrop_keep.chain rfl .refl)) (by
  split
  · exact (startDelayAt_keep.chain rfl .refl)
  · exact (nextLm_keep.chain rfl (setLookout_keep.chain rfl (emit_keep.chain rfl (bump_keep.chain rfl .refl))))
  ))))
  · exact .refl

theorem execLmDelayEnd_keep {a0 s} : KeepN 1073746106 s (execLmDelayEnd a0 s) := by
  unfold execLmDelayEnd
  exact (.next (Keep.hchain (onlyIf_keep rfl (fun _ => (lmDelayEnd_keep.chain rfl .refl))) .refl))

theorem keyTimed_keep {a0 a1 a2 s} : Keep 4114 s (keyTimed a0 a1 a2 s) := by
  unfold keyTimed
  exact (Keep.ite (setLookout_keep.chain rfl (emit_keep.chain rfl (bump_keep.chain rfl .refl))) .refl)

theorem rememberProbe_keep {a0 a1 s} : Keep 1024 s (rememberProbe a0 a1 s) := by
  unfold rememberProbe
  exact (setRegn_keep.chain rfl .refl)

theorem sendTimed_keep {s} : Keep 7186 s (sendTimed s) := by
  unfold sendTimed
  split
  · exact .refl
  · exact (Keep.ite .refl (Keep.ite (rememberProbe_keep.chain rfl (keyTimed_keep.chain rfl (keyTimed_keep.chain rfl (.timed rfl .refl)))) (keyTimed_keep.chain rfl (keyTimed_keep.chain rfl (.timed rfl .refl)))))

theorem execTimedLmSend_keep {s} : KeepN 7186 s (execTimedLmSend s) := by
  unfold execTimedLmSend
  exact (.next (Keep.hchain (onlyIf_keep rfl (fun _ => (sendTimed_keep.chain rfl .refl))) .refl))

theorem forcedRelease_keep {a0 s} : Keep 4098 s (forcedRelease a0 s) := by
  unfold forcedRelease
  exact (bump_keep.chain rfl (setLookout_keep.chain rfl .refl))

theorem execLkoTxenForcedRelease_keep {a0 s} : KeepN 4098 s (execLkoTxenForcedRelease a0 s) := by
  unfold execLkoTxenForcedRelease
  exact (.next (Keep.hchain (onlyIf_keep rfl (fun _ => (forcedRelease_keep.chain rfl .refl))) .refl))

theorem lkoCntClr_keep {s} : Keep 2 s (lkoCntClr s) := by
  unfold lkoCntClr
  exact (zeroRegs_keep.chain rfl .refl)

theorem execLkoCntClr_keep {s} : KeepN 2 s (execLkoCntClr s) := by
  unfold execLkoCntClr
  exact (.next (Keep.hchain (onlyIf_keep rfl (fun _ => (lkoCntClr_keep.chain rfl .refl))) .refl))

/-! ### Parse -/

theorem pgEvent_keep {a0 s} : Keep 1073742002 s (pgEvent a0 s) := by
  unfold pgEvent
  exact (raise_keep.chain rfl .refl)

theorem pgRej_keep {s} : Keep 1082130610 s (pgRej s) := by
  unfold pgRej
  exact (pgEvent_keep.chain rfl (.pg rfl .refl))

theorem writePgMemory_keep {a0 a1 s} : Keep 1082130610 s (writePgMemory a0 a1 s) := by
  unfold writePgMemory
  exact (Keep.ite (pgRej_keep.chain rfl .refl) (setReg_keep.chain rfl (.pg rfl .refl)))

theorem pgCommit_keep {s} : Keep 1082130610 s (pgCommit s) := by
  unfold pgCommit
  exact (Keep.ite (pgRej_keep.chain rfl .refl) (pgEvent_keep.chain rfl ⟨fun p hp => by cases p <;> first | exact rfl | exact ⟨rfl, rfl, rfl, rfl, rfl⟩ | exact absurd hp (by decide),
    List.prefix_refl _, Nat.le_refl _, id, id⟩))

theorem pgCopyDone_keep {s} : Keep 8388610 s (pgCopyDone s) := by
  unfold pgCopyDone
  exact (Keep.ite ⟨fun p hp => by cases p <;> first | exact rfl | exact ⟨rfl, rfl, rfl, rfl, rfl⟩ | exact absurd hp (by decide),
    List.prefix_refl _, Nat.le_refl _, id, id⟩ .refl)

theorem execPgCommit_keep {s} : KeepN 1082130610 s (execPgCommit s) := by
  unfold execPgCommit
  exact (.next (Keep.hchain (onlyIf_keep rfl (fun _ => (pgCommit_keep.chain rfl .refl))) .refl))

theorem execPgCopyDone_keep {s} : KeepN 8388610 s (execPgCopyDone s) := by
  unfold execPgCopyDone
  exact (.next (Keep.hchain (onlyIf_keep rfl (fun _ => (pgCopyDone_keep.chain rfl .refl))) .refl))

theorem pgCntClr_keep {s} : Keep 2 s (pgCntClr s) := by
  unfold pgCntClr
  exact (zeroRegs_keep.chain rfl .refl)

theorem execPgCntClr_keep {s} : KeepN 2 s (execPgCntClr s) := by
  unfold execPgCntClr
  exact (.next (Keep.hchain (onlyIf_keep rfl (fun _ => (pgCntClr_keep.chain rfl .refl))) .refl))

/-! ### Classify -/

theorem clsEvent_keep {a0 s} : Keep 1073742002 s (clsEvent a0 s) := by
  unfold clsEvent
  exact (raise_keep.chain rfl .refl)

theorem setCls_keep {a0 s} : Keep 16777216 s (setCls a0 s) := by
  unfold setCls
  exact (.cls rfl .refl)

theorem setRuleTable_keep {a0 a1 s} : Keep 16777216 s (setRuleTable a0 a1 s) := by
  unfold setRuleTable
  exact (setCls_keep.chain rfl .refl)

theorem writeRuleCtl_keep {a0 a1 s} : Keep 1090519218 s (writeRuleCtl a0 a1 s) := by
  unfold writeRuleCtl
  exact (Keep.ite (clsEvent_keep.chain rfl (setCls_keep.chain rfl .refl)) (Keep.ite .refl (Keep.ite (setRuleTable_keep.chain rfl (setCls_keep.chain rfl (setReg_keep.chain rfl .refl))) (setCls_keep.chain rfl (setReg_keep.chain rfl .refl)))))

theorem execClsTblCtlWrite_keep {a0 a1 s} : KeepN 1090519218 s (execClsTblCtlWrite a0 a1 s) := by
  unfold execClsTblCtlWrite
  exact (.next (Keep.hchain (onlyIf_keep rfl (fun _ => (writeRuleCtl_keep.chain rfl .refl))) .refl))

theorem classifyFrame_keep {a0 a1 s} : Keep 2 s (classifyFrame a0 a1 s).1 := by
  unfold classifyFrame
  exact (Keep.ite1 .refl (Keep.hchain (forAll_keep rfl (fun _ _ => (bump64_keep.chain rfl .refl))) .refl))

theorem ruleEnd_keep {a0 a1 a2 a3 a4 a5 s} : Keep 1073742002 s (ruleEnd a0 a1 a2 a3 a4 a5 s) := by
  unfold ruleEnd
  exact (clsEvent_keep.chain rfl (emit_keep.chain rfl .refl))

theorem rulePut_keep {a0 a1 s} : Keep 16777224 s (rulePut a0 a1 s).1 := by
  unfold rulePut
  first | (dsimp only; split) | (extract_lets; split) | split
  · exact (setRuleTable_keep.chain rfl .refl)
  · split
    · exact (drawn_keep.chain rfl .refl)
    · exact (setRuleTable_keep.chain rfl (setCls_keep.chain rfl (drawn_keep.chain rfl .refl)))

theorem loadRules_keep {l s} : Keep 16777224 s (loadRules l s).1 := by
  induction l generalizing s with
  | nil => exact .refl
  | cons x l ih =>
    unfold loadRules
    exact .ite1 .refl (.ite1 (rulePut_keep.chain rfl .refl) (Keep.hchain ih (rulePut_keep.chain rfl .refl)))

theorem ruleTake_keep {m : Nat} {f0 s} (hm : 1073742010 &&& m = 1073742010) (hf0 : ∀ v0, Keep m v0 (f0 v0)) : Keep m s (ruleTake f0 s) := by
  unfold ruleTake
  exact (Keep.ite (Keep.ite (ruleEnd_keep.chain (mask_sub rfl hm) (drawn_keep.chain (mask_sub rfl hm) .refl)) (Keep.hchain (hf0 ..) (drawn_keep.chain (mask_sub rfl hm) .refl))) (Keep.hchain (hf0 ..) .refl))

theorem ruleInsert_keep {a0 s} : Keep 1090519226 s (ruleInsert a0 s) := by
  unfold ruleInsert
  exact (Keep.ite (ruleEnd_keep.chain rfl .refl) (by
  first | (dsimp only; split) | (extract_lets; split) | split
  · exact (ruleEnd_keep.chain rfl (rulePut_keep.chain rfl .refl))
  · exact (ruleEnd_keep.chain rfl (rulePut_keep.chain rfl .refl))
  ))

theorem execRuleInsert_keep {a0 s} : KeepN 1090519226 s (execRuleInsert a0 s) := by
  unfold execRuleInsert
  exact (.next (Keep.hchain (onlyIf_keep rfl (fun _ => (Keep.hchain (ruleTake_keep rfl (fun _ => (ruleInsert_keep.chain rfl .refl))) .refl))) .refl))

theorem ruleDelete_keep {a0 s} : Keep 1090519218 s (ruleDelete a0 s) := by
  unfold ruleDelete
  exact (Keep.ite (ruleEnd_keep.chain rfl .refl) (by
  split
  · exact (ruleEnd_keep.chain rfl (setRuleTable_keep.chain rfl .refl))
  · exact (ruleEnd_keep.chain rfl .refl)
  ))

theorem execRuleDelete_keep {a0 s} : KeepN 1090519226 s (execRuleDelete a0 s) := by
  unfold execRuleDelete
  exact (.next (Keep.hchain (onlyIf_keep rfl (fun _ => (Keep.hchain (ruleTake_keep rfl (fun _ => (ruleDelete_keep.chain rfl .refl))) .refl))) .refl))

theorem ruleWalk_keep {a0 a1 a2 s} : Keep 825724240050 s (ruleWalk a0 a1 a2 s) := by
  unfold ruleWalk
  exact (ruleEnd_keep.chain rfl (dmaWrite_keep.chain rfl (setCls_keep.chain rfl .refl)))

theorem ruleSearchCmd_keep {a0 s} : Keep 825724240058 s (ruleSearchCmd a0 s) := by
  unfold ruleSearchCmd
  exact (Keep.ite (ruleEnd_keep.chain rfl .refl) (Keep.ite (by
  split
  · exact (ruleEnd_keep.chain rfl .refl)
  · exact (ruleEnd_keep.chain rfl .refl)
  ) (by
  split
  · exact (ruleEnd_keep.chain rfl (drawn_keep.chain rfl .refl))
  · exact (ruleWalk_keep.chain rfl (drawn_keep.chain rfl .refl))
  )))

theorem execRuleSearch_keep {a0 s} : KeepN 825724240058 s (execRuleSearch a0 s) := by
  unfold execRuleSearch
  exact (.next (Keep.hchain (onlyIf_keep rfl (fun _ => (Keep.hchain (ruleTake_keep rfl (fun _ => (ruleSearchCmd_keep.chain rfl .refl))) .refl))) .refl))

theorem ruleNext_keep {a0 s} : Keep 825724240050 s (ruleNext a0 s) := by
  unfold ruleNext
  exact (Keep.ite (ruleEnd_keep.chain rfl .refl) (Keep.ite (ruleEnd_keep.chain rfl .refl) (Keep.ite (ruleEnd_keep.chain rfl (setCls_keep.chain rfl .refl)) (Keep.ite (ruleEnd_keep.chain rfl .refl) (ruleWalk_keep.chain rfl .refl)))))

theorem execRuleNext_keep {a0 s} : KeepN 825724240058 s (execRuleNext a0 s) := by
  unfold execRuleNext
  exact (.next (Keep.hchain (onlyIf_keep rfl (fun _ => (Keep.hchain (ruleTake_keep rfl (fun _ => (ruleNext_keep.chain rfl .refl))) .refl))) .refl))

theorem takeHome_keep {a0 s} : Keep 16777216 s (takeHome a0 s) := by
  unfold takeHome
  exact (setCls_keep.chain rfl .refl)

theorem repairProfile_keep {a0 a1 s} : Keep 1073742002 s (repairProfile a0 a1 s) := by
  unfold repairProfile
  exact (Keep.ite (clsEvent_keep.chain rfl .refl) (bump_keep.chain rfl (Keep.hchain (forAll_keep rfl (fun _ _ => (setReg64_keep.chain rfl .refl))) .refl)))

theorem repairAll_keep {s} : Keep 1090519218 s (repairAll s) := by
  unfold repairAll
  exact (Keep.ite .refl (clsEvent_keep.chain rfl (setCls_keep.chain rfl (Keep.hchain (forAll_keep rfl (fun _ _ => (repairProfile_keep.chain rfl .refl))) .refl))))

theorem execIndirectionRepair_keep {s} : KeepN 1090519218 s (execIndirectionRepair s) := by
  unfold execIndirectionRepair
  exact (.next (Keep.hchain (onlyIf_keep rfl (fun _ => (repairAll_keep.chain rfl .refl))) .refl))

theorem writeHpCtl_keep {a0 a1 s} : Keep 16777218 s (writeHpCtl a0 a1 s) := by
  unfold writeHpCtl
  exact (Keep.ite (takeHome_keep.chain rfl (setReg_keep.chain rfl .refl)) (setReg_keep.chain rfl .refl))

theorem execHpCtlWrite_keep {a0 a1 s} : KeepN 16777218 s (execHpCtlWrite a0 a1 s) := by
  unfold execHpCtlWrite
  exact (.next (Keep.hchain (onlyIf_keep rfl (fun _ => (writeHpCtl_keep.chain rfl .refl))) .refl))

theorem writeIndirection_keep {a0 a1 a2 s} : Keep 17196646402 s (writeIndirection a0 a1 a2 s) := by
  unfold writeIndirection
  exact (Keep.ite (setPath_keep.chain rfl (setCls_keep.chain rfl .refl)) (Keep.ite (setPath_keep.chain rfl .refl) (setReg_keep.chain rfl (setReg_keep.chain rfl (setPath_keep.chain rfl (setCls_keep.chain rfl .refl))))))

theorem execIndEntryWrite_keep {a0 a1 a2 s} : KeepN 17196646402 s (execIndEntryWrite a0 a1 a2 s) := by
  unfold execIndEntryWrite
  exact (.next (Keep.hchain (onlyIf_keep rfl (fun _ => (writeIndirection_keep.chain rfl .refl))) .refl))

theorem cmdIndWrite_keep {a0 s} : Keep 16777218 s (cmdIndWrite a0 s).state := by
  unfold cmdIndWrite
  exact (Keep.iteMb (mbStatus_keep.chain rfl .refl) (mbStatus_keep.chain rfl (Keep.hchain (forAll_keep rfl (fun _ _ => (setReg64_keep.chain rfl .refl))) (setCls_keep.chain rfl .refl))))

theorem execIndWrite_keep {a0 s} : KeepN 69809995954 s (execIndWrite a0 s) := by
  unfold execIndWrite
  exact (.next (Keep.hchain (onlyIf_keep rfl (fun _ => (Keep.hchain (mbRunThen_keep rfl (fun _ => .refl) (fun _ _ => (cmdIndWrite_keep.chain rfl .refl))) .refl))) .refl))

theorem excCnt_keep {a0 a1 s} : Keep 2 s (excCnt a0 a1 s) := by
  unfold excCnt
  exact (bump_keep.chain rfl .refl)

theorem setTokens_keep {a0 a1 s} : Keep 16777216 s (setTokens a0 a1 s) := by
  unfold setTokens
  exact (setCls_keep.chain rfl .refl)

theorem settleTokens_keep {a0 s} : Keep 16777216 s (settleTokens a0 s) := by
  unfold settleTokens
  exact (setTokens_keep.chain rfl .refl)

theorem writeExcCtl_keep {a0 a1 s} : Keep 16777218 s (writeExcCtl a0 a1 s) := by
  unfold writeExcCtl
  exact (setCls_keep.chain rfl (setReg_keep.chain rfl .refl))

theorem execExcCtlWrite_keep {a0 a1 s} : KeepN 16777218 s (execExcCtlWrite a0 a1 s) := by
  unfold execExcCtlWrite
  exact (.next (Keep.hchain (onlyIf_keep rfl (fun _ => (writeExcCtl_keep.chain rfl .refl))) .refl))

theorem sendCopy_keep {a0 a1 s} : Keep 1090519218 s (sendCopy a0 a1 s) := by
  unfold sendCopy
  exact (Keep.ite (clsEvent_keep.chain rfl (excCnt_keep.chain rfl .refl)) (Keep.ite (clsEvent_keep.chain rfl (bump_keep.chain rfl (setTokens_keep.chain rfl .refl))) (excCnt_keep.chain rfl (setCls_keep.chain rfl (setTokens_keep.chain rfl .refl)))))

theorem decide284_keep {a0 a1 a2 s} : Keep 1090519218 s (decide284 a0 a1 a2 s).1 := by
  unfold decide284
  first | (dsimp only; split) | (extract_lets; split) | split
  · exact (Keep.hchain (forAll_keep rfl (fun _ _ => (excCnt_keep.chain rfl .refl))) .refl)
  · exact (Keep.ite (sendCopy_keep.chain rfl (excCnt_keep.chain rfl (Keep.hchain (forAll_keep rfl (fun _ _ => (excCnt_keep.chain rfl .refl))) .refl))) (excCnt_keep.chain rfl (Keep.hchain (forAll_keep rfl (fun _ _ => (excCnt_keep.chain rfl .refl))) .refl)))

theorem clsCntClr_keep {s} : Keep 2 s (clsCntClr s) := by
  unfold clsCntClr
  exact (zeroRegs_keep.chain rfl .refl)

theorem execClsCntClr_keep {s} : KeepN 2 s (execClsCntClr s) := by
  unfold execClsCntClr
  exact (.next (Keep.hchain (onlyIf_keep rfl (fun _ => (clsCntClr_keep.chain rfl .refl))) .refl))

/-! ### CanOps -/

theorem canEvent_keep {a0 s} : Keep 1073742002 s (canEvent a0 s) := by
  unfold canEvent
  exact (raise_keep.chain rfl .refl)

theorem tcamEvent_keep {a0 s} : Keep 1073742002 s (tcamEvent a0 s) := by
  unfold tcamEvent
  exact (raise_keep.chain rfl .refl)

theorem setCan_keep {a0 s} : Keep 33554432 s (setCan a0 s) := by
  unfold setCan
  exact (.can rfl .refl)

theorem setCanTable_keep {a0 a1 s} : Keep 33554432 s (setCanTable a0 a1 s) := by
  unfold setCanTable
  exact (setCan_keep.chain rfl .refl)

theorem canSearch_keep {a0 a1 s} : Keep 2 s (canSearch a0 a1 s).1 := by
  unfold canSearch
  exact (Keep.ite (bump64_keep.chain rfl (bump64_keep.chain rfl (Keep.ite .refl (bump64_keep.chain rfl .refl)))) (bump64_keep.chain rfl (Keep.ite .refl (bump64_keep.chain rfl .refl))))

theorem refresh_keep {a0 a1 s} : Keep 33554432 s (refresh a0 a1 s) := by
  unfold refresh
  exact (setCanTable_keep.chain rfl .refl)

theorem postEvent_keep {a0 a1 a2 a3 s} : Keep 1107296434 s (postEvent a0 a1 a2 a3 s) := by
  unfold postEvent
  exact (Keep.ite (canEvent_keep.chain rfl (Keep.ite (canEvent_keep.chain rfl (bump64_keep.chain rfl (setCan_keep.chain rfl .refl))) (bump64_keep.chain rfl (setCan_keep.chain rfl .refl)))) (Keep.ite (canEvent_keep.chain rfl (bump64_keep.chain rfl (setCan_keep.chain rfl .refl))) (bump64_keep.chain rfl (setCan_keep.chain rfl .refl))))

theorem placeNew_keep {a0 a1 a2 a3 s} : Keep 1107296442 s (placeNew a0 a1 a2 a3 s).1 := by
  unfold placeNew
  exact (Keep.ite1 .refl (by
  split
  · exact .refl
  · exact (Keep.ite1 .refl (by
  first | (dsimp only; split) | (extract_lets; split) | split
  · exact (bump_keep.chain rfl (postEvent_keep.chain rfl (setCanTable_keep.chain rfl (setCan_keep.chain rfl (drawn_keep.chain rfl .refl)))))
  · exact (setCanTable_keep.chain rfl (setCan_keep.chain rfl (drawn_keep.chain rfl .refl)))
  ))
  ))

theorem learnDefer_keep {a0 s} : Keep 1073742002 s (learnDefer a0 s) := by
  unfold learnDefer
  exact (canEvent_keep.chain rfl (bump_keep.chain rfl .refl))

theorem queueLearn_keep {a0 s} : Keep 1107296434 s (queueLearn a0 s) := by
  unfold queueLearn
  exact (Keep.ite .refl (Keep.ite (learnDefer_keep.chain rfl .refl) (setCan_keep.chain rfl .refl)))

theorem setBank_keep {a0 a1 s} : Keep 33554432 s (setBank a0 a1 s) := by
  unfold setBank
  exact (setCan_keep.chain rfl .refl)

theorem tcamCommit_keep {s} : Keep 33554434 s (tcamCommit s) := by
  unfold tcamCommit
  exact (bump_keep.chain rfl (setCan_keep.chain rfl .refl))

theorem tcamMoved_keep {a0 s} : Keep 33554432 s (tcamMoved a0 s) := by
  unfold tcamMoved
  exact (setCan_keep.chain rfl .refl)

theorem stage4_keep {a0 a1 a2 a3 s} : Keep 33554434 s (stage4 a0 a1 a2 a3 s).1 := by
  unfold stage4
  exact (Keep.ite1 .refl (by
  first | (dsimp only; split) | (extract_lets; split) | split
  · exact (bump64_keep.chain rfl (setCan_keep.chain rfl .refl))
  · first | (dsimp only; split) | (extract_lets; split) | split
    · exact (bump64_keep.chain rfl (setCan_keep.chain rfl .refl))
    · exact (Keep.ite (bump64_keep.chain rfl (setCan_keep.chain rfl .refl)) (setCan_keep.chain rfl (bump64_keep.chain rfl (setCan_keep.chain rfl .refl))))
  ))

end Sys2Proof.Machine
end

