-- ==== Sys2Proof/Laws/Keep5.lean ====
section
/-! SUPPORT. What each operation of these files of the machine keeps: Buffer, Canopy, Reef. -/
namespace Sys2Proof.Machine
open Sys2Proof

/-! ### Buffer -/

theorem cfgRej_keep {a0 s} : Keep 1140850866 s (cfgRej a0 s) := by
  unfold cfgRej
  exact (bufEvent_keep.chain rfl (setBit_keep.chain rfl (.buf rfl .refl)))

theorem cfgAccepted_keep {a0 s} : Keep 2 s (cfgAccepted a0 s) := by
  unfold cfgAccepted
  exact (Keep.ite (setBit_keep.chain rfl .refl) .refl)

theorem writeLimit_keep {a0 a1 s} : Keep 1141899442 s (writeLimit a0 a1 s) := by
  unfold writeLimit
  exact (Keep.ite .refl (Keep.ite (bufSettle_keep.chain rfl (latchXoff_keep.chain rfl (cfgAccepted_keep.chain rfl (setReg_keep.chain rfl (latchXoff_keep.chain rfl .refl))))) (cfgRej_keep.chain rfl .refl)))

theorem execBufLimitWrite_keep {a0 a1 s} : KeepN 1141899442 s (execBufLimitWrite a0 a1 s) := by
  unfold execBufLimitWrite
  exact (.next (Keep.hchain (onlyIf_keep rfl (fun _ => (writeLimit_keep.chain rfl .refl))) .refl))

theorem qflush_keep {a0 s} : Keep 1140850866 s (qflush a0 s) := by
  unfold qflush
  exact (Keep.ite (cfgRej_keep.chain rfl .refl) (Keep.ite .refl (emptied_keep.chain rfl (setQueue_keep.chain rfl (cfgAccepted_keep.chain rfl (.buf rfl .refl))))))

theorem execQflush_keep {a0 s} : KeepN 1140850866 s (execQflush a0 s) := by
  unfold execQflush
  exact (.next (Keep.hchain (onlyIf_keep rfl (fun _ => (qflush_keep.chain rfl .refl))) .refl))

theorem qflushDone_keep {s} : Keep 1141899442 s (qflushDone s) := by
  unfold qflushDone
  split
  · exact .refl
  · exact (bufSettle_keep.chain rfl (bufEvent_keep.chain rfl (bump64_keep.chain rfl (Keep.hchain (forAll_keep rfl (fun _ _ => (freeRef_keep.chain rfl .refl))) (.buf rfl .refl)))))

theorem execQflushDone_keep {s} : KeepN 1141899442 s (execQflushDone s) := by
  unfold execQflushDone
  exact (.next (Keep.hchain (onlyIf_keep rfl (fun _ => (qflushDone_keep.chain rfl .refl))) .refl))

theorem markDamaged_keep {a0 s} : Keep 1140850866 s (markDamaged a0 s) := by
  unfold markDamaged
  split
  · exact .refl
  · exact (Keep.ite .refl (bufEvent_keep.chain rfl (bump_keep.chain rfl (setFrame_keep.chain rfl .refl))))

theorem readComplete_keep {a0 a1 s} : Keep 1410343098 s (readComplete a0 a1 s) := by
  unfold readComplete
  split
  · exact (fillRead_keep.chain rfl (Keep.ite (markDamaged_keep.chain rfl .refl) .refl))
  · exact (Keep.ite (markDamaged_keep.chain rfl .refl) .refl)

theorem execBufferReadComplete_keep {a0 a1 s} : KeepN 1410343098 s (execBufferReadComplete a0 a1 s) := by
  unfold execBufferReadComplete
  exact (.next (Keep.hchain (onlyIf_keep rfl (fun _ => (readComplete_keep.chain rfl .refl))) .refl))

theorem unstage_keep {s} : Keep 67108864 s (unstage s) := by
  unfold unstage
  exact (Keep.ite .refl (by
  split
  · exact (setFrame_keep.chain rfl .refl)
  · exact .refl
  ))

theorem unstageAll_keep {s} : Keep 67108864 s (unstageAll s) := by
  unfold unstageAll
  exact (.buf rfl .refl)

theorem execSpillWriteComplete_keep {s} : KeepN 67108864 s (execSpillWriteComplete s) := by
  unfold execSpillWriteComplete
  exact (.next (Keep.hchain (onlyIf_keep rfl (fun _ => (unstage_keep.chain rfl .refl))) .refl))

theorem leak_keep {a0 a1 s} : Keep 8589934594 s (leak a0 a1 s) := by
  unfold leak
  exact (setRegN_keep.chain rfl (.faults rfl .refl))

theorem audit_keep {s} : Keep 9663676594 s (audit s) := by
  unfold audit
  exact (Keep.ite .refl (fltEvent_keep.chain rfl (writeLog_keep.chain rfl (bump_keep.chain rfl (setRegN_keep.chain rfl (.faults rfl .refl))))))

theorem execBufferAudit_keep {s} : KeepN 9663676594 s (execBufferAudit s) := by
  unfold execBufferAudit
  exact (.next (Keep.hchain (onlyIf_keep rfl (fun _ => (audit_keep.chain rfl .refl))) .refl))

theorem bufCntClr_keep {s} : Keep 2 s (bufCntClr s) := by
  unfold bufCntClr
  exact (zeroRegs_keep.chain rfl .refl)

theorem execBufCntClr_keep {s} : KeepN 2 s (execBufCntClr s) := by
  unfold execBufCntClr
  exact (.next (Keep.hchain (onlyIf_keep rfl (fun _ => (bufCntClr_keep.chain rfl .refl))) .refl))

/-! ### Canopy -/

theorem canCapRej_keep {s} : Keep 1073742002 s (canCapRej s) := by
  unfold canCapRej
  exact (canEvent_keep.chain rfl .refl)

theorem writeCanTbl_keep {a0 a1 s} : Keep 1107296434 s (writeCanTbl a0 a1 s) := by
  unfold writeCanTbl
  exact (Keep.ite .refl (Keep.ite (Keep.ite (canCapRej_keep.chain rfl .refl) (Keep.ite .refl (Keep.ite (setCanTable_keep.chain rfl (setReg_keep.chain rfl .refl)) (setReg_keep.chain rfl .refl)))) (setReg_keep.chain rfl .refl)))

theorem execCanTblWrite_keep {a0 a1 s} : KeepN 1107296434 s (execCanTblWrite a0 a1 s) := by
  unfold execCanTblWrite
  exact (.next (Keep.hchain (onlyIf_keep rfl (fun _ => (writeCanTbl_keep.chain rfl .refl))) .refl))

theorem writeSteer_keep {a0 a1 s} : Keep 1107296434 s (writeSteer a0 a1 s) := by
  unfold writeSteer
  exact (Keep.ite (tcamEvent_keep.chain rfl (setCan_keep.chain rfl .refl)) (setReg_keep.chain rfl (setCan_keep.chain rfl .refl)))

theorem execSteerRegWrite_keep {a0 a1 a2 s} : KeepN 1107296434 s (execSteerRegWrite a0 a1 a2 s) := by
  unfold execSteerRegWrite
  exact (.next (Keep.hchain (onlyIf_keep rfl (fun _ => (writeSteer_keep.chain rfl .refl))) .refl))

theorem canCntClr_keep {s} : Keep 2 s (canCntClr s) := by
  unfold canCntClr
  exact (zeroRegs_keep.chain rfl .refl)

theorem tcamCntClr_keep {s} : Keep 2 s (tcamCntClr s) := by
  unfold tcamCntClr
  exact (zeroRegs_keep.chain rfl .refl)

theorem execCanCntClr_keep {s} : KeepN 2 s (execCanCntClr s) := by
  unfold execCanCntClr
  exact (.next (Keep.hchain (onlyIf_keep rfl (fun _ => (canCntClr_keep.chain rfl .refl))) .refl))

theorem execTcamCntClr_keep {s} : KeepN 2 s (execTcamCntClr s) := by
  unfold execTcamCntClr
  exact (.next (Keep.hchain (onlyIf_keep rfl (fun _ => (tcamCntClr_keep.chain rfl .refl))) .refl))

theorem skewWindow_keep {s} : Keep 1107296434 s (skewWindow s) := by
  unfold skewWindow
  exact (Keep.ite .refl (Keep.ite (tcamEvent_keep.chain rfl (bump_keep.chain rfl (setCan_keep.chain rfl .refl))) (setCan_keep.chain rfl .refl)))

theorem execSkewWindow_keep {s} : KeepN 1107296434 s (execSkewWindow s) := by
  unfold execSkewWindow
  exact (.next (Keep.hchain (onlyIf_keep rfl (fun _ => (skewWindow_keep.chain rfl .refl))) .refl))

theorem canWrRej_keep {s} : Keep 1107296434 s (canWrRej s) := by
  unfold canWrRej
  exact (canEvent_keep.chain rfl (setCan_keep.chain rfl .refl))

theorem canAccepted_keep {s} : Keep 33554432 s (canAccepted s) := by
  unfold canAccepted
  exact (setCan_keep.chain rfl .refl)

theorem ringDone_keep {a0 a1 a2 a3 a4 a5 s} : Keep 1107296434 s (ringDone a0 a1 a2 a3 a4 a5 s) := by
  unfold ringDone
  exact (canEvent_keep.chain rfl (setRegN_keep.chain rfl (setRegN_keep.chain rfl (setCan_keep.chain rfl .refl))))

theorem ringSkip_keep {k s} : Keep 1107296434 s (ringSkip k s) := by
  induction k generalizing s with
  | zero => exact .refl
  | succ k ih =>
    unfold ringSkip
    split
    · exact .refl
    · exact .ite (Keep.hchain ih (ringDone_keep.chain rfl .refl)) .refl

theorem writeRingProd_keep {a0 a1 s} : Keep 1107296434 s (writeRingProd a0 a1 s) := by
  unfold writeRingProd
  exact (Keep.ite (canWrRej_keep.chain rfl .refl) (ringSkip_keep.chain rfl (setRegN_keep.chain rfl (canAccepted_keep.chain rfl .refl))))

theorem execRingProdWrite_keep {a0 a1 s} : KeepN 1107296434 s (execRingProdWrite a0 a1 s) := by
  unfold execRingProdWrite
  exact (.next (Keep.hchain (onlyIf_keep rfl (fun _ => (writeRingProd_keep.chain rfl .refl))) .refl))

theorem writeDescriptor_keep {a0 a1 a2 s} : Keep 1107296434 s (writeDescriptor a0 a1 a2 s) := by
  unfold writeDescriptor
  exact (Keep.ite (canWrRej_keep.chain rfl .refl) (setReg_keep.chain rfl (canAccepted_keep.chain rfl .refl)))

theorem execDescriptorWrite_keep {a0 a1 a2 s} : KeepN 1107296434 s (execDescriptorWrite a0 a1 a2 s) := by
  unfold execDescriptorWrite
  exact (.next (Keep.hchain (onlyIf_keep rfl (fun _ => (writeDescriptor_keep.chain rfl .refl))) .refl))

theorem ringRun_keep {m : Nat} {a0 a1 a2 f3 s} (hm : 1107296434 &&& m = 1107296434) (hf3 : ∀ v0 v1, Keep m v1 (f3 v0 v1)) : Keep m s (ringRun a0 a1 a2 f3 s) := by
  unfold ringRun
  first | (dsimp only; split) | (extract_lets; split) | split
  · exact (ringSkip_keep.chain (mask_sub rfl hm) .refl)
  · exact (Keep.ite (ringSkip_keep.chain (mask_sub rfl hm) .refl) (ringSkip_keep.chain (mask_sub rfl hm) (Keep.hchain (hf3 ..) (ringSkip_keep.chain (mask_sub rfl hm) .refl))))

theorem ringEnd_keep {a0 a1 s} : Keep 1107296434 s (ringEnd a0 a1 s) := by
  unfold ringEnd
  exact (ringDone_keep.chain rfl .refl)

theorem mapBanks_keep {a0 s} : Keep 33554432 s (mapBanks a0 s) := by
  unfold mapBanks
  exact (setCan_keep.chain rfl .refl)

theorem tcamInsert_keep {a0 s} : Keep 1107296434 s (tcamInsert a0 s).1 := by
  unfold tcamInsert
  exact (Keep.ite1 .refl (Keep.ite1 (tcamCommit_keep.chain rfl (mapBanks_keep.chain rfl .refl)) (by
  split
  · exact (tcamEvent_keep.chain rfl .refl)
  · exact (tcamMoved_keep.chain rfl (tcamCommit_keep.chain rfl (Keep.hchain (forAll_keep rfl (fun _ _ => (setBank_keep.chain rfl .refl))) .refl)))
  )))

theorem canInsert_keep {a0 s} : Keep 1107296442 s (canInsert a0 s).1 := by
  unfold canInsert
  exact (Keep.ite1 .refl (by
  split
  · exact (setCanTable_keep.chain rfl .refl)
  · exact (placeNew_keep.chain rfl .refl)
  ))

theorem putEntry_keep {a0 s} : Keep 1107296442 s (putEntry a0 s).1 := by
  unfold putEntry
  exact (Keep.ite1 (tcamInsert_keep.chain rfl .refl) (canInsert_keep.chain rfl .refl))

theorem insertCmd_keep {a0 s} : Keep 1107296442 s (insertCmd a0 s) := by
  unfold insertCmd
  exact (ringDone_keep.chain rfl (putEntry_keep.chain rfl .refl))

theorem loadEntries_keep {l s} : Keep 1107296442 s (loadEntries l s).1 := by
  induction l generalizing s with
  | nil => exact .refl
  | cons x l ih =>
    unfold loadEntries
    extract_lets c x
    have h : Keep 1107296442 s x.1 := .ite1 .refl (putEntry_keep.chain rfl .refl)
    clear_value x
    exact .ite1 (Keep.hchain ih h) h

theorem execInsert_keep {a0 s} : KeepN 1107296442 s (execInsert a0 s) := by
  unfold execInsert
  exact (.next (Keep.hchain (onlyIf_keep rfl (fun _ => (Keep.hchain (ringRun_keep rfl (fun _ _ => (insertCmd_keep.chain rfl .refl))) .refl))) .refl))

theorem deleteCmd_keep {a0 s} : Keep 1107296434 s (deleteCmd a0 s) := by
  unfold deleteCmd
  exact (Keep.ite (Keep.ite (ringEnd_keep.chain rfl .refl) (Keep.ite (ringEnd_keep.chain rfl .refl) (ringEnd_keep.chain rfl (tcamCommit_keep.chain rfl (mapBanks_keep.chain rfl .refl))))) (Keep.ite (ringEnd_keep.chain rfl .refl) (by
  split
  · exact (ringEnd_keep.chain rfl (setCanTable_keep.chain rfl .refl))
  · exact (ringEnd_keep.chain rfl .refl)
  )))

theorem execDelete_keep {a0 s} : KeepN 1107296434 s (execDelete a0 s) := by
  unfold execDelete
  exact (.next (Keep.hchain (onlyIf_keep rfl (fun _ => (Keep.hchain (ringRun_keep rfl (fun _ _ => (deleteCmd_keep.chain rfl .refl))) .refl))) .refl))

theorem ringResult_keep {a0 a1 a2 s} : Keep 2 s (ringResult a0 a1 a2 s) := by
  unfold ringResult
  exact (setWords_keep.chain rfl .refl)

theorem searchCmd_keep {a0 s} : Keep 1107296434 s (searchCmd a0 s) := by
  unfold searchCmd
  exact (Keep.ite (Keep.ite (ringEnd_keep.chain rfl .refl) (by
  split
  · exact (ringEnd_keep.chain rfl (ringResult_keep.chain rfl .refl))
  · exact (ringEnd_keep.chain rfl .refl)
  )) (Keep.ite (ringEnd_keep.chain rfl .refl) (by
  first | (dsimp only; split) | (extract_lets; split) | split
  · exact (ringEnd_keep.chain rfl (ringResult_keep.chain rfl (canSearch_keep.chain rfl .refl)))
  · exact (ringEnd_keep.chain rfl (canSearch_keep.chain rfl .refl))
  )))

theorem execSearch_keep {a0 s} : KeepN 1107296434 s (execSearch a0 s) := by
  unfold execSearch
  exact (.next (Keep.hchain (onlyIf_keep rfl (fun _ => (Keep.hchain (ringRun_keep rfl (fun _ _ => (searchCmd_keep.chain rfl .refl))) .refl))) .refl))

theorem searchLpmCmd_keep {a0 s} : Keep 1107296434 s (searchLpmCmd a0 s) := by
  unfold searchLpmCmd
  exact (Keep.ite (ringEnd_keep.chain rfl .refl) (by
  split
  · exact (ringEnd_keep.chain rfl (ringResult_keep.chain rfl (setFld_keep.chain rfl .refl)))
  · exact (ringEnd_keep.chain rfl .refl)
  ))

theorem execSearchLpm_keep {a0 s} : KeepN 1107296434 s (execSearchLpm a0 s) := by
  unfold execSearchLpm
  exact (.next (Keep.hchain (onlyIf_keep rfl (fun _ => (Keep.hchain (ringRun_keep rfl (fun _ _ => (searchLpmCmd_keep.chain rfl .refl))) .refl))) .refl))

theorem walkCmd_keep {a0 a1 a2 a3 s} : Keep 825741017266 s (walkCmd a0 a1 a2 a3 s) := by
  unfold walkCmd
  exact (Keep.ite (ringEnd_keep.chain rfl .refl) (ringDone_keep.chain rfl (setFld_keep.chain rfl (dmaWrite_keep.chain rfl (setCan_keep.chain rfl .refl)))))

theorem walkStartCmd_keep {a0 s} : Keep 825741017274 s (walkStartCmd a0 s) := by
  unfold walkStartCmd
  exact (Keep.ite (ringEnd_keep.chain rfl .refl) (Keep.ite .refl (by
  split
  · exact (ringEnd_keep.chain rfl (drawn_keep.chain rfl .refl))
  · exact (walkCmd_keep.chain rfl (drawn_keep.chain rfl .refl))
  )))

theorem execWalkStart_keep {a0 s} : KeepN 825741017274 s (execWalkStart a0 s) := by
  unfold execWalkStart
  exact (.next (Keep.hchain (onlyIf_keep rfl (fun _ => (Keep.hchain (ringRun_keep rfl (fun _ _ => (walkStartCmd_keep.chain rfl .refl))) .refl))) .refl))

theorem nextCmd_keep {a0 s} : Keep 825741017266 s (nextCmd a0 s) := by
  unfold nextCmd
  exact (Keep.ite (ringEnd_keep.chain rfl .refl) (Keep.ite (canEvent_keep.chain rfl (ringEnd_keep.chain rfl (setCan_keep.chain rfl .refl))) (Keep.ite .refl (walkCmd_keep.chain rfl .refl))))

theorem execNext_keep {a0 s} : KeepN 825741017266 s (execNext a0 s) := by
  unfold execNext
  exact (.next (Keep.hchain (onlyIf_keep rfl (fun _ => (Keep.hchain (ringRun_keep rfl (fun _ _ => (nextCmd_keep.chain rfl .refl))) .refl))) .refl))

theorem walkTimeout_keep {a0 s} : Keep 1107296434 s (walkTimeout a0 s) := by
  unfold walkTimeout
  exact (Keep.ite (canEvent_keep.chain rfl (setCan_keep.chain rfl .refl)) .refl)

theorem execWalkHandleTimeout_keep {a0 s} : KeepN 1107296434 s (execWalkHandleTimeout a0 s) := by
  unfold execWalkHandleTimeout
  exact (.next (Keep.hchain (onlyIf_keep rfl (fun _ => (walkTimeout_keep.chain rfl .refl))) .refl))

theorem flushCmd_keep {a0 s} : Keep 1107296434 s (flushCmd a0 s) := by
  unfold flushCmd
  exact (Keep.ite (ringEnd_keep.chain rfl .refl) (Keep.ite .refl (setCan_keep.chain rfl .refl)))

theorem execFlushPort_keep {a0 s} : KeepN 1107296434 s (execFlushPort a0 s) := by
  unfold execFlushPort
  exact (.next (Keep.hchain (onlyIf_keep rfl (fun _ => (Keep.hchain (ringRun_keep rfl (fun _ _ => (flushCmd_keep.chain rfl .refl))) .refl))) .refl))

theorem sweepDone_keep {s} : Keep 1107296434 s (sweepDone s) := by
  unfold sweepDone
  split
  · exact .refl
  · exact (ringSkip_keep.chain rfl (ringDone_keep.chain rfl (setCan_keep.chain rfl (setCanTable_keep.chain rfl .refl))))

theorem execFlushSweepDone_keep {s} : KeepN 1107296434 s (execFlushSweepDone s) := by
  unfold execFlushSweepDone
  exact (.next (Keep.hchain (onlyIf_keep rfl (fun _ => (sweepDone_keep.chain rfl .refl))) .refl))

theorem ageTick_keep {a0 s} : Keep 33554432 s (ageTick a0 s) := by
  unfold ageTick
  exact (Keep.ite .refl (setCanTable_keep.chain rfl .refl))

theorem execAgeClockTick_keep {a0 s} : KeepN 33554432 s (execAgeClockTick a0 s) := by
  unfold execAgeClockTick
  exact (.next (Keep.hchain (onlyIf_keep rfl (fun _ => (ageTick_keep.chain rfl .refl))) .refl))

theorem ageEntry_keep {a0 a1 a2 a3 s} : Keep 1107296434 s (ageEntry a0 a1 a2 a3 s) := by
  unfold ageEntry
  exact (Keep.ite (postEvent_keep.chain rfl .refl) (postEvent_keep.chain rfl (bump_keep.chain rfl (setCanTable_keep.chain rfl .refl))))

theorem scanFrom_keep {t dry k n i s} : Keep 1107296434 s (scanFrom t dry k n i s).1 := by
  induction k generalizing n i s with
  | zero => exact .refl
  | succ k ih =>
    unfold scanFrom
    extract_lets c b due s1
    have h : Keep 1107296434 s s1 := forAll_keep rfl fun _ _ => ageEntry_keep.chain rfl .refl
    clear_value s1
    split
    · exact h
    · exact Keep.hchain ih (setCanTable_keep.chain rfl h)

theorem ageScanCmd_keep {a0 s} : Keep 1107296434 s (ageScanCmd a0 s) := by
  unfold ageScanCmd
  exact (Keep.ite (ringEnd_keep.chain rfl .refl) (Keep.ite .refl (Keep.ite (ringDone_keep.chain rfl (setCan_keep.chain rfl (scanFrom_keep.chain rfl (Keep.ite (setCanTable_keep.chain rfl .refl) .refl)))) (setCan_keep.chain rfl (scanFrom_keep.chain rfl (Keep.ite (setCanTable_keep.chain rfl .refl) .refl))))))

theorem execAgeScan_keep {a0 s} : KeepN 1107296434 s (execAgeScan a0 s) := by
  unfold execAgeScan
  exact (.next (Keep.hchain (onlyIf_keep rfl (fun _ => (Keep.hchain (ringRun_keep rfl (fun _ _ => (ageScanCmd_keep.chain rfl .refl))) .refl))) .refl))

theorem autoAge_keep {a0 s} : Keep 1107296434 s (autoAge a0 s) := by
  unfold autoAge
  exact (Keep.ite .refl (Keep.ite (Keep.ite (canEvent_keep.chain rfl .refl) .refl) (Keep.ite (Keep.hchain (forAll_keep rfl (fun _ _ => (ageEntry_keep.chain rfl .refl))) (Keep.ite (canEvent_keep.chain rfl .refl) .refl)) (setCanTable_keep.chain rfl (Keep.hchain (forAll_keep rfl (fun _ _ => (ageEntry_keep.chain rfl .refl))) (Keep.ite (canEvent_keep.chain rfl .refl) .refl))))))

theorem execAgeScannerBucket_keep {a0 s} : KeepN 1107296434 s (execAgeScannerBucket a0 s) := by
  unfold execAgeScannerBucket
  exact (.next (Keep.hchain (onlyIf_keep rfl (fun _ => (autoAge_keep.chain rfl .refl))) .refl))

theorem steerCmd_keep {a0 s} : Keep 1107296434 s (steerCmd a0 s) := by
  unfold steerCmd
  exact (Keep.ite (ringEnd_keep.chain rfl .refl) (Keep.ite (ringEnd_keep.chain rfl .refl) (by
  first | (dsimp only; split) | (extract_lets; split) | split
  · exact (ringEnd_keep.chain rfl (tcamEvent_keep.chain rfl .refl))
  · exact (ringEnd_keep.chain rfl (tcamMoved_keep.chain rfl (tcamCommit_keep.chain rfl (setBank_keep.chain rfl (setBank_keep.chain rfl (setFld_keep.chain rfl .refl))))))
  )))

theorem execSteer_keep {a0 s} : KeepN 1107296434 s (execSteer a0 s) := by
  unfold execSteer
  exact (.next (Keep.hchain (onlyIf_keep rfl (fun _ => (Keep.hchain (ringRun_keep rfl (fun _ _ => (steerCmd_keep.chain rfl .refl))) .refl))) .refl))

theorem learnFailed_keep {a0 s} : Keep 1090519218 s (learnFailed a0 s) := by
  unfold learnFailed
  exact (decide284_keep.chain rfl .refl)

theorem learnNew_keep {a0 s} : Keep 1124073658 s (learnNew a0 s) := by
  unfold learnNew
  first | (dsimp only; split) | (extract_lets; split) | split
  · exact (Keep.ite (learnDefer_keep.chain rfl .refl) (bump_keep.chain rfl (postEvent_keep.chain rfl (setCanTable_keep.chain rfl .refl))))
  · first | (dsimp only; split) | (extract_lets; split) | split
    · exact (bump_keep.chain rfl (postEvent_keep.chain rfl (placeNew_keep.chain rfl .refl)))
    · exact (learnFailed_keep.chain rfl (bump_keep.chain rfl (placeNew_keep.chain rfl .refl)))
    · exact (learnDefer_keep.chain rfl (placeNew_keep.chain rfl .refl))
    · exact (learnDefer_keep.chain rfl (placeNew_keep.chain rfl .refl))

theorem learnApply_keep {a0 s} : Keep 1124073658 s (learnApply a0 s) := by
  unfold learnApply
  exact (Keep.ite (bump_keep.chain rfl .refl) (by
  split
  · exact (learnNew_keep.chain rfl .refl)
  · exact (Keep.ite (Keep.ite (refresh_keep.chain rfl .refl) .refl) (Keep.ite (learnFailed_keep.chain rfl .refl) (Keep.ite (learnDefer_keep.chain rfl .refl) (bump_keep.chain rfl (postEvent_keep.chain rfl (setCanTable_keep.chain rfl .refl))))))
  ))

theorem learnStep_keep {s} : Keep 1124073658 s (learnStep s) := by
  unfold learnStep
  split
  · exact .refl
  · exact (learnApply_keep.chain rfl (setCan_keep.chain rfl .refl))

theorem execLearn_keep {s} : KeepN 1124073658 s (execLearn s) := by
  unfold execLearn
  exact (.next (Keep.hchain (onlyIf_keep rfl (fun _ => (learnStep_keep.chain rfl .refl))) .refl))

theorem popEvent_keep {a0 s} : Keep 17213423616 s (popEvent a0 s).1 := by
  unfold popEvent
  exact (snapWords_keep.chain rfl (Keep.ite (setCan_keep.chain rfl .refl) .refl))

theorem execEvtPopRead_keep {a0 s} : KeepN 17213423632 s (execEvtPopRead a0 s) := by
  unfold execEvtPopRead
  exact (.next (Keep.hchain (onlyIf_keep rfl (fun _ => (emit_keep.chain rfl (popEvent_keep.chain rfl .refl)))) .refl))

/-! ### Reef -/

theorem discardGrants_keep {a0 s} : Keep 1142432946 s (discardGrants a0 s) := by
  unfold discardGrants
  exact (bump_keep.chain rfl (setHalyard_keep.chain rfl (returnTmms_keep.chain rfl (returnFills_keep.chain rfl (Keep.hchain (forAll_keep rfl (fun _ _ => (sentFills_keep.chain rfl .refl))) .refl)))))

theorem goDark_keep {a0 s} : Keep 5437826994 s (goDark a0 s) := by
  unfold goDark
  exact (reefEvent_keep.chain rfl (rclkSettle_keep.chain rfl (setDom_keep.chain rfl (setBit_keep.chain rfl (pmStop_keep.chain rfl (setRegn_keep.chain rfl (setWaiken_keep.chain rfl (lanesOff_keep.chain rfl (stopFramer_keep.chain rfl (bksLost_keep.chain rfl (missAnswer_keep.chain rfl (discardGrants_keep.chain rfl .refl))))))))))))

theorem lanesFirst_keep {a0 s} : Keep 1073873074 s (lanesFirst a0 s) := by
  unfold lanesFirst
  exact (Keep.hchain (forAll_keep rfl (fun _ _ => (restLane_keep.chain rfl .refl))) .refl)

theorem lightPort_keep {a0 s} : Keep 5368842162 s (lightPort a0 s) := by
  unfold lightPort
  exact (Keep.ite .refl (reefEvent_keep.chain rfl (rclkSettle_keep.chain rfl (Keep.ite (startFramer_keep.chain rfl (lanesFirst_keep.chain rfl (setRegn_keep.chain rfl (Keep.ite (setBit_keep.chain rfl .refl) (setDom_keep.chain rfl (setBit_keep.chain rfl .refl)))))) (lanesFirst_keep.chain rfl (setRegn_keep.chain rfl (Keep.ite (setBit_keep.chain rfl .refl) (setDom_keep.chain rfl (setBit_keep.chain rfl .refl)))))))))

theorem clientDark_keep {a0 s} : Keep 5368840370 s (clientDark a0 s) := by
  unfold clientDark
  exact (Keep.ite .refl (reefEvent_keep.chain rfl (setDom_keep.chain rfl (setBit_keep.chain rfl (lanesOff_keep.chain rfl (Keep.hchain (forAll_keep rfl (fun _ _ => (Keep.ite (linkDown_keep.chain rfl .refl) .refl))) (Keep.ite (linkDown_keep.chain rfl .refl) .refl)))))))

theorem clientLit_keep {a0 s} : Keep 5368840370 s (clientLit a0 s) := by
  unfold clientLit
  exact (Keep.ite .refl (reefEvent_keep.chain rfl (lanesFirst_keep.chain rfl (setDom_keep.chain rfl (setBit_keep.chain rfl .refl)))))

theorem sendNotice_keep {a0 a1 a2 a3 s} : Keep 9663681722 s (sendNotice a0 a1 a2 a3 s) := by
  unfold sendNotice
  exact (Keep.ite (reefEnd_keep.chain rfl .refl) (.reef rfl rfl (Keep.hchain (forAll_keep rfl (fun _ _ => (queueTmm_keep.chain rfl .refl))) .refl)))

theorem startRequest_keep {a0 a1 a2 a3 s} : Keep 9663681722 s (startRequest a0 a1 a2 a3 s) := by
  unfold startRequest
  exact (Keep.ite (sendNotice_keep.chain rfl (.reef rfl rfl .refl)) (Keep.ite (sendNotice_keep.chain rfl (.reef rfl rfl .refl)) (Keep.ite (reefEnd_keep.chain rfl (.reef rfl rfl .refl)) (.reef rfl rfl (.reef rfl rfl .refl)))))

theorem reefRequest_keep {a0 a1 s} : Keep 9663681722 s (reefRequest a0 a1 s).1 := by
  unfold reefRequest
  exact (Keep.ite1 (.reef rfl rfl .refl) (Keep.ite1 (requestWake_keep.chain rfl (.reef rfl rfl .refl)) (startRequest_keep.chain rfl (.reef rfl rfl .refl))))

theorem execReefCmdGo_keep {a0 a1 s} : KeepN 9663681722 s (execReefCmdGo a0 a1 s) := by
  unfold execReefCmdGo
  exact (.next (reefRequest_keep.chain rfl .refl))

theorem headNotice_keep {a0 a1 s} : Keep 1073747130 s (headNotice a0 a1 s) := by
  unfold headNotice
  exact (Keep.ite (answer_keep.chain rfl (.reef rfl rfl .refl)) (answer_keep.chain rfl .refl))

theorem execReefNotice_keep {a0 s} : KeepN 1073780154 s (execReefNotice a0 s) := by
  unfold execReefNotice
  exact (.next (Keep.hchain (onlyIf_keep rfl (fun _ => (Keep.hchain (withTmm_keep rfl (fun _ _ => (headNotice_keep.chain rfl .refl))) .refl))) .refl))

theorem execReefGrantTimeout_keep {s} : KeepN 9663676418 s (execReefGrantTimeout s) := by
  unfold execReefGrantTimeout
  exact (.next (Keep.hchain (onlyIf_keep rfl (fun _ => (reefEnd_keep.chain rfl .refl))) .refl))

theorem acceptGrant_keep {a0 a1 s} : Keep 13958780858 s (acceptGrant a0 a1 s) := by
  unfold acceptGrant
  exact (answer_keep.chain rfl (reefProceed_keep.chain rfl (Keep.hchain (forAll_keep rfl (fun _ _ => (Keep.ite .refl (lightPort_keep.chain rfl .refl)))) (.reef rfl rfl .refl))))

theorem reefGrant_keep {a0 a1 s} : Keep 13958780858 s (reefGrant a0 a1 s) := by
  unfold reefGrant
  exact (Keep.ite (answer_keep.chain rfl .refl) (by
  first | (dsimp only; split) | (extract_lets; split) | split
  · exact (Keep.ite (answer_keep.chain rfl .refl) (Keep.ite (answer_keep.chain rfl .refl) (acceptGrant_keep.chain rfl .refl)))
  · exact (Keep.ite (acceptGrant_keep.chain rfl .refl) (answer_keep.chain rfl .refl))
  ))

theorem execReefGrant_keep {a0 s} : KeepN 13958813626 s (execReefGrant a0 s) := by
  unfold execReefGrant
  exact (.next (Keep.hchain (onlyIf_keep rfl (fun _ => (Keep.hchain (withTmm_keep rfl (fun _ _ => (reefGrant_keep.chain rfl .refl))) .refl))) .refl))

theorem execPortDark_keep {a0 s} : KeepN 14027761586 s (execPortDark a0 s) := by
  unfold execPortDark
  exact (.next (Keep.hchain (onlyIf_keep rfl (fun _ => (darkLeft_keep.chain rfl (goDark_keep.chain rfl .refl)))) .refl))

theorem blocksDark_keep {s} : Keep 13958774962 s (blocksDark s) := by
  unfold blocksDark
  split
  · exact (Keep.ite (darkLeft_keep.chain rfl (Keep.hchain (forAll_keep rfl (fun _ _ => (clientDark_keep.chain rfl .refl))) .refl)) .refl)
  · exact .refl

theorem execClientBlockDark_keep {s} : KeepN 13958774962 s (execClientBlockDark s) := by
  unfold execClientBlockDark
  exact (.next (Keep.hchain (onlyIf_keep rfl (fun _ => (blocksDark_keep.chain rfl .refl))) .refl))

theorem lightTimeout_keep {a0 s} : Keep 10001315514 s (lightTimeout a0 s) := by
  unfold lightTimeout
  split
  · exact (Keep.ite .refl (downstreamLost_keep.chain rfl (setRegn_keep.chain rfl .refl)))
  · exact .refl

theorem execLightTimeout_keep {a0 s} : KeepN 10001315514 s (execLightTimeout a0 s) := by
  unfold execLightTimeout
  exact (.next (Keep.hchain (onlyIf_keep rfl (fun _ => (lightTimeout_keep.chain rfl .refl))) .refl))

theorem writeCliDarkReq_keep {a0 s} : Keep 5368840370 s (writeCliDarkReq a0 s) := by
  unfold writeCliDarkReq
  exact (Keep.ite (Keep.hchain (forAll_keep rfl (fun _ _ => (Keep.ite .refl (clientLit_keep.chain rfl .refl)))) (setReg_keep.chain rfl .refl)) (setReg_keep.chain rfl .refl))

theorem execCliDarkReqWrite_keep {a0 s} : KeepN 5368840370 s (execCliDarkReqWrite a0 s) := by
  unfold execCliDarkReqWrite
  exact (.next (writeCliDarkReq_keep.chain rfl .refl))

theorem commandVoltage_keep {a0 a1 s} : Keep 1073741840 s (commandVoltage a0 a1 s) := by
  unfold commandVoltage
  exact (avsWrite_keep.chain rfl (.reef rfl rfl .refl))

theorem abortTrans_keep {a0 a1 s} : Keep 9663676594 s (abortTrans a0 a1 s) := by
  unfold abortTrans
  exact (reefEvent_keep.chain rfl (bumpLo_keep.chain rfl (reefEnd_keep.chain rfl .refl)))

theorem prepare_keep {a0 s} : Keep 9730785458 s (prepare a0 s) := by
  unfold prepare
  first | (dsimp only; split) | (extract_lets; split) | split
  · exact (abortTrans_keep.chain rfl (.reef rfl rfl .refl))
  · exact (Keep.ite (.reef rfl rfl (Keep.ite (unstageAll_keep.chain rfl (.reef rfl rfl .refl)) (.reef rfl rfl .refl))) (Keep.ite (commandVoltage_keep.chain rfl (Keep.ite (unstageAll_keep.chain rfl (.reef rfl rfl .refl)) (.reef rfl rfl .refl))) (.reef rfl rfl (Keep.ite (unstageAll_keep.chain rfl (.reef rfl rfl .refl)) (.reef rfl rfl .refl)))))

theorem execReefPrepare_keep {a0 s} : KeepN 9730785458 s (execReefPrepare a0 s) := by
  unfold execReefPrepare
  exact (.next (Keep.hchain (onlyIf_keep rfl (fun _ => (prepare_keep.chain rfl .refl))) .refl))

theorem selfRefresh_keep {a0 s} : Keep 2 s (selfRefresh a0 s) := by
  unfold selfRefresh
  exact (setHbmAvail_keep.chain rfl (Keep.hchain (forAll_keep rfl (fun _ _ => (Keep.ite (setBit_keep.chain rfl .refl) .refl))) .refl))

theorem reefDone_keep {s} : Keep 10200547506 s (reefDone s) := by
  unfold reefDone
  exact (reefEvent_keep.chain rfl (bump_keep.chain rfl (reefEnd_keep.chain rfl (.reefAll rfl rfl .refl))))

theorem commitBlocks_keep {s} : Keep 5368840370 s (commitBlocks s) := by
  unfold commitBlocks
  exact (Keep.ite (Keep.hchain (forAll_keep rfl (fun _ _ => (clientLit_keep.chain rfl .refl))) .refl) (Keep.ite .refl (Keep.hchain (forAll_keep rfl (fun _ _ => (clientDark_keep.chain rfl .refl))) .refl)))

theorem lowerBack_keep {s} : Keep 1073741840 s (lowerBack s) := by
  unfold lowerBack
  exact (Keep.ite (avsWrite_keep.chain rfl .refl) .refl)

theorem commit_keep {a0 s} : Keep 14495645874 s (commit a0 s) := by
  unfold commit
  exact (Keep.ite (abortTrans_keep.chain rfl (lowerBack_keep.chain rfl .refl)) (by
  split
  · exact (reefEvent_keep.chain rfl (bumpHi_keep.chain rfl (reefEnd_keep.chain rfl (lowerBack_keep.chain rfl .refl))))
  · exact (Keep.ite (reefDone_keep.chain rfl (.reef rfl rfl (Keep.ite (selfRefresh_keep.chain rfl (commitBlocks_keep.chain rfl .refl)) (Keep.ite (selfRefresh_keep.chain rfl (commitBlocks_keep.chain rfl .refl)) (commitBlocks_keep.chain rfl .refl))))) (commandVoltage_keep.chain rfl (.reef rfl rfl (Keep.ite (selfRefresh_keep.chain rfl (commitBlocks_keep.chain rfl .refl)) (Keep.ite (selfRefresh_keep.chain rfl (commitBlocks_keep.chain rfl .refl)) (commitBlocks_keep.chain rfl .refl))))))
  ))

theorem avsSettled_keep {s} : Keep 10200547506 s (avsSettled s) := by
  unfold avsSettled
  exact (Keep.ite (Keep.ite (.reef rfl rfl (.reef rfl rfl .refl)) (reefDone_keep.chain rfl (.reef rfl rfl .refl))) (by
  split
  · exact (.reef rfl rfl .refl)
  · exact .refl
  ))

theorem execAvsSettled_keep {s} : KeepN 10200547506 s (execAvsSettled s) := by
  unfold execAvsSettled
  exact (.next (Keep.hchain (onlyIf_keep rfl (fun _ => (avsSettled_keep.chain rfl .refl))) .refl))

theorem avsTimeout_keep {s} : Keep 10200547506 s (avsTimeout s) := by
  unfold avsTimeout
  exact (Keep.ite .refl (Keep.ite (reefEvent_keep.chain rfl (reefEnd_keep.chain rfl (avsWrite_keep.chain rfl (bump_keep.chain rfl .refl)))) (reefEvent_keep.chain rfl (.reefAll rfl rfl (reefEnd_keep.chain rfl (bump_keep.chain rfl .refl))))))

theorem execAvsTimeout_keep {s} : KeepN 10200547506 s (execAvsTimeout s) := by
  unfold execAvsTimeout
  exact (.next (Keep.hchain (onlyIf_keep rfl (fun _ => (avsTimeout_keep.chain rfl .refl))) .refl))

theorem avsRetry_keep {s} : Keep 1073741840 s (avsRetry s) := by
  unfold avsRetry
  split
  · exact (Keep.ite (emit_keep.chain rfl (.reef rfl rfl .refl)) .refl)
  · exact .refl

theorem execAvsRetry_keep {s} : KeepN 1073741840 s (execAvsRetry s) := by
  unfold execAvsRetry
  exact (.next (Keep.hchain (onlyIf_keep rfl (fun _ => (avsRetry_keep.chain rfl .refl))) .refl))

theorem armSource_keep {a0 s} : Keep 2 s (armSource a0 s) := by
  unfold armSource
  exact (setBit_keep.chain rfl (setBit_keep.chain rfl .refl))

theorem park_keep {a0 a1 s} : Keep 1073747130 s (park a0 a1 s) := by
  unfold park
  exact (Keep.ite (answer_keep.chain rfl .refl) (answer_keep.chain rfl (.reef rfl rfl (Keep.ite (Keep.hchain (withRises_keep rfl (fun _ => (armSource_keep.chain rfl .refl))) (setBit_keep.chain rfl (setRegN_keep.chain rfl (setRegN_keep.chain rfl .refl)))) (Keep.hchain (withRises_keep rfl (fun _ => (armSource_keep.chain rfl .refl))) (setBit_keep.chain rfl (Keep.hchain (withRises_keep rfl (fun _ => (armSource_keep.chain rfl .refl))) (setBit_keep.chain rfl (setRegN_keep.chain rfl (setRegN_keep.chain rfl .refl))))))))))

theorem execPark_keep {a0 s} : KeepN 1073780154 s (execPark a0 s) := by
  unfold execPark
  exact (.next (Keep.hchain (onlyIf_keep rfl (fun _ => (Keep.hchain (withTmm_keep rfl (fun _ _ => (park_keep.chain rfl .refl))) .refl))) .refl))

theorem wakePending_keep {s} : Keep 1073741826 s (wakePending s) := by
  unfold wakePending
  exact (Keep.hchain (forAll_keep rfl (fun _ _ => (Keep.ite (wakeOn_keep.chain rfl .refl) .refl))) .refl)

theorem drainLookout_keep {a0 s} : Keep 1073742002 s (drainLookout a0 s) := by
  unfold drainLookout
  exact (Keep.hchain (forAll_keep rfl (fun _ _ => (Keep.ite (emit_keep.chain rfl (bump_keep.chain rfl .refl)) (txDrop_keep.chain rfl .refl)))) .refl)

theorem drainTimed_keep {s} : Keep 4114 s (drainTimed s) := by
  unfold drainTimed
  exact (Keep.hchain (forAll_keep rfl (fun _ _ => (keyTimed_keep.chain rfl (keyTimed_keep.chain rfl .refl)))) .refl)

theorem lkoDark_keep {s} : Keep 1073748146 s (lkoDark s) :=
  Keep.lookouts rfl (Keep.timed (v := []) (x := drainLookout 1 (drainLookout 0 (drainTimed s))) rfl
    (drainLookout_keep.chain rfl (drainLookout_keep.chain rfl (drainTimed_keep.chain rfl .refl))))

theorem reefEntered_keep {a0 s} : Keep 1073741824 s (reefEntered a0 s) := by
  unfold reefEntered
  exact (.reef rfl rfl .refl)

theorem leaveAll_keep {s} : Keep 10001317562 s (leaveAll s) := by
  unfold leaveAll
  exact (lkoDark_keep.chain rfl (Keep.hchain (forAll_keep rfl (fun _ _ => (Keep.ite .refl (leave_keep.chain rfl .refl)))) .refl))

theorem linkLost_keep {s} : Keep 128 s (linkLost s) := by
  unfold linkLost
  exact (.icMsix rfl .refl)

theorem flashesPlain_keep {s} : Keep 4294967296 s (flashesPlain s) := by
  unfold flashesPlain
  exact (.boot rfl rfl .refl)

theorem reef3Off_keep {s} : Keep 635655159802 s (reef3Off s) := by
  unfold reef3Off
  exact (setReg_keep.chain rfl (flashesPlain_keep.chain rfl (linkLost_keep.chain rfl (Keep.hchain (forAll_keep rfl (fun _ _ => (setDom_keep.chain rfl .refl))) (setReg_keep.chain rfl (setBit_keep.chain rfl (coreLost_keep.chain rfl (pmStopAll_keep.chain rfl (setRegN_keep.chain rfl (setRegN_keep.chain rfl (retainTime_keep.chain rfl (lowerReady_keep.chain rfl (leaveAll_keep.chain rfl .refl)))))))))))))

theorem wakeAtOnce_keep {s} : Keep 1073741826 s (wakeAtOnce s) := by
  unfold wakeAtOnce
  exact (wakePending_keep.chain rfl (Keep.ite (.reef rfl rfl .refl) .refl))

theorem enterReef3_keep {s} : Keep 635655159802 s (enterReef3 s) := by
  unfold enterReef3
  exact (wakeAtOnce_keep.chain rfl (reefDone_keep.chain rfl (setReg_keep.chain rfl (setReg_keep.chain rfl (reefEntered_keep.chain rfl (reef3Off_keep.chain rfl .refl))))))

theorem entryStopped_keep {a0 a1 s} : Keep 14296284858 s (entryStopped a0 a1 s) := by
  unfold entryStopped
  exact (reefEvent_keep.chain rfl (bumpHi_keep.chain rfl (reefEnd_keep.chain rfl (.reef rfl rfl (Keep.hchain (forAll_keep rfl (fun _ _ => (Keep.ite (downstreamAcquired_keep.chain rfl .refl) .refl))) (Keep.ite (raiseReady_keep.chain rfl (lowerReady_keep.chain rfl (leaveAll_keep.chain rfl .refl))) (leaveAll_keep.chain rfl .refl)))))))

theorem execReef3Entry_keep {s} : KeepN 635655159802 s (execReef3Entry s) := by
  unfold execReef3Entry
  exact (.next (Keep.hchain (onlyIf_keep rfl (fun _ => (enterReef3_keep.chain rfl .refl))) .refl))

theorem entryCommit_keep {a0 s} : Keep 14296284858 s (entryCommit a0 s) := by
  unfold entryCommit
  split
  · exact (entryStopped_keep.chain rfl .refl)
  · exact .refl

theorem reefCommit_keep {a0 s} : Keep 14833155770 s (reefCommit a0 s) := by
  unfold reefCommit
  exact (Keep.ite (commit_keep.chain rfl .refl) (Keep.ite (entryCommit_keep.chain rfl .refl) .refl))

theorem execReefCommit_keep {a0 s} : KeepN 14833155770 s (execReefCommit a0 s) := by
  unfold execReefCommit
  exact (.next (Keep.hchain (onlyIf_keep rfl (fun _ => (reefCommit_keep.chain rfl .refl))) .refl))

theorem execWakeAEvent_keep {s} : KeepN 1073742002 s (execWakeAEvent s) := by
  unfold execWakeAEvent
  exact (.next (Keep.hchain (onlyIf_keep rfl (fun _ => (reefEvent_keep.chain rfl (.reef rfl rfl .refl)))) .refl))

theorem execWakeTimerExpiry_keep {s} : KeepN 1073742002 s (execWakeTimerExpiry s) := by
  unfold execWakeTimerExpiry
  exact (.next (Keep.hchain (onlyIf_keep rfl (fun _ => (reefEvent_keep.chain rfl (.reef rfl rfl .refl)))) .refl))

theorem wakeDone_keep {s} : Keep 16911434426 s (wakeDone s) := by
  unfold wakeDone
  exact (coreRise_keep.chain rfl (reefDone_keep.chain rfl (coreBoot_keep.chain rfl (.reef rfl rfl (setFld_keep.chain rfl (setStage_keep.chain rfl (setRegN_keep.chain rfl (bumpLo_keep.chain rfl (Keep.hchain (forAll_keep rfl (fun _ _ => (setDom_keep.chain rfl .refl))) .refl)))))))))

theorem wakeStops_keep {a0 a1 s} : Keep 5368709136 s (wakeStops a0 a1 s) := by
  unfold wakeStops
  exact (.reef rfl rfl (Keep.hchain (forAll_keep rfl (fun _ _ => (setDom_keep.chain rfl .refl))) .refl))

theorem wakeSequence_keep {a0 s} : Keep 16911434426 s (wakeSequence a0 s) := by
  unfold wakeSequence
  first | (dsimp only; split) | (extract_lets; split) | split
  · exact (wakeDone_keep.chain rfl (.reef rfl rfl .refl))
  · exact (wakeStops_keep.chain rfl (.reef rfl rfl .refl))

theorem wakeTwoStops_keep {a0 s} : Keep 1073741824 s (wakeTwoStops a0 s) := by
  unfold wakeTwoStops
  split
  · exact .refl
  · exact (.reef rfl rfl .refl)

theorem wakeSteps_keep {a0 s} : Keep 16911434426 s (wakeSteps a0 s) := by
  unfold wakeSteps
  exact (Keep.ite (Keep.hchain (onlyIf_keep rfl (fun _ => (wakeSequence_keep.chain rfl .refl))) .refl) (Keep.hchain (onlyIf_keep rfl (fun _ => (wakeTwoStops_keep.chain rfl .refl))) .refl))

theorem execWakeSequence_keep {a0 s} : KeepN 16911434426 s (execWakeSequence a0 s) := by
  unfold execWakeSequence
  exact (.next (wakeSteps_keep.chain rfl .refl))

theorem wakeFailAlert_keep {a0 s} : Keep 16 s (wakeFailAlert a0 s) := by
  unfold wakeFailAlert
  exact (Keep.ite (emit_keep.chain rfl .refl) .refl)

theorem wakeFails_keep {s} : Keep 14495514802 s (wakeFails s) := by
  unfold wakeFails
  exact (Keep.ite (setDom_keep.chain rfl (wakeFailAlert_keep.chain rfl (wakeFailAlert_keep.chain rfl (reefEvent_keep.chain rfl (bumpHi_keep.chain rfl (reefEnd_keep.chain rfl (.reefAll rfl rfl (Keep.hchain (forAll_keep rfl (fun _ _ => (setDom_keep.chain rfl .refl))) .refl)))))))) (reefEvent_keep.chain rfl (bumpHi_keep.chain rfl (reefEnd_keep.chain rfl (.reefAll rfl rfl (Keep.hchain (forAll_keep rfl (fun _ _ => (setDom_keep.chain rfl .refl))) .refl))))))

theorem wakeGoesOn_keep {a0 s} : Keep 16911434426 s (wakeGoesOn a0 s) := by
  unfold wakeGoesOn
  exact (Keep.ite (.reef rfl rfl .refl) (by
  split
  · exact (Keep.ite (wakeStops_keep.chain rfl .refl) (wakeDone_keep.chain rfl .refl))
  · exact (wakeDone_keep.chain rfl .refl)
  ))

theorem wakeTwoFails_keep {s} : Keep 10200547506 s (wakeTwoFails s) := by
  unfold wakeTwoFails
  exact (reefEvent_keep.chain rfl (bumpHi_keep.chain rfl (reefEnd_keep.chain rfl (.reefAll rfl rfl (lowerBack_keep.chain rfl .refl)))))

theorem wakeRetried_keep {a0 s} : Keep 16911434426 s (wakeRetried a0 s) := by
  unfold wakeRetried
  split
  · exact (wakeGoesOn_keep.chain rfl .refl)
  · exact (Keep.ite (wakeFails_keep.chain rfl .refl) (wakeTwoFails_keep.chain rfl .refl))

theorem execWakeStepRetry_keep {a0 s} : KeepN 16911434426 s (execWakeStepRetry a0 s) := by
  unfold execWakeStepRetry
  exact (.next (Keep.hchain (onlyIf_keep rfl (fun _ => (wakeRetried_keep.chain rfl .refl))) .refl))

theorem execReefClrFail_keep {s} : KeepN 1073741824 s (execReefClrFail s) := by
  unfold execReefClrFail
  exact (.next (.reef rfl rfl .refl))

theorem reefCntClr_keep {s} : Keep 2 s (reefCntClr s) := by
  unfold reefCntClr
  exact (zeroRegs_keep.chain rfl .refl)

theorem execReefCntClr_keep {s} : KeepN 2 s (execReefCntClr s) := by
  unfold execReefCntClr
  exact (.next (reefCntClr_keep.chain rfl .refl))

end Sys2Proof.Machine
end

