-- ==== Sys2Proof/Laws/Keep6.lean ====
section
/-! SUPPORT. What each operation of these files of the machine keeps: Scheduler, Flash, Tsi, Faults. -/
namespace Sys2Proof.Machine
open Sys2Proof

/-! ### Scheduler -/

theorem moveQueue_keep {m : Nat} {a0 f1 s} (hm : 67108864 &&& m = 67108864) (hf1 : ∀ v0, Keep m v0 (f1 v0)) : Keep m s (moveQueue a0 f1 s) := by
  unfold moveQueue
  exact (Keep.ite (setQueue_keep.chain (mask_sub rfl hm) (Keep.hchain (hf1 ..) (leaveRound_keep.chain (mask_sub rfl hm) .refl))) (joinRound_keep.chain (mask_sub rfl hm) (setQueue_keep.chain (mask_sub rfl hm) (Keep.hchain (hf1 ..) (leaveRound_keep.chain (mask_sub rfl hm) .refl)))))

theorem writeCtx_keep {a0 a1 s} : Keep 67108866 s (writeCtx a0 a1 s) := by
  unfold writeCtx
  exact (Keep.ite .refl (Keep.hchain (moveQueue_keep rfl (fun _ => (setRegN_keep.chain rfl .refl))) .refl))

theorem execQCtxWrite_keep {a0 a1 s} : KeepN 67108866 s (execQCtxWrite a0 a1 s) := by
  unfold execQCtxWrite
  exact (.next (Keep.hchain (onlyIf_keep rfl (fun _ => (writeCtx_keep.chain rfl .refl))) .refl))

theorem writeLevel_keep {a0 a1 s} : Keep 67108866 s (writeLevel a0 a1 s) := by
  unfold writeLevel
  exact (Keep.ite (setReg_keep.chain rfl .refl) (Keep.hchain (moveQueue_keep rfl (fun _ => (setReg_keep.chain rfl .refl))) .refl))

theorem execQLevelWrite_keep {a0 a1 a2 s} : KeepN 67108866 s (execQLevelWrite a0 a1 a2 s) := by
  unfold execQLevelWrite
  exact (.next (Keep.hchain (onlyIf_keep rfl (fun _ => (writeLevel_keep.chain rfl .refl))) .refl))

theorem refillTick_keep {s} : Keep 134217728 s (refillTick s) := by
  unfold refillTick
  exact (Keep.ite (.sch rfl .refl) .refl)

theorem execShaperRefillTick_keep {s} : KeepN 134217728 s (execShaperRefillTick s) := by
  unfold execShaperRefillTick
  exact (.next (Keep.hchain (onlyIf_keep rfl (fun _ => (refillTick_keep.chain rfl .refl))) .refl))

theorem setMeter_keep {a0 a1 s} : Keep 134217728 s (setMeter a0 a1 s) := by
  unfold setMeter
  exact (.sch rfl .refl)

theorem meterFrame_keep {a0 a1 a2 s} : Keep 134217728 s (meterFrame a0 a1 a2 s).1 := by
  unfold meterFrame
  exact (Keep.ite1 .refl (setMeter_keep.chain rfl .refl))

theorem endCmd_keep {a0 s} : Keep 1207959730 s (endCmd a0 s) := by
  unfold endCmd
  exact (Keep.ite (schEvent_keep.chain rfl (setFld_keep.chain rfl (.sch rfl .refl))) (schEvent_keep.chain rfl (schEvent_keep.chain rfl (setFld_keep.chain rfl (.sch rfl .refl)))))

theorem writeCmd_keep {a0 s} : Keep 1207959730 s (writeCmd a0 s) := by
  unfold writeCmd
  exact (Keep.ite (schEvent_keep.chain rfl (setBit_keep.chain rfl .refl)) (Keep.ite .refl (Keep.ite (endCmd_keep.chain rfl (setBit_keep.chain rfl (.sch rfl .refl))) (setBit_keep.chain rfl (.sch rfl .refl)))))

theorem execSchCmdGo_keep {a0 s} : KeepN 1207959730 s (execSchCmdGo a0 s) := by
  unfold execSchCmdGo
  exact (.next (Keep.hchain (onlyIf_keep rfl (fun _ => (writeCmd_keep.chain rfl .refl))) .refl))

theorem execSchCmdOverrun_keep {a0 s} : KeepN 1207959730 s (execSchCmdOverrun a0 s) := by
  unfold execSchCmdOverrun
  exact (.next (Keep.hchain (onlyIf_keep rfl (fun _ => (writeCmd_keep.chain rfl .refl))) .refl))

theorem doCmd_keep {m : Nat} {a0 f1 s} (hm : 1207959730 &&& m = 1207959730) (hf1 : ∀ v0 v1, Keep m v1 (f1 v0 v1).1) : Keep m s (doCmd a0 f1 s) := by
  unfold doCmd
  split
  · exact (Keep.ite (endCmd_keep.chain (mask_sub rfl hm) (Keep.hchain (hf1 ..) .refl)) .refl)
  · exact .refl

theorem meterSet_keep {a0 s} : Keep 134217728 s (meterSet a0 s).1 := by
  unfold meterSet
  exact (Keep.ite1 .refl (setMeter_keep.chain rfl .refl))

theorem execMeterSet_keep {s} : KeepN 1207959730 s (execMeterSet s) := by
  unfold execMeterSet
  exact (.next (Keep.hchain (onlyIf_keep rfl (fun _ => (Keep.hchain (doCmd_keep rfl (fun _ _ => (meterSet_keep.chain rfl .refl))) .refl))) .refl))

theorem meterRead_keep {a0 s} : Keep 2 s (meterRead a0 s).1 := by
  unfold meterRead
  exact (Keep.hchain (forAll_keep rfl (fun _ _ => (setRegN_keep.chain rfl .refl))) .refl)

theorem execMeterRead_keep {s} : KeepN 1207959730 s (execMeterRead s) := by
  unfold execMeterRead
  exact (.next (Keep.hchain (onlyIf_keep rfl (fun _ => (Keep.hchain (doCmd_keep rfl (fun _ _ => (meterRead_keep.chain rfl .refl))) .refl))) .refl))

theorem meterClr_keep {a0 s} : Keep 134217728 s (meterClr a0 s).1 := by
  unfold meterClr
  exact (setMeter_keep.chain rfl .refl)

theorem execMeterClr_keep {s} : KeepN 1207959730 s (execMeterClr s) := by
  unfold execMeterClr
  exact (.next (Keep.hchain (onlyIf_keep rfl (fun _ => (Keep.hchain (doCmd_keep rfl (fun _ _ => (meterClr_keep.chain rfl .refl))) .refl))) .refl))

theorem shaperSet_keep {a0 s} : Keep 134217728 s (shaperSet a0 s).1 := by
  unfold shaperSet
  exact (Keep.ite1 .refl (setShaper_keep.chain rfl .refl))

theorem execShaperSet_keep {s} : KeepN 1207959730 s (execShaperSet s) := by
  unfold execShaperSet
  exact (.next (Keep.hchain (onlyIf_keep rfl (fun _ => (Keep.hchain (doCmd_keep rfl (fun _ _ => (shaperSet_keep.chain rfl .refl))) .refl))) .refl))

theorem shaperRead_keep {a0 s} : Keep 2 s (shaperRead a0 s).1 := by
  unfold shaperRead
  exact (Keep.ite1 .refl (Keep.hchain (forAll_keep rfl (fun _ _ => (setRegN_keep.chain rfl .refl))) .refl))

theorem execShaperRead_keep {s} : KeepN 1207959730 s (execShaperRead s) := by
  unfold execShaperRead
  exact (.next (Keep.hchain (onlyIf_keep rfl (fun _ => (Keep.hchain (doCmd_keep rfl (fun _ _ => (shaperRead_keep.chain rfl .refl))) .refl))) .refl))

theorem setChange_keep {a0 a1 s} : Keep 134217728 s (setChange a0 a1 s) := by
  unfold setChange
  exact (.sch rfl .refl)

theorem glChange_keep {a0 s} : Keep 1207959730 s (glChange a0 s).1 := by
  unfold glChange
  exact (Keep.ite1 (Keep.ite1 .refl (Keep.ite1 .refl (Keep.ite1 .refl (setChange_keep.chain rfl .refl)))) (schEvent_keep.chain rfl (Keep.ite1 .refl (Keep.ite1 .refl (Keep.ite1 .refl (setChange_keep.chain rfl .refl))))))

theorem execGlChange_keep {s} : KeepN 1207959730 s (execGlChange s) := by
  unfold execGlChange
  exact (.next (Keep.hchain (onlyIf_keep rfl (fun _ => (Keep.hchain (doCmd_keep rfl (fun _ _ => (glChange_keep.chain rfl .refl))) .refl))) .refl))

theorem takeEntry_keep {a0 s} : Keep 134217728 s (takeEntry a0 s) := by
  unfold takeEntry
  exact (.sch rfl .refl)

theorem glEffect_keep {a0 s} : Keep 1207959730 s (glEffect a0 s) := by
  unfold glEffect
  split
  · exact (Keep.ite (schEvent_keep.chain rfl (takeEntry_keep.chain rfl (setChange_keep.chain rfl (.sch rfl .refl)))) .refl)
  · exact .refl

theorem execGlChangeEffect_keep {a0 s} : KeepN 1207959730 s (execGlChangeEffect a0 s) := by
  unfold execGlChangeEffect
  exact (.next (Keep.hchain (onlyIf_keep rfl (fun _ => (glEffect_keep.chain rfl .refl))) .refl))

theorem execGateTransition_keep {a0 s} : KeepN 134217728 s (execGateTransition a0 s) := by
  unfold execGateTransition
  exact (.next (Keep.hchain (onlyIf_keep rfl (fun _ => (takeEntry_keep.chain rfl .refl))) .refl))

theorem glCancel_keep {a0 s} : Keep 1207959730 s (glCancel a0 s).1 := by
  unfold glCancel
  exact (Keep.ite1 .refl (Keep.ite1 (setChange_keep.chain rfl .refl) (glEffect_keep.chain rfl .refl)))

theorem execGlCancel_keep {s} : KeepN 1207959730 s (execGlCancel s) := by
  unfold execGlCancel
  exact (.next (Keep.hchain (onlyIf_keep rfl (fun _ => (Keep.hchain (doCmd_keep rfl (fun _ _ => (glCancel_keep.chain rfl .refl))) .refl))) .refl))

theorem glRealign_keep {a0 s} : Keep 1207959730 s (glRealign a0 s) := by
  unfold glRealign
  exact (Keep.ite (Keep.hchain (forAll_keep rfl (fun _ _ => (takeEntry_keep.chain rfl (glEffect_keep.chain rfl .refl)))) .refl) (schEvent_keep.chain rfl (bump_keep.chain rfl (Keep.hchain (forAll_keep rfl (fun _ _ => (takeEntry_keep.chain rfl (glEffect_keep.chain rfl .refl)))) .refl))))

theorem schCntClr_keep {s} : Keep 134217730 s (schCntClr s) := by
  unfold schCntClr
  exact (.sch rfl (zeroRegs_keep.chain rfl .refl))

theorem execSchCntClr_keep {s} : KeepN 134217730 s (execSchCntClr s) := by
  unfold execSchCntClr
  exact (.next (Keep.hchain (onlyIf_keep rfl (fun _ => (schCntClr_keep.chain rfl .refl))) .refl))

/-! ### Flash -/

theorem flashPut_keep {f a l s} : Keep 137438953472 s (flashPut f a l s) :=
  ⟨fun p hp => by cases p <;> first | exact rfl | exact ⟨rfl, rfl, rfl, rfl, rfl⟩ | exact absurd hp (by decide), List.prefix_refl _, Nat.le_refl _,
   fun h => ⟨h.1, h.2.1, fun g => by
    show memWf 0xFF ((s.flash.put f (memWrite 0xFF (flashOf s f) a l)).look [] g) = true
    rw [Tab.look_put]
    split
    · exact memWrite_wf _ _ (h.2.2 f)
    · exact h.2.2 g⟩, id⟩

theorem flashErase_keep {f a n s} : Keep 137438953472 s (flashErase f a n s) :=
  ⟨fun p hp => by cases p <;> first | exact rfl | exact ⟨rfl, rfl, rfl, rfl, rfl⟩ | exact absurd hp (by decide), List.prefix_refl _, Nat.le_refl _,
   fun h => ⟨h.1, h.2.1, fun g => by
    show memWf 0xFF ((s.flash.put f ((flashOf s f).filter fun c => !within a n c.1)).look [] g) = true
    rw [Tab.look_put]
    split
    · exact memFilter_wf _ (h.2.2 f)
    · exact h.2.2 g⟩, id⟩

theorem appendRecord_keep {a0 a1 a2 s} : Keep 137438953472 s (appendRecord a0 a1 a2 s) := by
  unfold appendRecord
  first | (dsimp only; split) | (extract_lets; split) | split
  · exact (flashPut_keep.chain rfl .refl)
  · exact (flashPut_keep.chain rfl (flashErase_keep.chain rfl .refl))

theorem flashWrites_keep {s} : Keep 4294967296 s (flashWrites s) := by
  unfold flashWrites
  exact (.boot rfl rfl .refl)

/-! ### Tsi -/

theorem calSettle_keep {s} : Keep 1073742002 s (calSettle s) := by
  unfold calSettle
  exact (Keep.hchain (forAll_keep rfl (fun _ _ => (Keep.ite (tsiEvent_keep.chain rfl (Keep.ite .refl (setBit_keep.chain rfl .refl))) (Keep.ite .refl (setBit_keep.chain rfl .refl))))) .refl)

theorem cutLast_keep {a0 a1 a2 s} : Keep 1074266290 s (cutLast a0 a1 a2 s) := by
  unfold cutLast
  exact (storeContainer_keep.chain rfl (setTsi_keep.chain rfl .refl))

theorem cutActive_keep {a0 a1 s} : Keep 1074266290 s (cutActive a0 a1 s) := by
  unfold cutActive
  split
  · exact .refl
  · exact (Keep.ite (storeContainer_keep.chain rfl (setUpConn_keep.chain rfl .refl)) .refl)

theorem cutContainer_keep {a0 a1 s} : Keep 1074266290 s (cutContainer a0 a1 s) := by
  unfold cutContainer
  split
  · exact (cutLast_keep.chain rfl .refl)
  · exact (cutActive_keep.chain rfl .refl)

theorem execContainerCut_keep {a0 a1 s} : KeepN 1074266290 s (execContainerCut a0 a1 s) := by
  unfold execContainerCut
  exact (.next (Keep.hchain (onlyIf_keep rfl (fun _ => (cutContainer_keep.chain rfl .refl))) .refl))

theorem acceptContainer_keep {a0 a1 a2 a3 a4 s} : Keep 1074266290 s (acceptContainer a0 a1 a2 a3 a4 s) := by
  unfold acceptContainer
  exact (Keep.ite (Keep.ite (setDnConn_keep.chain rfl (bump64_keep.chain rfl .refl)) (tsiEvent_keep.chain rfl (bump_keep.chain rfl (setDnConn_keep.chain rfl (bump64_keep.chain rfl .refl))))) (tsiEvent_keep.chain rfl (Keep.ite (setDnConn_keep.chain rfl (bump64_keep.chain rfl .refl)) (tsiEvent_keep.chain rfl (bump_keep.chain rfl (setDnConn_keep.chain rfl (bump64_keep.chain rfl .refl)))))))

theorem slotContainer_keep {a0 a1 a2 s} : Keep 1074266290 s (slotContainer a0 a1 a2 s) := by
  unfold slotContainer
  exact (Keep.ite (acceptContainer_keep.chain rfl .refl) (Keep.ite (acceptContainer_keep.chain rfl (tsiEvent_keep.chain rfl (bump_keep.chain rfl .refl))) (Keep.ite (acceptContainer_keep.chain rfl .refl) (bump_keep.chain rfl .refl))))

theorem deliverRigid_keep {a0 a1 a2 s} : Keep 1074266290 s (deliverRigid a0 a1 a2 s) := by
  unfold deliverRigid
  exact (Keep.ite .refl (Keep.ite (tsiEvent_keep.chain rfl (bump_keep.chain rfl .refl)) (Keep.ite (bump_keep.chain rfl .refl) (Keep.hchain (forAll_keep rfl (fun _ _ => (slotContainer_keep.chain rfl .refl))) .refl))))

theorem playStart_keep {a0 s} : Keep 524288 s (playStart a0 s) := by
  unfold playStart
  exact (Keep.ite (setDnConn_keep.chain rfl .refl) .refl)

theorem execPlayoutStart_keep {a0 s} : KeepN 524288 s (execPlayoutStart a0 s) := by
  unfold execPlayoutStart
  exact (.next (Keep.hchain (onlyIf_keep rfl (fun _ => (playStart_keep.chain rfl .refl))) .refl))

theorem underrun_keep {a0 s} : Keep 1074266290 s (underrun a0 s) := by
  unfold underrun
  exact (Keep.ite (tsiEvent_keep.chain rfl (bump_keep.chain rfl (setDnConn_keep.chain rfl .refl))) .refl)

theorem execPlayoutUnderrun_keep {a0 s} : KeepN 1074266290 s (execPlayoutUnderrun a0 s) := by
  unfold execPlayoutUnderrun
  exact (.next (Keep.hchain (onlyIf_keep rfl (fun _ => (underrun_keep.chain rfl .refl))) .refl))

theorem slotsTick_keep {s} : Keep 524304 s (slotsTick s) := by
  unfold slotsTick
  exact (setTsi_keep.chain rfl (Keep.hchain (forAll_keep rfl (fun _ _ => (emit_keep.chain rfl .refl))) .refl))

theorem sendOverhead_keep {a0 s} : Keep 16 s (sendOverhead a0 s) := by
  unfold sendOverhead
  exact (emit_keep.chain rfl .refl)

theorem overheadRx_keep {a0 a1 s} : Keep 1074266290 s (overheadRx a0 a1 s) := by
  unfold overheadRx
  exact (Keep.ite .refl (sendOverhead_keep.chain rfl (calSettle_keep.chain rfl (Keep.ite (Keep.ite (Keep.hchain (forAll_keep rfl (fun _ _ => (setReg_keep.chain rfl (setReg_keep.chain rfl .refl)))) (setBit_keep.chain rfl (setBit_keep.chain rfl (setBit_keep.chain rfl (setBit_keep.chain rfl (setBit_keep.chain rfl (setTsi_keep.chain rfl .refl))))))) (setBit_keep.chain rfl (setTsi_keep.chain rfl .refl))) (tsiEvent_keep.chain rfl (Keep.ite (Keep.hchain (forAll_keep rfl (fun _ _ => (setReg_keep.chain rfl (setReg_keep.chain rfl .refl)))) (setBit_keep.chain rfl (setBit_keep.chain rfl (setBit_keep.chain rfl (setBit_keep.chain rfl (setBit_keep.chain rfl (setTsi_keep.chain rfl .refl))))))) (setBit_keep.chain rfl (setTsi_keep.chain rfl .refl))))))))

theorem execFlexeOverheadRx_keep {a0 a1 s} : KeepN 1074266290 s (execFlexeOverheadRx a0 a1 s) := by
  unfold execFlexeOverheadRx
  exact (.next (Keep.hchain (onlyIf_keep rfl (fun _ => (overheadRx_keep.chain rfl .refl))) .refl))

theorem changeC_keep {a0 s} : Keep 1074266290 s (changeC a0 s) := by
  unfold changeC
  exact (Keep.ite .refl (sendOverhead_keep.chain rfl (calSettle_keep.chain rfl (setBit_keep.chain rfl (setBit_keep.chain rfl (setTsi_keep.chain rfl .refl))))))

theorem execCalendarCChange_keep {a0 s} : KeepN 1074266290 s (execCalendarCChange a0 s) := by
  unfold execCalendarCChange
  exact (.next (Keep.hchain (onlyIf_keep rfl (fun _ => (changeC_keep.chain rfl .refl))) .refl))

theorem setWrRej_keep {a0 s} : Keep 524288 s (setWrRej a0 s) := by
  unfold setWrRej
  exact (setTsi_keep.chain rfl .refl)

theorem pageArm_keep {s} : Keep 524288 s (pageArm s) := by
  unfold pageArm
  exact (setTsi_keep.chain rfl .refl)

theorem execPageArm_keep {s} : KeepN 524288 s (execPageArm s) := by
  unfold execPageArm
  exact (.next (Keep.hchain (onlyIf_keep rfl (fun _ => (pageArm_keep.chain rfl .refl))) .refl))

theorem pageArmDone_keep {s} : Keep 1074266290 s (pageArmDone s) := by
  unfold pageArmDone
  exact (Keep.ite .refl (by
  first | (dsimp only; split) | (extract_lets; split) | split
  · exact (setRegN_keep.chain rfl (setTsi_keep.chain rfl (setTsi_keep.chain rfl .refl)))
  · exact (tsiEvent_keep.chain rfl (bump_keep.chain rfl (setRegN_keep.chain rfl (setTsi_keep.chain rfl .refl))))
  ))

theorem execPageArmDone_keep {s} : KeepN 1074266290 s (execPageArmDone s) := by
  unfold execPageArmDone
  exact (.next (Keep.hchain (onlyIf_keep rfl (fun _ => (pageArmDone_keep.chain rfl .refl))) .refl))

theorem pageDisarm_keep {s} : Keep 524288 s (pageDisarm s) := by
  unfold pageDisarm
  exact (Keep.ite (setWrRej_keep.chain rfl .refl) (setTsi_keep.chain rfl .refl))

theorem execPageDisarm_keep {s} : KeepN 524288 s (execPageDisarm s) := by
  unfold execPageDisarm
  exact (.next (Keep.hchain (onlyIf_keep rfl (fun _ => (pageDisarm_keep.chain rfl .refl))) .refl))

theorem requestCals_keep {s} : Keep 2 s (requestCals s) := by
  unfold requestCals
  exact (Keep.hchain (forAll_keep rfl (fun _ _ => (setBit_keep.chain rfl .refl))) .refl)

theorem clearDn_keep {a0 s} : Keep 1074266290 s (clearDn a0 s) := by
  unfold clearDn
  exact (Keep.ite (tsiEvent_keep.chain rfl (setDnConn_keep.chain rfl .refl)) (setDnConn_keep.chain rfl .refl))

theorem endConns_keep {a0 s} : Keep 524288 s (endConns a0 s) := by
  unfold endConns
  exact (setTsi_keep.chain rfl .refl)

theorem switchPages_keep {s} : Keep 1074266290 s (switchPages s) := by
  unfold switchPages
  exact (calSettle_keep.chain rfl (tsiEvent_keep.chain rfl (bumpLo_keep.chain rfl (Keep.ite (requestCals_keep.chain rfl (setReg64_keep.chain rfl (setTsi_keep.chain rfl (Keep.hchain (forAll_keep rfl (fun _ _ => (clearDn_keep.chain rfl .refl))) (Keep.hchain (forAll_keep rfl (fun _ _ => (setUpConn_keep.chain rfl .refl))) (endConns_keep.chain rfl .refl)))))) (tsiEvent_keep.chain rfl (requestCals_keep.chain rfl (setReg64_keep.chain rfl (setTsi_keep.chain rfl (Keep.hchain (forAll_keep rfl (fun _ _ => (clearDn_keep.chain rfl .refl))) (Keep.hchain (forAll_keep rfl (fun _ _ => (setUpConn_keep.chain rfl .refl))) (endConns_keep.chain rfl .refl)))))))))))

theorem pageSwitch_keep {s} : Keep 1074266290 s (pageSwitch s) := by
  unfold pageSwitch
  split
  · exact (Keep.ite (switchPages_keep.chain rfl .refl) .refl)
  · exact .refl

theorem execPageSwitch_keep {s} : KeepN 1074266290 s (execPageSwitch s) := by
  unfold execPageSwitch
  exact (.next (Keep.hchain (onlyIf_keep rfl (fun _ => (pageSwitch_keep.chain rfl .refl))) .refl))

theorem pageForce_keep {s} : Keep 1074266290 s (pageForce s) := by
  unfold pageForce
  exact (Keep.ite (switchPages_keep.chain rfl (setWrRej_keep.chain rfl .refl)) .refl)

theorem execPageForce_keep {s} : KeepN 1074266290 s (execPageForce s) := by
  unfold execPageForce
  exact (.next (Keep.hchain (onlyIf_keep rfl (fun _ => (pageForce_keep.chain rfl .refl))) .refl))

theorem tsiSwitch_keep {a0 a1 s} : Keep 1074271418 s (tsiSwitch a0 a1 s) := by
  unfold tsiSwitch
  exact (Keep.ite (answer_keep.chain rfl .refl) (by
  split
  · exact (Keep.ite (answer_keep.chain rfl .refl) (answer_keep.chain rfl .refl))
  · exact (Keep.ite (answer_keep.chain rfl .refl) (answer_keep.chain rfl (requestCals_keep.chain rfl (setReg64_keep.chain rfl (setTsi_keep.chain rfl .refl)))))
  ))

theorem execTsiSwitch_keep {a0 s} : KeepN 1074304442 s (execTsiSwitch a0 s) := by
  unfold execTsiSwitch
  exact (.next (Keep.hchain (onlyIf_keep rfl (fun _ => (Keep.hchain (withTmm_keep rfl (fun _ _ => (tsiSwitch_keep.chain rfl .refl))) .refl))) .refl))

theorem tsiEnable_keep {a0 s} : Keep 1074266290 s (tsiEnable a0 s) := by
  unfold tsiEnable
  exact (Keep.ite (setBit_keep.chain rfl .refl) (cancelSwitch_keep.chain rfl (setBit_keep.chain rfl .refl)))

theorem execTsiEnableWrite_keep {a0 s} : KeepN 1074266290 s (execTsiEnableWrite a0 s) := by
  unfold execTsiEnableWrite
  exact (.next (Keep.hchain (onlyIf_keep rfl (fun _ => (tsiEnable_keep.chain rfl .refl))) .refl))

theorem tsiCntClr_keep {s} : Keep 2 s (tsiCntClr s) := by
  unfold tsiCntClr
  exact (zeroRegs_keep.chain rfl .refl)

theorem execTsiCntClr_keep {s} : KeepN 2 s (execTsiCntClr s) := by
  unfold execTsiCntClr
  exact (.next (Keep.hchain (onlyIf_keep rfl (fun _ => (tsiCntClr_keep.chain rfl .refl))) .refl))

/-! ### Faults -/

theorem stkEvent_keep {a0 a1 s} : Keep 1073742002 s (stkEvent a0 a1 s) := by
  unfold stkEvent
  exact (raise_keep.chain rfl .refl)

theorem logCe_keep {a0 a1 s} : Keep 8589934594 s (logCe a0 a1 s) := by
  unfold logCe
  exact (Keep.ite (.faults rfl .refl) (writeLog_keep.chain rfl (.faults rfl .refl)))

theorem correctable_keep {a0 a1 s} : Keep 9663676594 s (correctable a0 a1 s) := by
  unfold correctable
  exact (logCe_keep.chain rfl (Keep.ite (fltEvent_keep.chain rfl (bump_keep.chain rfl (Keep.ite (Keep.ite (stkEvent_keep.chain rfl (bump_keep.chain rfl (.faults rfl .refl))) (bump_keep.chain rfl (.faults rfl .refl))) (.faults rfl .refl)))) (bump_keep.chain rfl (Keep.ite (Keep.ite (stkEvent_keep.chain rfl (bump_keep.chain rfl (.faults rfl .refl))) (bump_keep.chain rfl (.faults rfl .refl))) (.faults rfl .refl)))))

theorem execCorrectableError_keep {a0 a1 s} : KeepN 9663676594 s (execCorrectableError a0 a1 s) := by
  unfold execCorrectableError
  exact (.next (Keep.hchain (onlyIf_keep rfl (fun _ => (correctable_keep.chain rfl .refl))) .refl))

theorem passEnds_keep {a0 s} : Keep 8589934594 s (passEnds a0 s) := by
  unfold passEnds
  exact (Keep.ite (Keep.hchain (forAll_keep rfl (fun _ _ => (bump_keep.chain rfl .refl))) (.faults rfl .refl)) (.faults rfl .refl))

theorem scrub_keep {a0 a1 a2 s} : Keep 9663676594 s (scrub a0 a1 a2 s) := by
  unfold scrub
  exact (Keep.ite (correctable_keep.chain rfl (Keep.ite (passEnds_keep.chain rfl (.faults rfl .refl)) (.faults rfl .refl))) (Keep.ite (passEnds_keep.chain rfl (.faults rfl .refl)) (.faults rfl .refl)))

theorem execScrubRead_keep {a0 a1 a2 s} : KeepN 9663676594 s (execScrubRead a0 a1 a2 s) := by
  unfold execScrubRead
  exact (.next (Keep.hchain (onlyIf_keep rfl (fun _ => (scrub_keep.chain rfl .refl))) .refl))

theorem damageFrame_keep {a0 s} : Keep 1140850874 s (damageFrame a0 s) := by
  unfold damageFrame
  split
  · exact (markDamaged_keep.chain rfl (drawn_keep.chain rfl .refl))
  · exact (drawn_keep.chain rfl .refl)

theorem dropContainer_keep {s} : Keep 1074266298 s (dropContainer s) := by
  unfold dropContainer
  first | (dsimp only; split) | (extract_lets; split) | split
  · exact (drawn_keep.chain rfl .refl)
  · exact (bump_keep.chain rfl (setUpConn_keep.chain rfl (drawn_keep.chain rfl .refl)))
  · exact (tsiEvent_keep.chain rfl (bump_keep.chain rfl (setDnConn_keep.chain rfl (drawn_keep.chain rfl .refl))))

theorem pointerSeen_keep {a0 s} : Keep 1073742010 s (pointerSeen a0 s) := by
  unfold pointerSeen
  exact (bufEvent_keep.chain rfl (bump_keep.chain rfl (setReg64_keep.chain rfl (drawn_keep.chain rfl .refl))))

theorem pointerFault_keep {s} : Keep 9731834042 s (pointerFault s) := by
  unfold pointerFault
  split
  · exact (pointerSeen_keep.chain rfl (drawn_keep.chain rfl (drawn_keep.chain rfl .refl)))
  · split
    · exact (drawn_keep.chain rfl .refl)
    · exact (bufSettle_keep.chain rfl (leak_keep.chain rfl (emptied_keep.chain rfl (freeRef_keep.chain rfl (setQueue_keep.chain rfl (pointerSeen_keep.chain rfl (drawn_keep.chain rfl (drawn_keep.chain rfl .refl))))))))

theorem dropCached_keep {s} : Keep 301989896 s (dropCached s) := by
  unfold dropCached
  first | (dsimp only; split) | (extract_lets; split) | split
  · exact (drawn_keep.chain rfl .refl)
  · exact (.shr rfl (drawn_keep.chain rfl .refl))
  · exact (setCan_keep.chain rfl (drawn_keep.chain rfl .refl))

theorem loseRetained_keep {s} : Keep 8589935114 s (loseRetained s) := by
  unfold loseRetained
  exact (Keep.ite (setPmStore_keep.chain rfl (drawn_keep.chain rfl .refl)) (Keep.ite (drawn_keep.chain rfl .refl) (bump_keep.chain rfl (.faults rfl (drawn_keep.chain rfl .refl)))))

theorem loseAt_keep {a0 s} : Keep 10034348730 s (loseAt a0 s) := by
  unfold loseAt
  split
  · exact (damageFrame_keep.chain rfl .refl)
  · exact (pointerFault_keep.chain rfl .refl)
  · exact (leak_keep.chain rfl (drawn_keep.chain rfl .refl))
  · exact (dropCached_keep.chain rfl .refl)
  · exact (Keep.ite (dropContainer_keep.chain rfl (drawn_keep.chain rfl .refl)) (damageFrame_keep.chain rfl (drawn_keep.chain rfl .refl)))
  · exact (loseRetained_keep.chain rfl .refl)
  · exact .refl

theorem stackLost_keep {a0 s} : Keep 16443766714 s (stackLost a0 s) := by
  unfold stackLost
  exact (furl_keep.chain rfl (logEvent_keep.chain rfl (stkEvent_keep.chain rfl (setBit_keep.chain rfl (setHbmAvail_keep.chain rfl .refl)))))

theorem stackUe_keep {a0 s} : Keep 16443766714 s (stackUe a0 s) := by
  unfold stackUe
  exact (Keep.ite (stackLost_keep.chain rfl (stkEvent_keep.chain rfl (bump_keep.chain rfl (.faults rfl .refl)))) (stkEvent_keep.chain rfl (bump_keep.chain rfl (.faults rfl .refl))))

theorem cutCommand_keep {a0 s} : Keep 1241514170 s (cutCommand a0 s) := by
  unfold cutCommand
  exact (Keep.ite (by
  split
  · exact .refl
  · exact (Keep.ite (drawn_keep.chain rfl .refl) (ringDone_keep.chain rfl (drawn_keep.chain rfl .refl)))
  ) (Keep.ite (Keep.ite (endCmd_keep.chain rfl (drawn_keep.chain rfl .refl)) (drawn_keep.chain rfl .refl)) .refl))

theorem logUe_keep {a0 a1 a2 s} : Keep 9663676594 s (logUe a0 a1 a2 s) := by
  unfold logUe
  exact (fltEvent_keep.chain rfl (writeLog_keep.chain rfl (bump_keep.chain rfl (.faults rfl .refl))))

theorem uncorrectable_keep {a0 a1 a2 s} : Keep 16611538874 s (uncorrectable a0 a1 a2 s) := by
  unfold uncorrectable
  exact (Keep.ite (furl_keep.chain rfl (logUe_keep.chain rfl .refl)) (Keep.ite (furl_keep.chain rfl (logUe_keep.chain rfl .refl)) (Keep.ite (stackUe_keep.chain rfl (Keep.ite (.faults rfl (cutCommand_keep.chain rfl (logUe_keep.chain rfl .refl))) (loseAt_keep.chain rfl (cutCommand_keep.chain rfl (logUe_keep.chain rfl .refl))))) (Keep.ite (.faults rfl (cutCommand_keep.chain rfl (logUe_keep.chain rfl .refl))) (loseAt_keep.chain rfl (cutCommand_keep.chain rfl (logUe_keep.chain rfl .refl)))))))

theorem execUncorrectableError_keep {a0 a1 a2 s} : KeepN 16611538874 s (execUncorrectableError a0 a1 a2 s) := by
  unfold execUncorrectableError
  exact (.next (Keep.hchain (onlyIf_keep rfl (fun _ => (uncorrectable_keep.chain rfl .refl))) .refl))

theorem restoreEntry_keep {a0 s} : Keep 33554440 s (restoreEntry a0 s) := by
  unfold restoreEntry
  first | (dsimp only; split) | (extract_lets; split) | split
  · exact (setCan_keep.chain rfl (drawn_keep.chain rfl .refl))
  · exact (drawn_keep.chain rfl .refl)

theorem restoreSched_keep {s} : Keep 201326600 s (restoreSched s) := by
  unfold restoreSched
  first | (dsimp only; split) | (extract_lets; split) | split
  · exact (setQueue_keep.chain rfl (drawn_keep.chain rfl .refl))
  · exact (setShaper_keep.chain rfl (drawn_keep.chain rfl .refl))
  · exact (setMeter_keep.chain rfl (drawn_keep.chain rfl .refl))
  · exact (drawn_keep.chain rfl .refl)

theorem restoreDone_keep {s} : Keep 8824815624 s (restoreDone s) := by
  unfold restoreDone
  split
  · exact .refl
  · first | (dsimp only; split) | (extract_lets; split) | split
    · exact (restoreEntry_keep.chain rfl (.faults rfl .refl))
    · exact (restoreEntry_keep.chain rfl (.faults rfl .refl))
    · exact (restoreSched_keep.chain rfl (.faults rfl .refl))
    · exact (.faults rfl .refl)

theorem execRestoreDone_keep {s} : KeepN 8824815624 s (execRestoreDone s) := by
  unfold execRestoreDone
  exact (.next (Keep.hchain (onlyIf_keep rfl (fun _ => (restoreDone_keep.chain rfl .refl))) .refl))

theorem setPair_keep {a0 a1 s} : Keep 8589934592 s (setPair a0 a1 s) := by
  unfold setPair
  exact (.faults rfl .refl)

theorem retirePair_keep {a0 s} : Keep 16443766714 s (retirePair a0 s) := by
  unfold retirePair
  exact (Keep.ite (furl_keep.chain rfl (setBit_keep.chain rfl (setBit_keep.chain rfl .refl))) (setBit_keep.chain rfl (setBit_keep.chain rfl .refl)))

theorem logPair_keep {a0 s} : Keep 8589934594 s (logPair a0 s) := by
  unfold logPair
  exact (logEvent_keep.chain rfl .refl)

theorem handOver_keep {a0 s} : Keep 8589934600 s (handOver a0 s) := by
  unfold handOver
  exact (.faults rfl (drawn_keep.chain rfl .refl))

theorem endHandler_keep {a0 s} : Keep 1073742074 s (endHandler a0 s) := by
  unfold endHandler
  split
  · exact (drawn_keep.chain rfl .refl)
  · exact (eoiTarget_keep.chain rfl (drawn_keep.chain rfl .refl))

theorem mismatch_keep {a0 s} : Keep 16443766778 s (mismatch a0 s) := by
  unfold mismatch
  exact (Keep.ite (furl_keep.chain rfl (fltEvent_keep.chain rfl (logPair_keep.chain rfl (bump_keep.chain rfl (setPair_keep.chain rfl (setBit_keep.chain rfl .refl)))))) (Keep.ite (retirePair_keep.chain rfl (handOver_keep.chain rfl (endHandler_keep.chain rfl (fltEvent_keep.chain rfl (logPair_keep.chain rfl (bump_keep.chain rfl (setPair_keep.chain rfl (setBit_keep.chain rfl .refl)))))))) (handOver_keep.chain rfl (endHandler_keep.chain rfl (fltEvent_keep.chain rfl (logPair_keep.chain rfl (bump_keep.chain rfl (setPair_keep.chain rfl (setBit_keep.chain rfl .refl)))))))))

theorem execLockstepMismatch_keep {a0 s} : KeepN 16443766778 s (execLockstepMismatch a0 s) := by
  unfold execLockstepMismatch
  exact (.next (Keep.hchain (onlyIf_keep rfl (fun _ => (mismatch_keep.chain rfl .refl))) .refl))

theorem pairReturn_keep {a0 a1 s} : Keep 16443766714 s (pairReturn a0 a1 s) := by
  unfold pairReturn
  exact (Keep.ite .refl (Keep.ite (setBit_keep.chain rfl (setPair_keep.chain rfl .refl)) (retirePair_keep.chain rfl (logPair_keep.chain rfl (setPair_keep.chain rfl .refl)))))

theorem execPairReturn_keep {a0 a1 s} : KeepN 16443766714 s (execPairReturn a0 a1 s) := by
  unfold execPairReturn
  exact (.next (Keep.hchain (onlyIf_keep rfl (fun _ => (pairReturn_keep.chain rfl .refl))) .refl))

theorem wdogKick_keep {a0 s} : Keep 8589934592 s (wdogKick a0 s) := by
  unfold wdogKick
  exact (Keep.ite (.faults rfl .refl) .refl)

theorem execWdogKick_keep {a0 s} : KeepN 8589934592 s (execWdogKick a0 s) := by
  unfold execWdogKick
  exact (.next (wdogKick_keep.chain rfl .refl))

theorem writeWdogCtl_keep {a0 s} : Keep 8589934594 s (writeWdogCtl a0 s) := by
  unfold writeWdogCtl
  exact (Keep.ite (.faults rfl (setReg_keep.chain rfl .refl)) (setReg_keep.chain rfl .refl))

theorem watchdog_keep {s} : Keep 635655159794 s (watchdog s) := by
  unfold watchdog
  exact (Keep.ite (warmStart_keep.chain rfl (fltEvent_keep.chain rfl (logEvent_keep.chain rfl (bump_keep.chain rfl .refl)))) .refl)

theorem execWatchdogExpiry_keep {s} : KeepN 635655159794 s (execWatchdogExpiry s) := by
  unfold execWatchdogExpiry
  exact (.next (Keep.hchain (onlyIf_keep rfl (fun _ => (watchdog_keep.chain rfl .refl))) .refl))

theorem execCoreReset_keep {a0 s} : KeepN 635655159794 s (execCoreReset a0 s) := by
  unfold execCoreReset
  exact (.next (Keep.hchain (onlyIf_keep rfl (fun _ => (warmStart_keep.chain rfl .refl))) .refl))

theorem cycleDom_keep {a0 s} : Keep 4294967312 s (cycleDom a0 s) := by
  unfold cycleDom
  exact (setDom_keep.chain rfl (setDom_keep.chain rfl .refl))

theorem trunkPower_keep {a0 s} : Keep 14296283066 s (trunkPower a0 s) := by
  unfold trunkPower
  exact (Keep.ite (Keep.hchain (forAll_keep rfl (fun _ _ => (laneStep_keep.chain rfl .refl))) (.faults rfl (lanesOff_keep.chain rfl (cycleDom_keep.chain rfl (setWaiken_keep.chain rfl (Keep.ite (raiseLoss_keep.chain rfl .refl) .refl)))))) (lanesFirst_keep.chain rfl (.faults rfl (lanesOff_keep.chain rfl (cycleDom_keep.chain rfl (setWaiken_keep.chain rfl (Keep.ite (raiseLoss_keep.chain rfl .refl) .refl)))))))

theorem clientPower_keep {a0 s} : Keep 13958774962 s (clientPower a0 s) := by
  unfold clientPower
  exact (Keep.ite (Keep.hchain (forAll_keep rfl (fun _ _ => (laneStep_keep.chain rfl .refl))) (.faults rfl (lanesOff_keep.chain rfl (cycleDom_keep.chain rfl (Keep.hchain (forAll_keep rfl (fun _ _ => (Keep.ite (linkDown_keep.chain rfl .refl) .refl))) (Keep.ite (linkDown_keep.chain rfl .refl) .refl)))))) (lanesFirst_keep.chain rfl (.faults rfl (lanesOff_keep.chain rfl (cycleDom_keep.chain rfl (Keep.hchain (forAll_keep rfl (fun _ _ => (Keep.ite (linkDown_keep.chain rfl .refl) .refl))) (Keep.ite (linkDown_keep.chain rfl .refl) .refl)))))))

theorem pcieDown_keep {s} : Keep 1073873074 s (pcieDown s) := by
  unfold pcieDown
  exact (pcieLanes_keep.chain rfl (.icMsix rfl .refl))

theorem timeRegsOff_keep {s} : Keep 2 s (timeRegsOff s) := by
  unfold timeRegsOff
  exact (.regs rfl .refl)

theorem timeOff_keep {s} : Keep 65538 s (timeOff s) := by
  unfold timeOff
  exact (.time rfl (timeRegsOff_keep.chain rfl (retainTime_keep.chain rfl .refl)))

theorem powerLoss_keep {a0 s} : Keep 635655159802 s (powerLoss a0 s) := by
  unfold powerLoss
  exact (Keep.ite (warmStart_keep.chain rfl (setDom_keep.chain rfl (Keep.ite (timeOff_keep.chain rfl (reefEvent_keep.chain rfl (logEvent_keep.chain rfl .refl))) (reefEvent_keep.chain rfl (logEvent_keep.chain rfl .refl))))) (Keep.ite (pcieDown_keep.chain rfl (.icMsix rfl (reefEvent_keep.chain rfl (logEvent_keep.chain rfl .refl)))) (Keep.ite (cycleDom_keep.chain rfl (.boot rfl rfl (reefEvent_keep.chain rfl (logEvent_keep.chain rfl .refl)))) (Keep.ite (laneUp_keep.chain rfl (laneUp_keep.chain rfl (Keep.ite (cycleDom_keep.chain rfl (linkDown_keep.chain rfl (reefEvent_keep.chain rfl (logEvent_keep.chain rfl .refl)))) (cycleDom_keep.chain rfl (reefEvent_keep.chain rfl (logEvent_keep.chain rfl .refl)))))) (Keep.ite (cycleDom_keep.chain rfl (linkDown_keep.chain rfl (reefEvent_keep.chain rfl (logEvent_keep.chain rfl .refl)))) (Keep.ite (warmStart_keep.chain rfl (setDom_keep.chain rfl (reefEvent_keep.chain rfl (logEvent_keep.chain rfl .refl)))) (Keep.ite (trunkPower_keep.chain rfl (reefEvent_keep.chain rfl (logEvent_keep.chain rfl .refl))) (clientPower_keep.chain rfl (reefEvent_keep.chain rfl (logEvent_keep.chain rfl .refl))))))))))

theorem execPowerGoodLoss_keep {a0 s} : KeepN 635655159802 s (execPowerGoodLoss a0 s) := by
  unfold execPowerGoodLoss
  exact (.next (Keep.hchain (onlyIf_keep rfl (fun _ => (powerLoss_keep.chain rfl .refl))) .refl))

theorem powerOn_keep {s} : Keep 1786706395126 s (powerOn s) :=
  ⟨fun p hp => by cases p <;> first | exact rfl | exact ⟨rfl, rfl, rfl, rfl, rfl⟩ | exact absurd hp (by decide), (lowerReady_keep (s := s)).sent, Nat.le_refl _,
   fun h => ⟨h.1, rfl, h.2.2⟩, fun _ _ => Nat.zero_le 16⟩

theorem execHeartwoodPowerOn_keep {s} : KeepN 1786706395126 s (execHeartwoodPowerOn s) := by
  unfold execHeartwoodPowerOn
  exact (.next (powerOn_keep.chain rfl .refl))

theorem execPcieReset_keep {s} : KeepN 128 s (execPcieReset s) := by
  unfold execPcieReset
  exact (.next (Keep.hchain (onlyIf_keep rfl (fun _ => (.icMsix rfl .refl))) .refl))

theorem execPcieLinkChange_keep {a0 s} : KeepN 1073873074 s (execPcieLinkChange a0 s) := by
  unfold execPcieLinkChange
  exact (.next (Keep.hchain (onlyIf_keep rfl (fun _ => (Keep.ite (pcieLanes_keep.chain rfl (.icMsix rfl .refl)) (pcieDown_keep.chain rfl .refl)))) .refl))

theorem execIrqPinFault_keep {a0 s} : KeepN 9663676594 s (execIrqPinFault a0 s) := by
  unfold execIrqPinFault
  exact (.next (Keep.hchain (withPins_keep rfl (fun _ => (setBit_keep.chain rfl .refl))) .refl))

theorem xtalFailure_keep {s} : Keep 16443766714 s (xtalFailure s) := by
  unfold xtalFailure
  exact (furl_keep.chain rfl (Keep.hchain (withPins_keep rfl (fun _ => (.faults rfl .refl))) .refl))

theorem execXtalFailure_keep {s} : KeepN 16443766714 s (execXtalFailure s) := by
  unfold execXtalFailure
  exact (.next (Keep.hchain (onlyIf_keep rfl (fun _ => (xtalFailure_keep.chain rfl .refl))) .refl))

theorem setStuck_keep {a0 a1 s} : Keep 1610612736 s (setStuck a0 a1 s) := by
  unfold setStuck
  exact (.reefAll rfl rfl .refl)

theorem busStuck_keep {a0 s} : Keep 16980637626 s (busStuck a0 s) := by
  unfold busStuck
  exact (Keep.ite (furl_keep.chain rfl (Keep.hchain (withPins_keep rfl (fun _ => (setStuck_keep.chain rfl .refl))) .refl)) (Keep.hchain (withPins_keep rfl (fun _ => (setStuck_keep.chain rfl .refl))) .refl))

theorem execPmbusStuck_keep {a0 s} : KeepN 16980637626 s (execPmbusStuck a0 s) := by
  unfold execPmbusStuck
  exact (.next (Keep.hchain (onlyIf_keep rfl (fun _ => (busStuck_keep.chain rfl .refl))) .refl))

theorem execPmbusAnswersAgain_keep {a0 s} : KeepN 1610612736 s (execPmbusAnswersAgain a0 s) := by
  unfold execPmbusAnswersAgain
  exact (.next (setStuck_keep.chain rfl .refl))

theorem execHbmStackFault_keep {a0 s} : KeepN 16443766714 s (execHbmStackFault a0 s) := by
  unfold execHbmStackFault
  exact (.next (Keep.hchain (onlyIf_keep rfl (fun _ => (stackLost_keep.chain rfl .refl))) .refl))

theorem loggedMore_keep {a0 s} : Keep 77309411328 s (loggedMore a0 s) := by
  unfold loggedMore
  exact ⟨fun p hp => by cases p <;> first | exact rfl | exact ⟨rfl, rfl, rfl, rfl, rfl⟩ | exact absurd hp (by decide),
    List.prefix_refl _, Nat.le_refl _, id, id⟩

theorem appendLog_keep {a0 s} : Keep 214748364800 s (appendLog a0 s) := by
  unfold appendLog
  exact (loggedMore_keep.chain rfl (Keep.hchain (forAll_keep rfl (fun _ _ => (Keep.ite (flashPut_keep.chain rfl (Keep.ite (flashErase_keep.chain rfl .refl) .refl)) .refl))) .refl))

theorem logCopy_keep {s} : Keep 215822106802 s (logCopy s) := by
  unfold logCopy
  exact (Keep.ite .refl (Keep.ite (fltEvent_keep.chain rfl (appendLog_keep.chain rfl (.faults rfl (.faults rfl .refl)))) (appendLog_keep.chain rfl (.faults rfl (.faults rfl .refl)))))

theorem execLogCopy_keep {s} : KeepN 215822106802 s (execLogCopy s) := by
  unfold execLogCopy
  exact (.next (Keep.hchain (onlyIf_keep rfl (fun _ => (logCopy_keep.chain rfl .refl))) .refl))

theorem logIdx_keep {a0 s} : Keep 2 s (logIdx a0 s) := by
  unfold logIdx
  exact (setWords_keep.chain rfl (setRegN_keep.chain rfl .refl))

theorem execLogIdxWrite_keep {a0 s} : KeepN 2 s (execLogIdxWrite a0 s) := by
  unfold execLogIdxWrite
  exact (.next (logIdx_keep.chain rfl .refl))

theorem fltCntClr_keep {s} : Keep 2 s (fltCntClr s) := by
  unfold fltCntClr
  exact (zeroRegs_keep.chain rfl .refl)

theorem execFltCntClr_keep {s} : KeepN 2 s (execFltCntClr s) := by
  unfold execFltCntClr
  exact (.next (fltCntClr_keep.chain rfl .refl))

theorem stkCntClr_keep {a0 s} : Keep 2 s (stkCntClr a0 s) := by
  unfold stkCntClr
  exact (zeroRegs_keep.chain rfl .refl)

theorem execStkCntClr_keep {a0 s} : KeepN 2 s (execStkCntClr a0 s) := by
  unfold execStkCntClr
  exact (.next (Keep.hchain (onlyIf_keep rfl (fun _ => (stkCntClr_keep.chain rfl .refl))) .refl))

end Sys2Proof.Machine
end

