-- ==== Sys2Proof/Laws/Keep7.lean ====
section
/-! SUPPORT. What each operation of these files of the machine keeps: Forward, Shroud, Client, TimeBase. -/
namespace Sys2Proof.Machine
open Sys2Proof

/-! ### Forward -/

theorem stageSearch_keep {a0 a1 s} : Keep 33554434 s (stageSearch a0 a1 s).1 := by
  unfold stageSearch
  exact (Keep.ite1 .refl (by
  first | (dsimp only; split) | (extract_lets; split) | split
  · exact (Keep.ite (refresh_keep.chain rfl (canSearch_keep.chain rfl .refl)) (canSearch_keep.chain rfl .refl))
  · exact (canSearch_keep.chain rfl .refl)
  ))

theorem route_keep {a0 a1 a2 a3 s} : Keep 33554434 s (route a0 a1 a2 a3 s).1 := by
  unfold route
  first | (dsimp only; split) | (extract_lets; split) | split
  · exact .refl
  · first | (dsimp only; split) | (extract_lets; split) | split
    · exact (Keep.ite1 (stageSearch_keep.chain rfl .refl) .refl)
    · first | (dsimp only; split) | (extract_lets; split) | split
      · exact (stage4_keep.chain rfl (Keep.ite1 (stageSearch_keep.chain rfl .refl) .refl))
      · exact (stage4_keep.chain rfl (Keep.ite1 (stageSearch_keep.chain rfl .refl) .refl))

theorem learnSearch_keep {a0 a1 a2 s} : Keep 1107296434 s (learnSearch a0 a1 a2 s).1 := by
  unfold learnSearch
  exact (Keep.ite1 .refl (by
  first | (dsimp only; split) | (extract_lets; split) | split
  · exact (queueLearn_keep.chain rfl (canSearch_keep.chain rfl .refl))
  · exact (Keep.ite1 (Keep.ite (refresh_keep.chain rfl (canSearch_keep.chain rfl .refl)) (canSearch_keep.chain rfl .refl)) (Keep.ite1 (canSearch_keep.chain rfl .refl) (queueLearn_keep.chain rfl (canSearch_keep.chain rfl .refl))))
  ))

theorem lookupFrame_keep {a0 a1 s} : Keep 1107296434 s (lookupFrame a0 a1 s).1 := by
  unfold lookupFrame
  exact (Keep.ite1 (bump64_keep.chain rfl .refl) (by
  first | (dsimp only; split) | (extract_lets; split) | split
  · exact (learnSearch_keep.chain rfl (stageSearch_keep.chain rfl (bump64_keep.chain rfl .refl)))
  · exact (Keep.ite1 (learnSearch_keep.chain rfl (stageSearch_keep.chain rfl (bump64_keep.chain rfl .refl))) (Keep.ite1 (route_keep.chain rfl (learnSearch_keep.chain rfl (stageSearch_keep.chain rfl (bump64_keep.chain rfl .refl)))) (learnSearch_keep.chain rfl (stageSearch_keep.chain rfl (bump64_keep.chain rfl .refl)))))
  ))

theorem meterArrival_keep {a0 a1 a2 a3 s} : Keep 134217730 s (meterArrival a0 a1 a2 a3 s).1 := by
  unfold meterArrival
  first | (dsimp only; split) | (extract_lets; split) | split
  · exact (meterFrame_keep.chain rfl .refl)
  · exact (Keep.ite1 (meterFrame_keep.chain rfl .refl) (bump64_keep.chain rfl (meterFrame_keep.chain rfl .refl)))
  · split
    · exact (bump64_keep.chain rfl (meterFrame_keep.chain rfl .refl))
    · exact (bump64_keep.chain rfl (meterFrame_keep.chain rfl .refl))
    · exact (meterFrame_keep.chain rfl .refl)

theorem admitArrival_keep {a0 a1 a2 a3 a4 a5 s} : Keep 1141899442 s (admitArrival a0 a1 a2 a3 a4 a5 s) := by
  unfold admitArrival
  first | (dsimp only; split) | (extract_lets; split) | split
  · exact (admitGroup_keep.chain rfl .refl)
  · exact (admitFrame_keep.chain rfl .refl)
  · exact .refl

theorem lookupAndSend_keep {q x r l m s} : Keep 1326448818 s (lookupAndSend q x r l m s) := by
  unfold lookupAndSend
  have hd : ∀ a b c, Keep 1326448818 s (decide284 a b c (if (applyResult (lookupFrame x r s).1 x r m (lookupFrame x r s).2.1.toNat).1 = .drop
      then bump64 0x04004010 1 (lookupFrame x r s).1 else (lookupFrame x r s).1)).1 := fun a b c =>
    decide284_keep.chain rfl (.ite (bump64_keep.chain rfl (lookupFrame_keep.chain rfl .refl)) (lookupFrame_keep.chain rfl .refl))
  refine .ite (hd ..) (.ite (admitArrival_keep.chain rfl ?_) ?_) <;> split <;>
    first | exact meterArrival_keep.chain rfl (hd ..) | exact hd _ false _

theorem countParse_keep {a0 a1 s} : Keep 1073742002 s (countParse a0 a1 s) := by
  unfold countParse
  exact (Keep.ite (bump_keep.chain rfl (Keep.ite (pgEvent_keep.chain rfl (bump_keep.chain rfl (Keep.ite (pgEvent_keep.chain rfl (bump_keep.chain rfl (bump64_keep.chain rfl .refl))) (bump64_keep.chain rfl .refl)))) (Keep.ite (pgEvent_keep.chain rfl (bump_keep.chain rfl (bump64_keep.chain rfl .refl))) (bump64_keep.chain rfl .refl)))) (Keep.ite (pgEvent_keep.chain rfl (bump_keep.chain rfl (Keep.ite (pgEvent_keep.chain rfl (bump_keep.chain rfl (bump64_keep.chain rfl .refl))) (bump64_keep.chain rfl .refl)))) (Keep.ite (pgEvent_keep.chain rfl (bump_keep.chain rfl (bump64_keep.chain rfl .refl))) (bump64_keep.chain rfl .refl))))

theorem forwardFrame_keep {a0 a1 s} : Keep 1326448826 s (forwardFrame a0 a1 s) := by
  unfold forwardFrame
  exact (Keep.ite (bump_keep.chain rfl .refl) (Keep.ite (bump_keep.chain rfl (drawn_keep.chain rfl .refl)) (Keep.ite (decide284_keep.chain rfl (countParse_keep.chain rfl (Keep.ite (drawn_keep.chain rfl .refl) .refl))) (Keep.ite (lookupAndSend_keep.chain rfl (Keep.ite (bump64_keep.chain rfl (classifyFrame_keep.chain rfl (countParse_keep.chain rfl (Keep.ite (drawn_keep.chain rfl .refl) .refl)))) (classifyFrame_keep.chain rfl (countParse_keep.chain rfl (Keep.ite (drawn_keep.chain rfl .refl) .refl))))) (decide284_keep.chain rfl (Keep.ite (bump64_keep.chain rfl (classifyFrame_keep.chain rfl (countParse_keep.chain rfl (Keep.ite (drawn_keep.chain rfl .refl) .refl)))) (classifyFrame_keep.chain rfl (countParse_keep.chain rfl (Keep.ite (drawn_keep.chain rfl .refl) .refl)))))))))

theorem takeUp_keep {k s} : Keep 1328545978 s (takeUp k s) := by
  induction k generalizing s with
  | zero => exact .refl
  | succ k ih =>
    unfold takeUp
    split
    · split
      · exact .refl
      · exact Keep.hchain ih (pressureSettle_keep.chain rfl (forwardFrame_keep.chain rfl (.buf rfl (setFifo_keep.chain rfl .refl))))
    · exact .refl

theorem takeDown_keep {k s} : Keep 1330643130 s (takeDown k s) := by
  induction k generalizing s with
  | zero => exact .refl
  | succ k ih =>
    unfold takeDown
    split
    · exact Keep.hchain ih (forwardFrame_keep.chain rfl (.shrOut rfl .refl))
    · exact .refl

theorem takeCpu_keep {k s} : Keep 1141899442 s (takeCpu k s) := by
  induction k generalizing s with
  | zero => exact .refl
  | succ k ih =>
    unfold takeCpu
    split
    · exact .refl
    · exact .ite .refl (Keep.hchain ih (admitFrame_keep.chain rfl (.buf rfl .refl)))

theorem processorFrame_keep {a0 a1 s} : Keep 1141899442 s (processorFrame a0 a1 s) := by
  unfold processorFrame
  exact (takeCpu_keep.chain rfl (.buf rfl .refl))

theorem takeAll_keep {s} : Keep 1332740282 s (takeAll s) := by
  unfold takeAll
  exact (pfcSettle_keep.chain rfl (takeCpu_keep.chain rfl (takeDown_keep.chain rfl (takeUp_keep.chain rfl .refl))))

theorem endWait_keep {a0 s} : Keep 67108864 s (endWait a0 s) := by
  unfold endWait
  exact (.buf rfl .refl)

theorem turnPool_keep {a0 a1 s} : Keep 67108864 s (turnPool a0 a1 s) := by
  unfold turnPool
  exact (.buf rfl .refl)

theorem holdMore_keep {a0 a1 s} : Keep 67108864 s (holdMore a0 a1 s) := by
  unfold holdMore
  exact (.buf rfl .refl)

theorem endWaiting_keep {a0 s} : Keep 1141899442 s (endWaiting a0 s) := by
  unfold endWaiting
  exact (storeFrame_keep.chain rfl (endWait_keep.chain rfl .refl))

theorem grantPage_keep {a0 s} : Keep 1141899442 s (grantPage a0 s) := by
  unfold grantPage
  exact (Keep.ite (Keep.ite (endWaiting_keep.chain rfl .refl) .refl) (Keep.ite .refl (Keep.ite (endWaiting_keep.chain rfl (turnPool_keep.chain rfl (holdMore_keep.chain rfl .refl))) (turnPool_keep.chain rfl (holdMore_keep.chain rfl .refl)))))

theorem grantCell_keep {a0 a1 s} : Keep 1141899442 s (grantCell a0 a1 s) := by
  unfold grantCell
  exact (Keep.ite .refl (Keep.ite (endWaiting_keep.chain rfl (Keep.ite (Keep.ite (bump_keep.chain rfl .refl) .refl) (turnPool_keep.chain rfl .refl))) (holdMore_keep.chain rfl (Keep.ite (Keep.ite (bump_keep.chain rfl .refl) .refl) (turnPool_keep.chain rfl .refl)))))

theorem grantOne_keep {a0 a1 s} : Keep 1141899442 s (grantOne a0 a1 s) := by
  unfold grantOne
  exact (Keep.ite (grantPage_keep.chain rfl .refl) (grantCell_keep.chain rfl .refl))

theorem cellCycle_keep {a0 s} : Keep 1332740282 s (cellCycle a0 s) := by
  unfold cellCycle
  exact (takeAll_keep.chain rfl (bufSettle_keep.chain rfl (Keep.hchain (forAll_keep rfl (fun _ _ => (grantOne_keep.chain rfl .refl))) (Keep.ite (spillStall_keep.chain rfl .refl) .refl))))

theorem joinCpu_keep {a0 s} : Keep 1141899442 s (joinCpu a0 s) := by
  unfold joinCpu
  split
  · exact .refl
  · exact (processorFrame_keep.chain rfl .refl)

theorem execCellRequest_keep {a0 s} : KeepN 1332740282 s (execCellRequest a0 s) := by
  unfold execCellRequest
  exact (.next (Keep.hchain (onlyIf_keep rfl (fun _ => (cellCycle_keep.chain rfl (joinCpu_keep.chain rfl .refl)))) .refl))

theorem waitExpiry_keep {a0 a1 s} : Keep 1332740282 s (waitExpiry a0 a1 s) := by
  unfold waitExpiry
  split
  · exact .refl
  · exact (Keep.ite .refl (takeAll_keep.chain rfl (bufEvent_keep.chain rfl (bump64_keep.chain rfl (bump_keep.chain rfl (bufSettle_keep.chain rfl (givePlace_keep.chain rfl (endWait_keep.chain rfl .refl))))))))

theorem execCellWaitExpiry_keep {a0 a1 s} : KeepN 1332740282 s (execCellWaitExpiry a0 a1 s) := by
  unfold execCellWaitExpiry
  exact (.next (Keep.hchain (onlyIf_keep rfl (fun _ => (waitExpiry_keep.chain rfl .refl))) .refl))

/-! ### Shroud -/

theorem keyRotate_keep {a0 a1 s} : Keep 1342182586 s (keyRotate a0 a1 s) := by
  unfold keyRotate
  exact (Keep.ite (answer_keep.chain rfl .refl) (Keep.ite (answer_keep.chain rfl .refl) (pinKey_keep.chain rfl (remember_keep.chain rfl (setPortKeys_keep.chain rfl .refl)))))

theorem execKeyRotate_keep {a0 s} : KeepN 1342215610 s (execKeyRotate a0 s) := by
  unfold execKeyRotate
  exact (.next (Keep.hchain (onlyIf_keep rfl (fun _ => (Keep.hchain (withTmm_keep rfl (fun _ _ => (keyRotate_keep.chain rfl .refl))) .refl))) .refl))

theorem keyDerived_keep {s} : Keep 1342182586 s (keyDerived s) := by
  unfold keyDerived
  split
  · exact .refl
  · first | (dsimp only; split) | (extract_lets; split) | split
    · exact (answer_keep.chain rfl (bump64_keep.chain rfl (.shr rfl .refl)))
    · exact (bump64_keep.chain rfl (.shr rfl .refl))

theorem execKeyDerived_keep {s} : KeepN 1342182586 s (execKeyDerived s) := by
  unfold execKeyDerived
  exact (.next (Keep.hchain (onlyIf_keep rfl (fun _ => (keyDerived_keep.chain rfl .refl))) .refl))

theorem execEpochDownstreamEffect_keep {a0 s} : KeepN 1342177458 s (execEpochDownstreamEffect a0 s) := by
  unfold execEpochDownstreamEffect
  exact (.next (Keep.hchain (onlyIf_keep rfl (fun _ => (epochDown_keep.chain rfl .refl))) .refl))

theorem epochUp_keep {a0 s} : Keep 1342177458 s (epochUp a0 s) := by
  unfold epochUp
  split
  · exact (Keep.ite (rotationDone_keep.chain rfl .refl) .refl)
  · exact .refl

theorem execEpochComplete_keep {a0 s} : KeepN 1342177458 s (execEpochComplete a0 s) := by
  unfold execEpochComplete
  exact (.next (Keep.hchain (onlyIf_keep rfl (fun _ => (epochUp_keep.chain rfl .refl))) .refl))

theorem setRoot_keep {a0 a1 s} : Keep 1342177458 s (setRoot a0 a1 s) := by
  unfold setRoot
  exact (shrEvent_keep.chain rfl (dropKeys_keep.chain rfl (.shr rfl .refl)))

theorem rootLoad_keep {a0 a1 a2 s} : Keep 1342177458 s (rootLoad a0 a1 a2 s).1 := by
  unfold rootLoad
  exact (Keep.ite1 .refl (Keep.ite1 .refl (by
  split
  · exact .refl
  · exact (setRoot_keep.chain rfl .refl)
  )))

theorem rootClear_keep {a0 s} : Keep 1342177458 s (rootClear a0 s).1 := by
  unfold rootClear
  exact (Keep.ite1 .refl (Keep.ite1 .refl (setRoot_keep.chain rfl .refl)))

theorem cmdRootLoad_keep {a0 s} : Keep 1342177458 s (cmdRootLoad a0 s).state := by
  unfold cmdRootLoad
  exact (mbStatus_keep.chain rfl (rootLoad_keep.chain rfl .refl))

theorem cmdRootClear_keep {a0 s} : Keep 1342177458 s (cmdRootClear a0 s).state := by
  unfold cmdRootClear
  exact (mbStatus_keep.chain rfl (rootClear_keep.chain rfl .refl))

theorem execShrRootLoad_keep {a0 s} : KeepN 70061654194 s (execShrRootLoad a0 s) := by
  unfold execShrRootLoad
  exact (.next (Keep.hchain (onlyIf_keep rfl (fun _ => (Keep.hchain (mbRunThen_keep rfl (fun _ => .refl) (fun _ _ => (cmdRootLoad_keep.chain rfl .refl))) .refl))) .refl))

theorem execShrRootClear_keep {a0 s} : KeepN 70061654194 s (execShrRootClear a0 s) := by
  unfold execShrRootClear
  exact (.next (Keep.hchain (onlyIf_keep rfl (fun _ => (Keep.hchain (mbRunThen_keep rfl (fun _ => .refl) (fun _ _ => (cmdRootClear_keep.chain rfl .refl))) .refl))) .refl))

theorem exhaust_keep {s} : Keep 1342177458 s (exhaust s) := by
  unfold exhaust
  exact (Keep.ite .refl (shrEvent_keep.chain rfl (.shr rfl .refl)))

theorem reserveBlock_keep {s} : Keep 143076098234 s (reserveBlock s).1 := by
  unfold reserveBlock
  exact (Keep.ite1 (exhaust_keep.chain rfl .refl) (Keep.ite1 (.shr rfl (drawn_keep.chain rfl .refl)) (Keep.ite (shrEvent_keep.chain rfl (flashWrites_keep.chain rfl (.shr rfl (Keep.hchain (forAll_keep rfl (fun _ _ => (appendRecord_keep.chain rfl .refl))) (drawn_keep.chain rfl .refl))))) (flashWrites_keep.chain rfl (.shr rfl (Keep.hchain (forAll_keep rfl (fun _ _ => (appendRecord_keep.chain rfl .refl))) (drawn_keep.chain rfl .refl)))))))

theorem takeIndex_keep {s} : Keep 1342177458 s (takeIndex s) := by
  unfold takeIndex
  exact (Keep.ite (exhaust_keep.chain rfl (bump_keep.chain rfl (.shr rfl .refl))) (bump_keep.chain rfl (.shr rfl .refl)))

theorem cmdAttest_keep {a0 s} : Keep 143076098234 s (cmdAttest a0 s).state := by
  unfold cmdAttest
  exact (Keep.iteMb (mbStatus_keep.chain rfl .refl) (Keep.iteMb (mbStatus_keep.chain rfl .refl) (Keep.iteMb (mbStatus_keep.chain rfl (Keep.ite1 .refl (reserveBlock_keep.chain rfl .refl))) (takeIndex_keep.chain rfl (Keep.ite1 .refl (reserveBlock_keep.chain rfl .refl))))))

theorem cmdIdentity_keep {a0 s} : Keep 0 s (cmdIdentity a0 s).state := by
  unfold cmdIdentity
  exact .refl

theorem execShrAttest_keep {a0 s} : KeepN 211795574970 s (execShrAttest a0 s) := by
  unfold execShrAttest
  exact (.next (Keep.hchain (onlyIf_keep rfl (fun _ => (Keep.hchain (mbRunThen_keep rfl (fun _ => .refl) (fun _ _ => (cmdAttest_keep.chain rfl .refl))) .refl))) .refl))

theorem execShrIdentity_keep {a0 s} : KeepN 69793218738 s (execShrIdentity a0 s) := by
  unfold execShrIdentity
  exact (.next (Keep.hchain (onlyIf_keep rfl (fun _ => (Keep.hchain (mbRunThen_keep rfl (fun _ => .refl) (fun _ _ => (cmdIdentity_keep.chain rfl .refl))) .refl))) .refl))

theorem xmssUp_keep {s} : Keep 1342177458 s (xmssUp s) := by
  unfold xmssUp
  exact (Keep.ite (exhaust_keep.chain rfl (.shr rfl .refl)) (.shr rfl .refl))

theorem execXmssReady_keep {s} : KeepN 1342177458 s (execXmssReady s) := by
  unfold execXmssReady
  exact (.next (Keep.hchain (onlyIf_keep rfl (fun _ => (xmssUp_keep.chain rfl .refl))) .refl))

theorem jobEnd_keep {a0 a1 a2 a3 s} : Keep 1073742002 s (jobEnd a0 a1 a2 a3 s) := by
  unfold jobEnd
  exact (Keep.ite (shrEvent_keep.chain rfl (bump64_keep.chain rfl (setRegN_keep.chain rfl (setRegN_keep.chain rfl (setRegN_keep.chain rfl .refl))))) (shrEvent_keep.chain rfl (bump_keep.chain rfl (shrEvent_keep.chain rfl (bump64_keep.chain rfl (setRegN_keep.chain rfl (setRegN_keep.chain rfl (setRegN_keep.chain rfl .refl))))))))

theorem skipReserved_keep {r k s} : Keep 1073742002 s (skipReserved r k s) := by
  induction k generalizing s with
  | zero => exact .refl
  | succ k ih =>
    unfold skipReserved
    split
    · exact .ite (Keep.hchain ih (jobEnd_keep.chain rfl .refl)) .refl
    · exact .refl

theorem writeJrProd_keep {a0 a1 s} : Keep 1073742002 s (writeJrProd a0 a1 s) := by
  unfold writeJrProd
  exact (Keep.ite .refl (skipReserved_keep.chain rfl (setRegN_keep.chain rfl .refl)))

theorem execJrProdWrite_keep {a0 a1 s} : KeepN 1073742002 s (execJrProdWrite a0 a1 s) := by
  unfold execJrProdWrite
  exact (.next (Keep.hchain (onlyIf_keep rfl (fun _ => (writeJrProd_keep.chain rfl .refl))) .refl))

theorem jobKey_keep {a0 a1 s} : Keep 268435458 s (jobKey a0 a1 s).1 := by
  unfold jobKey
  exact (Keep.ite1 .refl (by
  split
  · exact .refl
  · exact (Keep.ite1 .refl (useKey_keep.chain rfl .refl))
  ))

theorem jobReject_keep {a0 s} : Keep 0 s (jobReject a0 s).1 := by
  unfold jobReject
  exact .refl

theorem segmentEnd_keep {a0 a1 a2 a3 s} : Keep 824633720848 s (segmentEnd a0 a1 a2 a3 s) := by
  unfold segmentEnd
  exact (Keep.ite (dmaWrite_keep.chain rfl .refl) (Keep.ite (dmaWrite_keep.chain rfl .refl) .refl))

theorem segmentJob_keep {a0 a1 s} : Keep 824902156306 s (segmentJob a0 a1 s).1 := by
  unfold segmentJob
  exact (Keep.ite1 (jobReject_keep.chain rfl .refl) (by
  first | (dsimp only; split) | (extract_lets; split) | split
  · exact (jobReject_keep.chain rfl (jobKey_keep.chain rfl .refl))
  · exact (Keep.ite1 (jobReject_keep.chain rfl (jobKey_keep.chain rfl .refl)) (segmentEnd_keep.chain rfl (dmaWrite_keep.chain rfl (jobKey_keep.chain rfl .refl))))
  ))

theorem gcmJob_keep {a0 s} : Keep 824902156306 s (gcmJob a0 s).1 := by
  unfold gcmJob
  exact (Keep.ite1 (segmentJob_keep.chain rfl .refl) (Keep.ite1 (jobReject_keep.chain rfl .refl) (Keep.ite1 (jobReject_keep.chain rfl .refl) (by
  first | (dsimp only; split) | (extract_lets; split) | split
  · exact (jobReject_keep.chain rfl (jobKey_keep.chain rfl .refl))
  · exact (Keep.ite1 (dmaWrite_keep.chain rfl (jobKey_keep.chain rfl .refl)) (dmaWrite_keep.chain rfl (jobKey_keep.chain rfl .refl)))
  ))))

theorem cbcJob_keep {a0 s} : Keep 824902156306 s (cbcJob a0 s).1 := by
  unfold cbcJob
  exact (Keep.ite1 (jobReject_keep.chain rfl .refl) (Keep.ite1 (jobReject_keep.chain rfl .refl) (by
  first | (dsimp only; split) | (extract_lets; split) | split
  · exact (jobReject_keep.chain rfl (jobKey_keep.chain rfl .refl))
  · exact (Keep.ite1 (by
  first | (dsimp only; split) | (extract_lets; split) | split
  · exact (dmaWrite_keep.chain rfl (jobKey_keep.chain rfl .refl))
  · exact (dmaWrite_keep.chain rfl (jobKey_keep.chain rfl .refl))
  ) (dmaWrite_keep.chain rfl (jobKey_keep.chain rfl .refl)))
  )))

theorem xtsJob_keep {a0 s} : Keep 824902156306 s (xtsJob a0 s).1 := by
  unfold xtsJob
  exact (Keep.ite1 (jobReject_keep.chain rfl .refl) (Keep.ite1 (jobReject_keep.chain rfl .refl) (by
  first | (dsimp only; split) | (extract_lets; split) | split
  · exact (jobReject_keep.chain rfl (jobKey_keep.chain rfl .refl))
  · exact (Keep.ite1 (jobReject_keep.chain rfl (jobKey_keep.chain rfl .refl)) (dmaWrite_keep.chain rfl (jobKey_keep.chain rfl .refl)))
  )))

theorem ctrJob_keep {a0 s} : Keep 824902156306 s (ctrJob a0 s).1 := by
  unfold ctrJob
  exact (segmentJob_keep.chain rfl .refl)

theorem runJob_keep {m : Nat} {a0 a1 f2 s} (hm : 1073742010 &&& m = 1073742010) (hf2 : ∀ v0 v1, Keep m v1 (f2 v0 v1).1) : Keep m s (runJob a0 a1 f2 s) := by
  unfold runJob
  first | (dsimp only; split) | (extract_lets; split) | split
  · exact (skipReserved_keep.chain (mask_sub rfl hm) .refl)
  · exact (Keep.ite (skipReserved_keep.chain (mask_sub rfl hm) .refl) (skipReserved_keep.chain (mask_sub rfl hm) (jobEnd_keep.chain (mask_sub rfl hm) (Keep.ite (Keep.ite1 (jobReject_keep.chain (mask_sub rfl hm) (skipReserved_keep.chain (mask_sub rfl hm) .refl)) (Keep.hchain (hf2 ..) (skipReserved_keep.chain (mask_sub rfl hm) .refl))) (drawn_keep.chain (mask_sub rfl hm) (Keep.ite1 (jobReject_keep.chain (mask_sub rfl hm) (skipReserved_keep.chain (mask_sub rfl hm) .refl)) (Keep.hchain (hf2 ..) (skipReserved_keep.chain (mask_sub rfl hm) .refl))))))))

theorem execJobGcm_keep {a0 s} : KeepN 825975898298 s (execJobGcm a0 s) := by
  unfold execJobGcm
  exact (.next (Keep.hchain (onlyIf_keep rfl (fun _ => (Keep.hchain (runJob_keep rfl (fun _ _ => (gcmJob_keep.chain rfl .refl))) .refl))) .refl))

theorem execJobCtr_keep {a0 s} : KeepN 825975898298 s (execJobCtr a0 s) := by
  unfold execJobCtr
  exact (.next (Keep.hchain (onlyIf_keep rfl (fun _ => (Keep.hchain (runJob_keep rfl (fun _ _ => (ctrJob_keep.chain rfl .refl))) .refl))) .refl))

theorem execJobCbc_keep {a0 s} : KeepN 825975898298 s (execJobCbc a0 s) := by
  unfold execJobCbc
  exact (.next (Keep.hchain (onlyIf_keep rfl (fun _ => (Keep.hchain (runJob_keep rfl (fun _ _ => (cbcJob_keep.chain rfl .refl))) .refl))) .refl))

theorem execJobXts_keep {a0 s} : KeepN 825975898298 s (execJobXts a0 s) := by
  unfold execJobXts
  exact (.next (Keep.hchain (onlyIf_keep rfl (fun _ => (Keep.hchain (runJob_keep rfl (fun _ _ => (xtsJob_keep.chain rfl .refl))) .refl))) .refl))

theorem shrCntClr_keep {s} : Keep 2 s (shrCntClr s) := by
  unfold shrCntClr
  exact (zeroRegs_keep.chain rfl .refl)

theorem execShrCntClr_keep {s} : KeepN 2 s (execShrCntClr s) := by
  unfold execShrCntClr
  exact (.next (Keep.hchain (onlyIf_keep rfl (fun _ => (shrCntClr_keep.chain rfl .refl))) .refl))

/-! ### Client -/

theorem modeRej_keep {a0 s} : Keep 1073742002 s (modeRej a0 s) := by
  unfold modeRej
  exact (cliEvent_keep.chain rfl (setBit_keep.chain rfl .refl))

theorem cliCntClr_keep {a0 s} : Keep 2 s (cliCntClr a0 s) := by
  unfold cliCntClr
  exact (zeroRegs_keep.chain rfl .refl)

theorem blockDown_keep {a0 s} : Keep 1073873074 s (blockDown a0 s) := by
  unfold blockDown
  exact (Keep.hchain (forAll_keep rfl (fun _ _ => (Keep.ite (linkDown_keep.chain rfl .refl) .refl))) .refl)

theorem blockLanes_keep {a0 a1 s} : Keep 1073873074 s (blockLanes a0 a1 s) := by
  unfold blockLanes
  exact (Keep.hchain (forAll_keep rfl (fun _ _ => (laneStep_keep.chain rfl .refl))) .refl)

theorem writePortCtl_keep {a0 a1 s} : Keep 1140981938 s (writePortCtl a0 a1 s) := by
  unfold writePortCtl
  exact (Keep.ite (Keep.ite (cliCntClr_keep.chain rfl (setBit_keep.chain rfl .refl)) (setBit_keep.chain rfl .refl)) (Keep.ite (modeRej_keep.chain rfl .refl) (Keep.ite (cliCntClr_keep.chain rfl (Keep.ite (setBit_keep.chain rfl .refl) (blockLanes_keep.chain rfl (blockDown_keep.chain rfl (Keep.hchain (rejoinBlock_keep rfl (fun _ => (setFld_keep.chain rfl (setFld_keep.chain rfl .refl)))) (blockDown_keep.chain rfl (setBit_keep.chain rfl .refl))))))) (Keep.ite (setBit_keep.chain rfl .refl) (blockLanes_keep.chain rfl (blockDown_keep.chain rfl (Keep.hchain (rejoinBlock_keep rfl (fun _ => (setFld_keep.chain rfl (setFld_keep.chain rfl .refl)))) (blockDown_keep.chain rfl (setBit_keep.chain rfl .refl)))))))))

theorem execPortModeWrite_keep {a0 a1 s} : KeepN 1140981938 s (execPortModeWrite a0 a1 s) := by
  unfold execPortModeWrite
  exact (.next (Keep.hchain (onlyIf_keep rfl (fun _ => (writePortCtl_keep.chain rfl .refl))) .refl))

theorem execCliCntClr_keep {a0 s} : KeepN 2 s (execCliCntClr a0 s) := by
  unfold execCliCntClr
  exact (.next (Keep.hchain (onlyIf_keep rfl (fun _ => (cliCntClr_keep.chain rfl .refl))) .refl))

theorem writeMacCtl_keep {a0 a1 a2 s} : Keep 1073742002 s (writeMacCtl a0 a1 a2 s) := by
  unfold writeMacCtl
  exact (Keep.ite (modeRej_keep.chain rfl .refl) (Keep.ite .refl (Keep.ite (cliEvent_keep.chain rfl (setBit_keep.chain rfl (Keep.ite (setBit_keep.chain rfl (setReg_keep.chain rfl .refl)) (lpiExit_keep.chain rfl (setBit_keep.chain rfl (setReg_keep.chain rfl .refl)))))) (setBit_keep.chain rfl (Keep.ite (setBit_keep.chain rfl (setReg_keep.chain rfl .refl)) (lpiExit_keep.chain rfl (setBit_keep.chain rfl (setReg_keep.chain rfl .refl))))))))

theorem execLinkDown_keep {a0 a1 a2 s} : KeepN 1073873074 s (execLinkDown a0 a1 a2 s) := by
  unfold execLinkDown
  exact (.next (Keep.hchain (onlyIf_keep rfl (fun _ => (linkDown_keep.chain rfl .refl))) .refl))

theorem showPause_keep {a0 a1 s} : Keep 1073742002 s (showPause a0 a1 s) := by
  unfold showPause
  exact (macStatus_keep.chain rfl .refl)

theorem rxPfc_keep {a0 a1 a2 s} : Keep 1074790578 s (rxPfc a0 a1 a2 s) := by
  unfold rxPfc
  exact (showPause_keep.chain rfl (setSub_keep.chain rfl (bump_keep.chain rfl .refl)))

theorem execPfcRx_keep {a0 a1 a2 s} : KeepN 1074790578 s (execPfcRx a0 a1 a2 s) := by
  unfold execPfcRx
  exact (.next (Keep.hchain (onlyIf_keep rfl (fun _ => (rxPfc_keep.chain rfl .refl))) .refl))

theorem pauseEnd_keep {a0 a1 a2 s} : Keep 1074790578 s (pauseEnd a0 a1 a2 s) := by
  unfold pauseEnd
  exact (Keep.ite (showPause_keep.chain rfl (setSub_keep.chain rfl .refl)) .refl)

theorem execPfcPauseExpiry_keep {a0 a1 a2 s} : KeepN 1074790578 s (execPfcPauseExpiry a0 a1 a2 s) := by
  unfold execPfcPauseExpiry
  exact (.next (Keep.hchain (onlyIf_keep rfl (fun _ => (pauseEnd_keep.chain rfl .refl))) .refl))

theorem pfcRepeat_keep {a0 a1 s} : Keep 1074790578 s (pfcRepeat a0 a1 s) := by
  unfold pfcRepeat
  exact (Keep.ite (pfcNow_keep.chain rfl .refl) .refl)

theorem execPfcRefresh_keep {a0 a1 s} : KeepN 1074790578 s (execPfcRefresh a0 a1 s) := by
  unfold execPfcRefresh
  exact (.next (Keep.hchain (onlyIf_keep rfl (fun _ => (pfcRepeat_keep.chain rfl .refl))) .refl))

theorem countHolds_keep {a0 a1 s} : Keep 67108866 s (countHolds a0 a1 s) := by
  unfold countHolds
  exact (Keep.hchain (forAll_keep rfl (fun _ _ => (Keep.ite (bump_keep.chain rfl (setQueue_keep.chain rfl .refl)) .refl))) .refl)

theorem selectDn_keep {ok key k s} : Keep 67108864 s (selectDn ok key k s).1 := by
  induction k generalizing s with
  | zero => exact .refl
  | succ k ih =>
    unfold selectDn
    split
    · exact .refl
    · exact .ite1 (Keep.hchain ih (toTail_keep.chain rfl (.ite (setQueue_keep.chain rfl .refl) .refl))) (.ite (setQueue_keep.chain rfl .refl) .refl)

theorem egress_keep {a0 a1 s} : Keep 1276117170 s (egress a0 a1 s) := by
  unfold egress
  exact (Keep.ite .refl (by
  first | (dsimp only; split) | (extract_lets; split) | split
  · exact (selectDn_keep.chain rfl (countHolds_keep.chain rfl .refl))
  · exact (Keep.ite (bufSettle_keep.chain rfl (freeRef_keep.chain rfl (bump_keep.chain rfl (by
  split
  · exact (chargeShaper_keep.chain rfl (takeHead_keep.chain rfl (selectDn_keep.chain rfl (countHolds_keep.chain rfl .refl))))
  · exact (takeHead_keep.chain rfl (selectDn_keep.chain rfl (countHolds_keep.chain rfl .refl)))
  )))) (lpiExit_keep.chain rfl (bump64_keep.chain rfl (setSub_keep.chain rfl (by
  split
  · exact (chargeShaper_keep.chain rfl (takeHead_keep.chain rfl (selectDn_keep.chain rfl (countHolds_keep.chain rfl .refl))))
  · exact (takeHead_keep.chain rfl (selectDn_keep.chain rfl (countHolds_keep.chain rfl .refl)))
  )))))
  ))

theorem execEgressSelect_keep {a0 a1 s} : KeepN 1276117170 s (execEgressSelect a0 a1 s) := by
  unfold execEgressSelect
  exact (.next (Keep.hchain (onlyIf_keep rfl (fun _ => (egress_keep.chain rfl .refl))) .refl))

theorem pushStamp_keep {a0 a1 a2 a3 s} : Keep 1074790578 s (pushStamp a0 a1 a2 a3 s) := by
  unfold pushStamp
  exact (Keep.ite (cliEvent_keep.chain rfl (bump_keep.chain rfl .refl)) (cliEvent_keep.chain rfl (setSub_keep.chain rfl .refl)))

theorem sentFrame_keep {a0 a1 a2 s} : Keep 1074790578 s (sentFrame a0 a1 a2 s) := by
  unfold sentFrame
  exact (Keep.ite (sendPfc_keep.chain rfl (setSub_keep.chain rfl (bump64_keep.chain rfl (bump64_keep.chain rfl .refl)))) (setSub_keep.chain rfl (bump64_keep.chain rfl (bump64_keep.chain rfl .refl))))

theorem mgtFrame_keep {a0 s} : Keep 1074790586 s (mgtFrame a0 s) := by
  unfold mgtFrame
  exact (Keep.ite (bump_keep.chain rfl .refl) (drawn_keep.chain rfl (sentFrame_keep.chain rfl (by
  split
  · exact (pushStamp_keep.chain rfl (emit_keep.chain rfl .refl))
  · exact (emit_keep.chain rfl .refl)
  ))))

theorem mgtDrain_keep {s} : Keep 69794267322 s (mgtDrain s) := by
  unfold mgtDrain
  exact (Keep.ite (Keep.hchain (forAll_keep rfl (fun _ _ => (mgtFrame_keep.chain rfl .refl))) (.xt rfl .refl)) .refl)

theorem mgtQueue_keep {a0 s} : Keep 69794267322 s (mgtQueue a0 s) := by
  unfold mgtQueue
  exact (mgtDrain_keep.chain rfl (.xt rfl .refl))

theorem execLinkUp_keep {a0 a1 a2 a3 s} : KeepN 69794398394 s (execLinkUp a0 a1 a2 a3 s) := by
  unfold execLinkUp
  exact (.next (Keep.hchain (onlyIf_keep rfl (fun _ => (mgtDrain_keep.chain rfl (linkRise_keep.chain rfl .refl)))) .refl))

theorem execMacCtlWrite_keep {a0 a1 a2 s} : KeepN 69794267322 s (execMacCtlWrite a0 a1 a2 s) := by
  unfold execMacCtlWrite
  exact (.next (Keep.hchain (onlyIf_keep rfl (fun _ => (mgtDrain_keep.chain rfl (pfcSettle_keep.chain rfl (writeMacCtl_keep.chain rfl .refl))))) .refl))

theorem txComplete_keep {a0 a1 a2 s} : Keep 1141899442 s (txComplete a0 a1 a2 s) := by
  unfold txComplete
  split
  · exact .refl
  · split
    · exact (sentFrame_keep.chain rfl .refl)
    · exact (bufSettle_keep.chain rfl (freeRef_keep.chain rfl (sentFrame_keep.chain rfl (by
    split
    · exact (pushStamp_keep.chain rfl (Keep.ite (bump_keep.chain rfl (emit_keep.chain rfl .refl)) (emit_keep.chain rfl .refl)))
    · exact (Keep.ite (bump_keep.chain rfl (emit_keep.chain rfl .refl)) (emit_keep.chain rfl .refl))
    ))))

theorem execFrameTxComplete_keep {a0 a1 a2 s} : KeepN 1141899442 s (execFrameTxComplete a0 a1 a2 s) := by
  unfold execFrameTxComplete
  exact (.next (Keep.hchain (onlyIf_keep rfl (fun _ => (txComplete_keep.chain rfl .refl))) .refl))

theorem downDiscard_keep {a0 a1 s} : Keep 69995593906 s (downDiscard a0 a1 s) := by
  unfold downDiscard
  exact (Keep.ite .refl (Keep.ite (Keep.ite .refl (bump_keep.chain rfl (.xt rfl .refl))) (by
  first | (dsimp only; split) | (extract_lets; split) | split
  · exact (selectDn_keep.chain rfl .refl)
  · exact (bufSettle_keep.chain rfl (freeRef_keep.chain rfl (bump_keep.chain rfl (takeHead_keep.chain rfl (selectDn_keep.chain rfl .refl)))))
  )))

theorem execTxDownDiscard_keep {a0 a1 s} : KeepN 69995593906 s (execTxDownDiscard a0 a1 s) := by
  unfold execTxDownDiscard
  exact (.next (Keep.hchain (onlyIf_keep rfl (fun _ => (downDiscard_keep.chain rfl .refl))) .refl))

theorem lpiEntry_keep {a0 a1 s} : Keep 1073742002 s (lpiEntry a0 a1 s) := by
  unfold lpiEntry
  exact (Keep.ite (bumpHi_keep.chain rfl (macStatus_keep.chain rfl .refl)) .refl)

theorem execLpiEntry_keep {a0 a1 s} : KeepN 1073742002 s (execLpiEntry a0 a1 s) := by
  unfold execLpiEntry
  exact (.next (Keep.hchain (onlyIf_keep rfl (fun _ => (lpiEntry_keep.chain rfl .refl))) .refl))

theorem execReceiveLpiChange_keep {a0 a1 a2 s} : KeepN 1073742002 s (execReceiveLpiChange a0 a1 a2 s) := by
  unfold execReceiveLpiChange
  exact (.next (Keep.hchain (onlyIf_keep rfl (fun _ => (macStatus_keep.chain rfl .refl))) .refl))

theorem popStamp_keep {a0 a1 a2 s} : Keep 17180917760 s (popStamp a0 a1 a2 s).1 := by
  unfold popStamp
  exact (snapWords_keep.chain rfl (setSub_keep.chain rfl .refl))

theorem execTsTxPop_keep {a0 a1 a2 s} : KeepN 17180917776 s (execTsTxPop a0 a1 a2 s) := by
  unfold execTsTxPop
  exact (.next (Keep.ite (emit_keep.chain rfl (popStamp_keep.chain rfl .refl)) (emit_keep.chain rfl .refl)))

/-! ### TimeBase -/

theorem setTime_keep {a0 s} : Keep 65536 s (setTime a0 s) := by
  unfold setTime
  exact (.time rfl .refl)

theorem queueChange_keep {a0 s} : Keep 65544 s (queueChange a0 s) := by
  unfold queueChange
  first | (dsimp only; split) | (extract_lets; split) | split
  · exact (Keep.ite (drawn_keep.chain rfl (setTime_keep.chain rfl .refl)) (drawn_keep.chain rfl (setTime_keep.chain rfl .refl)))
  · exact (drawn_keep.chain rfl (setTime_keep.chain rfl .refl))

theorem scheduleRate_keep {s} : Keep 65544 s (scheduleRate s) := by
  unfold scheduleRate
  exact (queueChange_keep.chain rfl .refl)

theorem writeRate_keep {a0 s} : Keep 65544 s (writeRate a0 s) := by
  unfold writeRate
  exact (scheduleRate_keep.chain rfl (setTime_keep.chain rfl .refl))

theorem execRateWrite_keep {a0 s} : KeepN 65544 s (execRateWrite a0 s) := by
  unfold execRateWrite
  exact (.next (Keep.hchain (onlyIf_keep rfl (fun _ => (writeRate_keep.chain rfl .refl))) .refl))

theorem applyChange_keep {s} : Keep 1208025778 s (applyChange s) := by
  unfold applyChange
  split
  · exact .refl
  · exact (Keep.ite .refl (Keep.ite (Keep.ite (bump_keep.chain rfl (setReg_keep.chain rfl (setTime_keep.chain rfl .refl))) (setTime_keep.chain rfl .refl)) (pmAcquire_keep.chain rfl (glRealign_keep.chain rfl (setTbState_keep.chain rfl (tbEvent_keep.chain rfl (bump_keep.chain rfl (setTime_keep.chain rfl (Keep.ite (bump_keep.chain rfl (setReg_keep.chain rfl (setTime_keep.chain rfl .refl))) (setTime_keep.chain rfl .refl))))))))))

theorem execTimeApply_keep {s} : KeepN 1208025778 s (execTimeApply s) := by
  unfold execTimeApply
  exact (.next (Keep.hchain (onlyIf_keep rfl (fun _ => (applyChange_keep.chain rfl .refl))) .refl))

theorem setInSpec_keep {a0 s} : Keep 1073742002 s (setInSpec a0 s) := by
  unfold setInSpec
  exact (Keep.ite .refl (tbEvent_keep.chain rfl (setBit_keep.chain rfl .refl)))

theorem sourceChange_keep {s} : Keep 1073807546 s (sourceChange s) := by
  unfold sourceChange
  exact (Keep.ite (Keep.ite (setTbState_keep.chain rfl (Keep.ite (by
  split
  · exact (setBit_keep.chain rfl (setFld_keep.chain rfl .refl))
  · exact (setBit_keep.chain rfl .refl)
  ) (setInSpec_keep.chain rfl (setTime_keep.chain rfl (by
  split
  · exact (setBit_keep.chain rfl (setFld_keep.chain rfl .refl))
  · exact (setBit_keep.chain rfl .refl)
  ))))) (scheduleRate_keep.chain rfl (setTime_keep.chain rfl (setTbState_keep.chain rfl (Keep.ite (by
  split
  · exact (setBit_keep.chain rfl (setFld_keep.chain rfl .refl))
  · exact (setBit_keep.chain rfl .refl)
  ) (setInSpec_keep.chain rfl (setTime_keep.chain rfl (by
  split
  · exact (setBit_keep.chain rfl (setFld_keep.chain rfl .refl))
  · exact (setBit_keep.chain rfl .refl)
  )))))))) (Keep.ite (by
  split
  · exact (setBit_keep.chain rfl (setFld_keep.chain rfl .refl))
  · exact (setBit_keep.chain rfl .refl)
  ) (setInSpec_keep.chain rfl (setTime_keep.chain rfl (by
  split
  · exact (setBit_keep.chain rfl (setFld_keep.chain rfl .refl))
  · exact (setBit_keep.chain rfl .refl)
  )))))

theorem execTimeSourceChange_keep {s} : KeepN 1073807546 s (execTimeSourceChange s) := by
  unfold execTimeSourceChange
  exact (.next (Keep.hchain (onlyIf_keep rfl (fun _ => (sourceChange_keep.chain rfl .refl))) .refl))

theorem holdLimit_keep {s} : Keep 1073742002 s (holdLimit s) := by
  unfold holdLimit
  exact (Keep.ite (tbEvent_keep.chain rfl (armStep_keep.chain rfl .refl)) .refl)

theorem execHoldoverLimit_keep {s} : KeepN 1073742002 s (execHoldoverLimit s) := by
  unfold execHoldoverLimit
  exact (.next (Keep.hchain (onlyIf_keep rfl (fun _ => (holdLimit_keep.chain rfl .refl))) .refl))

theorem addSlew_keep {a0 s} : Keep 65544 s (addSlew a0 s) := by
  unfold addSlew
  exact (Keep.ite (scheduleRate_keep.chain rfl (setTime_keep.chain rfl .refl)) (setTime_keep.chain rfl (scheduleRate_keep.chain rfl (setTime_keep.chain rfl .refl))))

theorem recordErr_keep {a0 s} : Keep 1073807538 s (recordErr a0 s) := by
  unfold recordErr
  exact (setInSpec_keep.chain rfl (setReg64_keep.chain rfl (setTime_keep.chain rfl .refl)))

theorem correct_keep {a0 a1 a2 a3 s} : Keep 1073807546 s (correct a0 a1 a2 a3 s).1 := by
  unfold correct
  exact (Keep.ite1 (recordErr_keep.chain rfl .refl) (Keep.ite1 (armStep_keep.chain rfl (queueChange_keep.chain rfl .refl)) (Keep.ite1 (recordErr_keep.chain rfl .refl) (Keep.ite1 (tbEvent_keep.chain rfl (recordErr_keep.chain rfl .refl)) (addSlew_keep.chain rfl (setTbState_keep.chain rfl (recordErr_keep.chain rfl .refl)))))))

theorem answerTime_keep {a0 a1 a2 s} : Keep 1073747130 s (answerTime a0 a1 a2 s) := by
  unfold answerTime
  exact (Keep.ite (answer_keep.chain rfl (Keep.ite (bump_keep.chain rfl .refl) .refl)) (answer_keep.chain rfl (bump_keep.chain rfl (Keep.ite (bump_keep.chain rfl .refl) .refl))))

theorem actTimeSet_keep {a0 a1 a2 a3 a4 s} : Keep 1073812666 s (actTimeSet a0 a1 a2 a3 a4 s) := by
  unfold actTimeSet
  split
  · exact (answerTime_keep.chain rfl .refl)
  · exact (Keep.ite (answerTime_keep.chain rfl (correct_keep.chain rfl .refl)) (answerTime_keep.chain rfl (setReg64_keep.chain rfl (setReg64_keep.chain rfl .refl))))

theorem timeSet_keep {a0 a1 s} : Keep 1073812666 s (timeSet a0 a1 s) := by
  unfold timeSet
  exact (Keep.ite (bump_keep.chain rfl .refl) (Keep.ite (answerTime_keep.chain rfl (dropHeldTime_keep.chain rfl .refl)) (Keep.ite (setTime_keep.chain rfl (dropHeldTime_keep.chain rfl .refl)) (actTimeSet_keep.chain rfl (dropHeldTime_keep.chain rfl .refl)))))

theorem execTimeSet_keep {a0 s} : KeepN 1073845690 s (execTimeSet a0 s) := by
  unfold execTimeSet
  exact (.next (Keep.hchain (onlyIf_keep rfl (fun _ => (Keep.hchain (withTmm_keep rfl (fun _ _ => (timeSet_keep.chain rfl .refl))) .refl))) .refl))

theorem heldApply_keep {a0 s} : Keep 1073812666 s (heldApply a0 s) := by
  unfold heldApply
  split
  · exact .refl
  · exact (Keep.ite .refl (actTimeSet_keep.chain rfl (dropHeldTime_keep.chain rfl .refl)))

theorem execTimeSetHeldApply_keep {a0 s} : KeepN 1073812666 s (execTimeSetHeldApply a0 s) := by
  unfold execTimeSetHeldApply
  exact (.next (Keep.hchain (onlyIf_keep rfl (fun _ => (heldApply_keep.chain rfl .refl))) .refl))

theorem servo_keep {s} : Keep 65544 s (servo s) := by
  unfold servo
  first | (dsimp only; split) | (extract_lets; split) | split
  · exact (Keep.ite (scheduleRate_keep.chain rfl (setTime_keep.chain rfl .refl)) .refl)
  · exact .refl

theorem execServoMeasurement_keep {s} : KeepN 65544 s (execServoMeasurement s) := by
  unfold execServoMeasurement
  exact (.next (Keep.hchain (onlyIf_keep rfl (fun _ => (servo_keep.chain rfl .refl))) .refl))

theorem slewEnd_keep {s} : Keep 65544 s (slewEnd s) := by
  unfold slewEnd
  exact (Keep.ite .refl (queueChange_keep.chain rfl (setTime_keep.chain rfl .refl)))

theorem execSlewEnd_keep {s} : KeepN 65544 s (execSlewEnd s) := by
  unfold execSlewEnd
  exact (.next (Keep.hchain (onlyIf_keep rfl (fun _ => (slewEnd_keep.chain rfl .refl))) .refl))

theorem switchRef_keep {a0 s} : Keep 1073742002 s (switchRef a0 s) := by
  unfold switchRef
  exact (tbEvent_keep.chain rfl (bumpLo_keep.chain rfl (setFld_keep.chain rfl .refl)))

theorem takeXtal_keep {s} : Keep 1073742002 s (takeXtal s) := by
  unfold takeXtal
  exact (Keep.ite .refl (tbEvent_keep.chain rfl (bumpHi_keep.chain rfl (setBit_keep.chain rfl .refl))))

theorem refLost_keep {a0 s} : Keep 1073742002 s (refLost a0 s) := by
  unfold refLost
  exact (Keep.ite (setBit_keep.chain rfl .refl) (Keep.ite (switchRef_keep.chain rfl (setBit_keep.chain rfl .refl)) (takeXtal_keep.chain rfl (setBit_keep.chain rfl .refl))))

theorem execReferenceLoss_keep {a0 s} : KeepN 9663676594 s (execReferenceLoss a0 s) := by
  unfold execReferenceLoss
  exact (.next (Keep.hchain (onlyIf_keep rfl (fun _ => (Keep.hchain (withPins_keep rfl (fun _ => (refLost_keep.chain rfl .refl))) .refl))) .refl))

theorem refBack_keep {a0 s} : Keep 1073742002 s (refBack a0 s) := by
  unfold refBack
  exact (Keep.ite (setBit_keep.chain rfl .refl) (Keep.ite (setBit_keep.chain rfl (setFld_keep.chain rfl (setBit_keep.chain rfl .refl))) (Keep.ite (setBit_keep.chain rfl .refl) (Keep.ite (setFld_keep.chain rfl (setBit_keep.chain rfl .refl)) (Keep.ite (switchRef_keep.chain rfl (setBit_keep.chain rfl .refl)) (setBit_keep.chain rfl .refl))))))

theorem takeRef_keep {a0 s} : Keep 1073742002 s (takeRef a0 s) := by
  unfold takeRef
  exact (Keep.ite (setBit_keep.chain rfl (setFld_keep.chain rfl .refl)) (Keep.ite .refl (switchRef_keep.chain rfl .refl)))

theorem refFollow_keep {s} : Keep 1073742002 s (refFollow s) := by
  unfold refFollow
  exact (Keep.ite (takeRef_keep.chain rfl .refl) (Keep.ite .refl (takeXtal_keep.chain rfl .refl)))

theorem tbStart_keep {s} : Keep 4294967298 s (tbStart s) := by
  unfold tbStart
  exact (Keep.ite (setBit_keep.chain rfl (.boot rfl rfl .refl)) .refl)

theorem execReferenceReturn_keep {a0 s} : KeepN 5368709298 s (execReferenceReturn a0 s) := by
  unfold execReferenceReturn
  exact (.next (Keep.hchain (onlyIf_keep rfl (fun _ => (tbStart_keep.chain rfl (refBack_keep.chain rfl .refl)))) .refl))

theorem ppsPulse_keep {s} : Keep 65552 s (ppsPulse s) := by
  unfold ppsPulse
  exact (Keep.ite (emit_keep.chain rfl (setTime_keep.chain rfl .refl)) .refl)

theorem execPpsOutPulse_keep {s} : KeepN 65552 s (execPpsOutPulse s) := by
  unfold execPpsOutPulse
  exact (.next (Keep.hchain (onlyIf_keep rfl (fun _ => (ppsPulse_keep.chain rfl .refl))) .refl))

theorem ppsEnd_keep {s} : Keep 65552 s (ppsEnd s) := by
  unfold ppsEnd
  split
  · exact (Keep.ite (emit_keep.chain rfl (setTime_keep.chain rfl .refl)) .refl)
  · exact .refl

theorem execPpsOutEnd_keep {s} : KeepN 65552 s (execPpsOutEnd s) := by
  unfold execPpsOutEnd
  exact (.next (Keep.hchain (onlyIf_keep rfl (fun _ => (ppsEnd_keep.chain rfl .refl))) .refl))

theorem ppsCorrect_keep {a0 s} : Keep 1073807546 s (ppsCorrect a0 s) := by
  unfold ppsCorrect
  exact (Keep.ite .refl (Keep.ite (correct_keep.chain rfl (setTime_keep.chain rfl .refl)) (correct_keep.chain rfl .refl)))

theorem ppsEdge_keep {a0 s} : Keep 1073807546 s (ppsEdge a0 s) := by
  unfold ppsEdge
  exact (Keep.ite .refl (Keep.ite (bump_keep.chain rfl .refl) (ppsCorrect_keep.chain rfl (tbEvent_keep.chain rfl (bump_keep.chain rfl (setTime_keep.chain rfl (setWide_keep.chain rfl (setRegN_keep.chain rfl .refl))))))))

theorem execPpsInEdge_keep {a0 s} : KeepN 1073807546 s (execPpsInEdge a0 s) := by
  unfold execPpsInEdge
  exact (.next (Keep.hchain (onlyIf_keep rfl (fun _ => (ppsEdge_keep.chain rfl .refl))) .refl))

theorem ppsMiss_keep {s} : Keep 9663676594 s (ppsMiss s) := by
  unfold ppsMiss
  exact (Keep.ite (Keep.hchain (withPins_keep rfl (fun _ => (tbEvent_keep.chain rfl .refl))) .refl) .refl)

theorem execPpsInMiss_keep {s} : KeepN 9663676594 s (execPpsInMiss s) := by
  unfold execPpsInMiss
  exact (.next (Keep.hchain (onlyIf_keep rfl (fun _ => (ppsMiss_keep.chain rfl .refl))) .refl))

theorem execRclkRelease_keep {a0 s} : KeepN 1073742002 s (execRclkRelease a0 s) := by
  unfold execRclkRelease
  exact (.next (Keep.hchain (onlyIf_keep rfl (fun _ => (setSquelch_keep.chain rfl .refl))) .refl))

theorem execStepArmWrite_keep {s} : KeepN 2 s (execStepArmWrite s) := by
  unfold execStepArmWrite
  exact (.next (Keep.hchain (onlyIf_keep rfl (fun _ => (armStep_keep.chain rfl .refl))) .refl))

theorem tbCntClr_keep {s} : Keep 2 s (tbCntClr s) := by
  unfold tbCntClr
  exact (zeroRegs_keep.chain rfl .refl)

theorem execTbCntClr_keep {s} : KeepN 2 s (execTbCntClr s) := by
  unfold execTbCntClr
  exact (.next (Keep.hchain (onlyIf_keep rfl (fun _ => (tbCntClr_keep.chain rfl .refl))) .refl))

theorem timeTod_keep {a0 s} : Keep 65536 s (timeTod a0 s).1 := by
  unfold timeTod
  exact (Keep.ite1 (setTime_keep.chain rfl .refl) .refl)

end Sys2Proof.Machine
end

