-- ==== Sys2Proof/Laws/Keep8.lean ====
section
/-! SUPPORT. What each operation of these files of the machine keeps: Bus, Boot, Commands. -/
namespace Sys2Proof.Machine
open Sys2Proof

/-! ### Bus -/

theorem readEffect_keep {path a s} : ∀ q, readEffect path a s = some q → Keep 17214472434 s q.1 := by
  intro q h
  unfold readEffect at h
  split at h
  · cases h; exact requestAgain_keep.chain rfl (ackTarget_keep.chain rfl .refl)
  · split at h
    · cases h; exact popEvent_keep.weaken rfl
    · split at h
      · cases h; exact popStamp_keep.weaken rfl
      · split at h
        · cases h; exact popStamp_keep.weaken rfl
        · cases h

theorem busRead_keep {path a s} : Keep 17214472434 s (busRead path a s).1 := by
  unfold busRead
  refine .ite1 .refl ?_
  split
  · rename_i h; exact (readEffect_keep _ h).weaken rfl
  · split
    · exact .refl
    · exact .ite1 .refl (.ite1 (snapWords_keep.chain rfl .refl) .refl)

theorem busReads_keep {path a n s} : Keep 17214472434 s (busReads path a n s).1 := by
  induction n generalizing a s with
  | zero => exact .refl
  | succ n ih => exact Keep.hchain ih (busRead_keep.chain rfl .refl)

theorem commitHigh_keep {a0 a1 a2 s} : Keep 17179869186 s (commitHigh a0 a1 a2 s) := by
  unfold commitHigh
  exact (Keep.hchain (forAll_keep rfl (fun _ _ => (Keep.ite (setPath_keep.chain rfl (setReg_keep.chain rfl .refl)) .refl))) .refl)

theorem plainWrite_keep {a0 a1 a2 s} : Keep 17179869186 s (plainWrite a0 a1 a2 s) := by
  unfold plainWrite
  split
  · exact .refl
  · exact (Keep.ite .refl (Keep.ite (setReg_keep.chain rfl .refl) (Keep.ite (setPath_keep.chain rfl .refl) (setReg_keep.chain rfl (commitHigh_keep.chain rfl .refl)))))

theorem dropHigh_keep {a0 a1 a2 s} : Keep 17179869184 s (dropHigh a0 a1 a2 s) := by
  unfold dropHigh
  exact (Keep.hchain (forAll_keep rfl (fun _ _ => (setPath_keep.chain rfl .refl))) .refl)

theorem onBit_keep {m : Nat} {a0 a1 f2 s} (_hm : 0 &&& m = 0) (hf2 : ∀ v0, Keep m v0 (f2 v0)) : Keep m s (onBit a0 a1 f2 s) := by
  unfold onBit
  exact (Keep.ite (Keep.hchain (hf2 ..) .refl) .refl)

theorem withEdge_keep {m : Nat} {a0 a1 f2 s} (hm : 1073742002 &&& m = 1073742002) (hf2 : ∀ v0, Keep m v0 (f2 v0)) : Keep m s (withEdge a0 a1 f2 s) := by
  unfold withEdge
  exact (Keep.ite (signalSource_keep.chain (mask_sub rfl hm) (Keep.hchain (hf2 ..) .refl)) (Keep.hchain (hf2 ..) .refl))

theorem pmSnap_keep {s} : Keep 2 s (pmSnap s) := by
  unfold pmSnap
  exact (setRegN_keep.chain rfl (setReg64_keep.chain rfl (Keep.hchain (forAll_keep rfl (fun _ _ => (setBit_keep.chain rfl (setReg_keep.chain rfl (setReg_keep.chain rfl .refl))))) (Keep.hchain (forAll_keep rfl (fun _ _ => (setReg_keep.chain rfl .refl))) .refl))))

theorem accCntClr_keep {s} : Keep 2 s (accCntClr s) := by
  unfold accCntClr
  exact (zeroRegs_keep.chain rfl .refl)

theorem nrCntClr_keep {s} : Keep 2 s (nrCntClr s) := by
  unfold nrCntClr
  exact (zeroRegs_keep.chain rfl .refl)

theorem writeHw_keep {a0 a1 a2 s} : KeepO 31138649338 s (writeHw a0 a1 a2 s) := by
  unfold writeHw
  exact (KeepO.ite (.some (Keep.hchain (onBit_keep rfl (fun _ => (fltCntClr_keep.chain rfl .refl))) (plainWrite_keep.chain rfl .refl))) (KeepO.ite (.some (writeWdogCtl_keep.chain rfl .refl)) (KeepO.ite (.some (wdogKick_keep.chain rfl .refl)) (KeepO.ite (.some (logIdx_keep.chain rfl .refl)) (KeepO.ite (.some (Keep.hchain (onBit_keep rfl (fun _ => (accCntClr_keep.chain rfl .refl))) .refl)) (KeepO.ite (.some (Keep.hchain (withRises_keep rfl (fun _ => (plainWrite_keep.chain rfl .refl))) (Keep.hchain (onBit_keep rfl (fun _ => (icCntClr_keep.chain rfl .refl))) .refl))) (KeepO.ite (.some (Keep.hchain (onBit_keep rfl (fun _ => (signalSource_keep.chain rfl .refl))) (Keep.ite (clearSource_keep.chain rfl .refl) .refl))) (KeepO.ite (.some (writeSrcCfg_keep.chain rfl .refl)) (KeepO.ite (KeepO.ite (.some (Keep.hchain (onBit_keep rfl (fun _ => (by
  split
  · exact .refl
  · exact (thawTarget_keep.chain rfl .refl)
  ))) (Keep.hchain (withRises_keep rfl (fun _ => (plainWrite_keep.chain rfl .refl))) .refl))) (KeepO.ite (.some (eoiTarget_keep.chain rfl .refl)) .none)) (KeepO.ite (.some (Keep.ite (plainWrite_keep.chain rfl .refl) (Keep.ite (by
  split
  · exact (unmaskMsix_keep.chain rfl .refl)
  · exact .refl
  ) .refl))) (KeepO.ite (.some (Keep.hchain (onBit_keep rfl (fun _ => (reefCntClr_keep.chain rfl .refl))) (plainWrite_keep.chain rfl .refl))) (KeepO.ite (.some (Keep.hchain (onBit_keep rfl (fun _ => (reefRequest_keep.chain rfl .refl))) (Keep.ite (.reef rfl rfl .refl) .refl))) (KeepO.ite (.some (writeCliDarkReq_keep.chain rfl .refl)) .none)))))))))))))

theorem writeTrunk_keep {a0 a1 a2 s} : KeepO 31476152250 s (writeTrunk a0 a1 a2 s) := by
  unfold writeTrunk
  exact (KeepO.ite (.some (Keep.hchain (onBit_keep rfl (fun _ => (frCntClr_keep.chain rfl .refl))) (Keep.hchain (onBit_keep rfl (fun _ => (Keep.ite (Keep.hchain (withTiming_keep rfl (fun _ => (dropLock_keep.chain rfl .refl))) .refl) .refl))) (writeFrEn_keep.chain rfl (setFld_keep.chain rfl .refl))))) (KeepO.ite (.some (writeFilter_keep.chain rfl .refl)) (KeepO.ite (.some (selectPm_keep.chain rfl .refl)) (KeepO.ite (.some (Keep.hchain (onBit_keep rfl (fun _ => (clearCur_keep.chain rfl .refl))) .refl)) (KeepO.ite (.some (regEnable_keep.chain rfl (Keep.ite .refl (setBit_keep.chain rfl (setBit_keep.chain rfl .refl))))) (KeepO.ite (.some (Keep.hchain (withSummary_keep rfl (fun _ => (plainWrite_keep.chain rfl .refl))) .refl)) (KeepO.ite (.some (Keep.hchain (onBit_keep rfl (fun _ => (halCntClr_keep.chain rfl .refl))) (writeHalEnable_keep.chain rfl (setBit_keep.chain rfl .refl)))) (KeepO.ite (.some (writeDozeCtl_keep.chain rfl .refl)) (KeepO.ite (.some (lookupCtx_keep.chain rfl .refl)) .none)))))))))

theorem writeGuardTime_keep {a0 a1 a2 s} : KeepO 26844038330 s (writeGuardTime a0 a1 a2 s) := by
  unfold writeGuardTime
  exact (KeepO.ite (.some (Keep.hchain (onBit_keep rfl (fun _ => (bksCntClr_keep.chain rfl .refl))) (plainWrite_keep.chain rfl .refl))) (KeepO.ite (.some (writeUnlock_keep.chain rfl .refl)) (KeepO.ite (.some (Keep.hchain (withEdge_keep rfl (fun _ => (plainWrite_keep.chain rfl .refl))) .refl)) (KeepO.ite (.some (Keep.hchain (forAll_keep rfl (fun _ _ => (Keep.ite (laneUp_keep.chain rfl .refl) .refl))) (plainWrite_keep.chain rfl .refl))) (KeepO.ite (.some (Keep.hchain (onBit_keep rfl (fun _ => (lkoCntClr_keep.chain rfl .refl))) .refl)) (KeepO.ite (.some (Keep.hchain (onBit_keep rfl (fun _ => (tbCntClr_keep.chain rfl .refl))) (Keep.hchain (onBit_keep rfl (fun _ => (armStep_keep.chain rfl .refl))) (refFollow_keep.chain rfl (plainWrite_keep.chain rfl .refl))))) (KeepO.ite (.some (writeRate_keep.chain rfl .refl)) (KeepO.ite (.some (rclkSettle_keep.chain rfl (plainWrite_keep.chain rfl .refl))) .none))))))))

theorem writeLane_keep {a0 a1 a2 s} : KeepO 31476152250 s (writeLane a0 a1 a2 s) := by
  unfold writeLane
  exact (KeepO.ite (.some (Keep.ite (plainWrite_keep.chain rfl .refl) (signalSource_keep.chain rfl (plainWrite_keep.chain rfl .refl)))) (KeepO.ite .none (KeepO.ite (.some (Keep.hchain (onBit_keep rfl (fun _ => (laneCntClr_keep.chain rfl .refl))) (Keep.hchain (onBit_keep rfl (fun _ => (retrain_keep.chain rfl .refl))) (enablePort_keep.chain rfl (Keep.ite .refl (setBit_keep.chain rfl .refl)))))) (KeepO.ite (.some (writePat_keep.chain rfl .refl)) (KeepO.ite (.some (writeInj_keep.chain rfl .refl)) (KeepO.ite (.some (Keep.hchain (withEdge_keep rfl (fun _ => (plainWrite_keep.chain rfl .refl))) .refl)) .none))))))

theorem writeClient_keep {a0 a1 a2 a3 a4 s} : KeepO 87041376442 s (writeClient a0 a1 a2 a3 a4 s) := by
  unfold writeClient
  exact (KeepO.ite (.some (mgtDrain_keep.chain rfl (pfcSettle_keep.chain rfl (writePortCtl_keep.chain rfl .refl)))) (KeepO.ite (KeepO.ite (.some (mgtDrain_keep.chain rfl (pfcSettle_keep.chain rfl (writeMacCtl_keep.chain rfl .refl)))) (KeepO.ite (.some (pfcSettle_keep.chain rfl (plainWrite_keep.chain rfl .refl))) .none)) .none))

theorem writeTsi_keep {a0 a1 a2 s} : KeepO 18254135474 s (writeTsi a0 a1 a2 s) := by
  unfold writeTsi
  exact (KeepO.ite (.some (Keep.hchain (onBit_keep rfl (fun _ => (tsiCntClr_keep.chain rfl .refl))) (tsiEnable_keep.chain rfl (setFld_keep.chain rfl .refl)))) (KeepO.ite (.some (Keep.hchain (onBit_keep rfl (fun _ => (pageForce_keep.chain rfl .refl))) (Keep.hchain (onBit_keep rfl (fun _ => (pageDisarm_keep.chain rfl .refl))) (Keep.hchain (onBit_keep rfl (fun _ => (pageArm_keep.chain rfl .refl))) .refl)))) (KeepO.ite (KeepO.ite (.some (setWrRej_keep.chain rfl (dropHigh_keep.chain rfl .refl))) (KeepO.ite (.some (setWrRej_keep.chain rfl (plainWrite_keep.chain rfl .refl))) (.some (plainWrite_keep.chain rfl .refl)))) (KeepO.ite (.some (calSettle_keep.chain rfl (plainWrite_keep.chain rfl .refl))) .none))))

theorem writeParse_keep {a0 a1 a2 s} : KeepO 18278777010 s (writeParse a0 a1 a2 s) := by
  unfold writeParse
  exact (KeepO.ite (.some (Keep.hchain (onBit_keep rfl (fun _ => (pgCommit_keep.chain rfl .refl))) (Keep.hchain (onBit_keep rfl (fun _ => (pgCntClr_keep.chain rfl .refl))) (plainWrite_keep.chain rfl .refl)))) (KeepO.ite (.some (writePgMemory_keep.chain rfl .refl)) (KeepO.ite (.some (Keep.hchain (onBit_keep rfl (fun _ => (clsCntClr_keep.chain rfl .refl))) (plainWrite_keep.chain rfl .refl))) (KeepO.ite (.some (writeRuleCtl_keep.chain rfl .refl)) (KeepO.ite (KeepO.ite (.some (writeExcCtl_keep.chain rfl .refl)) (.some (plainWrite_keep.chain rfl (settleTokens_keep.chain rfl .refl)))) (KeepO.ite (.some (writeHpCtl_keep.chain rfl .refl)) (KeepO.ite (.some (writeIndirection_keep.chain rfl .refl)) .none)))))))

theorem writeCanopy_keep {a0 a1 a2 s} : KeepO 18287165618 s (writeCanopy a0 a1 a2 s) := by
  unfold writeCanopy
  exact (KeepO.ite (.some (Keep.hchain (onBit_keep rfl (fun _ => (canCntClr_keep.chain rfl .refl))) (plainWrite_keep.chain rfl .refl))) (KeepO.ite (.some (writeCanTbl_keep.chain rfl .refl)) (KeepO.ite (.some (writeRingProd_keep.chain rfl .refl)) (KeepO.ite (.some (writeDescriptor_keep.chain rfl .refl)) (KeepO.ite (.some (Keep.hchain (onBit_keep rfl (fun _ => (tcamCntClr_keep.chain rfl .refl))) (plainWrite_keep.chain rfl .refl))) (KeepO.ite (.some (writeSteer_keep.chain rfl .refl)) .none))))))

theorem writeBuffer_keep {a0 a1 a2 s} : KeepO 18455986354 s (writeBuffer a0 a1 a2 s) := by
  unfold writeBuffer
  exact (KeepO.ite (.some (Keep.hchain (onBit_keep rfl (fun _ => (bufCntClr_keep.chain rfl .refl))) (plainWrite_keep.chain rfl .refl))) (KeepO.ite (.some (writeLimit_keep.chain rfl .refl)) (KeepO.ite (.some (pfcSettle_keep.chain rfl (plainWrite_keep.chain rfl .refl))) (KeepO.ite (.some (Keep.hchain (onBit_keep rfl (fun _ => (qflush_keep.chain rfl .refl))) .refl)) (KeepO.ite (.some (Keep.hchain (onBit_keep rfl (fun _ => (schCntClr_keep.chain rfl .refl))) (plainWrite_keep.chain rfl .refl))) (KeepO.ite (.some (writeCmd_keep.chain rfl .refl)) (KeepO.ite (.some (writeLevel_keep.chain rfl .refl)) (KeepO.ite (.some (writeLevel_keep.chain rfl .refl)) (KeepO.ite (.some (writeCtx_keep.chain rfl .refl)) (KeepO.ite (.some (Keep.hchain (onBit_keep rfl (fun _ => (shrCntClr_keep.chain rfl .refl))) (plainWrite_keep.chain rfl .refl))) (KeepO.ite (.some (writeJrProd_keep.chain rfl .refl)) (KeepO.ite (.some .refl) .none))))))))))))

theorem writeXt_keep {a0 a1 a2 s} : KeepO 86973087922 s (writeXt a0 a1 a2 s) := by
  unfold writeXt
  exact (KeepO.ite (.some (Keep.hchain (onBit_keep rfl (fun _ => (stkCntClr_keep.chain rfl .refl))) (plainWrite_keep.chain rfl .refl))) (KeepO.ite (.some (Keep.hchain (onBit_keep rfl (fun _ => (mbGo_keep.chain rfl .refl))) .refl)) (KeepO.ite (.some (Keep.ite .refl (plainWrite_keep.chain rfl .refl))) (KeepO.ite (.some (Keep.hchain (onBit_keep rfl (fun _ => (nrCntClr_keep.chain rfl .refl))) (plainWrite_keep.chain rfl .refl))) (KeepO.ite (.some (Keep.ite .refl (plainWrite_keep.chain rfl .refl))) (KeepO.ite (.some (Keep.hchain (onBit_keep rfl (fun _ => (pmSnap_keep.chain rfl .refl))) (Keep.ite (plainWrite_keep.chain rfl .refl) (.xt rfl (plainWrite_keep.chain rfl .refl))))) .none))))))

theorem writeEffect_keep {a0 a1 a2 s} : KeepO 100388567034 s (writeEffect a0 a1 a2 s) := by
  unfold writeEffect
  exact (KeepO.ite (writeHw_keep.weaken rfl) (KeepO.ite (writeTrunk_keep.weaken rfl) (KeepO.ite (writeGuardTime_keep.weaken rfl) (KeepO.ite (writeClient_keep.weaken rfl) (KeepO.ite (writeClient_keep.weaken rfl) (KeepO.ite (writeTsi_keep.weaken rfl) (KeepO.ite (writeParse_keep.weaken rfl) (KeepO.ite (writeCanopy_keep.weaken rfl) (KeepO.ite (writeBuffer_keep.weaken rfl) (KeepO.ite (writeLane_keep.weaken rfl) (writeXt_keep.weaken rfl)))))))))))

theorem busWrite_keep {path a v s} : Keep 100388567034 s (busWrite path a v s) := by
  unfold busWrite
  refine .ite (modeRej_keep.chain rfl .refl) (.ite .refl ?_)
  split
  · rename_i h; exact (writeEffect_keep _ h).weaken rfl
  · exact plainWrite_keep.chain rfl .refl

theorem busWrites_keep {path a l s} : Keep 100388567034 s (busWrites path a l s) := by
  induction l generalizing a s with
  | nil => exact .refl
  | cons v l ih => exact Keep.hchain ih (busWrite_keep.chain rfl .refl)

theorem execRegisterWrite_keep {a0 a1 a2 s} : KeepN 100388567034 s (execRegisterWrite a0 a1 a2 s) := by
  unfold execRegisterWrite
  exact (.next (busWrite_keep.chain rfl .refl))

theorem execWideReadSnapshot_keep {a0 a1 s} : KeepN 17214472434 s (execWideReadSnapshot a0 a1 s) := by
  unfold execWideReadSnapshot
  exact (.next (emit_keep.chain rfl (busRead_keep.chain rfl .refl)))

theorem execWideWriteCommit_keep {a0 a1 a2 s} : KeepN 100388567034 s (execWideWriteCommit a0 a1 a2 s) := by
  unfold execWideWriteCommit
  exact (.next (busWrite_keep.chain rfl .refl))

theorem execConnMemWrite_keep {a0 a1 a2 s} : KeepN 100388567034 s (execConnMemWrite a0 a1 a2 s) := by
  unfold execConnMemWrite
  exact (.next (Keep.hchain (onlyIf_keep rfl (fun _ => (busWrite_keep.chain rfl .refl))) .refl))

theorem execPgMemoryWrite_keep {a0 a1 a2 s} : KeepN 100388567034 s (execPgMemoryWrite a0 a1 a2 s) := by
  unfold execPgMemoryWrite
  exact (.next (Keep.hchain (onlyIf_keep rfl (fun _ => (busWrite_keep.chain rfl .refl))) .refl))

theorem execPmSnap_keep {s} : KeepN 2 s (execPmSnap s) := by
  unfold execPmSnap
  exact (.next (Keep.hchain (onlyIf_keep rfl (fun _ => (pmSnap_keep.chain rfl .refl))) .refl))

theorem snapInterval_keep {s} : Keep 68719476738 s (snapInterval s) := by
  unfold snapInterval
  exact (pmSnap_keep.chain rfl (.xt rfl .refl))

theorem execPmSnapInterval_keep {s} : KeepN 68719476738 s (execPmSnapInterval s) := by
  unfold execPmSnapInterval
  exact (.next (Keep.hchain (onlyIf_keep rfl (fun _ => (snapInterval_keep.chain rfl .refl))) .refl))

theorem execAccCntClr_keep {s} : KeepN 2 s (execAccCntClr s) := by
  unfold execAccCntClr
  exact (.next (accCntClr_keep.chain rfl .refl))

theorem execNrCntClr_keep {s} : KeepN 2 s (execNrCntClr s) := by
  unfold execNrCntClr
  exact (.next (Keep.hchain (onlyIf_keep rfl (fun _ => (nrCntClr_keep.chain rfl .refl))) .refl))

theorem accRej_keep {a0 s} : Keep 2 s (accRej a0 s) := by
  unfold accRej
  exact (bump_keep.chain rfl (setBit_keep.chain rfl .refl))

theorem configRequest_keep {a0 s} : Keep 146 s (configRequest a0 s) := by
  unfold configRequest
  split
  · exact (emit_keep.chain rfl .refl)
  · exact (.icMsix rfl .refl)
  · exact (Keep.ite (.icMsix rfl .refl) (unmaskMsix_keep.chain rfl .refl))
  · exact (.icMsix rfl .refl)

theorem pcieRequest_keep {a0 s} : Keep 100388567034 s (pcieRequest a0 s) := by
  unfold pcieRequest
  first | (dsimp only; split) | (extract_lets; split) | split
  · exact (Keep.ite (emit_keep.chain rfl .refl) (Keep.ite (accRej_keep.chain rfl (emit_keep.chain rfl .refl)) (emit_keep.chain rfl (busReads_keep.chain rfl .refl))))
  · exact (Keep.ite .refl (Keep.ite (accRej_keep.chain rfl .refl) (busWrites_keep.chain rfl .refl)))

theorem execPcieMemoryRequest_keep {a0 s} : KeepN 100388567034 s (execPcieMemoryRequest a0 s) := by
  unfold execPcieMemoryRequest
  exact (.next (Keep.hchain (onlyIf_keep rfl (fun _ => (by
  split
  · exact (configRequest_keep.chain rfl .refl)
  · exact (pcieRequest_keep.chain rfl .refl)
  ))) .refl))

theorem execXtAccessReject_keep {a0 a1 a2 s} : KeepN 18 s (execXtAccessReject a0 a1 a2 s) := by
  unfold execXtAccessReject
  exact (.next (Keep.hchain (onlyIf_keep rfl (fun _ => (accRej_keep.chain rfl (Keep.ite .refl (emit_keep.chain rfl .refl))))) .refl))

theorem bmcSeen_keep {s} : Keep 34359738368 s (bmcSeen s) := by
  unfold bmcSeen
  exact (.bmc rfl .refl)

theorem bmcCode_keep {a0 s} : Keep 34359738368 s (bmcCode a0 s) := by
  unfold bmcCode
  exact (.bmc rfl .refl)

theorem spiIdent_keep {s} : Keep 34359738384 s (spiIdent s) := by
  unfold spiIdent
  exact (emit_keep.chain rfl (bmcSeen_keep.chain rfl .refl))

theorem spiStatusRun_keep {s} : Keep 34359738384 s (spiStatusRun s) := by
  unfold spiStatusRun
  exact (emit_keep.chain rfl (bmcSeen_keep.chain rfl .refl))

theorem spiUnknown_keep {a0 s} : Keep 34359738384 s (spiUnknown a0 s) := by
  unfold spiUnknown
  exact (emit_keep.chain rfl (bmcSeen_keep.chain rfl .refl))

theorem directBad_keep {s} : Keep 34359738370 s (directBad s) := by
  unfold directBad
  exact (accRej_keep.chain rfl (bmcCode_keep.chain rfl .refl))

theorem spiReads_keep {a n s} : Keep 51574210802 s (spiReads a n s).1 := by
  induction n generalizing a s with
  | zero => exact .refl
  | succ n ih => exact Keep.hchain ih (by split; exact busRead_keep.chain rfl .refl; exact directBad_keep.chain rfl .refl)

theorem spiReadRun_keep {a0 s} : Keep 51574210802 s (spiReadRun a0 s) := by
  unfold spiReadRun
  split
  · exact (bmcSeen_keep.chain rfl .refl)
  · exact (emit_keep.chain rfl (spiReads_keep.chain rfl (bmcSeen_keep.chain rfl .refl)))

theorem spiWrites_keep {a l s} : Keep 134748305402 s (spiWrites a l s) := by
  induction l generalizing a s with
  | nil => exact .refl
  | cons v l ih => exact Keep.hchain ih (.ite (busWrite_keep.chain rfl .refl) (directBad_keep.chain rfl .refl))

theorem spiWriteRun_keep {a0 s} : Keep 134748305402 s (spiWriteRun a0 s) := by
  unfold spiWriteRun
  split
  · exact (bmcSeen_keep.chain rfl .refl)
  · exact (spiWrites_keep.chain rfl (bmcSeen_keep.chain rfl .refl))

theorem winStart_keep {a0 a1 s} : Keep 34359738368 s (winStart a0 a1 s) := by
  unfold winStart
  exact (Keep.ite (bmcCode_keep.chain rfl .refl) (.bmc rfl .refl))

theorem winReadRun_keep {a0 s} : Keep 34359738368 s (winReadRun a0 s) := by
  unfold winReadRun
  split
  · exact (bmcSeen_keep.chain rfl .refl)
  · exact (winStart_keep.chain rfl (bmcSeen_keep.chain rfl .refl))

theorem winWriteRun_keep {a0 s} : Keep 34359738368 s (winWriteRun a0 s) := by
  unfold winWriteRun
  split
  · exact (winStart_keep.chain rfl (bmcSeen_keep.chain rfl .refl))
  · exact (bmcSeen_keep.chain rfl .refl)

theorem winDone_keep {s} : Keep 134748305402 s (winDone s) := by
  unfold winDone
  split
  · exact .refl
  · first | (dsimp only; split) | (extract_lets; split) | split
    · exact (Keep.ite (busWrite_keep.chain rfl (.bmc rfl .refl)) (.bmc rfl .refl))
    · exact (.bmc rfl (Keep.ite1 (busRead_keep.chain rfl (.bmc rfl .refl)) (.bmc rfl .refl)))

theorem execWinAccessDone_keep {s} : KeepN 134748305402 s (execWinAccessDone s) := by
  unfold execWinAccessDone
  exact (.next (winDone_keep.chain rfl .refl))

theorem winData_keep {s} : Keep 34359738384 s (winData s) := by
  unfold winData
  exact (emit_keep.chain rfl (bmcSeen_keep.chain rfl .refl))

theorem spiResetKey_keep {a0 s} : Keep 670014898162 s (spiResetKey a0 s) := by
  unfold spiResetKey
  exact (Keep.ite (warmStart_keep.chain rfl (bmcSeen_keep.chain rfl .refl)) (bmcCode_keep.chain rfl (bmcSeen_keep.chain rfl .refl)))

theorem spiResetRun_keep {a0 s} : Keep 670014898162 s (spiResetRun a0 s) := by
  unfold spiResetRun
  split
  · exact (bmcSeen_keep.chain rfl .refl)
  · exact (spiResetKey_keep.chain rfl .refl)

theorem spiRun_keep {a0 a1 s} : Keep 687194767354 s (spiRun a0 a1 s) := by
  unfold spiRun
  split
  · exact (spiIdent_keep.chain rfl .refl)
  · exact (spiStatusRun_keep.chain rfl .refl)
  · exact (spiReadRun_keep.chain rfl .refl)
  · exact (spiWriteRun_keep.chain rfl .refl)
  · exact (winReadRun_keep.chain rfl .refl)
  · exact (winWriteRun_keep.chain rfl .refl)
  · exact (winData_keep.chain rfl .refl)
  · exact (spiResetRun_keep.chain rfl .refl)
  · exact (spiUnknown_keep.chain rfl .refl)

theorem execSpiId_keep {s} : KeepN 687194767354 s (execSpiId s) := by
  unfold execSpiId
  exact (.next (spiRun_keep.chain rfl .refl))

theorem execSpiStatus_keep {s} : KeepN 687194767354 s (execSpiStatus s) := by
  unfold execSpiStatus
  exact (.next (spiRun_keep.chain rfl .refl))

theorem execSpiRead_keep {a0 a1 s} : KeepN 687194767354 s (execSpiRead a0 a1 s) := by
  unfold execSpiRead
  exact (.next (spiRun_keep.chain rfl .refl))

theorem execSpiWrite_keep {a0 a1 s} : KeepN 687194767354 s (execSpiWrite a0 a1 s) := by
  unfold execSpiWrite
  exact (.next (spiRun_keep.chain rfl .refl))

theorem execWinRead_keep {a0 s} : KeepN 687194767354 s (execWinRead a0 s) := by
  unfold execWinRead
  exact (.next (spiRun_keep.chain rfl .refl))

theorem execWinWrite_keep {a0 a1 s} : KeepN 687194767354 s (execWinWrite a0 a1 s) := by
  unfold execWinWrite
  exact (.next (spiRun_keep.chain rfl .refl))

theorem execWinData_keep {s} : KeepN 687194767354 s (execWinData s) := by
  unfold execWinData
  exact (.next (spiRun_keep.chain rfl .refl))

theorem execSpiReset_keep {a0 s} : KeepN 687194767354 s (execSpiReset a0 s) := by
  unfold execSpiReset
  exact (.next (by
  split
  · exact (spiRun_keep.chain rfl .refl)
  · exact (spiRun_keep.chain rfl .refl)
  ))

/-! ### Boot -/

theorem putBootRecord_keep {a0 s} : Keep 137438953474 s (putBootRecord a0 s) := by
  unfold putBootRecord
  exact (setRegN_keep.chain rfl (Keep.hchain (forAll_keep rfl (fun _ _ => (appendRecord_keep.chain rfl .refl))) .refl))

theorem trySlots_keep {l s} : Keep 2 s (trySlots l s).1 := by
  induction l generalizing s with
  | nil => exact .refl
  | cons n l ih =>
    unfold trySlots
    exact .ite1 (setRegN_keep.chain rfl .refl) (Keep.hchain ih (setRegN_keep.chain rfl .refl))

theorem stagePor_keep {a0 s} : Keep 4294967298 s (stagePor a0 s) := by
  unfold stagePor
  exact (setStage_keep.chain rfl (.boot rfl rfl .refl))

theorem powerEpoch_keep {s} : Keep 137438953474 s (powerEpoch s) := by
  unfold powerEpoch
  exact (Keep.ite .refl (setRegN_keep.chain rfl (Keep.hchain (forAll_keep rfl (fun _ _ => (appendRecord_keep.chain rfl .refl))) .refl)))

theorem flashFails_keep {a0 s} : Keep 13958643890 s (flashFails a0 s) := by
  unfold flashFails
  exact (Keep.hchain (withPins_keep rfl (fun _ => (Keep.hchain (forAll_keep rfl (fun _ _ => (setReg_keep.chain rfl .refl))) (.boot rfl rfl .refl)))) .refl)

theorem noteFlash_keep {a0 s} : Keep 13958643890 s (noteFlash a0 s) := by
  unfold noteFlash
  exact (Keep.hchain (forAll_keep rfl (fun _ _ => (flashFails_keep.chain rfl .refl))) .refl)

theorem stageFlash_keep {a0 s} : Keep 151397597874 s (stageFlash a0 s) := by
  unfold stageFlash
  exact (setStage_keep.chain rfl (pmEpoch_keep.chain rfl (setRegN_keep.chain rfl (powerEpoch_keep.chain rfl (noteFlash_keep.chain rfl (setDom_keep.chain rfl (.boot rfl rfl .refl)))))))

theorem useSlot_keep {a0 a1 s} : Keep 4294967298 s (useSlot a0 a1 s) := by
  unfold useSlot
  exact (setFld_keep.chain rfl (.boot rfl rfl (Keep.hchain (forAll_keep rfl (fun _ _ => (setRegN_keep.chain rfl .refl))) .refl)))

theorem stageImage_keep {s} : Keep 153882720186 s (stageImage s) := by
  unfold stageImage
  first | (dsimp only; split) | (extract_lets; split) | split
  · exact (furl_keep.chain rfl (trySlots_keep.chain rfl (Keep.ite (putBootRecord_keep.chain rfl (Keep.hchain (forAll_keep rfl (fun _ _ => (setReg_keep.chain rfl .refl))) (Keep.hchain (forAll_keep rfl (fun _ _ => (setReg_keep.chain rfl .refl))) (setFld_keep.chain rfl (.boot rfl rfl .refl))))) (setRegN_keep.chain rfl (Keep.hchain (forAll_keep rfl (fun _ _ => (setReg_keep.chain rfl .refl))) (Keep.hchain (forAll_keep rfl (fun _ _ => (setReg_keep.chain rfl .refl))) (setFld_keep.chain rfl (.boot rfl rfl .refl))))))))
  · exact (setStage_keep.chain rfl (Keep.ite (useSlot_keep.chain rfl (trySlots_keep.chain rfl (Keep.ite (putBootRecord_keep.chain rfl (Keep.hchain (forAll_keep rfl (fun _ _ => (setReg_keep.chain rfl .refl))) (Keep.hchain (forAll_keep rfl (fun _ _ => (setReg_keep.chain rfl .refl))) (setFld_keep.chain rfl (.boot rfl rfl .refl))))) (setRegN_keep.chain rfl (Keep.hchain (forAll_keep rfl (fun _ _ => (setReg_keep.chain rfl .refl))) (Keep.hchain (forAll_keep rfl (fun _ _ => (setReg_keep.chain rfl .refl))) (setFld_keep.chain rfl (.boot rfl rfl .refl)))))))) (bootEvent_keep.chain rfl (useSlot_keep.chain rfl (trySlots_keep.chain rfl (Keep.ite (putBootRecord_keep.chain rfl (Keep.hchain (forAll_keep rfl (fun _ _ => (setReg_keep.chain rfl .refl))) (Keep.hchain (forAll_keep rfl (fun _ _ => (setReg_keep.chain rfl .refl))) (setFld_keep.chain rfl (.boot rfl rfl .refl))))) (setRegN_keep.chain rfl (Keep.hchain (forAll_keep rfl (fun _ _ => (setReg_keep.chain rfl .refl))) (Keep.hchain (forAll_keep rfl (fun _ _ => (setReg_keep.chain rfl .refl))) (setFld_keep.chain rfl (.boot rfl rfl .refl)))))))))))

theorem stageHwm_keep {a0 s} : Keep 16443766714 s (stageHwm a0 s) := by
  unfold stageHwm
  exact (Keep.ite (setStage_keep.chain rfl (Keep.hchain (forAll_keep rfl (fun _ _ => (emit_keep.chain rfl .refl))) (.boot rfl rfl .refl))) (furl_keep.chain rfl (.boot rfl rfl .refl)))

theorem coreOnline_keep {s} : Keep 7784628922 s (coreOnline s) := by
  unfold coreOnline
  exact (setStage_keep.chain rfl (coreRise_keep.chain rfl (coreBoot_keep.chain rfl (Keep.ite .refl (Keep.hchain (forAll_keep rfl (fun _ _ => (setDom_keep.chain rfl .refl))) .refl)))))

theorem coreFails_keep {s} : Keep 13958643890 s (coreFails s) := by
  unfold coreFails
  exact (Keep.ite (setDom_keep.chain rfl (.boot rfl rfl .refl)) (Keep.ite (reefEvent_keep.chain rfl (bumpHi_keep.chain rfl (reefEnd_keep.chain rfl (.reef rfl rfl (Keep.hchain (forAll_keep rfl (fun _ _ => (setDom_keep.chain rfl .refl))) (.boot rfl rfl .refl)))))) .refl))

theorem stageCore_keep {a0 s} : Keep 16374563514 s (stageCore a0 s) := by
  unfold stageCore
  exact (Keep.ite (coreFails_keep.chain rfl .refl) (coreOnline_keep.chain rfl .refl))

theorem shareOut_keep {s} : Keep 8589934600 s (shareOut s) :=
  ⟨fun p hp => by cases p <;> first | exact rfl | exact ⟨rfl, rfl, rfl, rfl, rfl⟩ | exact absurd hp (by decide), List.prefix_refl _, Nat.le_add_right _ 48, id, id⟩

theorem stageXt_keep {a0 s} : Keep 16443766714 s (stageXt a0 s) := by
  unfold stageXt
  exact (Keep.ite (furl_keep.chain rfl .refl) (Keep.ite (setStage_keep.chain rfl (shareOut_keep.chain rfl (setRegN_keep.chain rfl .refl))) (furl_keep.chain rfl .refl)))

theorem stageOpp_keep {a0 s} : Keep 16443766714 s (stageOpp a0 s) := by
  unfold stageOpp
  exact (Keep.ite (furl_keep.chain rfl (Keep.hchain (forAll_keep rfl (fun _ _ => (setRegN_keep.chain rfl .refl))) .refl)) (setStage_keep.chain rfl (.reef rfl rfl (Keep.ite (Keep.hchain (forAll_keep rfl (fun _ _ => (setRegN_keep.chain rfl .refl))) .refl) (avsWrite_keep.chain rfl (Keep.hchain (forAll_keep rfl (fun _ _ => (setRegN_keep.chain rfl .refl))) .refl))))))

theorem runWave_keep {a0 s} : Keep 14296283066 s (runWave a0 s) := by
  unfold runWave
  exact (Keep.hchain (forAll_keep rfl (fun _ _ => (Keep.ite (restLane_keep.chain rfl .refl) (enablePort_keep.chain rfl .refl)))) (Keep.hchain (forAll_keep rfl (fun _ _ => (setDom_keep.chain rfl .refl))) .refl))

theorem applyRecord_keep {a0 s} : Keep 100388567034 s (applyRecord a0 s) := by
  unfold applyRecord
  split
  · exact (busWrite_keep.chain rfl (busWrite_keep.chain rfl (setBit_keep.chain rfl .refl)))
  · exact (.boot rfl rfl .refl)
  · exact (busWrite_keep.chain rfl (busWrite_keep.chain rfl .refl))
  · exact (busWrite_keep.chain rfl .refl)
  · exact .refl

theorem stageLanes_keep {a0 s} : Keep 100388567034 s (stageLanes a0 s) := by
  unfold stageLanes
  exact (setStage_keep.chain rfl (Keep.hchain (forAll_keep rfl (fun _ _ => (Keep.ite (laneEvent_keep.chain rfl (laneStep_keep.chain rfl .refl)) .refl))) (Keep.hchain (forAll_keep rfl (fun _ _ => (setDom_keep.chain rfl .refl))) (Keep.hchain (forAll_keep rfl (fun _ _ => (runWave_keep.chain rfl .refl))) (Keep.hchain (forAll_keep rfl (fun _ _ => (applyRecord_keep.chain rfl .refl))) (.boot rfl rfl .refl))))))

theorem stageHbm_keep {a0 s} : Keep 16443766714 s (stageHbm a0 s) := by
  unfold stageHbm
  exact (Keep.ite (setStage_keep.chain rfl (setHbmAvail_keep.chain rfl (Keep.hchain (forAll_keep rfl (fun _ _ => (setBit_keep.chain rfl .refl))) (Keep.ite .refl (Keep.hchain (forAll_keep rfl (fun _ _ => (setDom_keep.chain rfl .refl))) .refl))))) (furl_keep.chain rfl (logEvent_keep.chain rfl (stkEvent_keep.chain rfl (setBit_keep.chain rfl (Keep.ite .refl (Keep.hchain (forAll_keep rfl (fun _ _ => (setDom_keep.chain rfl .refl))) .refl)))))))

theorem stageTest_keep {a0 s} : Keep 16443766714 s (stageTest a0 s) := by
  unfold stageTest
  exact (Keep.ite (setStage_keep.chain rfl .refl) (furl_keep.chain rfl .refl))

theorem loadPage_keep {s} : Keep 1074266290 s (loadPage s).1 := by
  unfold loadPage
  exact (Keep.ite1 (pageForce_keep.chain rfl (pageArmDone_keep.chain rfl (pageArm_keep.chain rfl .refl))) (pageArmDone_keep.chain rfl (pageArm_keep.chain rfl .refl)))

theorem loadKeys_keep {l s} : Keep 1342177458 s (loadKeys l s).1 := by
  induction l generalizing s with
  | nil => exact .refl
  | cons x l ih =>
    unfold loadKeys
    exact .ite1 (Keep.hchain ih (rootLoad_keep.chain rfl .refl)) (rootLoad_keep.chain rfl .refl)

theorem stageLoad_keep {a0 s} : Keep 102536050682 s (stageLoad a0 s) := by
  unfold stageLoad
  first | (dsimp only; split) | (extract_lets; split) | split
  · exact (setStage_keep.chain rfl (loadKeys_keep.chain rfl (loadEntries_keep.chain rfl (loadRules_keep.chain rfl (Keep.ite1 (loadPage_keep.chain rfl (pgCopyDone_keep.chain rfl (pgCommit_keep.chain rfl (Keep.hchain (forAll_keep rfl (fun _ _ => (busWrite_keep.chain rfl .refl))) .refl)))) (pgCopyDone_keep.chain rfl (pgCommit_keep.chain rfl (Keep.hchain (forAll_keep rfl (fun _ _ => (busWrite_keep.chain rfl .refl))) .refl))))))))
  · exact (furlWith_keep.chain rfl (loadKeys_keep.chain rfl (loadEntries_keep.chain rfl (loadRules_keep.chain rfl (Keep.ite1 (loadPage_keep.chain rfl (pgCopyDone_keep.chain rfl (pgCommit_keep.chain rfl (Keep.hchain (forAll_keep rfl (fun _ _ => (busWrite_keep.chain rfl .refl))) .refl)))) (pgCopyDone_keep.chain rfl (pgCommit_keep.chain rfl (Keep.hchain (forAll_keep rfl (fun _ _ => (busWrite_keep.chain rfl .refl))) .refl))))))))

theorem enableTrunk_keep {a0 s} : Keep 14296282810 s (enableTrunk a0 s) := by
  unfold enableTrunk
  exact (setBit_keep.chain rfl (writeHalEnable_keep.chain rfl (regEnable_keep.chain rfl .refl)))

theorem stageEnables_keep {s} : Keep 14296283066 s (stageEnables s) := by
  unfold stageEnables
  exact (Keep.hchain (forAll_keep rfl (fun _ _ => (Keep.ite (writeFrEn_keep.chain rfl .refl) .refl))) (Keep.hchain (forAll_keep rfl (fun _ _ => (enableTrunk_keep.chain rfl .refl))) (Keep.hchain (forAll_keep rfl (fun _ _ => (Keep.hchain (forAll_keep rfl (fun _ _ => (Keep.ite (setBit_keep.chain rfl .refl) .refl))) .refl))) (tsiEnable_keep.chain rfl (setReg_keep.chain rfl (setReg_keep.chain rfl (setReg_keep.chain rfl (setReg_keep.chain rfl (setReg_keep.chain rfl (setReg_keep.chain rfl (setReg_keep.chain rfl (Keep.ite (setBit_keep.chain rfl (Keep.hchain (withRises_keep rfl (fun _ => (setReg_keep.chain rfl .refl))) .refl)) (.boot rfl rfl (Keep.hchain (withRises_keep rfl (fun _ => (setReg_keep.chain rfl .refl))) .refl))))))))))))))

theorem warmStartDone_keep {s} : Keep 9663676594 s (warmStartDone s) := by
  unfold warmStartDone
  exact (Keep.ite (fltEvent_keep.chain rfl (logEvent_keep.chain rfl (bump_keep.chain rfl .refl))) .refl)

theorem stageEnable_keep {s} : Keep 14296283066 s (stageEnable s) := by
  unfold stageEnable
  exact (warmStartDone_keep.chain rfl (bootEvent_keep.chain rfl (setStage_keep.chain rfl (setReg64_keep.chain rfl (raiseReady_keep.chain rfl (setReg_keep.chain rfl (stageEnables_keep.chain rfl .refl)))))))

theorem bootStep_keep {a0 s} : Keep 239975004154 s (bootStep a0 s) := by
  unfold bootStep
  split
  · exact (stagePor_keep.chain rfl .refl)
  · exact (stageFlash_keep.chain rfl .refl)
  · exact (stageImage_keep.chain rfl (noteFlash_keep.chain rfl .refl))
  · exact (stageHwm_keep.chain rfl .refl)
  · exact (stageCore_keep.chain rfl .refl)
  · exact (stageXt_keep.chain rfl (noteFlash_keep.chain rfl .refl))
  · exact (stageOpp_keep.chain rfl .refl)
  · exact (stageLanes_keep.chain rfl .refl)
  · exact (stageHbm_keep.chain rfl .refl)
  · exact (stageTest_keep.chain rfl .refl)
  · exact (stageTest_keep.chain rfl .refl)
  · exact (stageLoad_keep.chain rfl (noteFlash_keep.chain rfl .refl))
  · exact (stageEnable_keep.chain rfl .refl)
  · exact .refl

theorem execStartupStage_keep {a0 s} : KeepN 239975004154 s (execStartupStage a0 s) := by
  unfold execStartupStage
  exact (.next (Keep.hchain (onlyIf_keep rfl (fun _ => (bootStep_keep.chain rfl .refl))) .refl))

theorem execSuppliesGood_keep {s} : KeepN 4294967296 s (execSuppliesGood s) := by
  unfold execSuppliesGood
  exact (.next (.boot rfl rfl .refl))

/-! ### Commands -/

theorem cmdHello_keep {a0 s} : Keep 0 s (cmdHello a0 s).state := by
  unfold cmdHello
  exact .refl

theorem mendTorn_keep {a0 a1 a2 s} : Keep 4294967296 s (mendTorn a0 a1 a2 s) := by
  unfold mendTorn
  exact (.boot rfl rfl .refl)

theorem tearFlash_keep {a0 a1 a2 s} : Keep 141733920776 s (tearFlash a0 a1 a2 s) := by
  unfold tearFlash
  exact (.boot rfl rfl (flashPut_keep.chain rfl (drawn_keep.chain rfl .refl)))

theorem cmdImgErase_keep {a0 a1 s} : Keep 141733920776 s (cmdImgErase a0 a1 s).state := by
  unfold cmdImgErase
  exact (Keep.iteMb (mbStatus_keep.chain rfl .refl) (Keep.iteMb (mbStatus_keep.chain rfl .refl) (Keep.iteMb (mbStatus_keep.chain rfl .refl) (Keep.iteMb (mbStatus_keep.chain rfl (Keep.ite (flashErase_keep.chain rfl (drawn_keep.chain rfl .refl)) (drawn_keep.chain rfl .refl))) (mbStatus_keep.chain rfl (flashWrites_keep.chain rfl (mendTorn_keep.chain rfl (flashErase_keep.chain rfl .refl))))))))

theorem cmdImgWrite_keep {a0 a1 s} : Keep 141733920776 s (cmdImgWrite a0 a1 s).state := by
  unfold cmdImgWrite
  exact (Keep.iteMb (mbStatus_keep.chain rfl .refl) (Keep.iteMb (mbStatus_keep.chain rfl .refl) (Keep.iteMb (mbStatus_keep.chain rfl .refl) (Keep.iteMb (mbStatus_keep.chain rfl (tearFlash_keep.chain rfl .refl)) (mbStatus_keep.chain rfl (flashWrites_keep.chain rfl (mendTorn_keep.chain rfl (flashPut_keep.chain rfl .refl))))))))

theorem cmdImgRead_keep {a0 a1 s} : Keep 13958643890 s (cmdImgRead a0 a1 s).state := by
  unfold cmdImgRead
  exact (Keep.iteMb (mbStatus_keep.chain rfl .refl) (Keep.iteMb (mbStatus_keep.chain rfl .refl) (Keep.iteMb (mbStatus_keep.chain rfl (flashFails_keep.chain rfl .refl)) .refl)))

theorem cmdImgCheck_keep {a0 a1 s} : Keep 13958643890 s (cmdImgCheck a0 a1 s).state := by
  unfold cmdImgCheck
  exact (Keep.iteMb (mbStatus_keep.chain rfl .refl) (Keep.ite (flashFails_keep.chain rfl .refl) .refl))

theorem cmdImgSelect_keep {a0 a1 s} : Keep 151397597362 s (cmdImgSelect a0 a1 s).state := by
  unfold cmdImgSelect
  exact (Keep.iteMb (flashWrites_keep.chain rfl (putBootRecord_keep.chain rfl .refl)) (cmdImgCheck_keep.chain rfl .refl))

theorem cmdImgConfirm_keep {a0 s} : Keep 141733920770 s (cmdImgConfirm a0 s).state := by
  unfold cmdImgConfirm
  exact (Keep.iteMb (mbStatus_keep.chain rfl .refl) (Keep.iteMb (mbStatus_keep.chain rfl .refl) (mbStatus_keep.chain rfl (flashWrites_keep.chain rfl (putBootRecord_keep.chain rfl .refl)))))

theorem cmdDevReset_keep {a0 s} : Keep 0 s (cmdDevReset a0 s).state := by
  unfold cmdDevReset
  exact (mbStatus_keep.chain rfl .refl)

theorem execMbHello_keep {a0 s} : KeepN 69793218738 s (execMbHello a0 s) := by
  unfold execMbHello
  exact (.next (Keep.hchain (onlyIf_keep rfl (fun _ => (Keep.hchain (mbRunThen_keep rfl (fun _ => .refl) (fun _ _ => (cmdHello_keep.chain rfl .refl))) .refl))) .refl))

theorem execImgErase_keep {a0 s} : KeepN 211527139514 s (execImgErase a0 s) := by
  unfold execImgErase
  exact (.next (Keep.hchain (onlyIf_keep rfl (fun _ => (Keep.hchain (mbRunThen_keep rfl (fun _ => .refl) (fun _ _ => (cmdImgErase_keep.chain rfl .refl))) .refl))) .refl))

theorem execImgWrite_keep {a0 s} : KeepN 211527139514 s (execImgWrite a0 s) := by
  unfold execImgWrite
  exact (.next (Keep.hchain (onlyIf_keep rfl (fun _ => (Keep.hchain (mbRunThen_keep rfl (fun _ => .refl) (fun _ _ => (cmdImgWrite_keep.chain rfl .refl))) .refl))) .refl))

theorem execImgRead_keep {a0 s} : KeepN 82678120626 s (execImgRead a0 s) := by
  unfold execImgRead
  exact (.next (Keep.hchain (onlyIf_keep rfl (fun _ => (Keep.hchain (mbRunThen_keep rfl (fun _ => .refl) (fun _ _ => (cmdImgRead_keep.chain rfl .refl))) .refl))) .refl))

theorem execImgCheck_keep {a0 s} : KeepN 82678120626 s (execImgCheck a0 s) := by
  unfold execImgCheck
  exact (.next (Keep.hchain (onlyIf_keep rfl (fun _ => (Keep.hchain (mbRunThen_keep rfl (fun _ => .refl) (fun _ _ => (cmdImgCheck_keep.chain rfl .refl))) .refl))) .refl))

theorem execImgSelect_keep {a0 s} : KeepN 220117074098 s (execImgSelect a0 s) := by
  unfold execImgSelect
  exact (.next (Keep.hchain (onlyIf_keep rfl (fun _ => (Keep.hchain (mbRunThen_keep rfl (fun _ => .refl) (fun _ _ => (cmdImgSelect_keep.chain rfl .refl))) .refl))) .refl))

theorem execImgConfirm_keep {a0 s} : KeepN 211527139506 s (execImgConfirm a0 s) := by
  unfold execImgConfirm
  exact (.next (Keep.hchain (onlyIf_keep rfl (fun _ => (Keep.hchain (mbRunThen_keep rfl (fun _ => .refl) (fun _ _ => (cmdImgConfirm_keep.chain rfl .refl))) .refl))) .refl))

theorem execDevReset_keep {a0 s} : KeepN 635655159794 s (execDevReset a0 s) := by
  unfold execDevReset
  exact (.next (Keep.hchain (onlyIf_keep rfl (fun _ => (Keep.hchain (mbRunThen_keep rfl (fun _ => (warmStart_keep.chain rfl .refl)) (fun _ _ => (cmdDevReset_keep.chain rfl .refl))) .refl))) .refl))

theorem onPort_keep {m : Nat} {f0 a1 s} (hm : 0 &&& m = 0) (hf0 : ∀ v0 v1, Keep m v1 (f0 v0 v1).state) : Keep m s (onPort f0 a1 s).state := by
  unfold onPort
  exact (Keep.iteMb (Keep.hchain (hf0 ..) .refl) (mbStatus_keep.chain (mask_sub rfl hm) .refl))

theorem cmdRegEnable_keep {a0 s} : Keep 14296282810 s (cmdRegEnable a0 s).state := by
  unfold cmdRegEnable
  exact (Keep.hchain (onPort_keep rfl (fun _ _ => (mbStatus_keep.chain rfl (regEnable_keep.chain rfl .refl)))) .refl)

theorem cmdRegRelease_keep {a0 s} : Keep 10001315514 s (cmdRegRelease a0 s).state := by
  unfold cmdRegRelease
  exact (Keep.hchain (onPort_keep rfl (fun _ _ => (mbStatus_keep.chain rfl (regRelease_keep.chain rfl .refl)))) .refl)

theorem cmdRegSilence_keep {a0 s} : Keep 9732798138 s (cmdRegSilence a0 s).state := by
  unfold cmdRegSilence
  exact (Keep.hchain (onPort_keep rfl (fun _ _ => (mbStatus_keep.chain rfl (regSilence_keep.chain rfl .refl)))) .refl)

theorem cmdRegStatus_keep {a0 s} : Keep 0 s (cmdRegStatus a0 s).state := by
  unfold cmdRegStatus
  exact (Keep.hchain (onPort_keep rfl (fun _ _ => .refl)) .refl)

theorem execRegEnable_keep {a0 s} : KeepN 83015759546 s (execRegEnable a0 s) := by
  unfold execRegEnable
  exact (.next (Keep.hchain (onlyIf_keep rfl (fun _ => (Keep.hchain (mbRunThen_keep rfl (fun _ => .refl) (fun _ _ => (cmdRegEnable_keep.chain rfl .refl))) .refl))) .refl))

theorem execRegRelease_keep {a0 s} : KeepN 78720792250 s (execRegRelease a0 s) := by
  unfold execRegRelease
  exact (.next (Keep.hchain (onlyIf_keep rfl (fun _ => (Keep.hchain (mbRunThen_keep rfl (fun _ => .refl) (fun _ _ => (cmdRegRelease_keep.chain rfl .refl))) .refl))) .refl))

theorem execRegSilence_keep {a0 s} : KeepN 78452274874 s (execRegSilence a0 s) := by
  unfold execRegSilence
  exact (.next (Keep.hchain (onlyIf_keep rfl (fun _ => (Keep.hchain (mbRunThen_keep rfl (fun _ => .refl) (fun _ _ => (cmdRegSilence_keep.chain rfl .refl))) .refl))) .refl))

theorem execRegStatus_keep {a0 s} : KeepN 69793218738 s (execRegStatus a0 s) := by
  unfold execRegStatus
  exact (.next (Keep.hchain (onlyIf_keep rfl (fun _ => (Keep.hchain (mbRunThen_keep rfl (fun _ => .refl) (fun _ _ => (cmdRegStatus_keep.chain rfl .refl))) .refl))) .refl))

theorem cmdTimeTod_keep {a0 s} : Keep 65536 s (cmdTimeTod a0 s).state := by
  unfold cmdTimeTod
  exact (mbStatus_keep.chain rfl (timeTod_keep.chain rfl .refl))

theorem cmdArmStep_keep {a0 s} : Keep 2 s (cmdArmStep a0 s).state := by
  unfold cmdArmStep
  exact (mbStatus_keep.chain rfl (armStep_keep.chain rfl .refl))

theorem cmdTimeRead_keep {a0 s} : Keep 0 s (cmdTimeRead a0 s).state := by
  unfold cmdTimeRead
  exact .refl

theorem execTimeTod_keep {a0 s} : KeepN 69793284274 s (execTimeTod a0 s) := by
  unfold execTimeTod
  exact (.next (Keep.hchain (onlyIf_keep rfl (fun _ => (Keep.hchain (mbRunThen_keep rfl (fun _ => .refl) (fun _ _ => (cmdTimeTod_keep.chain rfl .refl))) .refl))) .refl))

theorem execTimeArmStep_keep {a0 s} : KeepN 69793218738 s (execTimeArmStep a0 s) := by
  unfold execTimeArmStep
  exact (.next (Keep.hchain (onlyIf_keep rfl (fun _ => (Keep.hchain (mbRunThen_keep rfl (fun _ => .refl) (fun _ _ => (cmdArmStep_keep.chain rfl .refl))) .refl))) .refl))

theorem execTimeRead_keep {a0 s} : KeepN 69793218738 s (execTimeRead a0 s) := by
  unfold execTimeRead
  exact (.next (Keep.hchain (onlyIf_keep rfl (fun _ => (Keep.hchain (mbRunThen_keep rfl (fun _ => .refl) (fun _ _ => (cmdTimeRead_keep.chain rfl .refl))) .refl))) .refl))

theorem cmdReefSet_keep {a0 s} : Keep 13958780090 s (cmdReefSet a0 s).state := by
  unfold cmdReefSet
  exact (Keep.iteMb (mbStatus_keep.chain rfl (reefRequest_keep.chain rfl (writeCliDarkReq_keep.chain rfl (setRegN_keep.chain rfl (Keep.ite (.reef rfl rfl .refl) .refl))))) (mbStatus_keep.chain rfl .refl))

theorem execReefSet_keep {a0 s} : KeepN 82678256826 s (execReefSet a0 s) := by
  unfold execReefSet
  exact (.next (Keep.hchain (onlyIf_keep rfl (fun _ => (Keep.hchain (mbRunThen_keep rfl (fun _ => .refl) (fun _ _ => (cmdReefSet_keep.chain rfl .refl))) .refl))) .refl))

end Sys2Proof.Machine
end

