-- ==== Sys2Proof/Laws/State.lean ====
section
/-! SUPPORT. Every field of the state after every update that leaves it alone, and what is read back after a write. -/
namespace Sys2Proof.Machine
open Sys2Proof

variable {s : State}

/-! ### Registers -/

@[simp] theorem reg_setReg_self (a : Nat) (v : Word) : reg (setReg a v s) a = v := Tab.look_put_self ..

theorem reg_setReg_ne {a b : Nat} (h : b ≠ a) (v : Word) : reg (setReg a v s) b = reg s b := Tab.look_put_ne _ _ h _

/-- A register after a write of one: the word written at its address, the old one elsewhere. -/
theorem reg_setReg (a b : Nat) (v : Word) : reg (setReg a v s) b = if b = a then v else reg s b := by
  split
  · subst_vars; exact reg_setReg_self ..
  · exact reg_setReg_ne (by assumption) _

@[simp] theorem reg_setRegN_self (a n : Nat) : reg (setRegN a n s) a = BitVec.ofNat 32 n := reg_setReg_self ..

theorem reg_setRegN_ne {a b : Nat} (h : b ≠ a) (n : Nat) : reg (setRegN a n s) b = reg s b := reg_setReg_ne h _

theorem reg_setFld_ne {a b : Nat} (h : b ≠ a) (hi lo v : Nat) : reg (setFld a hi lo v s) b = reg s b := reg_setReg_ne h _

theorem reg_bump_ne {a b : Nat} (h : b ≠ a) (n : Nat) : reg (bump a n s) b = reg s b := reg_setReg_ne h _

theorem reg_setBit_ne {a b : Nat} (h : b ≠ a) (i : Nat) (x : Bool) : reg (setBit a i x s) b = reg s b := reg_setReg_ne h _

theorem getLsbD_twoPow (i j : Nat) (hj : j < 32) : (BitVec.ofNat 32 (2 ^ i)).getLsbD j = decide (i = j) := by
  rw [BitVec.getLsbD_ofNat, Nat.testBit_two_pow]; simp [hj]

/-- A bit of the register that setBit writes. -/
theorem bitAt_setBit {a i j : Nat} (hj : j < 32) (x : Bool) :
    bitAt (setBit a i x s) a j = if i = j then x else bitAt s a j := by
  cases x
  · simp only [bitAt, setBit, reg_setReg_self, Bool.false_eq_true, if_false, BitVec.getLsbD_and, BitVec.getLsbD_not, hj,
      decide_true, Bool.true_and, getLsbD_twoPow]
    by_cases h : i = j <;> simp [h]
  · simp only [bitAt, setBit, reg_setReg_self, if_true, BitVec.getLsbD_or, getLsbD_twoPow _ _ hj]
    by_cases h : i = j <;> simp [h]

/-- The bit that setBit writes. -/
@[simp] theorem bitAt_setBit_self {a i : Nat} (hi : i < 32) (x : Bool) : bitAt (setBit a i x s) a i = x := by
  rw [bitAt_setBit hi, if_pos rfl]

theorem bitAt_setBit_ne {a b : Nat} (h : b ≠ a) (i j : Nat) (x : Bool) : bitAt (setBit a i x s) b j = bitAt s b j := by
  simp [bitAt, reg_setBit_ne h]

/-- A counter of 32 bits after a bump: its value and n more, all ones at most (R14). -/
theorem regN_bump_self (a n : Nat) : regN (bump a n s) a = min (regN s a + n) (2 ^ 32 - 1) := by
  simp only [regN, bump, reg_setRegN_self, BitVec.toNat_ofNat]
  exact Nat.mod_eq_of_lt (by omega)

/-! ### One lemma per field per update -/

@[simp] theorem setReg_pending {a v} : (setReg a v s).pending = s.pending := rfl
@[simp] theorem setReg_uptime {a v} : (setReg a v s).uptime = s.uptime := rfl
@[simp] theorem setReg_fresh {a v} : (setReg a v s).fresh = s.fresh := rfl
@[simp] theorem setReg_sent {a v} : (setReg a v s).sent = s.sent := rfl
@[simp] theorem setReg_ic {a v} : (setReg a v s).ic = s.ic := rfl
@[simp] theorem setReg_framers {a v} : (setReg a v s).framers = s.framers := rfl
@[simp] theorem setReg_pm {a v} : (setReg a v s).pm = s.pm := rfl
@[simp] theorem setReg_regn {a v} : (setReg a v s).regn = s.regn := rfl
@[simp] theorem setReg_timed {a v} : (setReg a v s).timed = s.timed := rfl
@[simp] theorem setReg_lookouts {a v} : (setReg a v s).lookouts = s.lookouts := rfl
@[simp] theorem setReg_halyards {a v} : (setReg a v s).halyards = s.halyards := rfl
@[simp] theorem setReg_contexts {a v} : (setReg a v s).contexts = s.contexts := rfl
@[simp] theorem setReg_guards {a v} : (setReg a v s).guards = s.guards := rfl
@[simp] theorem setReg_time {a v} : (setReg a v s).time = s.time := rfl
@[simp] theorem setReg_lanes {a v} : (setReg a v s).lanes = s.lanes := rfl
@[simp] theorem setReg_waikens {a v} : (setReg a v s).waikens = s.waikens := rfl
@[simp] theorem setReg_drift {a v} : (setReg a v s).drift = s.drift := rfl
@[simp] theorem setReg_tsi {a v} : (setReg a v s).tsi = s.tsi := rfl
@[simp] theorem setReg_subs {a v} : (setReg a v s).subs = s.subs := rfl
@[simp] theorem setReg_fifos {a v} : (setReg a v s).fifos = s.fifos := rfl
@[simp] theorem setReg_shrOut {a v} : (setReg a v s).shrOut = s.shrOut := rfl
@[simp] theorem setReg_pg {a v} : (setReg a v s).pg = s.pg := rfl
@[simp] theorem setReg_cls {a v} : (setReg a v s).cls = s.cls := rfl
@[simp] theorem setReg_can {a v} : (setReg a v s).can = s.can := rfl
@[simp] theorem setReg_buf {a v} : (setReg a v s).buf = s.buf := rfl
@[simp] theorem setReg_sch {a v} : (setReg a v s).sch = s.sch := rfl
@[simp] theorem setReg_shr {a v} : (setReg a v s).shr = s.shr := rfl
@[simp] theorem setReg_reef {a v} : (setReg a v s).reef = s.reef := rfl
@[simp] theorem setReg_boot {a v} : (setReg a v s).boot = s.boot := rfl
@[simp] theorem setReg_faults {a v} : (setReg a v s).faults = s.faults := rfl
@[simp] theorem setReg_paths {a v} : (setReg a v s).paths = s.paths := rfl
@[simp] theorem setReg_bmc {a v} : (setReg a v s).bmc = s.bmc := rfl
@[simp] theorem setReg_xt {a v} : (setReg a v s).xt = s.xt := rfl
@[simp] theorem setReg_flash {a v} : (setReg a v s).flash = s.flash := rfl
@[simp] theorem setReg_hostMem {a v} : (setReg a v s).hostMem = s.hostMem := rfl
@[simp] theorem setReg_xtMem {a v} : (setReg a v s).xtMem = s.xtMem := rfl
@[simp] theorem setRegN_pending {a n} : (setRegN a n s).pending = s.pending := rfl
@[simp] theorem setRegN_uptime {a n} : (setRegN a n s).uptime = s.uptime := rfl
@[simp] theorem setRegN_fresh {a n} : (setRegN a n s).fresh = s.fresh := rfl
@[simp] theorem setRegN_sent {a n} : (setRegN a n s).sent = s.sent := rfl
@[simp] theorem setRegN_ic {a n} : (setRegN a n s).ic = s.ic := rfl
@[simp] theorem setRegN_framers {a n} : (setRegN a n s).framers = s.framers := rfl
@[simp] theorem setRegN_pm {a n} : (setRegN a n s).pm = s.pm := rfl
@[simp] theorem setRegN_regn {a n} : (setRegN a n s).regn = s.regn := rfl
@[simp] theorem setRegN_timed {a n} : (setRegN a n s).timed = s.timed := rfl
@[simp] theorem setRegN_lookouts {a n} : (setRegN a n s).lookouts = s.lookouts := rfl
@[simp] theorem setRegN_halyards {a n} : (setRegN a n s).halyards = s.halyards := rfl
@[simp] theorem setRegN_contexts {a n} : (setRegN a n s).contexts = s.contexts := rfl
@[simp] theorem setRegN_guards {a n} : (setRegN a n s).guards = s.guards := rfl
@[simp] theorem setRegN_time {a n} : (setRegN a n s).time = s.time := rfl
@[simp] theorem setRegN_lanes {a n} : (setRegN a n s).lanes = s.lanes := rfl
@[simp] theorem setRegN_waikens {a n} : (setRegN a n s).waikens = s.waikens := rfl
@[simp] theorem setRegN_drift {a n} : (setRegN a n s).drift = s.drift := rfl
@[simp] theorem setRegN_tsi {a n} : (setRegN a n s).tsi = s.tsi := rfl
@[simp] theorem setRegN_subs {a n} : (setRegN a n s).subs = s.subs := rfl
@[simp] theorem setRegN_fifos {a n} : (setRegN a n s).fifos = s.fifos := rfl
@[simp] theorem setRegN_shrOut {a n} : (setRegN a n s).shrOut = s.shrOut := rfl
@[simp] theorem setRegN_pg {a n} : (setRegN a n s).pg = s.pg := rfl
@[simp] theorem setRegN_cls {a n} : (setRegN a n s).cls = s.cls := rfl
@[simp] theorem setRegN_can {a n} : (setRegN a n s).can = s.can := rfl
@[simp] theorem setRegN_buf {a n} : (setRegN a n s).buf = s.buf := rfl
@[simp] theorem setRegN_sch {a n} : (setRegN a n s).sch = s.sch := rfl
@[simp] theorem setRegN_shr {a n} : (setRegN a n s).shr = s.shr := rfl
@[simp] theorem setRegN_reef {a n} : (setRegN a n s).reef = s.reef := rfl
@[simp] theorem setRegN_boot {a n} : (setRegN a n s).boot = s.boot := rfl
@[simp] theorem setRegN_faults {a n} : (setRegN a n s).faults = s.faults := rfl
@[simp] theorem setRegN_paths {a n} : (setRegN a n s).paths = s.paths := rfl
@[simp] theorem setRegN_bmc {a n} : (setRegN a n s).bmc = s.bmc := rfl
@[simp] theorem setRegN_xt {a n} : (setRegN a n s).xt = s.xt := rfl
@[simp] theorem setRegN_flash {a n} : (setRegN a n s).flash = s.flash := rfl
@[simp] theorem setRegN_hostMem {a n} : (setRegN a n s).hostMem = s.hostMem := rfl
@[simp] theorem setRegN_xtMem {a n} : (setRegN a n s).xtMem = s.xtMem := rfl
@[simp] theorem setFld_pending {a hi lo v} : (setFld a hi lo v s).pending = s.pending := rfl
@[simp] theorem setFld_uptime {a hi lo v} : (setFld a hi lo v s).uptime = s.uptime := rfl
@[simp] theorem setFld_fresh {a hi lo v} : (setFld a hi lo v s).fresh = s.fresh := rfl
@[simp] theorem setFld_sent {a hi lo v} : (setFld a hi lo v s).sent = s.sent := rfl
@[simp] theorem setFld_ic {a hi lo v} : (setFld a hi lo v s).ic = s.ic := rfl
@[simp] theorem setFld_framers {a hi lo v} : (setFld a hi lo v s).framers = s.framers := rfl
@[simp] theorem setFld_pm {a hi lo v} : (setFld a hi lo v s).pm = s.pm := rfl
@[simp] theorem setFld_regn {a hi lo v} : (setFld a hi lo v s).regn = s.regn := rfl
@[simp] theorem setFld_timed {a hi lo v} : (setFld a hi lo v s).timed = s.timed := rfl
@[simp] theorem setFld_lookouts {a hi lo v} : (setFld a hi lo v s).lookouts = s.lookouts := rfl
@[simp] theorem setFld_halyards {a hi lo v} : (setFld a hi lo v s).halyards = s.halyards := rfl
@[simp] theorem setFld_contexts {a hi lo v} : (setFld a hi lo v s).contexts = s.contexts := rfl
@[simp] theorem setFld_guards {a hi lo v} : (setFld a hi lo v s).guards = s.guards := rfl
@[simp] theorem setFld_time {a hi lo v} : (setFld a hi lo v s).time = s.time := rfl
@[simp] theorem setFld_lanes {a hi lo v} : (setFld a hi lo v s).lanes = s.lanes := rfl
@[simp] theorem setFld_waikens {a hi lo v} : (setFld a hi lo v s).waikens = s.waikens := rfl
@[simp] theorem setFld_drift {a hi lo v} : (setFld a hi lo v s).drift = s.drift := rfl
@[simp] theorem setFld_tsi {a hi lo v} : (setFld a hi lo v s).tsi = s.tsi := rfl
@[simp] theorem setFld_subs {a hi lo v} : (setFld a hi lo v s).subs = s.subs := rfl
@[simp] theorem setFld_fifos {a hi lo v} : (setFld a hi lo v s).fifos = s.fifos := rfl
@[simp] theorem setFld_shrOut {a hi lo v} : (setFld a hi lo v s).shrOut = s.shrOut := rfl
@[simp] theorem setFld_pg {a hi lo v} : (setFld a hi lo v s).pg = s.pg := rfl
@[simp] theorem setFld_cls {a hi lo v} : (setFld a hi lo v s).cls = s.cls := rfl
@[simp] theorem setFld_can {a hi lo v} : (setFld a hi lo v s).can = s.can := rfl
@[simp] theorem setFld_buf {a hi lo v} : (setFld a hi lo v s).buf = s.buf := rfl
@[simp] theorem setFld_sch {a hi lo v} : (setFld a hi lo v s).sch = s.sch := rfl
@[simp] theorem setFld_shr {a hi lo v} : (setFld a hi lo v s).shr = s.shr := rfl
@[simp] theorem setFld_reef {a hi lo v} : (setFld a hi lo v s).reef = s.reef := rfl
@[simp] theorem setFld_boot {a hi lo v} : (setFld a hi lo v s).boot = s.boot := rfl
@[simp] theorem setFld_faults {a hi lo v} : (setFld a hi lo v s).faults = s.faults := rfl
@[simp] theorem setFld_paths {a hi lo v} : (setFld a hi lo v s).paths = s.paths := rfl
@[simp] theorem setFld_bmc {a hi lo v} : (setFld a hi lo v s).bmc = s.bmc := rfl
@[simp] theorem setFld_xt {a hi lo v} : (setFld a hi lo v s).xt = s.xt := rfl
@[simp] theorem setFld_flash {a hi lo v} : (setFld a hi lo v s).flash = s.flash := rfl
@[simp] theorem setFld_hostMem {a hi lo v} : (setFld a hi lo v s).hostMem = s.hostMem := rfl
@[simp] theorem setFld_xtMem {a hi lo v} : (setFld a hi lo v s).xtMem = s.xtMem := rfl
@[simp] theorem setBit_pending {a i b} : (setBit a i b s).pending = s.pending := rfl
@[simp] theorem setBit_uptime {a i b} : (setBit a i b s).uptime = s.uptime := rfl
@[simp] theorem setBit_fresh {a i b} : (setBit a i b s).fresh = s.fresh := rfl
@[simp] theorem setBit_sent {a i b} : (setBit a i b s).sent = s.sent := rfl
@[simp] theorem setBit_ic {a i b} : (setBit a i b s).ic = s.ic := rfl
@[simp] theorem setBit_framers {a i b} : (setBit a i b s).framers = s.framers := rfl
@[simp] theorem setBit_pm {a i b} : (setBit a i b s).pm = s.pm := rfl
@[simp] theorem setBit_regn {a i b} : (setBit a i b s).regn = s.regn := rfl
@[simp] theorem setBit_timed {a i b} : (setBit a i b s).timed = s.timed := rfl
@[simp] theorem setBit_lookouts {a i b} : (setBit a i b s).lookouts = s.lookouts := rfl
@[simp] theorem setBit_halyards {a i b} : (setBit a i b s).halyards = s.halyards := rfl
@[simp] theorem setBit_contexts {a i b} : (setBit a i b s).contexts = s.contexts := rfl
@[simp] theorem setBit_guards {a i b} : (setBit a i b s).guards = s.guards := rfl
@[simp] theorem setBit_time {a i b} : (setBit a i b s).time = s.time := rfl
@[simp] theorem setBit_lanes {a i b} : (setBit a i b s).lanes = s.lanes := rfl
@[simp] theorem setBit_waikens {a i b} : (setBit a i b s).waikens = s.waikens := rfl
@[simp] theorem setBit_drift {a i b} : (setBit a i b s).drift = s.drift := rfl
@[simp] theorem setBit_tsi {a i b} : (setBit a i b s).tsi = s.tsi := rfl
@[simp] theorem setBit_subs {a i b} : (setBit a i b s).subs = s.subs := rfl
@[simp] theorem setBit_fifos {a i b} : (setBit a i b s).fifos = s.fifos := rfl
@[simp] theorem setBit_shrOut {a i b} : (setBit a i b s).shrOut = s.shrOut := rfl
@[simp] theorem setBit_pg {a i b} : (setBit a i b s).pg = s.pg := rfl
@[simp] theorem setBit_cls {a i b} : (setBit a i b s).cls = s.cls := rfl
@[simp] theorem setBit_can {a i b} : (setBit a i b s).can = s.can := rfl
@[simp] theorem setBit_buf {a i b} : (setBit a i b s).buf = s.buf := rfl
@[simp] theorem setBit_sch {a i b} : (setBit a i b s).sch = s.sch := rfl
@[simp] theorem setBit_shr {a i b} : (setBit a i b s).shr = s.shr := rfl
@[simp] theorem setBit_reef {a i b} : (setBit a i b s).reef = s.reef := rfl
@[simp] theorem setBit_boot {a i b} : (setBit a i b s).boot = s.boot := rfl
@[simp] theorem setBit_faults {a i b} : (setBit a i b s).faults = s.faults := rfl
@[simp] theorem setBit_paths {a i b} : (setBit a i b s).paths = s.paths := rfl
@[simp] theorem setBit_bmc {a i b} : (setBit a i b s).bmc = s.bmc := rfl
@[simp] theorem setBit_xt {a i b} : (setBit a i b s).xt = s.xt := rfl
@[simp] theorem setBit_flash {a i b} : (setBit a i b s).flash = s.flash := rfl
@[simp] theorem setBit_hostMem {a i b} : (setBit a i b s).hostMem = s.hostMem := rfl
@[simp] theorem setBit_xtMem {a i b} : (setBit a i b s).xtMem = s.xtMem := rfl
@[simp] theorem setReg64_pending {a n} : (setReg64 a n s).pending = s.pending := rfl
@[simp] theorem setReg64_uptime {a n} : (setReg64 a n s).uptime = s.uptime := rfl
@[simp] theorem setReg64_fresh {a n} : (setReg64 a n s).fresh = s.fresh := rfl
@[simp] theorem setReg64_sent {a n} : (setReg64 a n s).sent = s.sent := rfl
@[simp] theorem setReg64_ic {a n} : (setReg64 a n s).ic = s.ic := rfl
@[simp] theorem setReg64_framers {a n} : (setReg64 a n s).framers = s.framers := rfl
@[simp] theorem setReg64_pm {a n} : (setReg64 a n s).pm = s.pm := rfl
@[simp] theorem setReg64_regn {a n} : (setReg64 a n s).regn = s.regn := rfl
@[simp] theorem setReg64_timed {a n} : (setReg64 a n s).timed = s.timed := rfl
@[simp] theorem setReg64_lookouts {a n} : (setReg64 a n s).lookouts = s.lookouts := rfl
@[simp] theorem setReg64_halyards {a n} : (setReg64 a n s).halyards = s.halyards := rfl
@[simp] theorem setReg64_contexts {a n} : (setReg64 a n s).contexts = s.contexts := rfl
@[simp] theorem setReg64_guards {a n} : (setReg64 a n s).guards = s.guards := rfl
@[simp] theorem setReg64_time {a n} : (setReg64 a n s).time = s.time := rfl
@[simp] theorem setReg64_lanes {a n} : (setReg64 a n s).lanes = s.lanes := rfl
@[simp] theorem setReg64_waikens {a n} : (setReg64 a n s).waikens = s.waikens := rfl
@[simp] theorem setReg64_drift {a n} : (setReg64 a n s).drift = s.drift := rfl
@[simp] theorem setReg64_tsi {a n} : (setReg64 a n s).tsi = s.tsi := rfl
@[simp] theorem setReg64_subs {a n} : (setReg64 a n s).subs = s.subs := rfl
@[simp] theorem setReg64_fifos {a n} : (setReg64 a n s).fifos = s.fifos := rfl
@[simp] theorem setReg64_shrOut {a n} : (setReg64 a n s).shrOut = s.shrOut := rfl
@[simp] theorem setReg64_pg {a n} : (setReg64 a n s).pg = s.pg := rfl
@[simp] theorem setReg64_cls {a n} : (setReg64 a n s).cls = s.cls := rfl
@[simp] theorem setReg64_can {a n} : (setReg64 a n s).can = s.can := rfl
@[simp] theorem setReg64_buf {a n} : (setReg64 a n s).buf = s.buf := rfl
@[simp] theorem setReg64_sch {a n} : (setReg64 a n s).sch = s.sch := rfl
@[simp] theorem setReg64_shr {a n} : (setReg64 a n s).shr = s.shr := rfl
@[simp] theorem setReg64_reef {a n} : (setReg64 a n s).reef = s.reef := rfl
@[simp] theorem setReg64_boot {a n} : (setReg64 a n s).boot = s.boot := rfl
@[simp] theorem setReg64_faults {a n} : (setReg64 a n s).faults = s.faults := rfl
@[simp] theorem setReg64_paths {a n} : (setReg64 a n s).paths = s.paths := rfl
@[simp] theorem setReg64_bmc {a n} : (setReg64 a n s).bmc = s.bmc := rfl
@[simp] theorem setReg64_xt {a n} : (setReg64 a n s).xt = s.xt := rfl
@[simp] theorem setReg64_flash {a n} : (setReg64 a n s).flash = s.flash := rfl
@[simp] theorem setReg64_hostMem {a n} : (setReg64 a n s).hostMem = s.hostMem := rfl
@[simp] theorem setReg64_xtMem {a n} : (setReg64 a n s).xtMem = s.xtMem := rfl
@[simp] theorem bump_pending {a n} : (bump a n s).pending = s.pending := rfl
@[simp] theorem bump_uptime {a n} : (bump a n s).uptime = s.uptime := rfl
@[simp] theorem bump_fresh {a n} : (bump a n s).fresh = s.fresh := rfl
@[simp] theorem bump_sent {a n} : (bump a n s).sent = s.sent := rfl
@[simp] theorem bump_ic {a n} : (bump a n s).ic = s.ic := rfl
@[simp] theorem bump_framers {a n} : (bump a n s).framers = s.framers := rfl
@[simp] theorem bump_pm {a n} : (bump a n s).pm = s.pm := rfl
@[simp] theorem bump_regn {a n} : (bump a n s).regn = s.regn := rfl
@[simp] theorem bump_timed {a n} : (bump a n s).timed = s.timed := rfl
@[simp] theorem bump_lookouts {a n} : (bump a n s).lookouts = s.lookouts := rfl
@[simp] theorem bump_halyards {a n} : (bump a n s).halyards = s.halyards := rfl
@[simp] theorem bump_contexts {a n} : (bump a n s).contexts = s.contexts := rfl
@[simp] theorem bump_guards {a n} : (bump a n s).guards = s.guards := rfl
@[simp] theorem bump_time {a n} : (bump a n s).time = s.time := rfl
@[simp] theorem bump_lanes {a n} : (bump a n s).lanes = s.lanes := rfl
@[simp] theorem bump_waikens {a n} : (bump a n s).waikens = s.waikens := rfl
@[simp] theorem bump_drift {a n} : (bump a n s).drift = s.drift := rfl
@[simp] theorem bump_tsi {a n} : (bump a n s).tsi = s.tsi := rfl
@[simp] theorem bump_subs {a n} : (bump a n s).subs = s.subs := rfl
@[simp] theorem bump_fifos {a n} : (bump a n s).fifos = s.fifos := rfl
@[simp] theorem bump_shrOut {a n} : (bump a n s).shrOut = s.shrOut := rfl
@[simp] theorem bump_pg {a n} : (bump a n s).pg = s.pg := rfl
@[simp] theorem bump_cls {a n} : (bump a n s).cls = s.cls := rfl
@[simp] theorem bump_can {a n} : (bump a n s).can = s.can := rfl
@[simp] theorem bump_buf {a n} : (bump a n s).buf = s.buf := rfl
@[simp] theorem bump_sch {a n} : (bump a n s).sch = s.sch := rfl
@[simp] theorem bump_shr {a n} : (bump a n s).shr = s.shr := rfl
@[simp] theorem bump_reef {a n} : (bump a n s).reef = s.reef := rfl
@[simp] theorem bump_boot {a n} : (bump a n s).boot = s.boot := rfl
@[simp] theorem bump_faults {a n} : (bump a n s).faults = s.faults := rfl
@[simp] theorem bump_paths {a n} : (bump a n s).paths = s.paths := rfl
@[simp] theorem bump_bmc {a n} : (bump a n s).bmc = s.bmc := rfl
@[simp] theorem bump_xt {a n} : (bump a n s).xt = s.xt := rfl
@[simp] theorem bump_flash {a n} : (bump a n s).flash = s.flash := rfl
@[simp] theorem bump_hostMem {a n} : (bump a n s).hostMem = s.hostMem := rfl
@[simp] theorem bump_xtMem {a n} : (bump a n s).xtMem = s.xtMem := rfl
@[simp] theorem bump64_pending {a n} : (bump64 a n s).pending = s.pending := rfl
@[simp] theorem bump64_uptime {a n} : (bump64 a n s).uptime = s.uptime := rfl
@[simp] theorem bump64_fresh {a n} : (bump64 a n s).fresh = s.fresh := rfl
@[simp] theorem bump64_sent {a n} : (bump64 a n s).sent = s.sent := rfl
@[simp] theorem bump64_ic {a n} : (bump64 a n s).ic = s.ic := rfl
@[simp] theorem bump64_framers {a n} : (bump64 a n s).framers = s.framers := rfl
@[simp] theorem bump64_pm {a n} : (bump64 a n s).pm = s.pm := rfl
@[simp] theorem bump64_regn {a n} : (bump64 a n s).regn = s.regn := rfl
@[simp] theorem bump64_timed {a n} : (bump64 a n s).timed = s.timed := rfl
@[simp] theorem bump64_lookouts {a n} : (bump64 a n s).lookouts = s.lookouts := rfl
@[simp] theorem bump64_halyards {a n} : (bump64 a n s).halyards = s.halyards := rfl
@[simp] theorem bump64_contexts {a n} : (bump64 a n s).contexts = s.contexts := rfl
@[simp] theorem bump64_guards {a n} : (bump64 a n s).guards = s.guards := rfl
@[simp] theorem bump64_time {a n} : (bump64 a n s).time = s.time := rfl
@[simp] theorem bump64_lanes {a n} : (bump64 a n s).lanes = s.lanes := rfl
@[simp] theorem bump64_waikens {a n} : (bump64 a n s).waikens = s.waikens := rfl
@[simp] theorem bump64_drift {a n} : (bump64 a n s).drift = s.drift := rfl
@[simp] theorem bump64_tsi {a n} : (bump64 a n s).tsi = s.tsi := rfl
@[simp] theorem bump64_subs {a n} : (bump64 a n s).subs = s.subs := rfl
@[simp] theorem bump64_fifos {a n} : (bump64 a n s).fifos = s.fifos := rfl
@[simp] theorem bump64_shrOut {a n} : (bump64 a n s).shrOut = s.shrOut := rfl
@[simp] theorem bump64_pg {a n} : (bump64 a n s).pg = s.pg := rfl
@[simp] theorem bump64_cls {a n} : (bump64 a n s).cls = s.cls := rfl
@[simp] theorem bump64_can {a n} : (bump64 a n s).can = s.can := rfl
@[simp] theorem bump64_buf {a n} : (bump64 a n s).buf = s.buf := rfl
@[simp] theorem bump64_sch {a n} : (bump64 a n s).sch = s.sch := rfl
@[simp] theorem bump64_shr {a n} : (bump64 a n s).shr = s.shr := rfl
@[simp] theorem bump64_reef {a n} : (bump64 a n s).reef = s.reef := rfl
@[simp] theorem bump64_boot {a n} : (bump64 a n s).boot = s.boot := rfl
@[simp] theorem bump64_faults {a n} : (bump64 a n s).faults = s.faults := rfl
@[simp] theorem bump64_paths {a n} : (bump64 a n s).paths = s.paths := rfl
@[simp] theorem bump64_bmc {a n} : (bump64 a n s).bmc = s.bmc := rfl
@[simp] theorem bump64_xt {a n} : (bump64 a n s).xt = s.xt := rfl
@[simp] theorem bump64_flash {a n} : (bump64 a n s).flash = s.flash := rfl
@[simp] theorem bump64_hostMem {a n} : (bump64 a n s).hostMem = s.hostMem := rfl
@[simp] theorem bump64_xtMem {a n} : (bump64 a n s).xtMem = s.xtMem := rfl
@[simp] theorem bumpLo_pending {a n} : (bumpLo a n s).pending = s.pending := rfl
@[simp] theorem bumpLo_uptime {a n} : (bumpLo a n s).uptime = s.uptime := rfl
@[simp] theorem bumpLo_fresh {a n} : (bumpLo a n s).fresh = s.fresh := rfl
@[simp] theorem bumpLo_sent {a n} : (bumpLo a n s).sent = s.sent := rfl
@[simp] theorem bumpLo_ic {a n} : (bumpLo a n s).ic = s.ic := rfl
@[simp] theorem bumpLo_framers {a n} : (bumpLo a n s).framers = s.framers := rfl
@[simp] theorem bumpLo_pm {a n} : (bumpLo a n s).pm = s.pm := rfl
@[simp] theorem bumpLo_regn {a n} : (bumpLo a n s).regn = s.regn := rfl
@[simp] theorem bumpLo_timed {a n} : (bumpLo a n s).timed = s.timed := rfl
@[simp] theorem bumpLo_lookouts {a n} : (bumpLo a n s).lookouts = s.lookouts := rfl
@[simp] theorem bumpLo_halyards {a n} : (bumpLo a n s).halyards = s.halyards := rfl
@[simp] theorem bumpLo_contexts {a n} : (bumpLo a n s).contexts = s.contexts := rfl
@[simp] theorem bumpLo_guards {a n} : (bumpLo a n s).guards = s.guards := rfl
@[simp] theorem bumpLo_time {a n} : (bumpLo a n s).time = s.time := rfl
@[simp] theorem bumpLo_lanes {a n} : (bumpLo a n s).lanes = s.lanes := rfl
@[simp] theorem bumpLo_waikens {a n} : (bumpLo a n s).waikens = s.waikens := rfl
@[simp] theorem bumpLo_drift {a n} : (bumpLo a n s).drift = s.drift := rfl
@[simp] theorem bumpLo_tsi {a n} : (bumpLo a n s).tsi = s.tsi := rfl
@[simp] theorem bumpLo_subs {a n} : (bumpLo a n s).subs = s.subs := rfl
@[simp] theorem bumpLo_fifos {a n} : (bumpLo a n s).fifos = s.fifos := rfl
@[simp] theorem bumpLo_shrOut {a n} : (bumpLo a n s).shrOut = s.shrOut := rfl
@[simp] theorem bumpLo_pg {a n} : (bumpLo a n s).pg = s.pg := rfl
@[simp] theorem bumpLo_cls {a n} : (bumpLo a n s).cls = s.cls := rfl
@[simp] theorem bumpLo_can {a n} : (bumpLo a n s).can = s.can := rfl
@[simp] theorem bumpLo_buf {a n} : (bumpLo a n s).buf = s.buf := rfl
@[simp] theorem bumpLo_sch {a n} : (bumpLo a n s).sch = s.sch := rfl
@[simp] theorem bumpLo_shr {a n} : (bumpLo a n s).shr = s.shr := rfl
@[simp] theorem bumpLo_reef {a n} : (bumpLo a n s).reef = s.reef := rfl
@[simp] theorem bumpLo_boot {a n} : (bumpLo a n s).boot = s.boot := rfl
@[simp] theorem bumpLo_faults {a n} : (bumpLo a n s).faults = s.faults := rfl
@[simp] theorem bumpLo_paths {a n} : (bumpLo a n s).paths = s.paths := rfl
@[simp] theorem bumpLo_bmc {a n} : (bumpLo a n s).bmc = s.bmc := rfl
@[simp] theorem bumpLo_xt {a n} : (bumpLo a n s).xt = s.xt := rfl
@[simp] theorem bumpLo_flash {a n} : (bumpLo a n s).flash = s.flash := rfl
@[simp] theorem bumpLo_hostMem {a n} : (bumpLo a n s).hostMem = s.hostMem := rfl
@[simp] theorem bumpLo_xtMem {a n} : (bumpLo a n s).xtMem = s.xtMem := rfl
@[simp] theorem bumpHi_pending {a n} : (bumpHi a n s).pending = s.pending := rfl
@[simp] theorem bumpHi_uptime {a n} : (bumpHi a n s).uptime = s.uptime := rfl
@[simp] theorem bumpHi_fresh {a n} : (bumpHi a n s).fresh = s.fresh := rfl
@[simp] theorem bumpHi_sent {a n} : (bumpHi a n s).sent = s.sent := rfl
@[simp] theorem bumpHi_ic {a n} : (bumpHi a n s).ic = s.ic := rfl
@[simp] theorem bumpHi_framers {a n} : (bumpHi a n s).framers = s.framers := rfl
@[simp] theorem bumpHi_pm {a n} : (bumpHi a n s).pm = s.pm := rfl
@[simp] theorem bumpHi_regn {a n} : (bumpHi a n s).regn = s.regn := rfl
@[simp] theorem bumpHi_timed {a n} : (bumpHi a n s).timed = s.timed := rfl
@[simp] theorem bumpHi_lookouts {a n} : (bumpHi a n s).lookouts = s.lookouts := rfl
@[simp] theorem bumpHi_halyards {a n} : (bumpHi a n s).halyards = s.halyards := rfl
@[simp] theorem bumpHi_contexts {a n} : (bumpHi a n s).contexts = s.contexts := rfl
@[simp] theorem bumpHi_guards {a n} : (bumpHi a n s).guards = s.guards := rfl
@[simp] theorem bumpHi_time {a n} : (bumpHi a n s).time = s.time := rfl
@[simp] theorem bumpHi_lanes {a n} : (bumpHi a n s).lanes = s.lanes := rfl
@[simp] theorem bumpHi_waikens {a n} : (bumpHi a n s).waikens = s.waikens := rfl
@[simp] theorem bumpHi_drift {a n} : (bumpHi a n s).drift = s.drift := rfl
@[simp] theorem bumpHi_tsi {a n} : (bumpHi a n s).tsi = s.tsi := rfl
@[simp] theorem bumpHi_subs {a n} : (bumpHi a n s).subs = s.subs := rfl
@[simp] theorem bumpHi_fifos {a n} : (bumpHi a n s).fifos = s.fifos := rfl
@[simp] theorem bumpHi_shrOut {a n} : (bumpHi a n s).shrOut = s.shrOut := rfl
@[simp] theorem bumpHi_pg {a n} : (bumpHi a n s).pg = s.pg := rfl
@[simp] theorem bumpHi_cls {a n} : (bumpHi a n s).cls = s.cls := rfl
@[simp] theorem bumpHi_can {a n} : (bumpHi a n s).can = s.can := rfl
@[simp] theorem bumpHi_buf {a n} : (bumpHi a n s).buf = s.buf := rfl
@[simp] theorem bumpHi_sch {a n} : (bumpHi a n s).sch = s.sch := rfl
@[simp] theorem bumpHi_shr {a n} : (bumpHi a n s).shr = s.shr := rfl
@[simp] theorem bumpHi_reef {a n} : (bumpHi a n s).reef = s.reef := rfl
@[simp] theorem bumpHi_boot {a n} : (bumpHi a n s).boot = s.boot := rfl
@[simp] theorem bumpHi_faults {a n} : (bumpHi a n s).faults = s.faults := rfl
@[simp] theorem bumpHi_paths {a n} : (bumpHi a n s).paths = s.paths := rfl
@[simp] theorem bumpHi_bmc {a n} : (bumpHi a n s).bmc = s.bmc := rfl
@[simp] theorem bumpHi_xt {a n} : (bumpHi a n s).xt = s.xt := rfl
@[simp] theorem bumpHi_flash {a n} : (bumpHi a n s).flash = s.flash := rfl
@[simp] theorem bumpHi_hostMem {a n} : (bumpHi a n s).hostMem = s.hostMem := rfl
@[simp] theorem bumpHi_xtMem {a n} : (bumpHi a n s).xtMem = s.xtMem := rfl
@[simp] theorem zeroRegs_pending {p} : (zeroRegs p s).pending = s.pending := rfl
@[simp] theorem zeroRegs_uptime {p} : (zeroRegs p s).uptime = s.uptime := rfl
@[simp] theorem zeroRegs_fresh {p} : (zeroRegs p s).fresh = s.fresh := rfl
@[simp] theorem zeroRegs_sent {p} : (zeroRegs p s).sent = s.sent := rfl
@[simp] theorem zeroRegs_ic {p} : (zeroRegs p s).ic = s.ic := rfl
@[simp] theorem zeroRegs_framers {p} : (zeroRegs p s).framers = s.framers := rfl
@[simp] theorem zeroRegs_pm {p} : (zeroRegs p s).pm = s.pm := rfl
@[simp] theorem zeroRegs_regn {p} : (zeroRegs p s).regn = s.regn := rfl
@[simp] theorem zeroRegs_timed {p} : (zeroRegs p s).timed = s.timed := rfl
@[simp] theorem zeroRegs_lookouts {p} : (zeroRegs p s).lookouts = s.lookouts := rfl
@[simp] theorem zeroRegs_halyards {p} : (zeroRegs p s).halyards = s.halyards := rfl
@[simp] theorem zeroRegs_contexts {p} : (zeroRegs p s).contexts = s.contexts := rfl
@[simp] theorem zeroRegs_guards {p} : (zeroRegs p s).guards = s.guards := rfl
@[simp] theorem zeroRegs_time {p} : (zeroRegs p s).time = s.time := rfl
@[simp] theorem zeroRegs_lanes {p} : (zeroRegs p s).lanes = s.lanes := rfl
@[simp] theorem zeroRegs_waikens {p} : (zeroRegs p s).waikens = s.waikens := rfl
@[simp] theorem zeroRegs_drift {p} : (zeroRegs p s).drift = s.drift := rfl
@[simp] theorem zeroRegs_tsi {p} : (zeroRegs p s).tsi = s.tsi := rfl
@[simp] theorem zeroRegs_subs {p} : (zeroRegs p s).subs = s.subs := rfl
@[simp] theorem zeroRegs_fifos {p} : (zeroRegs p s).fifos = s.fifos := rfl
@[simp] theorem zeroRegs_shrOut {p} : (zeroRegs p s).shrOut = s.shrOut := rfl
@[simp] theorem zeroRegs_pg {p} : (zeroRegs p s).pg = s.pg := rfl
@[simp] theorem zeroRegs_cls {p} : (zeroRegs p s).cls = s.cls := rfl
@[simp] theorem zeroRegs_can {p} : (zeroRegs p s).can = s.can := rfl
@[simp] theorem zeroRegs_buf {p} : (zeroRegs p s).buf = s.buf := rfl
@[simp] theorem zeroRegs_sch {p} : (zeroRegs p s).sch = s.sch := rfl
@[simp] theorem zeroRegs_shr {p} : (zeroRegs p s).shr = s.shr := rfl
@[simp] theorem zeroRegs_reef {p} : (zeroRegs p s).reef = s.reef := rfl
@[simp] theorem zeroRegs_boot {p} : (zeroRegs p s).boot = s.boot := rfl
@[simp] theorem zeroRegs_faults {p} : (zeroRegs p s).faults = s.faults := rfl
@[simp] theorem zeroRegs_paths {p} : (zeroRegs p s).paths = s.paths := rfl
@[simp] theorem zeroRegs_bmc {p} : (zeroRegs p s).bmc = s.bmc := rfl
@[simp] theorem zeroRegs_xt {p} : (zeroRegs p s).xt = s.xt := rfl
@[simp] theorem zeroRegs_flash {p} : (zeroRegs p s).flash = s.flash := rfl
@[simp] theorem zeroRegs_hostMem {p} : (zeroRegs p s).hostMem = s.hostMem := rfl
@[simp] theorem zeroRegs_xtMem {p} : (zeroRegs p s).xtMem = s.xtMem := rfl
@[simp] theorem emit_pending {o} : (emit o s).pending = s.pending := rfl
@[simp] theorem emit_regs {o} : (emit o s).regs = s.regs := rfl
@[simp] theorem emit_uptime {o} : (emit o s).uptime = s.uptime := rfl
@[simp] theorem emit_fresh {o} : (emit o s).fresh = s.fresh := rfl
@[simp] theorem emit_ic {o} : (emit o s).ic = s.ic := rfl
@[simp] theorem emit_framers {o} : (emit o s).framers = s.framers := rfl
@[simp] theorem emit_pm {o} : (emit o s).pm = s.pm := rfl
@[simp] theorem emit_regn {o} : (emit o s).regn = s.regn := rfl
@[simp] theorem emit_timed {o} : (emit o s).timed = s.timed := rfl
@[simp] theorem emit_lookouts {o} : (emit o s).lookouts = s.lookouts := rfl
@[simp] theorem emit_halyards {o} : (emit o s).halyards = s.halyards := rfl
@[simp] theorem emit_contexts {o} : (emit o s).contexts = s.contexts := rfl
@[simp] theorem emit_guards {o} : (emit o s).guards = s.guards := rfl
@[simp] theorem emit_time {o} : (emit o s).time = s.time := rfl
@[simp] theorem emit_lanes {o} : (emit o s).lanes = s.lanes := rfl
@[simp] theorem emit_waikens {o} : (emit o s).waikens = s.waikens := rfl
@[simp] theorem emit_drift {o} : (emit o s).drift = s.drift := rfl
@[simp] theorem emit_tsi {o} : (emit o s).tsi = s.tsi := rfl
@[simp] theorem emit_subs {o} : (emit o s).subs = s.subs := rfl
@[simp] theorem emit_fifos {o} : (emit o s).fifos = s.fifos := rfl
@[simp] theorem emit_shrOut {o} : (emit o s).shrOut = s.shrOut := rfl
@[simp] theorem emit_pg {o} : (emit o s).pg = s.pg := rfl
@[simp] theorem emit_cls {o} : (emit o s).cls = s.cls := rfl
@[simp] theorem emit_can {o} : (emit o s).can = s.can := rfl
@[simp] theorem emit_buf {o} : (emit o s).buf = s.buf := rfl
@[simp] theorem emit_sch {o} : (emit o s).sch = s.sch := rfl
@[simp] theorem emit_shr {o} : (emit o s).shr = s.shr := rfl
@[simp] theorem emit_reef {o} : (emit o s).reef = s.reef := rfl
@[simp] theorem emit_boot {o} : (emit o s).boot = s.boot := rfl
@[simp] theorem emit_faults {o} : (emit o s).faults = s.faults := rfl
@[simp] theorem emit_paths {o} : (emit o s).paths = s.paths := rfl
@[simp] theorem emit_bmc {o} : (emit o s).bmc = s.bmc := rfl
@[simp] theorem emit_xt {o} : (emit o s).xt = s.xt := rfl
@[simp] theorem emit_flash {o} : (emit o s).flash = s.flash := rfl
@[simp] theorem emit_hostMem {o} : (emit o s).hostMem = s.hostMem := rfl
@[simp] theorem emit_xtMem {o} : (emit o s).xtMem = s.xtMem := rfl
@[simp] theorem drawn_pending : (drawn s).pending = s.pending := rfl
@[simp] theorem drawn_regs : (drawn s).regs = s.regs := rfl
@[simp] theorem drawn_uptime : (drawn s).uptime = s.uptime := rfl
@[simp] theorem drawn_sent : (drawn s).sent = s.sent := rfl
@[simp] theorem drawn_ic : (drawn s).ic = s.ic := rfl
@[simp] theorem drawn_framers : (drawn s).framers = s.framers := rfl
@[simp] theorem drawn_pm : (drawn s).pm = s.pm := rfl
@[simp] theorem drawn_regn : (drawn s).regn = s.regn := rfl
@[simp] theorem drawn_timed : (drawn s).timed = s.timed := rfl
@[simp] theorem drawn_lookouts : (drawn s).lookouts = s.lookouts := rfl
@[simp] theorem drawn_halyards : (drawn s).halyards = s.halyards := rfl
@[simp] theorem drawn_contexts : (drawn s).contexts = s.contexts := rfl
@[simp] theorem drawn_guards : (drawn s).guards = s.guards := rfl
@[simp] theorem drawn_time : (drawn s).time = s.time := rfl
@[simp] theorem drawn_lanes : (drawn s).lanes = s.lanes := rfl
@[simp] theorem drawn_waikens : (drawn s).waikens = s.waikens := rfl
@[simp] theorem drawn_drift : (drawn s).drift = s.drift := rfl
@[simp] theorem drawn_tsi : (drawn s).tsi = s.tsi := rfl
@[simp] theorem drawn_subs : (drawn s).subs = s.subs := rfl
@[simp] theorem drawn_fifos : (drawn s).fifos = s.fifos := rfl
@[simp] theorem drawn_shrOut : (drawn s).shrOut = s.shrOut := rfl
@[simp] theorem drawn_pg : (drawn s).pg = s.pg := rfl
@[simp] theorem drawn_cls : (drawn s).cls = s.cls := rfl
@[simp] theorem drawn_can : (drawn s).can = s.can := rfl
@[simp] theorem drawn_buf : (drawn s).buf = s.buf := rfl
@[simp] theorem drawn_sch : (drawn s).sch = s.sch := rfl
@[simp] theorem drawn_shr : (drawn s).shr = s.shr := rfl
@[simp] theorem drawn_reef : (drawn s).reef = s.reef := rfl
@[simp] theorem drawn_boot : (drawn s).boot = s.boot := rfl
@[simp] theorem drawn_faults : (drawn s).faults = s.faults := rfl
@[simp] theorem drawn_paths : (drawn s).paths = s.paths := rfl
@[simp] theorem drawn_bmc : (drawn s).bmc = s.bmc := rfl
@[simp] theorem drawn_xt : (drawn s).xt = s.xt := rfl
@[simp] theorem drawn_flash : (drawn s).flash = s.flash := rfl
@[simp] theorem drawn_hostMem : (drawn s).hostMem = s.hostMem := rfl
@[simp] theorem drawn_xtMem : (drawn s).xtMem = s.xtMem := rfl
@[simp] theorem setIcSrc_pending {n x} : (setIcSrc n x s).pending = s.pending := rfl
@[simp] theorem setIcSrc_regs {n x} : (setIcSrc n x s).regs = s.regs := rfl
@[simp] theorem setIcSrc_uptime {n x} : (setIcSrc n x s).uptime = s.uptime := rfl
@[simp] theorem setIcSrc_fresh {n x} : (setIcSrc n x s).fresh = s.fresh := rfl
@[simp] theorem setIcSrc_sent {n x} : (setIcSrc n x s).sent = s.sent := rfl
@[simp] theorem setIcSrc_framers {n x} : (setIcSrc n x s).framers = s.framers := rfl
@[simp] theorem setIcSrc_pm {n x} : (setIcSrc n x s).pm = s.pm := rfl
@[simp] theorem setIcSrc_regn {n x} : (setIcSrc n x s).regn = s.regn := rfl
@[simp] theorem setIcSrc_timed {n x} : (setIcSrc n x s).timed = s.timed := rfl
@[simp] theorem setIcSrc_lookouts {n x} : (setIcSrc n x s).lookouts = s.lookouts := rfl
@[simp] theorem setIcSrc_halyards {n x} : (setIcSrc n x s).halyards = s.halyards := rfl
@[simp] theorem setIcSrc_contexts {n x} : (setIcSrc n x s).contexts = s.contexts := rfl
@[simp] theorem setIcSrc_guards {n x} : (setIcSrc n x s).guards = s.guards := rfl
@[simp] theorem setIcSrc_time {n x} : (setIcSrc n x s).time = s.time := rfl
@[simp] theorem setIcSrc_lanes {n x} : (setIcSrc n x s).lanes = s.lanes := rfl
@[simp] theorem setIcSrc_waikens {n x} : (setIcSrc n x s).waikens = s.waikens := rfl
@[simp] theorem setIcSrc_drift {n x} : (setIcSrc n x s).drift = s.drift := rfl
@[simp] theorem setIcSrc_tsi {n x} : (setIcSrc n x s).tsi = s.tsi := rfl
@[simp] theorem setIcSrc_subs {n x} : (setIcSrc n x s).subs = s.subs := rfl
@[simp] theorem setIcSrc_fifos {n x} : (setIcSrc n x s).fifos = s.fifos := rfl
@[simp] theorem setIcSrc_shrOut {n x} : (setIcSrc n x s).shrOut = s.shrOut := rfl
@[simp] theorem setIcSrc_pg {n x} : (setIcSrc n x s).pg = s.pg := rfl
@[simp] theorem setIcSrc_cls {n x} : (setIcSrc n x s).cls = s.cls := rfl
@[simp] theorem setIcSrc_can {n x} : (setIcSrc n x s).can = s.can := rfl
@[simp] theorem setIcSrc_buf {n x} : (setIcSrc n x s).buf = s.buf := rfl
@[simp] theorem setIcSrc_sch {n x} : (setIcSrc n x s).sch = s.sch := rfl
@[simp] theorem setIcSrc_shr {n x} : (setIcSrc n x s).shr = s.shr := rfl
@[simp] theorem setIcSrc_reef {n x} : (setIcSrc n x s).reef = s.reef := rfl
@[simp] theorem setIcSrc_boot {n x} : (setIcSrc n x s).boot = s.boot := rfl
@[simp] theorem setIcSrc_faults {n x} : (setIcSrc n x s).faults = s.faults := rfl
@[simp] theorem setIcSrc_paths {n x} : (setIcSrc n x s).paths = s.paths := rfl
@[simp] theorem setIcSrc_bmc {n x} : (setIcSrc n x s).bmc = s.bmc := rfl
@[simp] theorem setIcSrc_xt {n x} : (setIcSrc n x s).xt = s.xt := rfl
@[simp] theorem setIcSrc_flash {n x} : (setIcSrc n x s).flash = s.flash := rfl
@[simp] theorem setIcSrc_hostMem {n x} : (setIcSrc n x s).hostMem = s.hostMem := rfl
@[simp] theorem setIcSrc_xtMem {n x} : (setIcSrc n x s).xtMem = s.xtMem := rfl
@[simp] theorem setIcTgt_pending {n x} : (setIcTgt n x s).pending = s.pending := rfl
@[simp] theorem setIcTgt_regs {n x} : (setIcTgt n x s).regs = s.regs := rfl
@[simp] theorem setIcTgt_uptime {n x} : (setIcTgt n x s).uptime = s.uptime := rfl
@[simp] theorem setIcTgt_fresh {n x} : (setIcTgt n x s).fresh = s.fresh := rfl
@[simp] theorem setIcTgt_sent {n x} : (setIcTgt n x s).sent = s.sent := rfl
@[simp] theorem setIcTgt_framers {n x} : (setIcTgt n x s).framers = s.framers := rfl
@[simp] theorem setIcTgt_pm {n x} : (setIcTgt n x s).pm = s.pm := rfl
@[simp] theorem setIcTgt_regn {n x} : (setIcTgt n x s).regn = s.regn := rfl
@[simp] theorem setIcTgt_timed {n x} : (setIcTgt n x s).timed = s.timed := rfl
@[simp] theorem setIcTgt_lookouts {n x} : (setIcTgt n x s).lookouts = s.lookouts := rfl
@[simp] theorem setIcTgt_halyards {n x} : (setIcTgt n x s).halyards = s.halyards := rfl
@[simp] theorem setIcTgt_contexts {n x} : (setIcTgt n x s).contexts = s.contexts := rfl
@[simp] theorem setIcTgt_guards {n x} : (setIcTgt n x s).guards = s.guards := rfl
@[simp] theorem setIcTgt_time {n x} : (setIcTgt n x s).time = s.time := rfl
@[simp] theorem setIcTgt_lanes {n x} : (setIcTgt n x s).lanes = s.lanes := rfl
@[simp] theorem setIcTgt_waikens {n x} : (setIcTgt n x s).waikens = s.waikens := rfl
@[simp] theorem setIcTgt_drift {n x} : (setIcTgt n x s).drift = s.drift := rfl
@[simp] theorem setIcTgt_tsi {n x} : (setIcTgt n x s).tsi = s.tsi := rfl
@[simp] theorem setIcTgt_subs {n x} : (setIcTgt n x s).subs = s.subs := rfl
@[simp] theorem setIcTgt_fifos {n x} : (setIcTgt n x s).fifos = s.fifos := rfl
@[simp] theorem setIcTgt_shrOut {n x} : (setIcTgt n x s).shrOut = s.shrOut := rfl
@[simp] theorem setIcTgt_pg {n x} : (setIcTgt n x s).pg = s.pg := rfl
@[simp] theorem setIcTgt_cls {n x} : (setIcTgt n x s).cls = s.cls := rfl
@[simp] theorem setIcTgt_can {n x} : (setIcTgt n x s).can = s.can := rfl
@[simp] theorem setIcTgt_buf {n x} : (setIcTgt n x s).buf = s.buf := rfl
@[simp] theorem setIcTgt_sch {n x} : (setIcTgt n x s).sch = s.sch := rfl
@[simp] theorem setIcTgt_shr {n x} : (setIcTgt n x s).shr = s.shr := rfl
@[simp] theorem setIcTgt_reef {n x} : (setIcTgt n x s).reef = s.reef := rfl
@[simp] theorem setIcTgt_boot {n x} : (setIcTgt n x s).boot = s.boot := rfl
@[simp] theorem setIcTgt_faults {n x} : (setIcTgt n x s).faults = s.faults := rfl
@[simp] theorem setIcTgt_paths {n x} : (setIcTgt n x s).paths = s.paths := rfl
@[simp] theorem setIcTgt_bmc {n x} : (setIcTgt n x s).bmc = s.bmc := rfl
@[simp] theorem setIcTgt_xt {n x} : (setIcTgt n x s).xt = s.xt := rfl
@[simp] theorem setIcTgt_flash {n x} : (setIcTgt n x s).flash = s.flash := rfl
@[simp] theorem setIcTgt_hostMem {n x} : (setIcTgt n x s).hostMem = s.hostMem := rfl
@[simp] theorem setIcTgt_xtMem {n x} : (setIcTgt n x s).xtMem = s.xtMem := rfl
@[simp] theorem setMsixPend_pending {v b} : (setMsixPend v b s).pending = s.pending := rfl
@[simp] theorem setMsixPend_regs {v b} : (setMsixPend v b s).regs = s.regs := rfl
@[simp] theorem setMsixPend_uptime {v b} : (setMsixPend v b s).uptime = s.uptime := rfl
@[simp] theorem setMsixPend_fresh {v b} : (setMsixPend v b s).fresh = s.fresh := rfl
@[simp] theorem setMsixPend_sent {v b} : (setMsixPend v b s).sent = s.sent := rfl
@[simp] theorem setMsixPend_framers {v b} : (setMsixPend v b s).framers = s.framers := rfl
@[simp] theorem setMsixPend_pm {v b} : (setMsixPend v b s).pm = s.pm := rfl
@[simp] theorem setMsixPend_regn {v b} : (setMsixPend v b s).regn = s.regn := rfl
@[simp] theorem setMsixPend_timed {v b} : (setMsixPend v b s).timed = s.timed := rfl
@[simp] theorem setMsixPend_lookouts {v b} : (setMsixPend v b s).lookouts = s.lookouts := rfl
@[simp] theorem setMsixPend_halyards {v b} : (setMsixPend v b s).halyards = s.halyards := rfl
@[simp] theorem setMsixPend_contexts {v b} : (setMsixPend v b s).contexts = s.contexts := rfl
@[simp] theorem setMsixPend_guards {v b} : (setMsixPend v b s).guards = s.guards := rfl
@[simp] theorem setMsixPend_time {v b} : (setMsixPend v b s).time = s.time := rfl
@[simp] theorem setMsixPend_lanes {v b} : (setMsixPend v b s).lanes = s.lanes := rfl
@[simp] theorem setMsixPend_waikens {v b} : (setMsixPend v b s).waikens = s.waikens := rfl
@[simp] theorem setMsixPend_drift {v b} : (setMsixPend v b s).drift = s.drift := rfl
@[simp] theorem setMsixPend_tsi {v b} : (setMsixPend v b s).tsi = s.tsi := rfl
@[simp] theorem setMsixPend_subs {v b} : (setMsixPend v b s).subs = s.subs := rfl
@[simp] theorem setMsixPend_fifos {v b} : (setMsixPend v b s).fifos = s.fifos := rfl
@[simp] theorem setMsixPend_shrOut {v b} : (setMsixPend v b s).shrOut = s.shrOut := rfl
@[simp] theorem setMsixPend_pg {v b} : (setMsixPend v b s).pg = s.pg := rfl
@[simp] theorem setMsixPend_cls {v b} : (setMsixPend v b s).cls = s.cls := rfl
@[simp] theorem setMsixPend_can {v b} : (setMsixPend v b s).can = s.can := rfl
@[simp] theorem setMsixPend_buf {v b} : (setMsixPend v b s).buf = s.buf := rfl
@[simp] theorem setMsixPend_sch {v b} : (setMsixPend v b s).sch = s.sch := rfl
@[simp] theorem setMsixPend_shr {v b} : (setMsixPend v b s).shr = s.shr := rfl
@[simp] theorem setMsixPend_reef {v b} : (setMsixPend v b s).reef = s.reef := rfl
@[simp] theorem setMsixPend_boot {v b} : (setMsixPend v b s).boot = s.boot := rfl
@[simp] theorem setMsixPend_faults {v b} : (setMsixPend v b s).faults = s.faults := rfl
@[simp] theorem setMsixPend_paths {v b} : (setMsixPend v b s).paths = s.paths := rfl
@[simp] theorem setMsixPend_bmc {v b} : (setMsixPend v b s).bmc = s.bmc := rfl
@[simp] theorem setMsixPend_xt {v b} : (setMsixPend v b s).xt = s.xt := rfl
@[simp] theorem setMsixPend_flash {v b} : (setMsixPend v b s).flash = s.flash := rfl
@[simp] theorem setMsixPend_hostMem {v b} : (setMsixPend v b s).hostMem = s.hostMem := rfl
@[simp] theorem setMsixPend_xtMem {v b} : (setMsixPend v b s).xtMem = s.xtMem := rfl
@[simp] theorem setFramer_pending {p f} : (setFramer p f s).pending = s.pending := rfl
@[simp] theorem setFramer_regs {p f} : (setFramer p f s).regs = s.regs := rfl
@[simp] theorem setFramer_uptime {p f} : (setFramer p f s).uptime = s.uptime := rfl
@[simp] theorem setFramer_fresh {p f} : (setFramer p f s).fresh = s.fresh := rfl
@[simp] theorem setFramer_sent {p f} : (setFramer p f s).sent = s.sent := rfl
@[simp] theorem setFramer_ic {p f} : (setFramer p f s).ic = s.ic := rfl
@[simp] theorem setFramer_pm {p f} : (setFramer p f s).pm = s.pm := rfl
@[simp] theorem setFramer_regn {p f} : (setFramer p f s).regn = s.regn := rfl
@[simp] theorem setFramer_timed {p f} : (setFramer p f s).timed = s.timed := rfl
@[simp] theorem setFramer_lookouts {p f} : (setFramer p f s).lookouts = s.lookouts := rfl
@[simp] theorem setFramer_halyards {p f} : (setFramer p f s).halyards = s.halyards := rfl
@[simp] theorem setFramer_contexts {p f} : (setFramer p f s).contexts = s.contexts := rfl
@[simp] theorem setFramer_guards {p f} : (setFramer p f s).guards = s.guards := rfl
@[simp] theorem setFramer_time {p f} : (setFramer p f s).time = s.time := rfl
@[simp] theorem setFramer_lanes {p f} : (setFramer p f s).lanes = s.lanes := rfl
@[simp] theorem setFramer_waikens {p f} : (setFramer p f s).waikens = s.waikens := rfl
@[simp] theorem setFramer_drift {p f} : (setFramer p f s).drift = s.drift := rfl
@[simp] theorem setFramer_tsi {p f} : (setFramer p f s).tsi = s.tsi := rfl
@[simp] theorem setFramer_subs {p f} : (setFramer p f s).subs = s.subs := rfl
@[simp] theorem setFramer_fifos {p f} : (setFramer p f s).fifos = s.fifos := rfl
@[simp] theorem setFramer_shrOut {p f} : (setFramer p f s).shrOut = s.shrOut := rfl
@[simp] theorem setFramer_pg {p f} : (setFramer p f s).pg = s.pg := rfl
@[simp] theorem setFramer_cls {p f} : (setFramer p f s).cls = s.cls := rfl
@[simp] theorem setFramer_can {p f} : (setFramer p f s).can = s.can := rfl
@[simp] theorem setFramer_buf {p f} : (setFramer p f s).buf = s.buf := rfl
@[simp] theorem setFramer_sch {p f} : (setFramer p f s).sch = s.sch := rfl
@[simp] theorem setFramer_shr {p f} : (setFramer p f s).shr = s.shr := rfl
@[simp] theorem setFramer_reef {p f} : (setFramer p f s).reef = s.reef := rfl
@[simp] theorem setFramer_boot {p f} : (setFramer p f s).boot = s.boot := rfl
@[simp] theorem setFramer_faults {p f} : (setFramer p f s).faults = s.faults := rfl
@[simp] theorem setFramer_paths {p f} : (setFramer p f s).paths = s.paths := rfl
@[simp] theorem setFramer_bmc {p f} : (setFramer p f s).bmc = s.bmc := rfl
@[simp] theorem setFramer_xt {p f} : (setFramer p f s).xt = s.xt := rfl
@[simp] theorem setFramer_flash {p f} : (setFramer p f s).flash = s.flash := rfl
@[simp] theorem setFramer_hostMem {p f} : (setFramer p f s).hostMem = s.hostMem := rfl
@[simp] theorem setFramer_xtMem {p f} : (setFramer p f s).xtMem = s.xtMem := rfl
@[simp] theorem setPmStore_pending {p x} : (setPmStore p x s).pending = s.pending := rfl
@[simp] theorem setPmStore_regs {p x} : (setPmStore p x s).regs = s.regs := rfl
@[simp] theorem setPmStore_uptime {p x} : (setPmStore p x s).uptime = s.uptime := rfl
@[simp] theorem setPmStore_fresh {p x} : (setPmStore p x s).fresh = s.fresh := rfl
@[simp] theorem setPmStore_sent {p x} : (setPmStore p x s).sent = s.sent := rfl
@[simp] theorem setPmStore_ic {p x} : (setPmStore p x s).ic = s.ic := rfl
@[simp] theorem setPmStore_framers {p x} : (setPmStore p x s).framers = s.framers := rfl
@[simp] theorem setPmStore_regn {p x} : (setPmStore p x s).regn = s.regn := rfl
@[simp] theorem setPmStore_timed {p x} : (setPmStore p x s).timed = s.timed := rfl
@[simp] theorem setPmStore_lookouts {p x} : (setPmStore p x s).lookouts = s.lookouts := rfl
@[simp] theorem setPmStore_halyards {p x} : (setPmStore p x s).halyards = s.halyards := rfl
@[simp] theorem setPmStore_contexts {p x} : (setPmStore p x s).contexts = s.contexts := rfl
@[simp] theorem setPmStore_guards {p x} : (setPmStore p x s).guards = s.guards := rfl
@[simp] theorem setPmStore_time {p x} : (setPmStore p x s).time = s.time := rfl
@[simp] theorem setPmStore_lanes {p x} : (setPmStore p x s).lanes = s.lanes := rfl
@[simp] theorem setPmStore_waikens {p x} : (setPmStore p x s).waikens = s.waikens := rfl
@[simp] theorem setPmStore_drift {p x} : (setPmStore p x s).drift = s.drift := rfl
@[simp] theorem setPmStore_tsi {p x} : (setPmStore p x s).tsi = s.tsi := rfl
@[simp] theorem setPmStore_subs {p x} : (setPmStore p x s).subs = s.subs := rfl
@[simp] theorem setPmStore_fifos {p x} : (setPmStore p x s).fifos = s.fifos := rfl
@[simp] theorem setPmStore_shrOut {p x} : (setPmStore p x s).shrOut = s.shrOut := rfl
@[simp] theorem setPmStore_pg {p x} : (setPmStore p x s).pg = s.pg := rfl
@[simp] theorem setPmStore_cls {p x} : (setPmStore p x s).cls = s.cls := rfl
@[simp] theorem setPmStore_can {p x} : (setPmStore p x s).can = s.can := rfl
@[simp] theorem setPmStore_buf {p x} : (setPmStore p x s).buf = s.buf := rfl
@[simp] theorem setPmStore_sch {p x} : (setPmStore p x s).sch = s.sch := rfl
@[simp] theorem setPmStore_shr {p x} : (setPmStore p x s).shr = s.shr := rfl
@[simp] theorem setPmStore_reef {p x} : (setPmStore p x s).reef = s.reef := rfl
@[simp] theorem setPmStore_boot {p x} : (setPmStore p x s).boot = s.boot := rfl
@[simp] theorem setPmStore_faults {p x} : (setPmStore p x s).faults = s.faults := rfl
@[simp] theorem setPmStore_paths {p x} : (setPmStore p x s).paths = s.paths := rfl
@[simp] theorem setPmStore_bmc {p x} : (setPmStore p x s).bmc = s.bmc := rfl
@[simp] theorem setPmStore_xt {p x} : (setPmStore p x s).xt = s.xt := rfl
@[simp] theorem setPmStore_flash {p x} : (setPmStore p x s).flash = s.flash := rfl
@[simp] theorem setPmStore_hostMem {p x} : (setPmStore p x s).hostMem = s.hostMem := rfl
@[simp] theorem setPmStore_xtMem {p x} : (setPmStore p x s).xtMem = s.xtMem := rfl
@[simp] theorem setRegn_pending {p r} : (setRegn p r s).pending = s.pending := rfl
@[simp] theorem setRegn_regs {p r} : (setRegn p r s).regs = s.regs := rfl
@[simp] theorem setRegn_uptime {p r} : (setRegn p r s).uptime = s.uptime := rfl
@[simp] theorem setRegn_fresh {p r} : (setRegn p r s).fresh = s.fresh := rfl
@[simp] theorem setRegn_sent {p r} : (setRegn p r s).sent = s.sent := rfl
@[simp] theorem setRegn_ic {p r} : (setRegn p r s).ic = s.ic := rfl
@[simp] theorem setRegn_framers {p r} : (setRegn p r s).framers = s.framers := rfl
@[simp] theorem setRegn_pm {p r} : (setRegn p r s).pm = s.pm := rfl
@[simp] theorem setRegn_timed {p r} : (setRegn p r s).timed = s.timed := rfl
@[simp] theorem setRegn_lookouts {p r} : (setRegn p r s).lookouts = s.lookouts := rfl
@[simp] theorem setRegn_halyards {p r} : (setRegn p r s).halyards = s.halyards := rfl
@[simp] theorem setRegn_contexts {p r} : (setRegn p r s).contexts = s.contexts := rfl
@[simp] theorem setRegn_guards {p r} : (setRegn p r s).guards = s.guards := rfl
@[simp] theorem setRegn_time {p r} : (setRegn p r s).time = s.time := rfl
@[simp] theorem setRegn_lanes {p r} : (setRegn p r s).lanes = s.lanes := rfl
@[simp] theorem setRegn_waikens {p r} : (setRegn p r s).waikens = s.waikens := rfl
@[simp] theorem setRegn_drift {p r} : (setRegn p r s).drift = s.drift := rfl
@[simp] theorem setRegn_tsi {p r} : (setRegn p r s).tsi = s.tsi := rfl
@[simp] theorem setRegn_subs {p r} : (setRegn p r s).subs = s.subs := rfl
@[simp] theorem setRegn_fifos {p r} : (setRegn p r s).fifos = s.fifos := rfl
@[simp] theorem setRegn_shrOut {p r} : (setRegn p r s).shrOut = s.shrOut := rfl
@[simp] theorem setRegn_pg {p r} : (setRegn p r s).pg = s.pg := rfl
@[simp] theorem setRegn_cls {p r} : (setRegn p r s).cls = s.cls := rfl
@[simp] theorem setRegn_can {p r} : (setRegn p r s).can = s.can := rfl
@[simp] theorem setRegn_buf {p r} : (setRegn p r s).buf = s.buf := rfl
@[simp] theorem setRegn_sch {p r} : (setRegn p r s).sch = s.sch := rfl
@[simp] theorem setRegn_shr {p r} : (setRegn p r s).shr = s.shr := rfl
@[simp] theorem setRegn_reef {p r} : (setRegn p r s).reef = s.reef := rfl
@[simp] theorem setRegn_boot {p r} : (setRegn p r s).boot = s.boot := rfl
@[simp] theorem setRegn_faults {p r} : (setRegn p r s).faults = s.faults := rfl
@[simp] theorem setRegn_paths {p r} : (setRegn p r s).paths = s.paths := rfl
@[simp] theorem setRegn_bmc {p r} : (setRegn p r s).bmc = s.bmc := rfl
@[simp] theorem setRegn_xt {p r} : (setRegn p r s).xt = s.xt := rfl
@[simp] theorem setRegn_flash {p r} : (setRegn p r s).flash = s.flash := rfl
@[simp] theorem setRegn_hostMem {p r} : (setRegn p r s).hostMem = s.hostMem := rfl
@[simp] theorem setRegn_xtMem {p r} : (setRegn p r s).xtMem = s.xtMem := rfl
@[simp] theorem setLookout_pending {n l} : (setLookout n l s).pending = s.pending := rfl
@[simp] theorem setLookout_regs {n l} : (setLookout n l s).regs = s.regs := rfl
@[simp] theorem setLookout_uptime {n l} : (setLookout n l s).uptime = s.uptime := rfl
@[simp] theorem setLookout_fresh {n l} : (setLookout n l s).fresh = s.fresh := rfl
@[simp] theorem setLookout_sent {n l} : (setLookout n l s).sent = s.sent := rfl
@[simp] theorem setLookout_ic {n l} : (setLookout n l s).ic = s.ic := rfl
@[simp] theorem setLookout_framers {n l} : (setLookout n l s).framers = s.framers := rfl
@[simp] theorem setLookout_pm {n l} : (setLookout n l s).pm = s.pm := rfl
@[simp] theorem setLookout_regn {n l} : (setLookout n l s).regn = s.regn := rfl
@[simp] theorem setLookout_timed {n l} : (setLookout n l s).timed = s.timed := rfl
@[simp] theorem setLookout_halyards {n l} : (setLookout n l s).halyards = s.halyards := rfl
@[simp] theorem setLookout_contexts {n l} : (setLookout n l s).contexts = s.contexts := rfl
@[simp] theorem setLookout_guards {n l} : (setLookout n l s).guards = s.guards := rfl
@[simp] theorem setLookout_time {n l} : (setLookout n l s).time = s.time := rfl
@[simp] theorem setLookout_lanes {n l} : (setLookout n l s).lanes = s.lanes := rfl
@[simp] theorem setLookout_waikens {n l} : (setLookout n l s).waikens = s.waikens := rfl
@[simp] theorem setLookout_drift {n l} : (setLookout n l s).drift = s.drift := rfl
@[simp] theorem setLookout_tsi {n l} : (setLookout n l s).tsi = s.tsi := rfl
@[simp] theorem setLookout_subs {n l} : (setLookout n l s).subs = s.subs := rfl
@[simp] theorem setLookout_fifos {n l} : (setLookout n l s).fifos = s.fifos := rfl
@[simp] theorem setLookout_shrOut {n l} : (setLookout n l s).shrOut = s.shrOut := rfl
@[simp] theorem setLookout_pg {n l} : (setLookout n l s).pg = s.pg := rfl
@[simp] theorem setLookout_cls {n l} : (setLookout n l s).cls = s.cls := rfl
@[simp] theorem setLookout_can {n l} : (setLookout n l s).can = s.can := rfl
@[simp] theorem setLookout_buf {n l} : (setLookout n l s).buf = s.buf := rfl
@[simp] theorem setLookout_sch {n l} : (setLookout n l s).sch = s.sch := rfl
@[simp] theorem setLookout_shr {n l} : (setLookout n l s).shr = s.shr := rfl
@[simp] theorem setLookout_reef {n l} : (setLookout n l s).reef = s.reef := rfl
@[simp] theorem setLookout_boot {n l} : (setLookout n l s).boot = s.boot := rfl
@[simp] theorem setLookout_faults {n l} : (setLookout n l s).faults = s.faults := rfl
@[simp] theorem setLookout_paths {n l} : (setLookout n l s).paths = s.paths := rfl
@[simp] theorem setLookout_bmc {n l} : (setLookout n l s).bmc = s.bmc := rfl
@[simp] theorem setLookout_xt {n l} : (setLookout n l s).xt = s.xt := rfl
@[simp] theorem setLookout_flash {n l} : (setLookout n l s).flash = s.flash := rfl
@[simp] theorem setLookout_hostMem {n l} : (setLookout n l s).hostMem = s.hostMem := rfl
@[simp] theorem setLookout_xtMem {n l} : (setLookout n l s).xtMem = s.xtMem := rfl
@[simp] theorem setHalyard_pending {p h} : (setHalyard p h s).pending = s.pending := rfl
@[simp] theorem setHalyard_regs {p h} : (setHalyard p h s).regs = s.regs := rfl
@[simp] theorem setHalyard_uptime {p h} : (setHalyard p h s).uptime = s.uptime := rfl
@[simp] theorem setHalyard_fresh {p h} : (setHalyard p h s).fresh = s.fresh := rfl
@[simp] theorem setHalyard_sent {p h} : (setHalyard p h s).sent = s.sent := rfl
@[simp] theorem setHalyard_ic {p h} : (setHalyard p h s).ic = s.ic := rfl
@[simp] theorem setHalyard_framers {p h} : (setHalyard p h s).framers = s.framers := rfl
@[simp] theorem setHalyard_pm {p h} : (setHalyard p h s).pm = s.pm := rfl
@[simp] theorem setHalyard_regn {p h} : (setHalyard p h s).regn = s.regn := rfl
@[simp] theorem setHalyard_timed {p h} : (setHalyard p h s).timed = s.timed := rfl
@[simp] theorem setHalyard_lookouts {p h} : (setHalyard p h s).lookouts = s.lookouts := rfl
@[simp] theorem setHalyard_contexts {p h} : (setHalyard p h s).contexts = s.contexts := rfl
@[simp] theorem setHalyard_guards {p h} : (setHalyard p h s).guards = s.guards := rfl
@[simp] theorem setHalyard_time {p h} : (setHalyard p h s).time = s.time := rfl
@[simp] theorem setHalyard_lanes {p h} : (setHalyard p h s).lanes = s.lanes := rfl
@[simp] theorem setHalyard_waikens {p h} : (setHalyard p h s).waikens = s.waikens := rfl
@[simp] theorem setHalyard_drift {p h} : (setHalyard p h s).drift = s.drift := rfl
@[simp] theorem setHalyard_tsi {p h} : (setHalyard p h s).tsi = s.tsi := rfl
@[simp] theorem setHalyard_subs {p h} : (setHalyard p h s).subs = s.subs := rfl
@[simp] theorem setHalyard_fifos {p h} : (setHalyard p h s).fifos = s.fifos := rfl
@[simp] theorem setHalyard_shrOut {p h} : (setHalyard p h s).shrOut = s.shrOut := rfl
@[simp] theorem setHalyard_pg {p h} : (setHalyard p h s).pg = s.pg := rfl
@[simp] theorem setHalyard_cls {p h} : (setHalyard p h s).cls = s.cls := rfl
@[simp] theorem setHalyard_can {p h} : (setHalyard p h s).can = s.can := rfl
@[simp] theorem setHalyard_buf {p h} : (setHalyard p h s).buf = s.buf := rfl
@[simp] theorem setHalyard_sch {p h} : (setHalyard p h s).sch = s.sch := rfl
@[simp] theorem setHalyard_shr {p h} : (setHalyard p h s).shr = s.shr := rfl
@[simp] theorem setHalyard_reef {p h} : (setHalyard p h s).reef = s.reef := rfl
@[simp] theorem setHalyard_boot {p h} : (setHalyard p h s).boot = s.boot := rfl
@[simp] theorem setHalyard_faults {p h} : (setHalyard p h s).faults = s.faults := rfl
@[simp] theorem setHalyard_paths {p h} : (setHalyard p h s).paths = s.paths := rfl
@[simp] theorem setHalyard_bmc {p h} : (setHalyard p h s).bmc = s.bmc := rfl
@[simp] theorem setHalyard_xt {p h} : (setHalyard p h s).xt = s.xt := rfl
@[simp] theorem setHalyard_flash {p h} : (setHalyard p h s).flash = s.flash := rfl
@[simp] theorem setHalyard_hostMem {p h} : (setHalyard p h s).hostMem = s.hostMem := rfl
@[simp] theorem setHalyard_xtMem {p h} : (setHalyard p h s).xtMem = s.xtMem := rfl
@[simp] theorem bindCtx_pending {c b} : (bindCtx c b s).pending = s.pending := rfl
@[simp] theorem bindCtx_regs {c b} : (bindCtx c b s).regs = s.regs := rfl
@[simp] theorem bindCtx_uptime {c b} : (bindCtx c b s).uptime = s.uptime := rfl
@[simp] theorem bindCtx_fresh {c b} : (bindCtx c b s).fresh = s.fresh := rfl
@[simp] theorem bindCtx_sent {c b} : (bindCtx c b s).sent = s.sent := rfl
@[simp] theorem bindCtx_ic {c b} : (bindCtx c b s).ic = s.ic := rfl
@[simp] theorem bindCtx_framers {c b} : (bindCtx c b s).framers = s.framers := rfl
@[simp] theorem bindCtx_pm {c b} : (bindCtx c b s).pm = s.pm := rfl
@[simp] theorem bindCtx_regn {c b} : (bindCtx c b s).regn = s.regn := rfl
@[simp] theorem bindCtx_timed {c b} : (bindCtx c b s).timed = s.timed := rfl
@[simp] theorem bindCtx_lookouts {c b} : (bindCtx c b s).lookouts = s.lookouts := rfl
@[simp] theorem bindCtx_halyards {c b} : (bindCtx c b s).halyards = s.halyards := rfl
@[simp] theorem bindCtx_guards {c b} : (bindCtx c b s).guards = s.guards := rfl
@[simp] theorem bindCtx_time {c b} : (bindCtx c b s).time = s.time := rfl
@[simp] theorem bindCtx_lanes {c b} : (bindCtx c b s).lanes = s.lanes := rfl
@[simp] theorem bindCtx_waikens {c b} : (bindCtx c b s).waikens = s.waikens := rfl
@[simp] theorem bindCtx_drift {c b} : (bindCtx c b s).drift = s.drift := rfl
@[simp] theorem bindCtx_tsi {c b} : (bindCtx c b s).tsi = s.tsi := rfl
@[simp] theorem bindCtx_subs {c b} : (bindCtx c b s).subs = s.subs := rfl
@[simp] theorem bindCtx_fifos {c b} : (bindCtx c b s).fifos = s.fifos := rfl
@[simp] theorem bindCtx_shrOut {c b} : (bindCtx c b s).shrOut = s.shrOut := rfl
@[simp] theorem bindCtx_pg {c b} : (bindCtx c b s).pg = s.pg := rfl
@[simp] theorem bindCtx_cls {c b} : (bindCtx c b s).cls = s.cls := rfl
@[simp] theorem bindCtx_can {c b} : (bindCtx c b s).can = s.can := rfl
@[simp] theorem bindCtx_buf {c b} : (bindCtx c b s).buf = s.buf := rfl
@[simp] theorem bindCtx_sch {c b} : (bindCtx c b s).sch = s.sch := rfl
@[simp] theorem bindCtx_shr {c b} : (bindCtx c b s).shr = s.shr := rfl
@[simp] theorem bindCtx_reef {c b} : (bindCtx c b s).reef = s.reef := rfl
@[simp] theorem bindCtx_boot {c b} : (bindCtx c b s).boot = s.boot := rfl
@[simp] theorem bindCtx_faults {c b} : (bindCtx c b s).faults = s.faults := rfl
@[simp] theorem bindCtx_paths {c b} : (bindCtx c b s).paths = s.paths := rfl
@[simp] theorem bindCtx_bmc {c b} : (bindCtx c b s).bmc = s.bmc := rfl
@[simp] theorem bindCtx_xt {c b} : (bindCtx c b s).xt = s.xt := rfl
@[simp] theorem bindCtx_flash {c b} : (bindCtx c b s).flash = s.flash := rfl
@[simp] theorem bindCtx_hostMem {c b} : (bindCtx c b s).hostMem = s.hostMem := rfl
@[simp] theorem bindCtx_xtMem {c b} : (bindCtx c b s).xtMem = s.xtMem := rfl
@[simp] theorem setGuard_pending {p g} : (setGuard p g s).pending = s.pending := rfl
@[simp] theorem setGuard_regs {p g} : (setGuard p g s).regs = s.regs := rfl
@[simp] theorem setGuard_uptime {p g} : (setGuard p g s).uptime = s.uptime := rfl
@[simp] theorem setGuard_fresh {p g} : (setGuard p g s).fresh = s.fresh := rfl
@[simp] theorem setGuard_sent {p g} : (setGuard p g s).sent = s.sent := rfl
@[simp] theorem setGuard_ic {p g} : (setGuard p g s).ic = s.ic := rfl
@[simp] theorem setGuard_framers {p g} : (setGuard p g s).framers = s.framers := rfl
@[simp] theorem setGuard_pm {p g} : (setGuard p g s).pm = s.pm := rfl
@[simp] theorem setGuard_regn {p g} : (setGuard p g s).regn = s.regn := rfl
@[simp] theorem setGuard_timed {p g} : (setGuard p g s).timed = s.timed := rfl
@[simp] theorem setGuard_lookouts {p g} : (setGuard p g s).lookouts = s.lookouts := rfl
@[simp] theorem setGuard_halyards {p g} : (setGuard p g s).halyards = s.halyards := rfl
@[simp] theorem setGuard_contexts {p g} : (setGuard p g s).contexts = s.contexts := rfl
@[simp] theorem setGuard_time {p g} : (setGuard p g s).time = s.time := rfl
@[simp] theorem setGuard_lanes {p g} : (setGuard p g s).lanes = s.lanes := rfl
@[simp] theorem setGuard_waikens {p g} : (setGuard p g s).waikens = s.waikens := rfl
@[simp] theorem setGuard_drift {p g} : (setGuard p g s).drift = s.drift := rfl
@[simp] theorem setGuard_tsi {p g} : (setGuard p g s).tsi = s.tsi := rfl
@[simp] theorem setGuard_subs {p g} : (setGuard p g s).subs = s.subs := rfl
@[simp] theorem setGuard_fifos {p g} : (setGuard p g s).fifos = s.fifos := rfl
@[simp] theorem setGuard_shrOut {p g} : (setGuard p g s).shrOut = s.shrOut := rfl
@[simp] theorem setGuard_pg {p g} : (setGuard p g s).pg = s.pg := rfl
@[simp] theorem setGuard_cls {p g} : (setGuard p g s).cls = s.cls := rfl
@[simp] theorem setGuard_can {p g} : (setGuard p g s).can = s.can := rfl
@[simp] theorem setGuard_buf {p g} : (setGuard p g s).buf = s.buf := rfl
@[simp] theorem setGuard_sch {p g} : (setGuard p g s).sch = s.sch := rfl
@[simp] theorem setGuard_shr {p g} : (setGuard p g s).shr = s.shr := rfl
@[simp] theorem setGuard_reef {p g} : (setGuard p g s).reef = s.reef := rfl
@[simp] theorem setGuard_boot {p g} : (setGuard p g s).boot = s.boot := rfl
@[simp] theorem setGuard_faults {p g} : (setGuard p g s).faults = s.faults := rfl
@[simp] theorem setGuard_paths {p g} : (setGuard p g s).paths = s.paths := rfl
@[simp] theorem setGuard_bmc {p g} : (setGuard p g s).bmc = s.bmc := rfl
@[simp] theorem setGuard_xt {p g} : (setGuard p g s).xt = s.xt := rfl
@[simp] theorem setGuard_flash {p g} : (setGuard p g s).flash = s.flash := rfl
@[simp] theorem setGuard_hostMem {p g} : (setGuard p g s).hostMem = s.hostMem := rfl
@[simp] theorem setGuard_xtMem {p g} : (setGuard p g s).xtMem = s.xtMem := rfl
@[simp] theorem setLane_pending {l x} : (setLane l x s).pending = s.pending := rfl
@[simp] theorem setLane_regs {l x} : (setLane l x s).regs = s.regs := rfl
@[simp] theorem setLane_uptime {l x} : (setLane l x s).uptime = s.uptime := rfl
@[simp] theorem setLane_fresh {l x} : (setLane l x s).fresh = s.fresh := rfl
@[simp] theorem setLane_sent {l x} : (setLane l x s).sent = s.sent := rfl
@[simp] theorem setLane_ic {l x} : (setLane l x s).ic = s.ic := rfl
@[simp] theorem setLane_framers {l x} : (setLane l x s).framers = s.framers := rfl
@[simp] theorem setLane_pm {l x} : (setLane l x s).pm = s.pm := rfl
@[simp] theorem setLane_regn {l x} : (setLane l x s).regn = s.regn := rfl
@[simp] theorem setLane_timed {l x} : (setLane l x s).timed = s.timed := rfl
@[simp] theorem setLane_lookouts {l x} : (setLane l x s).lookouts = s.lookouts := rfl
@[simp] theorem setLane_halyards {l x} : (setLane l x s).halyards = s.halyards := rfl
@[simp] theorem setLane_contexts {l x} : (setLane l x s).contexts = s.contexts := rfl
@[simp] theorem setLane_guards {l x} : (setLane l x s).guards = s.guards := rfl
@[simp] theorem setLane_time {l x} : (setLane l x s).time = s.time := rfl
@[simp] theorem setLane_waikens {l x} : (setLane l x s).waikens = s.waikens := rfl
@[simp] theorem setLane_drift {l x} : (setLane l x s).drift = s.drift := rfl
@[simp] theorem setLane_tsi {l x} : (setLane l x s).tsi = s.tsi := rfl
@[simp] theorem setLane_subs {l x} : (setLane l x s).subs = s.subs := rfl
@[simp] theorem setLane_fifos {l x} : (setLane l x s).fifos = s.fifos := rfl
@[simp] theorem setLane_shrOut {l x} : (setLane l x s).shrOut = s.shrOut := rfl
@[simp] theorem setLane_pg {l x} : (setLane l x s).pg = s.pg := rfl
@[simp] theorem setLane_cls {l x} : (setLane l x s).cls = s.cls := rfl
@[simp] theorem setLane_can {l x} : (setLane l x s).can = s.can := rfl
@[simp] theorem setLane_buf {l x} : (setLane l x s).buf = s.buf := rfl
@[simp] theorem setLane_sch {l x} : (setLane l x s).sch = s.sch := rfl
@[simp] theorem setLane_shr {l x} : (setLane l x s).shr = s.shr := rfl
@[simp] theorem setLane_reef {l x} : (setLane l x s).reef = s.reef := rfl
@[simp] theorem setLane_boot {l x} : (setLane l x s).boot = s.boot := rfl
@[simp] theorem setLane_faults {l x} : (setLane l x s).faults = s.faults := rfl
@[simp] theorem setLane_paths {l x} : (setLane l x s).paths = s.paths := rfl
@[simp] theorem setLane_bmc {l x} : (setLane l x s).bmc = s.bmc := rfl
@[simp] theorem setLane_xt {l x} : (setLane l x s).xt = s.xt := rfl
@[simp] theorem setLane_flash {l x} : (setLane l x s).flash = s.flash := rfl
@[simp] theorem setLane_hostMem {l x} : (setLane l x s).hostMem = s.hostMem := rfl
@[simp] theorem setLane_xtMem {l x} : (setLane l x s).xtMem = s.xtMem := rfl
@[simp] theorem setWaiken_pending {p w} : (setWaiken p w s).pending = s.pending := rfl
@[simp] theorem setWaiken_regs {p w} : (setWaiken p w s).regs = s.regs := rfl
@[simp] theorem setWaiken_uptime {p w} : (setWaiken p w s).uptime = s.uptime := rfl
@[simp] theorem setWaiken_fresh {p w} : (setWaiken p w s).fresh = s.fresh := rfl
@[simp] theorem setWaiken_sent {p w} : (setWaiken p w s).sent = s.sent := rfl
@[simp] theorem setWaiken_ic {p w} : (setWaiken p w s).ic = s.ic := rfl
@[simp] theorem setWaiken_framers {p w} : (setWaiken p w s).framers = s.framers := rfl
@[simp] theorem setWaiken_pm {p w} : (setWaiken p w s).pm = s.pm := rfl
@[simp] theorem setWaiken_regn {p w} : (setWaiken p w s).regn = s.regn := rfl
@[simp] theorem setWaiken_timed {p w} : (setWaiken p w s).timed = s.timed := rfl
@[simp] theorem setWaiken_lookouts {p w} : (setWaiken p w s).lookouts = s.lookouts := rfl
@[simp] theorem setWaiken_halyards {p w} : (setWaiken p w s).halyards = s.halyards := rfl
@[simp] theorem setWaiken_contexts {p w} : (setWaiken p w s).contexts = s.contexts := rfl
@[simp] theorem setWaiken_guards {p w} : (setWaiken p w s).guards = s.guards := rfl
@[simp] theorem setWaiken_time {p w} : (setWaiken p w s).time = s.time := rfl
@[simp] theorem setWaiken_lanes {p w} : (setWaiken p w s).lanes = s.lanes := rfl
@[simp] theorem setWaiken_drift {p w} : (setWaiken p w s).drift = s.drift := rfl
@[simp] theorem setWaiken_tsi {p w} : (setWaiken p w s).tsi = s.tsi := rfl
@[simp] theorem setWaiken_subs {p w} : (setWaiken p w s).subs = s.subs := rfl
@[simp] theorem setWaiken_fifos {p w} : (setWaiken p w s).fifos = s.fifos := rfl
@[simp] theorem setWaiken_shrOut {p w} : (setWaiken p w s).shrOut = s.shrOut := rfl
@[simp] theorem setWaiken_pg {p w} : (setWaiken p w s).pg = s.pg := rfl
@[simp] theorem setWaiken_cls {p w} : (setWaiken p w s).cls = s.cls := rfl
@[simp] theorem setWaiken_can {p w} : (setWaiken p w s).can = s.can := rfl
@[simp] theorem setWaiken_buf {p w} : (setWaiken p w s).buf = s.buf := rfl
@[simp] theorem setWaiken_sch {p w} : (setWaiken p w s).sch = s.sch := rfl
@[simp] theorem setWaiken_shr {p w} : (setWaiken p w s).shr = s.shr := rfl
@[simp] theorem setWaiken_reef {p w} : (setWaiken p w s).reef = s.reef := rfl
@[simp] theorem setWaiken_boot {p w} : (setWaiken p w s).boot = s.boot := rfl
@[simp] theorem setWaiken_faults {p w} : (setWaiken p w s).faults = s.faults := rfl
@[simp] theorem setWaiken_paths {p w} : (setWaiken p w s).paths = s.paths := rfl
@[simp] theorem setWaiken_bmc {p w} : (setWaiken p w s).bmc = s.bmc := rfl
@[simp] theorem setWaiken_xt {p w} : (setWaiken p w s).xt = s.xt := rfl
@[simp] theorem setWaiken_flash {p w} : (setWaiken p w s).flash = s.flash := rfl
@[simp] theorem setWaiken_hostMem {p w} : (setWaiken p w s).hostMem = s.hostMem := rfl
@[simp] theorem setWaiken_xtMem {p w} : (setWaiken p w s).xtMem = s.xtMem := rfl
@[simp] theorem setUpConn_pending {t c} : (setUpConn t c s).pending = s.pending := rfl
@[simp] theorem setUpConn_regs {t c} : (setUpConn t c s).regs = s.regs := rfl
@[simp] theorem setUpConn_uptime {t c} : (setUpConn t c s).uptime = s.uptime := rfl
@[simp] theorem setUpConn_fresh {t c} : (setUpConn t c s).fresh = s.fresh := rfl
@[simp] theorem setUpConn_sent {t c} : (setUpConn t c s).sent = s.sent := rfl
@[simp] theorem setUpConn_ic {t c} : (setUpConn t c s).ic = s.ic := rfl
@[simp] theorem setUpConn_framers {t c} : (setUpConn t c s).framers = s.framers := rfl
@[simp] theorem setUpConn_pm {t c} : (setUpConn t c s).pm = s.pm := rfl
@[simp] theorem setUpConn_regn {t c} : (setUpConn t c s).regn = s.regn := rfl
@[simp] theorem setUpConn_timed {t c} : (setUpConn t c s).timed = s.timed := rfl
@[simp] theorem setUpConn_lookouts {t c} : (setUpConn t c s).lookouts = s.lookouts := rfl
@[simp] theorem setUpConn_halyards {t c} : (setUpConn t c s).halyards = s.halyards := rfl
@[simp] theorem setUpConn_contexts {t c} : (setUpConn t c s).contexts = s.contexts := rfl
@[simp] theorem setUpConn_guards {t c} : (setUpConn t c s).guards = s.guards := rfl
@[simp] theorem setUpConn_time {t c} : (setUpConn t c s).time = s.time := rfl
@[simp] theorem setUpConn_lanes {t c} : (setUpConn t c s).lanes = s.lanes := rfl
@[simp] theorem setUpConn_waikens {t c} : (setUpConn t c s).waikens = s.waikens := rfl
@[simp] theorem setUpConn_drift {t c} : (setUpConn t c s).drift = s.drift := rfl
@[simp] theorem setUpConn_subs {t c} : (setUpConn t c s).subs = s.subs := rfl
@[simp] theorem setUpConn_fifos {t c} : (setUpConn t c s).fifos = s.fifos := rfl
@[simp] theorem setUpConn_shrOut {t c} : (setUpConn t c s).shrOut = s.shrOut := rfl
@[simp] theorem setUpConn_pg {t c} : (setUpConn t c s).pg = s.pg := rfl
@[simp] theorem setUpConn_cls {t c} : (setUpConn t c s).cls = s.cls := rfl
@[simp] theorem setUpConn_can {t c} : (setUpConn t c s).can = s.can := rfl
@[simp] theorem setUpConn_buf {t c} : (setUpConn t c s).buf = s.buf := rfl
@[simp] theorem setUpConn_sch {t c} : (setUpConn t c s).sch = s.sch := rfl
@[simp] theorem setUpConn_shr {t c} : (setUpConn t c s).shr = s.shr := rfl
@[simp] theorem setUpConn_reef {t c} : (setUpConn t c s).reef = s.reef := rfl
@[simp] theorem setUpConn_boot {t c} : (setUpConn t c s).boot = s.boot := rfl
@[simp] theorem setUpConn_faults {t c} : (setUpConn t c s).faults = s.faults := rfl
@[simp] theorem setUpConn_paths {t c} : (setUpConn t c s).paths = s.paths := rfl
@[simp] theorem setUpConn_bmc {t c} : (setUpConn t c s).bmc = s.bmc := rfl
@[simp] theorem setUpConn_xt {t c} : (setUpConn t c s).xt = s.xt := rfl
@[simp] theorem setUpConn_flash {t c} : (setUpConn t c s).flash = s.flash := rfl
@[simp] theorem setUpConn_hostMem {t c} : (setUpConn t c s).hostMem = s.hostMem := rfl
@[simp] theorem setUpConn_xtMem {t c} : (setUpConn t c s).xtMem = s.xtMem := rfl
@[simp] theorem setDnConn_pending {t c} : (setDnConn t c s).pending = s.pending := rfl
@[simp] theorem setDnConn_regs {t c} : (setDnConn t c s).regs = s.regs := rfl
@[simp] theorem setDnConn_uptime {t c} : (setDnConn t c s).uptime = s.uptime := rfl
@[simp] theorem setDnConn_fresh {t c} : (setDnConn t c s).fresh = s.fresh := rfl
@[simp] theorem setDnConn_sent {t c} : (setDnConn t c s).sent = s.sent := rfl
@[simp] theorem setDnConn_ic {t c} : (setDnConn t c s).ic = s.ic := rfl
@[simp] theorem setDnConn_framers {t c} : (setDnConn t c s).framers = s.framers := rfl
@[simp] theorem setDnConn_pm {t c} : (setDnConn t c s).pm = s.pm := rfl
@[simp] theorem setDnConn_regn {t c} : (setDnConn t c s).regn = s.regn := rfl
@[simp] theorem setDnConn_timed {t c} : (setDnConn t c s).timed = s.timed := rfl
@[simp] theorem setDnConn_lookouts {t c} : (setDnConn t c s).lookouts = s.lookouts := rfl
@[simp] theorem setDnConn_halyards {t c} : (setDnConn t c s).halyards = s.halyards := rfl
@[simp] theorem setDnConn_contexts {t c} : (setDnConn t c s).contexts = s.contexts := rfl
@[simp] theorem setDnConn_guards {t c} : (setDnConn t c s).guards = s.guards := rfl
@[simp] theorem setDnConn_time {t c} : (setDnConn t c s).time = s.time := rfl
@[simp] theorem setDnConn_lanes {t c} : (setDnConn t c s).lanes = s.lanes := rfl
@[simp] theorem setDnConn_waikens {t c} : (setDnConn t c s).waikens = s.waikens := rfl
@[simp] theorem setDnConn_drift {t c} : (setDnConn t c s).drift = s.drift := rfl
@[simp] theorem setDnConn_subs {t c} : (setDnConn t c s).subs = s.subs := rfl
@[simp] theorem setDnConn_fifos {t c} : (setDnConn t c s).fifos = s.fifos := rfl
@[simp] theorem setDnConn_shrOut {t c} : (setDnConn t c s).shrOut = s.shrOut := rfl
@[simp] theorem setDnConn_pg {t c} : (setDnConn t c s).pg = s.pg := rfl
@[simp] theorem setDnConn_cls {t c} : (setDnConn t c s).cls = s.cls := rfl
@[simp] theorem setDnConn_can {t c} : (setDnConn t c s).can = s.can := rfl
@[simp] theorem setDnConn_buf {t c} : (setDnConn t c s).buf = s.buf := rfl
@[simp] theorem setDnConn_sch {t c} : (setDnConn t c s).sch = s.sch := rfl
@[simp] theorem setDnConn_shr {t c} : (setDnConn t c s).shr = s.shr := rfl
@[simp] theorem setDnConn_reef {t c} : (setDnConn t c s).reef = s.reef := rfl
@[simp] theorem setDnConn_boot {t c} : (setDnConn t c s).boot = s.boot := rfl
@[simp] theorem setDnConn_faults {t c} : (setDnConn t c s).faults = s.faults := rfl
@[simp] theorem setDnConn_paths {t c} : (setDnConn t c s).paths = s.paths := rfl
@[simp] theorem setDnConn_bmc {t c} : (setDnConn t c s).bmc = s.bmc := rfl
@[simp] theorem setDnConn_xt {t c} : (setDnConn t c s).xt = s.xt := rfl
@[simp] theorem setDnConn_flash {t c} : (setDnConn t c s).flash = s.flash := rfl
@[simp] theorem setDnConn_hostMem {t c} : (setDnConn t c s).hostMem = s.hostMem := rfl
@[simp] theorem setDnConn_xtMem {t c} : (setDnConn t c s).xtMem = s.xtMem := rfl
@[simp] theorem setSub_pending {b u x} : (setSub b u x s).pending = s.pending := rfl
@[simp] theorem setSub_regs {b u x} : (setSub b u x s).regs = s.regs := rfl
@[simp] theorem setSub_uptime {b u x} : (setSub b u x s).uptime = s.uptime := rfl
@[simp] theorem setSub_fresh {b u x} : (setSub b u x s).fresh = s.fresh := rfl
@[simp] theorem setSub_sent {b u x} : (setSub b u x s).sent = s.sent := rfl
@[simp] theorem setSub_ic {b u x} : (setSub b u x s).ic = s.ic := rfl
@[simp] theorem setSub_framers {b u x} : (setSub b u x s).framers = s.framers := rfl
@[simp] theorem setSub_pm {b u x} : (setSub b u x s).pm = s.pm := rfl
@[simp] theorem setSub_regn {b u x} : (setSub b u x s).regn = s.regn := rfl
@[simp] theorem setSub_timed {b u x} : (setSub b u x s).timed = s.timed := rfl
@[simp] theorem setSub_lookouts {b u x} : (setSub b u x s).lookouts = s.lookouts := rfl
@[simp] theorem setSub_halyards {b u x} : (setSub b u x s).halyards = s.halyards := rfl
@[simp] theorem setSub_contexts {b u x} : (setSub b u x s).contexts = s.contexts := rfl
@[simp] theorem setSub_guards {b u x} : (setSub b u x s).guards = s.guards := rfl
@[simp] theorem setSub_time {b u x} : (setSub b u x s).time = s.time := rfl
@[simp] theorem setSub_lanes {b u x} : (setSub b u x s).lanes = s.lanes := rfl
@[simp] theorem setSub_waikens {b u x} : (setSub b u x s).waikens = s.waikens := rfl
@[simp] theorem setSub_drift {b u x} : (setSub b u x s).drift = s.drift := rfl
@[simp] theorem setSub_tsi {b u x} : (setSub b u x s).tsi = s.tsi := rfl
@[simp] theorem setSub_fifos {b u x} : (setSub b u x s).fifos = s.fifos := rfl
@[simp] theorem setSub_shrOut {b u x} : (setSub b u x s).shrOut = s.shrOut := rfl
@[simp] theorem setSub_pg {b u x} : (setSub b u x s).pg = s.pg := rfl
@[simp] theorem setSub_cls {b u x} : (setSub b u x s).cls = s.cls := rfl
@[simp] theorem setSub_can {b u x} : (setSub b u x s).can = s.can := rfl
@[simp] theorem setSub_buf {b u x} : (setSub b u x s).buf = s.buf := rfl
@[simp] theorem setSub_sch {b u x} : (setSub b u x s).sch = s.sch := rfl
@[simp] theorem setSub_shr {b u x} : (setSub b u x s).shr = s.shr := rfl
@[simp] theorem setSub_reef {b u x} : (setSub b u x s).reef = s.reef := rfl
@[simp] theorem setSub_boot {b u x} : (setSub b u x s).boot = s.boot := rfl
@[simp] theorem setSub_faults {b u x} : (setSub b u x s).faults = s.faults := rfl
@[simp] theorem setSub_paths {b u x} : (setSub b u x s).paths = s.paths := rfl
@[simp] theorem setSub_bmc {b u x} : (setSub b u x s).bmc = s.bmc := rfl
@[simp] theorem setSub_xt {b u x} : (setSub b u x s).xt = s.xt := rfl
@[simp] theorem setSub_flash {b u x} : (setSub b u x s).flash = s.flash := rfl
@[simp] theorem setSub_hostMem {b u x} : (setSub b u x s).hostMem = s.hostMem := rfl
@[simp] theorem setSub_xtMem {b u x} : (setSub b u x s).xtMem = s.xtMem := rfl
@[simp] theorem setFifo_pending {b l} : (setFifo b l s).pending = s.pending := rfl
@[simp] theorem setFifo_regs {b l} : (setFifo b l s).regs = s.regs := rfl
@[simp] theorem setFifo_uptime {b l} : (setFifo b l s).uptime = s.uptime := rfl
@[simp] theorem setFifo_fresh {b l} : (setFifo b l s).fresh = s.fresh := rfl
@[simp] theorem setFifo_sent {b l} : (setFifo b l s).sent = s.sent := rfl
@[simp] theorem setFifo_ic {b l} : (setFifo b l s).ic = s.ic := rfl
@[simp] theorem setFifo_framers {b l} : (setFifo b l s).framers = s.framers := rfl
@[simp] theorem setFifo_pm {b l} : (setFifo b l s).pm = s.pm := rfl
@[simp] theorem setFifo_regn {b l} : (setFifo b l s).regn = s.regn := rfl
@[simp] theorem setFifo_timed {b l} : (setFifo b l s).timed = s.timed := rfl
@[simp] theorem setFifo_lookouts {b l} : (setFifo b l s).lookouts = s.lookouts := rfl
@[simp] theorem setFifo_halyards {b l} : (setFifo b l s).halyards = s.halyards := rfl
@[simp] theorem setFifo_contexts {b l} : (setFifo b l s).contexts = s.contexts := rfl
@[simp] theorem setFifo_guards {b l} : (setFifo b l s).guards = s.guards := rfl
@[simp] theorem setFifo_time {b l} : (setFifo b l s).time = s.time := rfl
@[simp] theorem setFifo_lanes {b l} : (setFifo b l s).lanes = s.lanes := rfl
@[simp] theorem setFifo_waikens {b l} : (setFifo b l s).waikens = s.waikens := rfl
@[simp] theorem setFifo_drift {b l} : (setFifo b l s).drift = s.drift := rfl
@[simp] theorem setFifo_tsi {b l} : (setFifo b l s).tsi = s.tsi := rfl
@[simp] theorem setFifo_subs {b l} : (setFifo b l s).subs = s.subs := rfl
@[simp] theorem setFifo_shrOut {b l} : (setFifo b l s).shrOut = s.shrOut := rfl
@[simp] theorem setFifo_pg {b l} : (setFifo b l s).pg = s.pg := rfl
@[simp] theorem setFifo_cls {b l} : (setFifo b l s).cls = s.cls := rfl
@[simp] theorem setFifo_can {b l} : (setFifo b l s).can = s.can := rfl
@[simp] theorem setFifo_buf {b l} : (setFifo b l s).buf = s.buf := rfl
@[simp] theorem setFifo_sch {b l} : (setFifo b l s).sch = s.sch := rfl
@[simp] theorem setFifo_shr {b l} : (setFifo b l s).shr = s.shr := rfl
@[simp] theorem setFifo_reef {b l} : (setFifo b l s).reef = s.reef := rfl
@[simp] theorem setFifo_boot {b l} : (setFifo b l s).boot = s.boot := rfl
@[simp] theorem setFifo_faults {b l} : (setFifo b l s).faults = s.faults := rfl
@[simp] theorem setFifo_paths {b l} : (setFifo b l s).paths = s.paths := rfl
@[simp] theorem setFifo_bmc {b l} : (setFifo b l s).bmc = s.bmc := rfl
@[simp] theorem setFifo_xt {b l} : (setFifo b l s).xt = s.xt := rfl
@[simp] theorem setFifo_flash {b l} : (setFifo b l s).flash = s.flash := rfl
@[simp] theorem setFifo_hostMem {b l} : (setFifo b l s).hostMem = s.hostMem := rfl
@[simp] theorem setFifo_xtMem {b l} : (setFifo b l s).xtMem = s.xtMem := rfl
@[simp] theorem setFrame_pending {n f} : (setFrame n f s).pending = s.pending := rfl
@[simp] theorem setFrame_regs {n f} : (setFrame n f s).regs = s.regs := rfl
@[simp] theorem setFrame_uptime {n f} : (setFrame n f s).uptime = s.uptime := rfl
@[simp] theorem setFrame_fresh {n f} : (setFrame n f s).fresh = s.fresh := rfl
@[simp] theorem setFrame_sent {n f} : (setFrame n f s).sent = s.sent := rfl
@[simp] theorem setFrame_ic {n f} : (setFrame n f s).ic = s.ic := rfl
@[simp] theorem setFrame_framers {n f} : (setFrame n f s).framers = s.framers := rfl
@[simp] theorem setFrame_pm {n f} : (setFrame n f s).pm = s.pm := rfl
@[simp] theorem setFrame_regn {n f} : (setFrame n f s).regn = s.regn := rfl
@[simp] theorem setFrame_timed {n f} : (setFrame n f s).timed = s.timed := rfl
@[simp] theorem setFrame_lookouts {n f} : (setFrame n f s).lookouts = s.lookouts := rfl
@[simp] theorem setFrame_halyards {n f} : (setFrame n f s).halyards = s.halyards := rfl
@[simp] theorem setFrame_contexts {n f} : (setFrame n f s).contexts = s.contexts := rfl
@[simp] theorem setFrame_guards {n f} : (setFrame n f s).guards = s.guards := rfl
@[simp] theorem setFrame_time {n f} : (setFrame n f s).time = s.time := rfl
@[simp] theorem setFrame_lanes {n f} : (setFrame n f s).lanes = s.lanes := rfl
@[simp] theorem setFrame_waikens {n f} : (setFrame n f s).waikens = s.waikens := rfl
@[simp] theorem setFrame_drift {n f} : (setFrame n f s).drift = s.drift := rfl
@[simp] theorem setFrame_tsi {n f} : (setFrame n f s).tsi = s.tsi := rfl
@[simp] theorem setFrame_subs {n f} : (setFrame n f s).subs = s.subs := rfl
@[simp] theorem setFrame_fifos {n f} : (setFrame n f s).fifos = s.fifos := rfl
@[simp] theorem setFrame_shrOut {n f} : (setFrame n f s).shrOut = s.shrOut := rfl
@[simp] theorem setFrame_pg {n f} : (setFrame n f s).pg = s.pg := rfl
@[simp] theorem setFrame_cls {n f} : (setFrame n f s).cls = s.cls := rfl
@[simp] theorem setFrame_can {n f} : (setFrame n f s).can = s.can := rfl
@[simp] theorem setFrame_sch {n f} : (setFrame n f s).sch = s.sch := rfl
@[simp] theorem setFrame_shr {n f} : (setFrame n f s).shr = s.shr := rfl
@[simp] theorem setFrame_reef {n f} : (setFrame n f s).reef = s.reef := rfl
@[simp] theorem setFrame_boot {n f} : (setFrame n f s).boot = s.boot := rfl
@[simp] theorem setFrame_faults {n f} : (setFrame n f s).faults = s.faults := rfl
@[simp] theorem setFrame_paths {n f} : (setFrame n f s).paths = s.paths := rfl
@[simp] theorem setFrame_bmc {n f} : (setFrame n f s).bmc = s.bmc := rfl
@[simp] theorem setFrame_xt {n f} : (setFrame n f s).xt = s.xt := rfl
@[simp] theorem setFrame_flash {n f} : (setFrame n f s).flash = s.flash := rfl
@[simp] theorem setFrame_hostMem {n f} : (setFrame n f s).hostMem = s.hostMem := rfl
@[simp] theorem setFrame_xtMem {n f} : (setFrame n f s).xtMem = s.xtMem := rfl
@[simp] theorem setQueue_pending {q x} : (setQueue q x s).pending = s.pending := rfl
@[simp] theorem setQueue_regs {q x} : (setQueue q x s).regs = s.regs := rfl
@[simp] theorem setQueue_uptime {q x} : (setQueue q x s).uptime = s.uptime := rfl
@[simp] theorem setQueue_fresh {q x} : (setQueue q x s).fresh = s.fresh := rfl
@[simp] theorem setQueue_sent {q x} : (setQueue q x s).sent = s.sent := rfl
@[simp] theorem setQueue_ic {q x} : (setQueue q x s).ic = s.ic := rfl
@[simp] theorem setQueue_framers {q x} : (setQueue q x s).framers = s.framers := rfl
@[simp] theorem setQueue_pm {q x} : (setQueue q x s).pm = s.pm := rfl
@[simp] theorem setQueue_regn {q x} : (setQueue q x s).regn = s.regn := rfl
@[simp] theorem setQueue_timed {q x} : (setQueue q x s).timed = s.timed := rfl
@[simp] theorem setQueue_lookouts {q x} : (setQueue q x s).lookouts = s.lookouts := rfl
@[simp] theorem setQueue_halyards {q x} : (setQueue q x s).halyards = s.halyards := rfl
@[simp] theorem setQueue_contexts {q x} : (setQueue q x s).contexts = s.contexts := rfl
@[simp] theorem setQueue_guards {q x} : (setQueue q x s).guards = s.guards := rfl
@[simp] theorem setQueue_time {q x} : (setQueue q x s).time = s.time := rfl
@[simp] theorem setQueue_lanes {q x} : (setQueue q x s).lanes = s.lanes := rfl
@[simp] theorem setQueue_waikens {q x} : (setQueue q x s).waikens = s.waikens := rfl
@[simp] theorem setQueue_drift {q x} : (setQueue q x s).drift = s.drift := rfl
@[simp] theorem setQueue_tsi {q x} : (setQueue q x s).tsi = s.tsi := rfl
@[simp] theorem setQueue_subs {q x} : (setQueue q x s).subs = s.subs := rfl
@[simp] theorem setQueue_fifos {q x} : (setQueue q x s).fifos = s.fifos := rfl
@[simp] theorem setQueue_shrOut {q x} : (setQueue q x s).shrOut = s.shrOut := rfl
@[simp] theorem setQueue_pg {q x} : (setQueue q x s).pg = s.pg := rfl
@[simp] theorem setQueue_cls {q x} : (setQueue q x s).cls = s.cls := rfl
@[simp] theorem setQueue_can {q x} : (setQueue q x s).can = s.can := rfl
@[simp] theorem setQueue_sch {q x} : (setQueue q x s).sch = s.sch := rfl
@[simp] theorem setQueue_shr {q x} : (setQueue q x s).shr = s.shr := rfl
@[simp] theorem setQueue_reef {q x} : (setQueue q x s).reef = s.reef := rfl
@[simp] theorem setQueue_boot {q x} : (setQueue q x s).boot = s.boot := rfl
@[simp] theorem setQueue_faults {q x} : (setQueue q x s).faults = s.faults := rfl
@[simp] theorem setQueue_paths {q x} : (setQueue q x s).paths = s.paths := rfl
@[simp] theorem setQueue_bmc {q x} : (setQueue q x s).bmc = s.bmc := rfl
@[simp] theorem setQueue_xt {q x} : (setQueue q x s).xt = s.xt := rfl
@[simp] theorem setQueue_flash {q x} : (setQueue q x s).flash = s.flash := rfl
@[simp] theorem setQueue_hostMem {q x} : (setQueue q x s).hostMem = s.hostMem := rfl
@[simp] theorem setQueue_xtMem {q x} : (setQueue q x s).xtMem = s.xtMem := rfl
@[simp] theorem setRound_pending {k l} : (setRound k l s).pending = s.pending := rfl
@[simp] theorem setRound_regs {k l} : (setRound k l s).regs = s.regs := rfl
@[simp] theorem setRound_uptime {k l} : (setRound k l s).uptime = s.uptime := rfl
@[simp] theorem setRound_fresh {k l} : (setRound k l s).fresh = s.fresh := rfl
@[simp] theorem setRound_sent {k l} : (setRound k l s).sent = s.sent := rfl
@[simp] theorem setRound_ic {k l} : (setRound k l s).ic = s.ic := rfl
@[simp] theorem setRound_framers {k l} : (setRound k l s).framers = s.framers := rfl
@[simp] theorem setRound_pm {k l} : (setRound k l s).pm = s.pm := rfl
@[simp] theorem setRound_regn {k l} : (setRound k l s).regn = s.regn := rfl
@[simp] theorem setRound_timed {k l} : (setRound k l s).timed = s.timed := rfl
@[simp] theorem setRound_lookouts {k l} : (setRound k l s).lookouts = s.lookouts := rfl
@[simp] theorem setRound_halyards {k l} : (setRound k l s).halyards = s.halyards := rfl
@[simp] theorem setRound_contexts {k l} : (setRound k l s).contexts = s.contexts := rfl
@[simp] theorem setRound_guards {k l} : (setRound k l s).guards = s.guards := rfl
@[simp] theorem setRound_time {k l} : (setRound k l s).time = s.time := rfl
@[simp] theorem setRound_lanes {k l} : (setRound k l s).lanes = s.lanes := rfl
@[simp] theorem setRound_waikens {k l} : (setRound k l s).waikens = s.waikens := rfl
@[simp] theorem setRound_drift {k l} : (setRound k l s).drift = s.drift := rfl
@[simp] theorem setRound_tsi {k l} : (setRound k l s).tsi = s.tsi := rfl
@[simp] theorem setRound_subs {k l} : (setRound k l s).subs = s.subs := rfl
@[simp] theorem setRound_fifos {k l} : (setRound k l s).fifos = s.fifos := rfl
@[simp] theorem setRound_shrOut {k l} : (setRound k l s).shrOut = s.shrOut := rfl
@[simp] theorem setRound_pg {k l} : (setRound k l s).pg = s.pg := rfl
@[simp] theorem setRound_cls {k l} : (setRound k l s).cls = s.cls := rfl
@[simp] theorem setRound_can {k l} : (setRound k l s).can = s.can := rfl
@[simp] theorem setRound_sch {k l} : (setRound k l s).sch = s.sch := rfl
@[simp] theorem setRound_shr {k l} : (setRound k l s).shr = s.shr := rfl
@[simp] theorem setRound_reef {k l} : (setRound k l s).reef = s.reef := rfl
@[simp] theorem setRound_boot {k l} : (setRound k l s).boot = s.boot := rfl
@[simp] theorem setRound_faults {k l} : (setRound k l s).faults = s.faults := rfl
@[simp] theorem setRound_paths {k l} : (setRound k l s).paths = s.paths := rfl
@[simp] theorem setRound_bmc {k l} : (setRound k l s).bmc = s.bmc := rfl
@[simp] theorem setRound_xt {k l} : (setRound k l s).xt = s.xt := rfl
@[simp] theorem setRound_flash {k l} : (setRound k l s).flash = s.flash := rfl
@[simp] theorem setRound_hostMem {k l} : (setRound k l s).hostMem = s.hostMem := rfl
@[simp] theorem setRound_xtMem {k l} : (setRound k l s).xtMem = s.xtMem := rfl
@[simp] theorem setShaper_pending {k x} : (setShaper k x s).pending = s.pending := rfl
@[simp] theorem setShaper_regs {k x} : (setShaper k x s).regs = s.regs := rfl
@[simp] theorem setShaper_uptime {k x} : (setShaper k x s).uptime = s.uptime := rfl
@[simp] theorem setShaper_fresh {k x} : (setShaper k x s).fresh = s.fresh := rfl
@[simp] theorem setShaper_sent {k x} : (setShaper k x s).sent = s.sent := rfl
@[simp] theorem setShaper_ic {k x} : (setShaper k x s).ic = s.ic := rfl
@[simp] theorem setShaper_framers {k x} : (setShaper k x s).framers = s.framers := rfl
@[simp] theorem setShaper_pm {k x} : (setShaper k x s).pm = s.pm := rfl
@[simp] theorem setShaper_regn {k x} : (setShaper k x s).regn = s.regn := rfl
@[simp] theorem setShaper_timed {k x} : (setShaper k x s).timed = s.timed := rfl
@[simp] theorem setShaper_lookouts {k x} : (setShaper k x s).lookouts = s.lookouts := rfl
@[simp] theorem setShaper_halyards {k x} : (setShaper k x s).halyards = s.halyards := rfl
@[simp] theorem setShaper_contexts {k x} : (setShaper k x s).contexts = s.contexts := rfl
@[simp] theorem setShaper_guards {k x} : (setShaper k x s).guards = s.guards := rfl
@[simp] theorem setShaper_time {k x} : (setShaper k x s).time = s.time := rfl
@[simp] theorem setShaper_lanes {k x} : (setShaper k x s).lanes = s.lanes := rfl
@[simp] theorem setShaper_waikens {k x} : (setShaper k x s).waikens = s.waikens := rfl
@[simp] theorem setShaper_drift {k x} : (setShaper k x s).drift = s.drift := rfl
@[simp] theorem setShaper_tsi {k x} : (setShaper k x s).tsi = s.tsi := rfl
@[simp] theorem setShaper_subs {k x} : (setShaper k x s).subs = s.subs := rfl
@[simp] theorem setShaper_fifos {k x} : (setShaper k x s).fifos = s.fifos := rfl
@[simp] theorem setShaper_shrOut {k x} : (setShaper k x s).shrOut = s.shrOut := rfl
@[simp] theorem setShaper_pg {k x} : (setShaper k x s).pg = s.pg := rfl
@[simp] theorem setShaper_cls {k x} : (setShaper k x s).cls = s.cls := rfl
@[simp] theorem setShaper_can {k x} : (setShaper k x s).can = s.can := rfl
@[simp] theorem setShaper_buf {k x} : (setShaper k x s).buf = s.buf := rfl
@[simp] theorem setShaper_shr {k x} : (setShaper k x s).shr = s.shr := rfl
@[simp] theorem setShaper_reef {k x} : (setShaper k x s).reef = s.reef := rfl
@[simp] theorem setShaper_boot {k x} : (setShaper k x s).boot = s.boot := rfl
@[simp] theorem setShaper_faults {k x} : (setShaper k x s).faults = s.faults := rfl
@[simp] theorem setShaper_paths {k x} : (setShaper k x s).paths = s.paths := rfl
@[simp] theorem setShaper_bmc {k x} : (setShaper k x s).bmc = s.bmc := rfl
@[simp] theorem setShaper_xt {k x} : (setShaper k x s).xt = s.xt := rfl
@[simp] theorem setShaper_flash {k x} : (setShaper k x s).flash = s.flash := rfl
@[simp] theorem setShaper_hostMem {k x} : (setShaper k x s).hostMem = s.hostMem := rfl
@[simp] theorem setShaper_xtMem {k x} : (setShaper k x s).xtMem = s.xtMem := rfl
@[simp] theorem setMeter_pending {k m} : (setMeter k m s).pending = s.pending := rfl
@[simp] theorem setMeter_regs {k m} : (setMeter k m s).regs = s.regs := rfl
@[simp] theorem setMeter_uptime {k m} : (setMeter k m s).uptime = s.uptime := rfl
@[simp] theorem setMeter_fresh {k m} : (setMeter k m s).fresh = s.fresh := rfl
@[simp] theorem setMeter_sent {k m} : (setMeter k m s).sent = s.sent := rfl
@[simp] theorem setMeter_ic {k m} : (setMeter k m s).ic = s.ic := rfl
@[simp] theorem setMeter_framers {k m} : (setMeter k m s).framers = s.framers := rfl
@[simp] theorem setMeter_pm {k m} : (setMeter k m s).pm = s.pm := rfl
@[simp] theorem setMeter_regn {k m} : (setMeter k m s).regn = s.regn := rfl
@[simp] theorem setMeter_timed {k m} : (setMeter k m s).timed = s.timed := rfl
@[simp] theorem setMeter_lookouts {k m} : (setMeter k m s).lookouts = s.lookouts := rfl
@[simp] theorem setMeter_halyards {k m} : (setMeter k m s).halyards = s.halyards := rfl
@[simp] theorem setMeter_contexts {k m} : (setMeter k m s).contexts = s.contexts := rfl
@[simp] theorem setMeter_guards {k m} : (setMeter k m s).guards = s.guards := rfl
@[simp] theorem setMeter_time {k m} : (setMeter k m s).time = s.time := rfl
@[simp] theorem setMeter_lanes {k m} : (setMeter k m s).lanes = s.lanes := rfl
@[simp] theorem setMeter_waikens {k m} : (setMeter k m s).waikens = s.waikens := rfl
@[simp] theorem setMeter_drift {k m} : (setMeter k m s).drift = s.drift := rfl
@[simp] theorem setMeter_tsi {k m} : (setMeter k m s).tsi = s.tsi := rfl
@[simp] theorem setMeter_subs {k m} : (setMeter k m s).subs = s.subs := rfl
@[simp] theorem setMeter_fifos {k m} : (setMeter k m s).fifos = s.fifos := rfl
@[simp] theorem setMeter_shrOut {k m} : (setMeter k m s).shrOut = s.shrOut := rfl
@[simp] theorem setMeter_pg {k m} : (setMeter k m s).pg = s.pg := rfl
@[simp] theorem setMeter_cls {k m} : (setMeter k m s).cls = s.cls := rfl
@[simp] theorem setMeter_can {k m} : (setMeter k m s).can = s.can := rfl
@[simp] theorem setMeter_buf {k m} : (setMeter k m s).buf = s.buf := rfl
@[simp] theorem setMeter_shr {k m} : (setMeter k m s).shr = s.shr := rfl
@[simp] theorem setMeter_reef {k m} : (setMeter k m s).reef = s.reef := rfl
@[simp] theorem setMeter_boot {k m} : (setMeter k m s).boot = s.boot := rfl
@[simp] theorem setMeter_faults {k m} : (setMeter k m s).faults = s.faults := rfl
@[simp] theorem setMeter_paths {k m} : (setMeter k m s).paths = s.paths := rfl
@[simp] theorem setMeter_bmc {k m} : (setMeter k m s).bmc = s.bmc := rfl
@[simp] theorem setMeter_xt {k m} : (setMeter k m s).xt = s.xt := rfl
@[simp] theorem setMeter_flash {k m} : (setMeter k m s).flash = s.flash := rfl
@[simp] theorem setMeter_hostMem {k m} : (setMeter k m s).hostMem = s.hostMem := rfl
@[simp] theorem setMeter_xtMem {k m} : (setMeter k m s).xtMem = s.xtMem := rfl
@[simp] theorem setPortKeys_pending {p k} : (setPortKeys p k s).pending = s.pending := rfl
@[simp] theorem setPortKeys_regs {p k} : (setPortKeys p k s).regs = s.regs := rfl
@[simp] theorem setPortKeys_uptime {p k} : (setPortKeys p k s).uptime = s.uptime := rfl
@[simp] theorem setPortKeys_fresh {p k} : (setPortKeys p k s).fresh = s.fresh := rfl
@[simp] theorem setPortKeys_sent {p k} : (setPortKeys p k s).sent = s.sent := rfl
@[simp] theorem setPortKeys_ic {p k} : (setPortKeys p k s).ic = s.ic := rfl
@[simp] theorem setPortKeys_framers {p k} : (setPortKeys p k s).framers = s.framers := rfl
@[simp] theorem setPortKeys_pm {p k} : (setPortKeys p k s).pm = s.pm := rfl
@[simp] theorem setPortKeys_regn {p k} : (setPortKeys p k s).regn = s.regn := rfl
@[simp] theorem setPortKeys_timed {p k} : (setPortKeys p k s).timed = s.timed := rfl
@[simp] theorem setPortKeys_lookouts {p k} : (setPortKeys p k s).lookouts = s.lookouts := rfl
@[simp] theorem setPortKeys_halyards {p k} : (setPortKeys p k s).halyards = s.halyards := rfl
@[simp] theorem setPortKeys_contexts {p k} : (setPortKeys p k s).contexts = s.contexts := rfl
@[simp] theorem setPortKeys_guards {p k} : (setPortKeys p k s).guards = s.guards := rfl
@[simp] theorem setPortKeys_time {p k} : (setPortKeys p k s).time = s.time := rfl
@[simp] theorem setPortKeys_lanes {p k} : (setPortKeys p k s).lanes = s.lanes := rfl
@[simp] theorem setPortKeys_waikens {p k} : (setPortKeys p k s).waikens = s.waikens := rfl
@[simp] theorem setPortKeys_drift {p k} : (setPortKeys p k s).drift = s.drift := rfl
@[simp] theorem setPortKeys_tsi {p k} : (setPortKeys p k s).tsi = s.tsi := rfl
@[simp] theorem setPortKeys_subs {p k} : (setPortKeys p k s).subs = s.subs := rfl
@[simp] theorem setPortKeys_fifos {p k} : (setPortKeys p k s).fifos = s.fifos := rfl
@[simp] theorem setPortKeys_shrOut {p k} : (setPortKeys p k s).shrOut = s.shrOut := rfl
@[simp] theorem setPortKeys_pg {p k} : (setPortKeys p k s).pg = s.pg := rfl
@[simp] theorem setPortKeys_cls {p k} : (setPortKeys p k s).cls = s.cls := rfl
@[simp] theorem setPortKeys_can {p k} : (setPortKeys p k s).can = s.can := rfl
@[simp] theorem setPortKeys_buf {p k} : (setPortKeys p k s).buf = s.buf := rfl
@[simp] theorem setPortKeys_sch {p k} : (setPortKeys p k s).sch = s.sch := rfl
@[simp] theorem setPortKeys_reef {p k} : (setPortKeys p k s).reef = s.reef := rfl
@[simp] theorem setPortKeys_boot {p k} : (setPortKeys p k s).boot = s.boot := rfl
@[simp] theorem setPortKeys_faults {p k} : (setPortKeys p k s).faults = s.faults := rfl
@[simp] theorem setPortKeys_paths {p k} : (setPortKeys p k s).paths = s.paths := rfl
@[simp] theorem setPortKeys_bmc {p k} : (setPortKeys p k s).bmc = s.bmc := rfl
@[simp] theorem setPortKeys_xt {p k} : (setPortKeys p k s).xt = s.xt := rfl
@[simp] theorem setPortKeys_flash {p k} : (setPortKeys p k s).flash = s.flash := rfl
@[simp] theorem setPortKeys_hostMem {p k} : (setPortKeys p k s).hostMem = s.hostMem := rfl
@[simp] theorem setPortKeys_xtMem {p k} : (setPortKeys p k s).xtMem = s.xtMem := rfl
@[simp] theorem setReef_pending {x} : (setReef x s).pending = s.pending := rfl
@[simp] theorem setReef_regs {x} : (setReef x s).regs = s.regs := rfl
@[simp] theorem setReef_uptime {x} : (setReef x s).uptime = s.uptime := rfl
@[simp] theorem setReef_fresh {x} : (setReef x s).fresh = s.fresh := rfl
@[simp] theorem setReef_sent {x} : (setReef x s).sent = s.sent := rfl
@[simp] theorem setReef_ic {x} : (setReef x s).ic = s.ic := rfl
@[simp] theorem setReef_framers {x} : (setReef x s).framers = s.framers := rfl
@[simp] theorem setReef_pm {x} : (setReef x s).pm = s.pm := rfl
@[simp] theorem setReef_regn {x} : (setReef x s).regn = s.regn := rfl
@[simp] theorem setReef_timed {x} : (setReef x s).timed = s.timed := rfl
@[simp] theorem setReef_lookouts {x} : (setReef x s).lookouts = s.lookouts := rfl
@[simp] theorem setReef_halyards {x} : (setReef x s).halyards = s.halyards := rfl
@[simp] theorem setReef_contexts {x} : (setReef x s).contexts = s.contexts := rfl
@[simp] theorem setReef_guards {x} : (setReef x s).guards = s.guards := rfl
@[simp] theorem setReef_time {x} : (setReef x s).time = s.time := rfl
@[simp] theorem setReef_lanes {x} : (setReef x s).lanes = s.lanes := rfl
@[simp] theorem setReef_waikens {x} : (setReef x s).waikens = s.waikens := rfl
@[simp] theorem setReef_drift {x} : (setReef x s).drift = s.drift := rfl
@[simp] theorem setReef_tsi {x} : (setReef x s).tsi = s.tsi := rfl
@[simp] theorem setReef_subs {x} : (setReef x s).subs = s.subs := rfl
@[simp] theorem setReef_fifos {x} : (setReef x s).fifos = s.fifos := rfl
@[simp] theorem setReef_shrOut {x} : (setReef x s).shrOut = s.shrOut := rfl
@[simp] theorem setReef_pg {x} : (setReef x s).pg = s.pg := rfl
@[simp] theorem setReef_cls {x} : (setReef x s).cls = s.cls := rfl
@[simp] theorem setReef_can {x} : (setReef x s).can = s.can := rfl
@[simp] theorem setReef_buf {x} : (setReef x s).buf = s.buf := rfl
@[simp] theorem setReef_sch {x} : (setReef x s).sch = s.sch := rfl
@[simp] theorem setReef_shr {x} : (setReef x s).shr = s.shr := rfl
@[simp] theorem setReef_boot {x} : (setReef x s).boot = s.boot := rfl
@[simp] theorem setReef_faults {x} : (setReef x s).faults = s.faults := rfl
@[simp] theorem setReef_paths {x} : (setReef x s).paths = s.paths := rfl
@[simp] theorem setReef_bmc {x} : (setReef x s).bmc = s.bmc := rfl
@[simp] theorem setReef_xt {x} : (setReef x s).xt = s.xt := rfl
@[simp] theorem setReef_flash {x} : (setReef x s).flash = s.flash := rfl
@[simp] theorem setReef_hostMem {x} : (setReef x s).hostMem = s.hostMem := rfl
@[simp] theorem setReef_xtMem {x} : (setReef x s).xtMem = s.xtMem := rfl
@[simp] theorem setPair_pending {k x} : (setPair k x s).pending = s.pending := rfl
@[simp] theorem setPair_regs {k x} : (setPair k x s).regs = s.regs := rfl
@[simp] theorem setPair_uptime {k x} : (setPair k x s).uptime = s.uptime := rfl
@[simp] theorem setPair_fresh {k x} : (setPair k x s).fresh = s.fresh := rfl
@[simp] theorem setPair_sent {k x} : (setPair k x s).sent = s.sent := rfl
@[simp] theorem setPair_ic {k x} : (setPair k x s).ic = s.ic := rfl
@[simp] theorem setPair_framers {k x} : (setPair k x s).framers = s.framers := rfl
@[simp] theorem setPair_pm {k x} : (setPair k x s).pm = s.pm := rfl
@[simp] theorem setPair_regn {k x} : (setPair k x s).regn = s.regn := rfl
@[simp] theorem setPair_timed {k x} : (setPair k x s).timed = s.timed := rfl
@[simp] theorem setPair_lookouts {k x} : (setPair k x s).lookouts = s.lookouts := rfl
@[simp] theorem setPair_halyards {k x} : (setPair k x s).halyards = s.halyards := rfl
@[simp] theorem setPair_contexts {k x} : (setPair k x s).contexts = s.contexts := rfl
@[simp] theorem setPair_guards {k x} : (setPair k x s).guards = s.guards := rfl
@[simp] theorem setPair_time {k x} : (setPair k x s).time = s.time := rfl
@[simp] theorem setPair_lanes {k x} : (setPair k x s).lanes = s.lanes := rfl
@[simp] theorem setPair_waikens {k x} : (setPair k x s).waikens = s.waikens := rfl
@[simp] theorem setPair_drift {k x} : (setPair k x s).drift = s.drift := rfl
@[simp] theorem setPair_tsi {k x} : (setPair k x s).tsi = s.tsi := rfl
@[simp] theorem setPair_subs {k x} : (setPair k x s).subs = s.subs := rfl
@[simp] theorem setPair_fifos {k x} : (setPair k x s).fifos = s.fifos := rfl
@[simp] theorem setPair_shrOut {k x} : (setPair k x s).shrOut = s.shrOut := rfl
@[simp] theorem setPair_pg {k x} : (setPair k x s).pg = s.pg := rfl
@[simp] theorem setPair_cls {k x} : (setPair k x s).cls = s.cls := rfl
@[simp] theorem setPair_can {k x} : (setPair k x s).can = s.can := rfl
@[simp] theorem setPair_buf {k x} : (setPair k x s).buf = s.buf := rfl
@[simp] theorem setPair_sch {k x} : (setPair k x s).sch = s.sch := rfl
@[simp] theorem setPair_shr {k x} : (setPair k x s).shr = s.shr := rfl
@[simp] theorem setPair_reef {k x} : (setPair k x s).reef = s.reef := rfl
@[simp] theorem setPair_boot {k x} : (setPair k x s).boot = s.boot := rfl
@[simp] theorem setPair_paths {k x} : (setPair k x s).paths = s.paths := rfl
@[simp] theorem setPair_bmc {k x} : (setPair k x s).bmc = s.bmc := rfl
@[simp] theorem setPair_xt {k x} : (setPair k x s).xt = s.xt := rfl
@[simp] theorem setPair_flash {k x} : (setPair k x s).flash = s.flash := rfl
@[simp] theorem setPair_hostMem {k x} : (setPair k x s).hostMem = s.hostMem := rfl
@[simp] theorem setPair_xtMem {k x} : (setPair k x s).xtMem = s.xtMem := rfl
@[simp] theorem setPath_pending {a x} : (setPath a x s).pending = s.pending := rfl
@[simp] theorem setPath_regs {a x} : (setPath a x s).regs = s.regs := rfl
@[simp] theorem setPath_uptime {a x} : (setPath a x s).uptime = s.uptime := rfl
@[simp] theorem setPath_fresh {a x} : (setPath a x s).fresh = s.fresh := rfl
@[simp] theorem setPath_sent {a x} : (setPath a x s).sent = s.sent := rfl
@[simp] theorem setPath_ic {a x} : (setPath a x s).ic = s.ic := rfl
@[simp] theorem setPath_framers {a x} : (setPath a x s).framers = s.framers := rfl
@[simp] theorem setPath_pm {a x} : (setPath a x s).pm = s.pm := rfl
@[simp] theorem setPath_regn {a x} : (setPath a x s).regn = s.regn := rfl
@[simp] theorem setPath_timed {a x} : (setPath a x s).timed = s.timed := rfl
@[simp] theorem setPath_lookouts {a x} : (setPath a x s).lookouts = s.lookouts := rfl
@[simp] theorem setPath_halyards {a x} : (setPath a x s).halyards = s.halyards := rfl
@[simp] theorem setPath_contexts {a x} : (setPath a x s).contexts = s.contexts := rfl
@[simp] theorem setPath_guards {a x} : (setPath a x s).guards = s.guards := rfl
@[simp] theorem setPath_time {a x} : (setPath a x s).time = s.time := rfl
@[simp] theorem setPath_lanes {a x} : (setPath a x s).lanes = s.lanes := rfl
@[simp] theorem setPath_waikens {a x} : (setPath a x s).waikens = s.waikens := rfl
@[simp] theorem setPath_drift {a x} : (setPath a x s).drift = s.drift := rfl
@[simp] theorem setPath_tsi {a x} : (setPath a x s).tsi = s.tsi := rfl
@[simp] theorem setPath_subs {a x} : (setPath a x s).subs = s.subs := rfl
@[simp] theorem setPath_fifos {a x} : (setPath a x s).fifos = s.fifos := rfl
@[simp] theorem setPath_shrOut {a x} : (setPath a x s).shrOut = s.shrOut := rfl
@[simp] theorem setPath_pg {a x} : (setPath a x s).pg = s.pg := rfl
@[simp] theorem setPath_cls {a x} : (setPath a x s).cls = s.cls := rfl
@[simp] theorem setPath_can {a x} : (setPath a x s).can = s.can := rfl
@[simp] theorem setPath_buf {a x} : (setPath a x s).buf = s.buf := rfl
@[simp] theorem setPath_sch {a x} : (setPath a x s).sch = s.sch := rfl
@[simp] theorem setPath_shr {a x} : (setPath a x s).shr = s.shr := rfl
@[simp] theorem setPath_reef {a x} : (setPath a x s).reef = s.reef := rfl
@[simp] theorem setPath_boot {a x} : (setPath a x s).boot = s.boot := rfl
@[simp] theorem setPath_faults {a x} : (setPath a x s).faults = s.faults := rfl
@[simp] theorem setPath_bmc {a x} : (setPath a x s).bmc = s.bmc := rfl
@[simp] theorem setPath_xt {a x} : (setPath a x s).xt = s.xt := rfl
@[simp] theorem setPath_flash {a x} : (setPath a x s).flash = s.flash := rfl
@[simp] theorem setPath_hostMem {a x} : (setPath a x s).hostMem = s.hostMem := rfl
@[simp] theorem setPath_xtMem {a x} : (setPath a x s).xtMem = s.xtMem := rfl

end Sys2Proof.Machine
end

