-- ==== Sys2Proof/Laws/Pieces.lean ====
section
/-! SUPPORT. The pieces of the repeated blocks: reading one after a write of one, and after an operation that keeps its part. -/
namespace Sys2Proof.Machine
open Sys2Proof

variable {m : Nat} {s t : State}

@[simp] theorem framer_setFramer (p q : Nat) {x} : framer (setFramer p x s) q = if q = p then x else framer s q := Tab.look_put ..

theorem Keep.framer (k : Keep m s t) (h : m.testBit 8 = false) (p : Nat) : Machine.framer t p = Machine.framer s p := by
  have e : t.framers = s.framers := k.same .framers h
  simp [Machine.framer, e]

@[simp] theorem pmStore_setPmStore (p q : Nat) {x} : pmStore (setPmStore p x s) q = if q = p then x else pmStore s q := Tab.look_put ..

theorem Keep.pmStore (k : Keep m s t) (h : m.testBit 9 = false) (p : Nat) : Machine.pmStore t p = Machine.pmStore s p := by
  have e : t.pm = s.pm := k.same .pm h
  simp [Machine.pmStore, e]

@[simp] theorem regnOf_setRegn (p q : Nat) {x} : regnOf (setRegn p x s) q = if q = p then x else regnOf s q := Tab.look_put ..

theorem Keep.regnOf (k : Keep m s t) (h : m.testBit 10 = false) (p : Nat) : Machine.regnOf t p = Machine.regnOf s p := by
  have e : t.regn = s.regn := k.same .regn h
  simp [Machine.regnOf, e]

@[simp] theorem halyard_setHalyard (p q : Nat) {x} : halyard (setHalyard p x s) q = if q = p then x else halyard s q := Tab.look_put ..

theorem Keep.halyard (k : Keep m s t) (h : m.testBit 13 = false) (p : Nat) : Machine.halyard t p = Machine.halyard s p := by
  have e : t.halyards = s.halyards := k.same .halyards h
  simp [Machine.halyard, e]

@[simp] theorem guardOf_setGuard (p q : Nat) {x} : guardOf (setGuard p x s) q = if q = p then x else guardOf s q := Tab.look_put ..

theorem Keep.guardOf (k : Keep m s t) (h : m.testBit 15 = false) (p : Nat) : Machine.guardOf t p = Machine.guardOf s p := by
  have e : t.guards = s.guards := k.same .guards h
  simp [Machine.guardOf, e]

@[simp] theorem lookout_setLookout (p q : Nat) {x} : lookout (setLookout p x s) q = if q = p then x else lookout s q := Tab.look_put ..

theorem Keep.lookout (k : Keep m s t) (h : m.testBit 12 = false) (p : Nat) : Machine.lookout t p = Machine.lookout s p := by
  have e : t.lookouts = s.lookouts := k.same .lookouts h
  simp [Machine.lookout, e]

@[simp] theorem laneOf_setLane (p q : Nat) {x} : laneOf (setLane p x s) q = if q = p then x else laneOf s q := Tab.look_put ..

theorem Keep.laneOf (k : Keep m s t) (h : m.testBit 17 = false) (p : Nat) : Machine.laneOf t p = Machine.laneOf s p := by
  have e : t.lanes = s.lanes := k.same .lanes h
  simp [Machine.laneOf, e]

@[simp] theorem waiken_setWaiken (p q : Nat) {x} : waiken (setWaiken p x s) q = if q = p then x else waiken s q := Tab.look_put ..

theorem Keep.waiken (k : Keep m s t) (h : m.testBit 18 = false) (p : Nat) : Machine.waiken t p = Machine.waiken s p := by
  have e : t.waikens = s.waikens := k.same .waikens h
  simp [Machine.waiken, e]

theorem Keep.reg_eq (k : Keep m s t) (h : m.testBit 1 = false) : Machine.reg t = Machine.reg s := by
  have e : t.regs = s.regs := k.same .regs h
  funext; simp [Machine.reg, e]

theorem Keep.icSrc_eq (k : Keep m s t) (h : m.testBit 5 = false) : Machine.icSrc t = Machine.icSrc s := by
  have e : t.ic.src = s.ic.src := k.same .icSrc h
  funext; simp [Machine.icSrc, e]

theorem Keep.icTgt_eq (k : Keep m s t) (h : m.testBit 6 = false) : Machine.icTgt t = Machine.icTgt s := by
  have e : t.ic.tgt = s.ic.tgt := k.same .icTgt h
  funext; simp [Machine.icTgt, e]

theorem Keep.subOf_eq (k : Keep m s t) (h : m.testBit 20 = false) : Machine.subOf t = Machine.subOf s := by
  have e : t.subs = s.subs := k.same .subs h
  funext; simp [Machine.subOf, e]

theorem Keep.fifoOf_eq (k : Keep m s t) (h : m.testBit 21 = false) : Machine.fifoOf t = Machine.fifoOf s := by
  have e : t.fifos = s.fifos := k.same .fifos h
  funext; simp [Machine.fifoOf, e]

theorem Keep.canTable_eq (k : Keep m s t) (h : m.testBit 25 = false) : Machine.canTable t = Machine.canTable s := by
  have e : t.can = s.can := k.same .can h
  funext; simp [Machine.canTable, e]

theorem Keep.ruleTable_eq (k : Keep m s t) (h : m.testBit 24 = false) : Machine.ruleTable t = Machine.ruleTable s := by
  have e : t.cls = s.cls := k.same .cls h
  funext; simp [Machine.ruleTable, e]

theorem Keep.bankOf_eq (k : Keep m s t) (h : m.testBit 25 = false) : Machine.bankOf t = Machine.bankOf s := by
  have e : t.can = s.can := k.same .can h
  funext; simp [Machine.bankOf, e]

theorem Keep.frameOf_eq (k : Keep m s t) (h : m.testBit 26 = false) : Machine.frameOf t = Machine.frameOf s := by
  have e : t.buf = s.buf := k.same .buf h
  funext; simp [Machine.frameOf, e]

theorem Keep.queueOf_eq (k : Keep m s t) (h : m.testBit 26 = false) : Machine.queueOf t = Machine.queueOf s := by
  have e : t.buf = s.buf := k.same .buf h
  funext; simp [Machine.queueOf, e]

theorem Keep.shaperOf_eq (k : Keep m s t) (h : m.testBit 27 = false) : Machine.shaperOf t = Machine.shaperOf s := by
  have e : t.sch = s.sch := k.same .sch h
  funext; simp [Machine.shaperOf, e]

theorem Keep.meterOf_eq (k : Keep m s t) (h : m.testBit 27 = false) : Machine.meterOf t = Machine.meterOf s := by
  have e : t.sch = s.sch := k.same .sch h
  funext; simp [Machine.meterOf, e]

theorem Keep.operList_eq (k : Keep m s t) (h : m.testBit 27 = false) : Machine.operList t = Machine.operList s := by
  have e : t.sch = s.sch := k.same .sch h
  funext; simp [Machine.operList, e]

theorem Keep.portKeys_eq (k : Keep m s t) (h : m.testBit 28 = false) : Machine.portKeys t = Machine.portKeys s := by
  have e : t.shr = s.shr := k.same .shr h
  funext; simp [Machine.portKeys, e]

theorem Keep.rootKey_eq (k : Keep m s t) (h : m.testBit 28 = false) : Machine.rootKey t = Machine.rootKey s := by
  have e : t.shr = s.shr := k.same .shr h
  funext; simp [Machine.rootKey, e]

theorem Keep.epochOf_eq (k : Keep m s t) (h : m.testBit 28 = false) : Machine.epochOf t = Machine.epochOf s := by
  have e : t.shr = s.shr := k.same .shr h
  funext; simp [Machine.epochOf, Machine.portKeys, e]

theorem Keep.pairOf_eq (k : Keep m s t) (h : m.testBit 33 = false) : Machine.pairOf t = Machine.pairOf s := by
  have e : t.faults = s.faults := k.same .faults h
  funext; simp [Machine.pairOf, e]

theorem Keep.pathOf_eq (k : Keep m s t) (h : m.testBit 34 = false) : Machine.pathOf t = Machine.pathOf s := by
  have e : t.paths = s.paths := k.same .paths h
  funext; simp [Machine.pathOf, e]

theorem Keep.upConn_eq (k : Keep m s t) (h : m.testBit 19 = false) : Machine.upConn t = Machine.upConn s := by
  have e : t.tsi = s.tsi := k.same .tsi h
  funext; simp [Machine.upConn, e]

theorem Keep.dnConn_eq (k : Keep m s t) (h : m.testBit 19 = false) : Machine.dnConn t = Machine.dnConn s := by
  have e : t.tsi = s.tsi := k.same .tsi h
  funext; simp [Machine.dnConn, e]

end Sys2Proof.Machine
end

