-- ==== Sys2Proof/Laws/Events.lean ====
section
/-! SUPPORT. The registers that a signal and an event latch write: the latch, and WAKE_CAUSE at Reef 3. -/
namespace Sys2Proof.Machine
open Sys2Proof

variable {s : State}

theorem reg_forAll {α : Type} {f : α → State → State} {l : List α} {a : Nat}
    (h : ∀ x y, reg (f x y) a = reg y a) : reg (forAll f l s) a = reg s a := by
  induction l generalizing s with
  | nil => rfl
  | cons x l ih => exact ih.trans (h x s)

theorem requestRises_regs (o : State) : (requestRises o s).regs = s.regs := by
  have k : Keep 144 s (requestRises o s) := requestRises_keep.chain rfl .refl
  exact k.same .regs rfl

/-- A signal writes no register but WAKE_CAUSE (R394, R395, R408). -/
theorem reg_signalSource {a : Nat} (h : a ≠ 0x0020005C) (n : Nat) : reg (signalSource n s) a = reg s a := by
  unfold signalSource
  split
  · dsimp only
    have e : ∀ x : State, reg (wakeOn n x) a = reg x a := fun x => by
      unfold wakeOn requestWake
      split
      · split
        · exact reg_setRegN_ne h _
        · rfl
      · rfl
    have r : reg (requestRises s (setIcSrc n (icSrc s n).signalled s)) a = reg s a := by
      simp only [reg, requestRises_regs]; rfl
    split
    · exact r
    · rw [e, r]
  · rfl

/-- An event latch writes no other register but WAKE_CAUSE (R75). -/
theorem reg_raise {a ev : Nat} (h : a ≠ 0x0020005C) (hv : a ≠ ev) (en i src : Nat) :
    reg (raise ev en i src s) a = reg s a := by
  unfold raise
  split
  · rfl
  · dsimp only
    split
    · rw [reg_signalSource h, reg_setBit_ne hv]
    · rw [reg_setBit_ne hv]

/-- The latch is set afterwards. -/
theorem bitAt_raise {ev en i src : Nat} (hi : i < 32) (h : ev ≠ 0x0020005C) : bitAt (raise ev en i src s) ev i = true := by
  unfold raise
  split
  · assumption
  · dsimp only
    split
    · simp only [bitAt, reg_signalSource h]; exact bitAt_setBit_self hi true
    · exact bitAt_setBit_self hi true

/-- What an event latch leaves of any other bit of any register. -/
theorem bitAt_raise_ne {a ev en i j src : Nat} (h : a ≠ 0x0020005C) (hj : j < 32) (hne : a ≠ ev ∨ i ≠ j) :
    bitAt (raise ev en i src s) a j = bitAt s a j := by
  rcases Decidable.em (a = ev) with rfl | ha
  · unfold raise
    split
    · rfl
    · have := hne.resolve_left (· rfl)
      dsimp only
      split
      · simp only [bitAt, reg_signalSource h]
        have := bitAt_setBit (s := s) (a := a) (i := i) hj true
        simp_all [bitAt]
      · rw [bitAt_setBit hj, if_neg this]
  · simp only [bitAt, reg_raise h ha]

end Sys2Proof.Machine
end

