-- ==== Sys2Proof/Laws/Framer.lean ====
section
/-! SUPPORT. What the framer's operations do to a framer, and that a port's timing leaves it alone. -/
namespace Sys2Proof.Machine
open Sys2Proof

variable {s : State}

/-- What follows from a port's timing changes no framer. -/
@[simp] theorem framer_withTiming (p q : Nat) (f : State → State) : framer (withTiming p f s) q = framer (f s) q := by
  unfold withTiming
  dsimp only
  split
  · rw [downstreamLost_keep.framer rfl, bksLost_keep.framer rfl, halLost_keep.framer rfl]
  · split
    · rw [downstreamAcquired_keep.framer rfl, bksGained_keep.framer rfl]
    · rfl

/-- A change of the raw defects changes nothing else of any framer. -/
@[simp] theorem framer_setRaws (p q : Nat) (raw : BitVec 7) :
    framer (setRaws p raw s) q = if q = p then { framer s p with raw := raw } else framer s q := by
  have k : ∀ (f : Nat → State → State) (l : List Nat) (x : State), (∀ i y, Keep 1073742066 y (f i y)) →
      framer (forAll f l x) q = framer x q := fun f l x h => (forAll_keep rfl h : Keep 1073742066 x _).framer rfl q
  unfold setRaws
  dsimp only
  rw [k _ _ _ fun i y => .ite (frEvent_keep.chain rfl .refl) .refl, setPmStore_keep.framer rfl, framer_setFramer]

/-- A raw defect set or cleared, while the port is enabled and lit. -/
@[simp] theorem framer_setRaw (p q i : Nat) (b : Bool) :
    framer (setRaw p i b s) q = if framerOn s p = true ∧ q = p then
      { framer s p with raw := if b then (framer s p).raw ||| BitVec.ofNat 7 (2 ^ i) else (framer s p).raw &&& ~~~BitVec.ofNat 7 (2 ^ i) }
      else framer s q := by
  unfold setRaw
  by_cases h : framerOn s p = true
  · simp [h]
  · simp [h]

/-- What enables a port stands in the registers. -/
theorem framerOn_congr {t : State} (h : t.regs = s.regs) : framerOn t = framerOn s := by
  funext p
  simp [framerOn, portDark, bitAt, reg, h]

@[simp] theorem framerOn_setFramer (p q : Nat) (f : Framer) : framerOn (setFramer p f s) q = framerOn s q := rfl

/-- A write of another register of the port than FR_CTL leaves its enable as it is. -/
theorem framerOn_bump {p q o n : Nat} (h : trkR q 0 ≠ trkR p o) : framerOn (bump (trkR p o) n s) q = framerOn s q := by
  have h1 : reg (bump (trkR p o) n s) (trkR q 0) = reg s (trkR q 0) := reg_setRegN_ne h _
  have h2 : reg (bump (trkR p o) n s) 0x00200014 = reg s 0x00200014 := reg_setRegN_ne (by simp [trkR]; omega) _
  simp [framerOn, portDark, bitAt, h1, h2]

/-- A port's enable and its darkness stand in two registers. -/
theorem framerOn_eq {t : State} {p : Nat} (h : reg t (trkR p 0) = reg s (trkR p 0)) (hd : reg t 0x00200014 = reg s 0x00200014) :
    framerOn t p = framerOn s p := by
  simp [framerOn, portDark, bitAt, h, hd]

/-- A change of the raw defects writes no register but FR_EVENT and WAKE_CAUSE. -/
theorem reg_setRaws {a p : Nat} (h : a ≠ 0x0020005C) (hv : a ≠ trkR p 0x18) (raw : BitVec 7) :
    reg (setRaws p raw s) a = reg s a := by
  unfold setRaws
  refine (reg_forAll fun i x => ?_).trans rfl
  split
  · exact reg_raise h hv ..
  · rfl

theorem framerOn_setRaws (p q : Nat) (raw : BitVec 7) : framerOn (setRaws p raw s) q = framerOn s q :=
  framerOn_eq (reg_setRaws (by simp [trkR]; omega) (by simp [trkR]; omega) _)
    (reg_setRaws (by decide) (by simp [trkR]; omega) _)

theorem framerOn_setRaw (p q i : Nat) (b : Bool) : framerOn (setRaw p i b s) q = framerOn s q := by
  unfold setRaw
  split
  · exact framerOn_setRaws ..
  · rfl

@[simp] theorem framer_toHunt (p q : Nat) (run : List Byte) :
    framer (toHunt p run s) q =
      if q = p then { framer s p with delin := .hunt, run := run, head := none } else framer s q := by
  unfold toHunt
  dsimp only
  split <;> split <;> simp [bump_keep.framer rfl, pmDiscard_keep.framer rfl]

/-- A discard counted in PM writes no register. -/
theorem framerOn_pmDiscard (p n q : Nat) : framerOn (pmDiscard p n s) q = framerOn s q :=
  congrFun (framerOn_congr rfl) q

theorem framerOn_toHunt (p q : Nat) (run : List Byte) : framerOn (toHunt p run s) q = framerOn s q := by
  have hb : ∀ (o n : Nat) (x : State), o ≠ 0 → o < 0x10000 → framerOn (bump (trkR p o) n x) q = framerOn x q :=
    fun o n x h0 h1 => framerOn_bump (by simp [trkR]; omega)
  unfold toHunt
  dsimp only
  split <;> split <;> simp [framerOn_pmDiscard, hb]

/-- Lock dropped on an enabled, lit port (R48, R58). -/
theorem framer_dropLock {p : Nat} (h : framerOn s p = true) (q : Nat) :
    framer (dropLock p s) q = if q = p then { framer s p with
      locked := false, missRun := 0, trackers := [], clrLen := 0, incRun := 0, delin := .hunt, run := [], head := none,
      raw := (framer s p).raw ||| 4 } else framer s q := by
  have h1 : ∀ f : Framer, framerOn (setFramer p f (toHunt p [] s)) p = true := fun f => by
    rw [framerOn_setFramer, framerOn_toHunt, h]
  unfold dropLock
  by_cases hq : q = p
  · subst hq; simp [h1, bitLof]
  · simp [hq]

/-- Delivery changes nothing of a framer but its queue of TMMs (R51 to R55). -/
def sameButQueue (f g : Framer) : Prop := { g with queue := f.queue } = f

theorem sameButQueue.refl (f : Framer) : sameButQueue f f := rfl

theorem sameButQueue.trans {f g h : Framer} (a : sameButQueue f g) (b : sameButQueue g h) : sameButQueue f h := by
  unfold sameButQueue at *
  rw [← a, ← b]

theorem framer_examineTmm (p sf : Nat) (t : BitVec 384) : sameButQueue (framer s p) (framer (examineTmm p sf t s) p) := by
  unfold examineTmm deliverTmm
  split
  · rw [bump_keep.framer rfl]; exact .refl _
  · split
    · rw [bump_keep.framer rfl]; exact .refl _
    · dsimp only
      rw [snoop_keep.framer rfl]
      split
      · rw [frEvent_keep.framer rfl, bump_keep.framer rfl]; exact .refl _
      · rw [bump_keep.framer rfl, framer_setFramer, if_pos rfl]; rfl

theorem framer_deliverOverhead (p sf : Nat) (b : List Byte) :
    sameButQueue (framer s p) (framer (deliverOverhead p sf b s) p) := by
  have k : ∀ (l : List (BitVec 384)) (x : State),
      sameButQueue (framer x p) (framer (forAll (fun t x => examineTmm p sf t x) l x) p) := by
    intro l
    induction l with
    | nil => exact fun _ => .refl _
    | cons t l ih => exact fun x => (framer_examineTmm p sf t).trans (ih _)
  unfold deliverOverhead
  dsimp only
  rw [setGuard_keep.framer rfl, setHalyard_keep.framer rfl]
  split
  · rw [frEvent_keep.framer rfl, bump_keep.framer rfl]; exact k ..
  · exact k ..

@[simp] theorem framer_setSf (p q sf : Nat) :
    framer (setSf p sf s) q = if q = p then { framer s p with lastSf := some sf } else framer s q := by
  unfold setSf
  rw [setReg64_keep.framer rfl, framer_setFramer]

theorem regs_deliverNothing (p sf : Nat) : (noMap p sf s).regs = s.regs := rfl

/-- What the decoder did in a frame is counted in registers and PM only. -/
@[simp] theorem framer_countFec (p q : Nat) (rx : RxFrame) : framer (countFec p rx s) q = framer s q := by
  unfold countFec
  simp only [setPmStore_keep.framer rfl, bump64_keep.framer rfl]

/-- The frame joins the SD window of its port, if the port is locked. -/
@[simp] theorem framer_countSd (p q : Nat) (rx : RxFrame) :
    framer (countSd p rx s) q =
      if (framer s p).locked = true ∧ q = p then (framer s p).addSd rx else framer s q := by
  unfold countSd
  split <;> simp [*]

end Sys2Proof.Machine
end

