-- ==== Sys2Proof/Laws/Keep9.lean ====
section
/-! SUPPORT. What each operation of these files of the machine keeps: Inband, Ingress, Dispatch, Tick, Step. -/
namespace Sys2Proof.Machine
open Sys2Proof

/-! ### Inband -/

theorem nrEvent_keep {a0 s} : Keep 1073742002 s (nrEvent a0 s) := by
  unfold nrEvent
  exact (raise_keep.chain rfl .refl)

theorem NextRecord_taken_keep {n s} : Keep 68769808384 s (NextRecord.taken n s) := by
  unfold NextRecord.taken
  split
  · exact .xt rfl .refl
  · exact .can rfl .refl
  · exact .cls rfl .refl

theorem putRecord_keep {a0 a1 s} : KeepO 894426939570 s (putRecord a0 a1 s) := by
  unfold putRecord
  exact (KeepO.ite .none (.some (bump_keep.chain rfl (Keep.ite (nrEvent_keep.chain rfl (setRegN_keep.chain rfl (.xt rfl (dmaWrite_keep.chain rfl (Keep.ite .refl (dmaWrite_keep.chain rfl .refl)))))) (setRegN_keep.chain rfl (.xt rfl (dmaWrite_keep.chain rfl (Keep.ite .refl (dmaWrite_keep.chain rfl .refl)))))))))

theorem deliverRecord_keep {n s} : Keep 894477271218 s (deliverRecord n s) := by
  unfold deliverRecord
  refine .ite (NextRecord_taken_keep.chain rfl .refl) ?_
  split
  · rename_i h; exact (putRecord_keep _ h).chain rfl (NextRecord_taken_keep.chain rfl .refl)
  · exact nrEvent_keep.chain rfl (bump_keep.chain rfl (NextRecord_taken_keep.chain rfl .refl))

theorem deliverCopy_keep {s} : Keep 894477271218 s (deliverCopy s) := by
  unfold deliverCopy
  split
  · exact (deliverRecord_keep.chain rfl .refl)
  · exact .refl

theorem recordWrite_keep {s} : Keep 894477271218 s (recordWrite s) := by
  unfold recordWrite
  split
  · exact .refl
  · exact (Keep.ite (deliverCopy_keep.chain rfl .refl) (deliverRecord_keep.chain rfl .refl))

theorem execNrRecordWrite_keep {s} : KeepN 894477271218 s (execNrRecordWrite s) := by
  unfold execNrRecordWrite
  exact (.next (Keep.hchain (onlyIf_keep rfl (fun _ => (recordWrite_keep.chain rfl .refl))) .refl))

theorem commandFor_keep {a0 a1 s} : Keep 151752013498 s (commandFor a0 a1 s).state := by
  unfold commandFor
  split
  · exact (cmdHello_keep.chain rfl .refl)
  · exact (cmdImgErase_keep.chain rfl .refl)
  · exact (cmdImgWrite_keep.chain rfl .refl)
  · exact (cmdImgRead_keep.chain rfl .refl)
  · exact (cmdImgCheck_keep.chain rfl .refl)
  · exact (cmdImgSelect_keep.chain rfl .refl)
  · exact (cmdImgConfirm_keep.chain rfl .refl)
  · exact (cmdDevReset_keep.chain rfl .refl)
  · exact (cmdRegEnable_keep.chain rfl .refl)
  · exact (cmdRegRelease_keep.chain rfl .refl)
  · exact (cmdRegSilence_keep.chain rfl .refl)
  · exact (cmdRegStatus_keep.chain rfl .refl)
  · exact (cmdTimeTod_keep.chain rfl .refl)
  · exact (cmdArmStep_keep.chain rfl .refl)
  · exact (cmdTimeRead_keep.chain rfl .refl)
  · exact (cmdIndWrite_keep.chain rfl .refl)
  · exact (cmdRootLoad_keep.chain rfl .refl)
  · exact (cmdRootClear_keep.chain rfl .refl)
  · exact (cmdAttest_keep.chain rfl .refl)
  · exact (cmdIdentity_keep.chain rfl .refl)
  · exact (cmdReefSet_keep.chain rfl .refl)
  · exact (mbStatus_keep.chain rfl .refl)

theorem afterReply_keep {a0 s} : Keep 635655159794 s (afterReply a0 s) := by
  unfold afterReply
  split
  · exact (warmStart_keep.chain rfl .refl)
  · exact .refl

theorem runWaiting_keep {n s} : Keep 773094113274 s (runWaiting n s) := by
  induction n generalizing s with
  | zero => exact .refl
  | succ n ih =>
    unfold runWaiting
    split
    · exact .refl
    · exact Keep.hchain ih (mbRunThen_keep rfl (fun _ => afterReply_keep.chain rfl .refl) (fun _ _ => commandFor_keep.chain rfl .refl))

theorem mgtSend_keep {a0 a1 s} : Keep 69794267322 s (mgtSend a0 a1 s) := by
  unfold mgtSend
  exact (mgtQueue_keep.chain rfl .refl)

theorem mcSend_keep {a0 a1 s} : Keep 69861376186 s (mcSend a0 a1 s) := by
  unfold mcSend
  exact (Keep.ite (processorFrame_keep.chain rfl .refl) (mgtSend_keep.chain rfl .refl))

theorem mcExecute_keep {a0 s} : Keep 773094113274 s (mcExecute a0 s) := by
  unfold mcExecute
  first | (dsimp only; split) | (extract_lets; split) | split
  · exact (mcSend_keep.chain rfl (setReg64_keep.chain rfl .refl))
  · exact (afterReply_keep.chain rfl (mcSend_keep.chain rfl (commandFor_keep.chain rfl (bump_keep.chain rfl (setReg64_keep.chain rfl .refl)))))

theorem inband_keep {a0 s} : Keep 773094113274 s (inband a0 s) := by
  unfold inband
  exact (Keep.ite (runWaiting_keep.chain rfl .refl) (Keep.ite (mcExecute_keep.chain rfl (runWaiting_keep.chain rfl .refl)) (bump_keep.chain rfl (runWaiting_keep.chain rfl .refl))))

theorem execInbandRequest_keep {a0 s} : KeepN 773094113274 s (execInbandRequest a0 s) := by
  unfold execInbandRequest
  exact (.next (Keep.hchain (onlyIf_keep rfl (fun _ => (inband_keep.chain rfl .refl))) .refl))

/-! ### Ingress -/

theorem countRxFec_keep {a0 a1 a2 s} : Keep 1073742002 s (countRxFec a0 a1 a2 s) := by
  unfold countRxFec
  exact (Keep.ite (bump64_keep.chain rfl (bump64_keep.chain rfl .refl)) (cliEvent_keep.chain rfl (bump64_keep.chain rfl (bump64_keep.chain rfl .refl))))

theorem countRx_keep {a0 a1 a2 s} : Keep 2 s (countRx a0 a1 a2 s) := by
  unfold countRx
  exact (bump64_keep.chain rfl (bump64_keep.chain rfl .refl))

theorem clientRx_keep {a0 a1 a2 s} : Keep 1332740282 s (clientRx a0 a1 a2 s) := by
  unfold clientRx
  exact (Keep.ite (rxPfc_keep.chain rfl (countRxFec_keep.chain rfl .refl)) (by
  split
  · exact (bump_keep.chain rfl (countRxFec_keep.chain rfl .refl))
  · exact (Keep.ite (bump_keep.chain rfl (countRxFec_keep.chain rfl .refl)) (takeAll_keep.chain rfl (pressureSettle_keep.chain rfl (setFifo_keep.chain rfl (countRx_keep.chain rfl (countRxFec_keep.chain rfl .refl))))))
  ))

theorem execClientRxFrame_keep {a0 a1 a2 s} : KeepN 1332740282 s (execClientRxFrame a0 a1 a2 s) := by
  unfold execClientRxFrame
  exact (.next (Keep.hchain (onlyIf_keep rfl (fun _ => (Keep.ite (countRxFec_keep.chain rfl .refl) (clientRx_keep.chain rfl .refl)))) .refl))

theorem wakeMatch_keep {a0 s} : Keep 1073742002 s (wakeMatch a0 s) := by
  unfold wakeMatch
  exact (Keep.ite (signalSource_keep.chain rfl (Keep.hchain (forAll_keep rfl (fun _ _ => (setBit_keep.chain rfl .refl))) .refl)) (Keep.hchain (forAll_keep rfl (fun _ _ => (setBit_keep.chain rfl .refl))) .refl))

theorem mgmtRx_keep {a0 a1 s} : Keep 773094113274 s (mgmtRx a0 a1 s) := by
  unfold mgmtRx
  split
  · exact (bump_keep.chain rfl .refl)
  · exact (Keep.ite (inband_keep.chain rfl (.xt rfl (countRx_keep.chain rfl .refl))) (.xt rfl (countRx_keep.chain rfl .refl)))

theorem mgmtFrame_keep {a0 a1 s} : Keep 773094113274 s (mgmtFrame a0 a1 s) := by
  unfold mgmtFrame
  exact (Keep.ite (Keep.ite (wakeMatch_keep.chain rfl .refl) .refl) (Keep.ite (mgmtRx_keep.chain rfl .refl) .refl))

theorem execMgmtRxFrame_keep {a0 a1 s} : KeepN 773094113274 s (execMgmtRxFrame a0 a1 s) := by
  unfold execMgmtRxFrame
  exact (.next (mgmtFrame_keep.chain rfl .refl))

theorem deliverPlain_keep {a0 a1 a2 a3 s} : Keep 773094113274 s (deliverPlain a0 a1 a2 a3 s) := by
  unfold deliverPlain
  exact (Keep.ite (deliverRigid_keep.chain rfl .refl) (Keep.ite (inband_keep.chain rfl .refl) (takeAll_keep.chain rfl (.shrOut rfl .refl))))

theorem keyDiscard_keep {a0 s} : Keep 770 s (keyDiscard a0 s) := by
  unfold keyDiscard
  exact (pmDiscard_keep.chain rfl (setFramer_keep.chain rfl (bump_keep.chain rfl .refl)))

theorem admittedEnvelope_keep {a0 a1 a2 a3 a4 s} : Keep 773094113274 s (admittedEnvelope a0 a1 a2 a3 a4 s) := by
  unfold admittedEnvelope
  first | (dsimp only; split) | (extract_lets; split) | split
  · exact (keyDiscard_keep.chain rfl .refl)
  · exact (Keep.ite (keyDiscard_keep.chain rfl .refl) (Keep.ite (pmDiscard_keep.chain rfl (bump_keep.chain rfl .refl)) (by
  first | (dsimp only; split) | (extract_lets; split) | split
  · exact (deliverPlain_keep.chain rfl (openEnvelope_keep.chain rfl .refl))
  · exact (openEnvelope_keep.chain rfl .refl)
  )))

theorem syncEnvelope_keep {a0 a1 a2 a3 s} : Keep 773094113274 s (syncEnvelope a0 a1 a2 a3 s) := by
  unfold syncEnvelope
  exact (Keep.ite (bump64_keep.chain rfl .refl) (by
  split
  · exact (bump64_keep.chain rfl .refl)
  · exact (admittedEnvelope_keep.chain rfl (bump64_keep.chain rfl .refl))
  ))

theorem syncStep_keep {a0 a1 s} : Keep 773094113274 s (syncStep a0 a1 s) := by
  unfold syncStep
  exact (Keep.ite .refl (Keep.ite (toHunt_keep.chain rfl .refl) (Keep.ite (setFramer_keep.chain rfl (Keep.ite (headerEpoch_keep.chain rfl .refl) .refl)) (syncEnvelope_keep.chain rfl (setFramer_keep.chain rfl (Keep.ite (headerEpoch_keep.chain rfl .refl) .refl))))))

theorem envelope_keep {a0 a1 s} : Keep 773094113274 s (envelope a0 a1 s) := by
  unfold envelope
  first | (dsimp only; split) | (extract_lets; split) | split
  · exact (setFramer_keep.chain rfl .refl)
  · exact (Keep.ite .refl (Keep.ite (syncStep_keep.chain rfl (setFramer_keep.chain rfl .refl)) (setFramer_keep.chain rfl .refl)))
  · exact (syncStep_keep.chain rfl .refl)

theorem execDownstreamEnvelope_keep {a0 a1 s} : KeepN 773094113274 s (execDownstreamEnvelope a0 a1 s) := by
  unfold execDownstreamEnvelope
  exact (.next (Keep.hchain (onlyIf_keep rfl (fun _ => (envelope_keep.chain rfl .refl))) .refl))

/-! ### Dispatch -/



/-! ### Tick -/

theorem played_keep {s} : Keep 4295688208 s (played s) := by
  unfold played
  exact (.lanes rfl (.boot rfl rfl (slotsTick_keep.chain rfl (Keep.ite (rclkTick_keep.chain rfl .refl) .refl))))

theorem tick_keep {s} : Keep 1103874424852 s (tick s) := by
  unfold tick
  exact (played_keep.chain rfl (holdsFrom_keep.chain rfl (Keep.ite (.time rfl ⟨fun p hp => by cases p <;> first | exact rfl | exact ⟨rfl, rfl, rfl, rfl, rfl⟩ | exact absurd hp (by decide),
    List.prefix_refl _, Nat.le_refl _, id, id⟩) ⟨fun p hp => by cases p <;> first | exact rfl | exact ⟨rfl, rfl, rfl, rfl, rfl⟩ | exact absurd hp (by decide),
    List.prefix_refl _, Nat.le_refl _, id, id⟩)))

/-! ### Step -/



end Sys2Proof.Machine
end

