-- ==== Sys2Proof/Laws/Port1.lean ====
section
/-! SUPPORT. What each operation of one trunk port leaves alone on the others (R22). -/
namespace Sys2Proof.Machine
open Sys2Proof

theorem onlyIf_port {q : Nat} {c f s} (hf : ∀ s, PortKeep q s (f s)) : PortKeep q s (onlyIf c f s) := by
  unfold onlyIf; split
  · exact hf s
  · exact .refl

theorem forAll_port {q : Nat} {α : Type} {f : α → State → State} {l s} (hf : ∀ x s, PortKeep q s (f x s)) :
    PortKeep q s (forAll f l s) := by
  induction l generalizing s with
  | nil => exact .refl
  | cons x l ih => exact ih.chain (hf x s)

theorem withRises_port {f0 q s} (hf0 : ∀ v0, PortKeep q v0 (f0 v0)) : PortKeep q s (withRises f0 s) := by
  unfold withRises
  exact (PortKeep.chain (Keep.port (m := 144) rfl (requestRises_keep.chain rfl .refl)) (PortKeep.chain (hf0 _) .refl))

theorem routeAway_port {a0 a1 s} : PortKeep a0 s (routeAway a0 a1 s) := by
  unfold routeAway
  exact (PortKeep.ite (Keep.port (m := 1073746106) rfl (queueLm_keep.chain rfl .refl)) (PortKeep.ite (Keep.port (m := 2) rfl (bump_keep.chain rfl .refl)) (setRegn_port.chain .refl)))

theorem queueTmm_port {a0 a1 a2 s} : PortKeep a0 s (queueTmm a0 a1 a2 s) := by
  unfold queueTmm
  exact (PortKeep.ite (setRegn_port.chain .refl) (routeAway_port.chain .refl))

theorem flushOut_port {a0 s} : PortKeep a0 s (flushOut a0 s) := by
  unfold flushOut
  exact (PortKeep.chain (forAll_port (fun _ _ => (routeAway_port.chain .refl))) (setRegn_port.chain .refl))

theorem flushOut2_port {a0 s} : PortKeep a0 s (flushOut2 a0 s) := by
  unfold flushOut2
  exact (PortKeep.chain (forAll_port (fun _ _ => (routeAway_port.chain .refl))) (setRegn_port.chain .refl))

theorem withSummary_port {a0 f1 q s} (hf1 : ∀ v0, PortKeep q v0 (f1 v0)) : PortKeep q s (withSummary a0 f1 s) := by
  unfold withSummary
  exact (PortKeep.ite (PortKeep.chain (Keep.port (m := 1073742002) rfl (signalSource_keep.chain rfl .refl)) (PortKeep.chain (hf1 _) .refl)) (PortKeep.chain (hf1 _) .refl))

theorem pmCount_port {a0 a1 s} : PortKeep a0 s (pmCount a0 a1 s) := by
  unfold pmCount
  exact (setPmStore_port.chain .refl)

theorem pmMissed_port {a0 a1 s} : PortKeep a0 s (pmMissed a0 a1 s) := by
  unfold pmMissed
  exact (pmCount_port.chain .refl)

theorem pmInvalid_port {a0 a1 s} : PortKeep a0 s (pmInvalid a0 a1 s) := by
  unfold pmInvalid
  exact (pmCount_port.chain .refl)

theorem pmDiscard_port {a0 a1 s} : PortKeep a0 s (pmDiscard a0 a1 s) := by
  unfold pmDiscard
  exact (pmCount_port.chain .refl)

theorem rejoinBlock_port {a0 f1 q s} (hf1 : ∀ v0, PortKeep q v0 (f1 v0)) : PortKeep q s (rejoinBlock a0 f1 s) := by
  unfold rejoinBlock
  exact (PortKeep.chain (forAll_port (fun _ _ => (Keep.port (m := 67108864) rfl (joinRound_keep.chain rfl .refl)))) (PortKeep.chain (hf1 _) (Keep.port (m := 67108864) rfl (Keep.hchain (forAll_keep rfl (fun _ _ => (setRound_keep.chain rfl .refl))) .refl))))

theorem shrDiscard_port {a0 a1 a2 s} : PortKeep a0 s (shrDiscard a0 a1 a2 s) := by
  unfold shrDiscard
  exact (pmDiscard_port.chain (Keep.port (m := 1073742002) rfl (shrEvent_keep.chain rfl (bump_keep.chain rfl .refl))))

theorem openEnvelope_port {a0 a1 a2 a3 a4 a5 s} : PortKeep a0 s (openEnvelope a0 a1 a2 a3 a4 a5 s).1 := by
  unfold openEnvelope
  exact (PortKeep.ite1 (shrDiscard_port.chain .refl) (PortKeep.ite1 (shrDiscard_port.chain .refl) (PortKeep.ite1 (shrDiscard_port.chain .refl) (PortKeep.ite1 (shrDiscard_port.chain (Keep.port (m := 268435458) rfl (useDown_keep.chain rfl .refl))) (PortKeep.ite1 (shrDiscard_port.chain (Keep.port (m := 268435458) rfl (useDown_keep.chain rfl .refl))) (Keep.port (m := 268435458) rfl (bump64_keep.chain rfl (markSeq_keep.chain rfl (useDown_keep.chain rfl .refl)))))))))

theorem countMissed_port {a0 a1 a2 s} : PortKeep a0 s (countMissed a0 a1 a2 s) := by
  unfold countMissed
  exact (PortKeep.ite .refl (PortKeep.chain (Keep.port (m := 1073742002) rfl (halEvent_keep.chain rfl .refl)) (pmMissed_port.chain (Keep.port (m := 2) rfl (bump_keep.chain rfl .refl)))))

theorem returnTmms_port {a0 a1 s} : PortKeep a0 s (returnTmms a0 a1 s) := by
  unfold returnTmms
  exact (PortKeep.ite .refl (PortKeep.ite (setRegn_port.chain .refl) (setRegn_port.chain .refl)))

theorem missGrants_port {a0 a1 a2 a3 a4 a5 s} : PortKeep a0 s (missGrants a0 a1 a2 a3 a4 a5 s) := by
  unfold missGrants
  exact (countMissed_port.chain (PortKeep.chain (Keep.port (m := 2) rfl (bump64_keep.chain rfl .refl)) (returnTmms_port.chain (Keep.port (m := 1142423730) rfl (returnFills_keep.chain rfl (Keep.hchain (forAll_keep rfl (fun _ _ => (sentFills_keep.chain rfl .refl))) .refl))))))

theorem dozeOut_port {a0 s} : PortKeep a0 s (dozeOut a0 s) := by
  unfold dozeOut
  exact (PortKeep.ite (PortKeep.chain (Keep.port (m := 1073873074) rfl (dataLanesTx_keep.chain rfl .refl)) (setWaiken_port.chain (setHalyard_port.chain .refl))) .refl)

theorem dozeIn_port {a0 s} : PortKeep a0 s (dozeIn a0 s) := by
  unfold dozeIn
  exact (PortKeep.ite (PortKeep.chain (Keep.port (m := 1073873074) rfl (dataLanesTx_keep.chain rfl .refl)) (setWaiken_port.chain (setHalyard_port.chain .refl))) .refl)

theorem missAll_port {a0 a1 s} : PortKeep a0 s (missAll a0 a1 s) := by
  unfold missAll
  exact (dozeIn_port.chain (missGrants_port.chain (setHalyard_port.chain .refl)))

theorem cutBurst_port {a0 a1 a2 s} : PortKeep a0 s (cutBurst a0 a1 a2 s) := by
  unfold cutBurst
  exact (dozeIn_port.chain (missGrants_port.chain (missGrants_port.chain (setHalyard_port.chain .refl))))

theorem loseWindow_port {a0 a1 s} : PortKeep a0 s (loseWindow a0 a1 s) := by
  unfold loseWindow
  exact (dozeIn_port.chain (PortKeep.chain (Keep.port (m := 2) rfl (bump_keep.chain rfl .refl)) (setRegn_port.chain .refl)))

theorem missAnswer_port {a0 s} : PortKeep a0 s (missAnswer a0 s) := by
  unfold missAnswer
  exact (PortKeep.ite .refl (dozeIn_port.chain (PortKeep.chain (Keep.port (m := 2) rfl (bump_keep.chain rfl .refl)) (PortKeep.chain (Keep.port (m := 2) rfl (bump64_keep.chain rfl .refl)) (setGuard_port.chain (setHalyard_port.chain (setRegn_port.chain .refl)))))))

theorem halLost_port {a0 s} : PortKeep a0 s (halLost a0 s) := by
  unfold halLost
  exact (missAnswer_port.chain (missAll_port.chain (setHalyard_port.chain .refl)))

theorem withPins_port {a0 a1 a2 f3 q s} (hf3 : ∀ v0, PortKeep q v0 (f3 v0)) : PortKeep q s (withPins a0 a1 a2 f3 s) := by
  unfold withPins
  exact (PortKeep.ite (PortKeep.chain (hf3 _) .refl) (PortKeep.chain (Keep.port (m := 8589934594) rfl (logEvent_keep.chain rfl .refl)) (PortKeep.ite (PortKeep.chain (Keep.port (m := 1073742002) rfl (fltEvent_keep.chain rfl .refl)) (PortKeep.chain (hf3 _) .refl)) (PortKeep.chain (hf3 _) .refl))))

theorem countDefer_port {a0 s} : PortKeep a0 s (countDefer a0 s) := by
  unfold countDefer
  first | (dsimp only; split) | (extract_lets; split) | split
  · exact (PortKeep.ite (setGuard_port.chain .refl) .refl)
  · exact .refl

theorem alertMuzzled_port {a0 s} : PortKeep a0 s (alertMuzzled a0 s) := by
  unfold alertMuzzled
  exact (PortKeep.ite (PortKeep.chain (Keep.port (m := 1073746106) rfl (queueAlert_keep.chain rfl .refl)) (setGuard_port.chain .refl)) (setGuard_port.chain .refl))

theorem setMuzzle_port {a0 a1 a2 a3 s} : PortKeep a0 s (setMuzzle a0 a1 a2 a3 s) := by
  unfold setMuzzle
  exact (alertMuzzled_port.chain (PortKeep.chain (Keep.port (m := 8589934594) rfl (logGuard_keep.chain rfl .refl)) (PortKeep.chain (Keep.port (m := 1073742002) rfl (bksEvent_keep.chain rfl .refl)) (PortKeep.chain (Keep.port (m := 2) rfl (setReg64_keep.chain rfl .refl)) (PortKeep.chain (Keep.port (m := 2) rfl (setRegN_keep.chain rfl .refl)) (setGuard_port.chain (Keep.port (m := 2) rfl (setFld_keep.chain rfl (setBit_keep.chain rfl .refl)))))))))

theorem forceOff_port {a0 s} : PortKeep a0 s (forceOff a0 s) := by
  unfold forceOff
  exact (PortKeep.chain (Keep.port (m := 1073873074) rfl (dataLanesTx_keep.chain rfl .refl)) (setWaiken_port.chain .refl))

theorem forceOn_port {a0 s} : PortKeep a0 s (forceOn a0 s) := by
  unfold forceOn
  exact (PortKeep.ite (PortKeep.chain (Keep.port (m := 1073873074) rfl (dataLanesTx_keep.chain rfl .refl)) (setWaiken_port.chain .refl)) .refl)

theorem closeGate_port {a0 s} : PortKeep a0 s (closeGate a0 s) := by
  unfold closeGate
  exact (missAnswer_port.chain (missAll_port.chain (PortKeep.chain (Keep.port (m := 2) rfl (bump_keep.chain rfl .refl)) (setGuard_port.chain .refl))))

theorem snoopSilence_port {a0 s} : PortKeep a0 s (snoopSilence a0 s) := by
  unfold snoopSilence
  exact (PortKeep.ite (setGuard_port.chain .refl) (closeGate_port.chain .refl))

theorem snoop_port {a0 a1 s} : PortKeep a0 s (snoop a0 a1 s) := by
  unfold snoop
  exact (PortKeep.ite (snoopSilence_port.chain .refl) .refl)

theorem openGate_port {a0 s} : PortKeep a0 s (openGate a0 s) := by
  unfold openGate
  exact (setGuard_port.chain .refl)

theorem bksGained_port {a0 s} : PortKeep a0 s (bksGained a0 s) := by
  unfold bksGained
  exact (setGuard_port.chain .refl)

theorem bksLost_port {a0 s} : PortKeep a0 s (bksLost a0 s) := by
  unfold bksLost
  exact (PortKeep.ite (closeGate_port.chain (setGuard_port.chain .refl)) (setGuard_port.chain .refl))

theorem setState_port {a0 a1 s} : PortKeep a0 s (setState a0 a1 s) := by
  unfold setState
  exact (PortKeep.ite .refl (PortKeep.ite (PortKeep.chain (Keep.port (m := 9663676418) rfl (cancelDark_keep.chain rfl .refl)) (PortKeep.chain (Keep.port (m := 1073742002) rfl (rgEvent_keep.chain rfl .refl)) (setRegn_port.chain .refl))) (PortKeep.chain (Keep.port (m := 1073742002) rfl (rgEvent_keep.chain rfl .refl)) (setRegn_port.chain .refl))))

theorem setPend_port {a0 a1 a2 s} : PortKeep a0 s (setPend a0 a1 a2 s) := by
  unfold setPend
  exact (setGuard_port.chain (setRegn_port.chain .refl))

theorem dropEqd_port {a0 s} : PortKeep a0 s (dropEqd a0 s) := by
  unfold dropEqd
  first | (dsimp only; split) | (extract_lets; split) | split
  · exact (setPend_port.chain .refl)
  · exact (PortKeep.ite (setPend_port.chain .refl) (queueTmm_port.chain (setPend_port.chain .refl)))

theorem leaveBehind_port {a0 s} : PortKeep a0 s (leaveBehind a0 s) := by
  unfold leaveBehind
  exact (openGate_port.chain (setGuard_port.chain (setWaiken_port.chain (PortKeep.chain (Keep.port (m := 65536) rfl (dropHeldTime_keep.chain rfl .refl)) (PortKeep.chain (Keep.port (m := 1074266290) rfl (tsiPortGone_keep.chain rfl .refl)) (PortKeep.chain (Keep.port (m := 268435456) rfl (forgetKeys_keep.chain rfl .refl)) (PortKeep.chain (Keep.port (m := 16384) rfl (unbind_keep.chain rfl .refl)) (PortKeep.chain (Keep.port (m := 2) rfl (clearFilter_keep.chain rfl .refl)) (flushOut_port.chain (dropEqd_port.chain (missAnswer_port.chain (missAll_port.chain .refl))))))))))))

theorem leave_port {a0 a1 s} : PortKeep a0 s (leave a0 a1 s) := by
  unfold leave
  exact (setState_port.chain (PortKeep.ite (PortKeep.chain (Keep.port (m := 1073742002) rfl (rgEvent_keep.chain rfl .refl)) (setRegn_port.chain (leaveBehind_port.chain .refl))) (setRegn_port.chain (leaveBehind_port.chain .refl))))

theorem toSilent_port {a0 a1 s} : PortKeep a0 s (toSilent a0 a1 s) := by
  unfold toSilent
  exact (flushOut_port.chain (setState_port.chain (setRegn_port.chain (missAnswer_port.chain (missAll_port.chain .refl)))))

theorem endSilent_port {a0 s} : PortKeep a0 s (endSilent a0 s) := by
  unfold endSilent
  exact (PortKeep.ite (openGate_port.chain (setState_port.chain .refl)) .refl)

theorem endSilence_port {a0 s} : PortKeep a0 s (endSilence a0 s) := by
  unfold endSilence
  exact (PortKeep.ite (endSilent_port.chain (openGate_port.chain (setRegn_port.chain .refl))) .refl)

theorem muzzleRow_port {a0 s} : PortKeep a0 s (muzzleRow a0 s) := by
  unfold muzzleRow
  split
  · exact (toSilent_port.chain .refl)
  · exact (toSilent_port.chain .refl)
  · exact (toSilent_port.chain .refl)
  · exact (missAll_port.chain .refl)

theorem toHold_port {a0 a1 s} : PortKeep a0 s (toHold a0 a1 s) := by
  unfold toHold
  exact (PortKeep.ite (PortKeep.chain (Keep.port (m := 1073746106) rfl (queueAlert_keep.chain rfl .refl)) (flushOut_port.chain (setState_port.chain (setRegn_port.chain (PortKeep.chain (Keep.port (m := 65536) rfl (dropHeldTime_keep.chain rfl .refl)) (PortKeep.chain (Keep.port (m := 1074266290) rfl (tsiPortGone_keep.chain rfl .refl)) (dropEqd_port.chain .refl))))))) (flushOut_port.chain (setState_port.chain (setRegn_port.chain (PortKeep.chain (Keep.port (m := 65536) rfl (dropHeldTime_keep.chain rfl .refl)) (PortKeep.chain (Keep.port (m := 1074266290) rfl (tsiPortGone_keep.chain rfl .refl)) (dropEqd_port.chain .refl)))))))

theorem downstreamLost_port {a0 s} : PortKeep a0 s (downstreamLost a0 s) := by
  unfold downstreamLost
  exact (PortKeep.ite (leave_port.chain .refl) (by
  split
  · exact (leave_port.chain .refl)
  · exact (leave_port.chain .refl)
  · exact (toHold_port.chain .refl)
  · exact (toHold_port.chain .refl)
  · exact (toHold_port.chain .refl)
  · exact .refl
  ))

theorem downstreamAcquired_port {a0 s} : PortKeep a0 s (downstreamAcquired a0 s) := by
  unfold downstreamAcquired
  exact (PortKeep.ite .refl (by
  first | (dsimp only; split) | (extract_lets; split) | split
  · exact (setState_port.chain (setRegn_port.chain .refl))
  · exact (PortKeep.ite (setState_port.chain (setRegn_port.chain (setRegn_port.chain .refl))) (PortKeep.ite (setState_port.chain (setRegn_port.chain .refl)) (setState_port.chain (setRegn_port.chain .refl))))
  · exact (setRegn_port.chain .refl)
  ))

theorem withTiming_port {a0 f1 s} (hf1 : ∀ v0, PortKeep a0 v0 (f1 v0)) : PortKeep a0 s (withTiming a0 f1 s) := by
  unfold withTiming
  exact (PortKeep.ite (downstreamLost_port.chain (bksLost_port.chain (halLost_port.chain (PortKeep.chain (hf1 _) .refl)))) (PortKeep.ite (downstreamAcquired_port.chain (bksGained_port.chain (PortKeep.chain (hf1 _) .refl))) (PortKeep.chain (hf1 _) .refl)))

theorem remember_port {a0 a1 a2 a3 s} : PortKeep a0 s (remember a0 a1 a2 a3 s) := by
  unfold remember
  exact (setRegn_port.chain .refl)

theorem answer_port {a0 a1 a2 a3 s} : PortKeep a0 s (answer a0 a1 a2 a3 s) := by
  unfold answer
  exact (queueTmm_port.chain (remember_port.chain .refl))

theorem answerBusy_port {a0 a1 s} : PortKeep a0 s (answerBusy a0 a1 s) := by
  unfold answerBusy
  exact (queueTmm_port.chain .refl)

theorem notInState_port {a0 a1 s} : PortKeep a0 s (notInState a0 a1 s) := by
  unfold notInState
  exact (PortKeep.ite (openGate_port.chain (PortKeep.ite (queueTmm_port.chain (Keep.port (m := 1073742002) rfl (rgEvent_keep.chain rfl (bump_keep.chain rfl .refl)))) (Keep.port (m := 1073742002) rfl (rgEvent_keep.chain rfl (bump_keep.chain rfl .refl))))) (PortKeep.ite (queueTmm_port.chain (Keep.port (m := 1073742002) rfl (rgEvent_keep.chain rfl (bump_keep.chain rfl .refl)))) (Keep.port (m := 1073742002) rfl (rgEvent_keep.chain rfl (bump_keep.chain rfl .refl)))))

theorem restartAnnounce_port {a0 s} : PortKeep a0 s (restartAnnounce a0 s) := by
  unfold restartAnnounce
  exact (PortKeep.ite (setRegn_port.chain .refl) .refl)

theorem withTmm_port {a0 a1 a2 f3 s} (hf3 : ∀ v0 v1, PortKeep a0 v1 (f3 v0 v1)) : PortKeep a0 s (withTmm a0 a1 a2 f3 s) := by
  unfold withTmm
  split
  · exact .refl
  · exact (PortKeep.ite (PortKeep.ite (PortKeep.chain (Keep.port (m := 2) rfl (bump_keep.chain rfl .refl)) (setFramer_port.chain .refl)) (by
  split
  · exact (PortKeep.ite (openGate_port.chain (by
  split
  · exact (queueTmm_port.chain (PortKeep.chain (Keep.port (m := 2) rfl (bump_keep.chain rfl .refl)) (setFramer_port.chain .refl)))
  · exact (PortKeep.chain (Keep.port (m := 2) rfl (bump_keep.chain rfl .refl)) (setFramer_port.chain .refl))
  )) (by
  split
  · exact (queueTmm_port.chain (PortKeep.chain (Keep.port (m := 2) rfl (bump_keep.chain rfl .refl)) (setFramer_port.chain .refl)))
  · exact (PortKeep.chain (Keep.port (m := 2) rfl (bump_keep.chain rfl .refl)) (setFramer_port.chain .refl))
  ))
  · exact (PortKeep.ite (PortKeep.chain (hf3 _ _) (restartAnnounce_port.chain (setFramer_port.chain .refl))) (notInState_port.chain (setFramer_port.chain .refl)))
  )) .refl)

theorem grantProfile_port {p t s} : PortKeep p s (grantProfile p t s) := by
  unfold grantProfile
  extract_lets alloc b v2
  clear_value alloc b v2
  generalize tf t.bits 351 350 = op
  generalize findCtx s p alloc = c
  split
  · exact answer_port
  · refine .ite answer_port ?_
    split
    · exact answer_port.chain (Keep.port rfl bindCtx_keep)
    · exact answer_port
  · exact .ite answer_port answer_port
  · exact .ite answer_port (answer_port.chain (Keep.port (m := 16384) rfl (.contexts rfl .refl)))
  · exact answer_port
  · exact .ite answer_port (answer_port.chain (Keep.port rfl bindCtx_keep))
  · exact answer_port

theorem execGrantProfile_port {a0 : Fin 16} {s} : PortKeepN a0 s (execGrantProfile a0 s) := by
  unfold execGrantProfile
  exact (.next (PortKeep.chain (onlyIf_port (fun _ => (PortKeep.chain (withTmm_port (fun _ _ => (grantProfile_port.chain .refl))) .refl))) .refl))

theorem toAnnounce_port {a0 s} : PortKeep a0 s (toAnnounce a0 s) := by
  unfold toAnnounce
  exact (restartAnnounce_port.chain (setState_port.chain .refl))

theorem answerV3_port {a0 a1 s} : PortKeep a0 s (answerV3 a0 a1 s) := by
  unfold answerV3
  exact (PortKeep.ite .refl (PortKeep.ite (toAnnounce_port.chain (PortKeep.chain (Keep.port (m := 2048) rfl (.timed rfl .refl)) (PortKeep.chain (Keep.port (m := 8) rfl (drawn_keep.chain rfl .refl)) (PortKeep.chain (Keep.port (m := 8) rfl (drawn_keep.chain rfl .refl)) (PortKeep.ite .refl (setRegn_port.chain .refl)))))) (PortKeep.chain (Keep.port (m := 8) rfl (drawn_keep.chain rfl .refl)) (PortKeep.ite .refl (setRegn_port.chain .refl)))))

theorem addWindow_port {a0 a1 s} : PortKeep a0 s (addWindow a0 a1 s) := by
  unfold addWindow
  exact (setGuard_port.chain (setRegn_port.chain .refl))

theorem answerV2_port {a0 a1 s} : PortKeep a0 s (answerV2 a0 a1 s) := by
  unfold answerV2
  exact (PortKeep.ite (PortKeep.ite (toAnnounce_port.chain (addWindow_port.chain (Keep.port (m := 8) rfl (drawn_keep.chain rfl (drawn_keep.chain rfl .refl))))) (addWindow_port.chain (Keep.port (m := 8) rfl (drawn_keep.chain rfl (drawn_keep.chain rfl .refl))))) (Keep.port (m := 8) rfl (drawn_keep.chain rfl .refl)))

theorem hail_port {a0 a1 s} : PortKeep a0 s (hail a0 a1 s) := by
  unfold hail
  exact (PortKeep.ite (Keep.port (m := 2) rfl (bump_keep.chain rfl .refl)) (PortKeep.ite (answerV2_port.chain .refl) (answerV3_port.chain .refl)))

theorem hailRow_port {a0 s} : PortKeep a0 s (hailRow a0 s) := by
  unfold hailRow
  split
  · exact .refl
  · exact (PortKeep.ite (PortKeep.ite (PortKeep.chain (Keep.port (m := 2) rfl (bump_keep.chain rfl .refl)) (setFramer_port.chain .refl)) (PortKeep.ite (hail_port.chain (setFramer_port.chain .refl)) (notInState_port.chain (setFramer_port.chain .refl)))) .refl)

theorem execHail_port {a0 : Fin 16} {s} : PortKeepN a0 s (execHail a0 s) := by
  unfold execHail
  exact (.next (PortKeep.chain (onlyIf_port (fun _ => (hailRow_port.chain .refl))) .refl))

theorem versionOffer_port {a0 a1 s} : PortKeep a0 s (versionOffer a0 a1 s) := by
  unfold versionOffer
  exact (PortKeep.ite (answer_port.chain (PortKeep.chain (Keep.port (m := 1073742002) rfl (rgEvent_keep.chain rfl .refl)) (PortKeep.ite (flushOut2_port.chain (setRegn_port.chain .refl)) (setRegn_port.chain .refl)))) (answer_port.chain (PortKeep.ite (flushOut2_port.chain (setRegn_port.chain .refl)) (setRegn_port.chain .refl))))

theorem execVersionOffer_port {a0 : Fin 16} {s} : PortKeepN a0 s (execVersionOffer a0 s) := by
  unfold execVersionOffer
  exact (.next (PortKeep.chain (onlyIf_port (fun _ => (PortKeep.chain (withTmm_port (fun _ _ => (versionOffer_port.chain .refl))) .refl))) .refl))

theorem assignId_port {a0 a1 s} : PortKeep a0 s (assignId a0 a1 s) := by
  unfold assignId
  exact (PortKeep.ite (PortKeep.ite (answer_port.chain (Keep.port (m := 2) rfl (setBit_keep.chain rfl .refl))) (PortKeep.ite (answer_port.chain .refl) (answer_port.chain (Keep.port (m := 2) rfl (headFilter_keep.chain rfl .refl))))) (PortKeep.ite (answer_port.chain .refl) (by
  split
  · exact (answer_port.chain .refl)
  · exact (answer_port.chain (setState_port.chain (PortKeep.chain (Keep.port (m := 1073742002) rfl (rgEvent_keep.chain rfl .refl)) (setWaiken_port.chain (setRegn_port.chain (setGuard_port.chain (Keep.port (m := 16386) rfl (setRegN_keep.chain rfl (bindCtx_keep.chain rfl .refl)))))))))
  )))

theorem execAssignId_port {a0 : Fin 16} {s} : PortKeepN a0 s (execAssignId a0 s) := by
  unfold execAssignId
  exact (.next (PortKeep.chain (onlyIf_port (fun _ => (PortKeep.chain (withTmm_port (fun _ _ => (assignId_port.chain .refl))) .refl))) .refl))

theorem rangeSet_port {a0 a1 s} : PortKeep a0 s (rangeSet a0 a1 s) := by
  unfold rangeSet
  exact (PortKeep.ite (answer_port.chain .refl) (by
  split
  · exact (PortKeep.ite (answer_port.chain .refl) (setPend_port.chain .refl))
  · exact (setPend_port.chain .refl)
  ))

theorem execRangeSet_port {a0 : Fin 16} {s} : PortKeepN a0 s (execRangeSet a0 s) := by
  unfold execRangeSet
  exact (.next (PortKeep.chain (onlyIf_port (fun _ => (PortKeep.chain (withTmm_port (fun _ _ => (rangeSet_port.chain .refl))) .refl))) .refl))

theorem eqdConfirm_port {a0 a1 s} : PortKeep a0 s (eqdConfirm a0 a1 s) := by
  unfold eqdConfirm
  first | (dsimp only; split) | (extract_lets; split) | split
  · exact .refl
  · exact (PortKeep.ite .refl (PortKeep.ite (answer_port.chain (PortKeep.ite (PortKeep.chain (Keep.port (m := 2) rfl (bumpHi_keep.chain rfl .refl)) (setRegn_port.chain (setGuard_port.chain .refl))) (setRegn_port.chain (setGuard_port.chain .refl)))) (answerBusy_port.chain (setPend_port.chain .refl))))

theorem execEqdConfirm_port {a0 : Fin 16} {a1 a2 s} : PortKeepN a0 s (execEqdConfirm a0 a1 a2 s) := by
  unfold execEqdConfirm
  exact (.next (PortKeep.chain (onlyIf_port (fun _ => (eqdConfirm_port.chain .refl))) .refl))

theorem dropCut_port {a0 a1 s} : PortKeep a0 s (dropCut a0 a1 s) := by
  unfold dropCut
  exact (setHalyard_port.chain .refl)

theorem cutForEqd_port {a0 a1 a2 a3 s} : PortKeep a0 s (cutForEqd a0 a1 a2 a3 s) := by
  unfold cutForEqd
  exact (PortKeep.ite .refl (PortKeep.ite .refl (PortKeep.chain (Keep.port (m := 1073742002) rfl (rgEvent_keep.chain rfl .refl)) (PortKeep.chain (Keep.port (m := 2) rfl (bumpLo_keep.chain rfl .refl)) (dozeIn_port.chain (missGrants_port.chain (dropCut_port.chain .refl)))))))

theorem eqdApply_port {a0 s} : PortKeep a0 s (eqdApply a0 s) := by
  unfold eqdApply
  first | (dsimp only; split) | (extract_lets; split) | split
  · exact .refl
  · exact (PortKeep.ite .refl (PortKeep.ite (PortKeep.chain (Keep.port (m := 1073742002) rfl (rgEvent_keep.chain rfl .refl)) (setRegn_port.chain (setWaiken_port.chain (setGuard_port.chain (cutForEqd_port.chain .refl))))) (by
  split
  · exact (setState_port.chain (PortKeep.chain (Keep.port (m := 1073742002) rfl (rgEvent_keep.chain rfl .refl)) (setRegn_port.chain (setWaiken_port.chain (setGuard_port.chain (cutForEqd_port.chain .refl))))))
  · exact (PortKeep.ite (setRegn_port.chain (PortKeep.chain (Keep.port (m := 1073742002) rfl (rgEvent_keep.chain rfl .refl)) (setRegn_port.chain (setWaiken_port.chain (setGuard_port.chain (cutForEqd_port.chain .refl)))))) (PortKeep.chain (Keep.port (m := 1073742002) rfl (rgEvent_keep.chain rfl .refl)) (setRegn_port.chain (setWaiken_port.chain (setGuard_port.chain (cutForEqd_port.chain .refl))))))
  · exact (PortKeep.chain (Keep.port (m := 1073742002) rfl (rgEvent_keep.chain rfl .refl)) (setRegn_port.chain (setWaiken_port.chain (setGuard_port.chain (cutForEqd_port.chain .refl)))))
  )))

theorem execEqdChangeApply_port {a0 : Fin 16} {s} : PortKeepN a0 s (execEqdChangeApply a0 s) := by
  unfold execEqdChangeApply
  exact (.next (PortKeep.chain (onlyIf_port (fun _ => (eqdApply_port.chain .refl))) .refl))

theorem rangeProbe_port {a0 a1 s} : PortKeep a0 s (rangeProbe a0 a1 s) := by
  unfold rangeProbe
  exact (PortKeep.ite (answer_port.chain .refl) (remember_port.chain (Keep.port (m := 2048) rfl (.timed rfl .refl))))

theorem execRangeProbe_port {a0 : Fin 16} {s} : PortKeepN a0 s (execRangeProbe a0 s) := by
  unfold execRangeProbe
  exact (.next (PortKeep.chain (onlyIf_port (fun _ => (PortKeep.chain (withTmm_port (fun _ _ => (rangeProbe_port.chain .refl))) .refl))) .refl))

theorem silencePort_port {a0 a1 a2 s} : PortKeep a0 s (silencePort a0 a1 a2 s) := by
  unfold silencePort
  first | (dsimp only; split) | (extract_lets; split) | split
  · exact (toSilent_port.chain (setRegn_port.chain .refl))
  · exact (toSilent_port.chain (setRegn_port.chain .refl))
  · exact (toSilent_port.chain (setRegn_port.chain .refl))
  · exact (setRegn_port.chain .refl)

theorem execSilence_port {a0 : Fin 16} {s} : PortKeepN a0 s (execSilence a0 s) := by
  unfold execSilence
  exact (.next (PortKeep.chain (onlyIf_port (fun _ => (PortKeep.chain (withTmm_port (fun _ _ => (answer_port.chain (silencePort_port.chain .refl)))) .refl))) .refl))

theorem clearMuzzle_port {a0 s} : PortKeep a0 s (clearMuzzle a0 s) := by
  unfold clearMuzzle
  exact (endSilent_port.chain (forceOn_port.chain (Keep.port (m := 2) rfl (setBit_keep.chain rfl .refl))))

theorem unmuzzle_port {a0 a1 s} : PortKeep a0 s (unmuzzle a0 a1 s) := by
  unfold unmuzzle
  exact (PortKeep.ite (answerBusy_port.chain .refl) (answer_port.chain (endSilent_port.chain (PortKeep.ite (endSilence_port.chain (PortKeep.ite (forceOn_port.chain (Keep.port (m := 2) rfl (setBit_keep.chain rfl .refl))) .refl)) (PortKeep.ite (forceOn_port.chain (Keep.port (m := 2) rfl (setBit_keep.chain rfl .refl))) .refl)))))

theorem execUnmuzzle_port {a0 : Fin 16} {s} : PortKeepN a0 s (execUnmuzzle a0 s) := by
  unfold execUnmuzzle
  exact (.next (PortKeep.chain (onlyIf_port (fun _ => (PortKeep.chain (withTmm_port (fun _ _ => (unmuzzle_port.chain .refl))) .refl))) .refl))

theorem release_port {a0 a1 s} : PortKeep a0 s (release a0 a1 s) := by
  unfold release
  exact (PortKeep.ite (leave_port.chain (answer_port.chain (setRegn_port.chain .refl))) (setRegn_port.chain (answer_port.chain (setRegn_port.chain .refl))))

theorem execRelease_port {a0 : Fin 16} {s} : PortKeepN a0 s (execRelease a0 s) := by
  unfold execRelease
  exact (.next (PortKeep.chain (onlyIf_port (fun _ => (PortKeep.chain (withTmm_port (fun _ _ => (release_port.chain .refl))) .refl))) .refl))

theorem releaseEffect_port {a0 s} : PortKeep a0 s (releaseEffect a0 s) := by
  unfold releaseEffect
  split
  · exact .refl
  · exact (PortKeep.ite (leave_port.chain .refl) .refl)

theorem execReleaseEffect_port {a0 : Fin 16} {s} : PortKeepN a0 s (execReleaseEffect a0 s) := by
  unfold execReleaseEffect
  exact (.next (PortKeep.chain (onlyIf_port (fun _ => (releaseEffect_port.chain .refl))) .refl))

theorem execEcho_port {a0 : Fin 16} {s} : PortKeepN a0 s (execEcho a0 s) := by
  unfold execEcho
  exact (.next (PortKeep.chain (onlyIf_port (fun _ => (PortKeep.chain (withTmm_port (fun _ _ => (answer_port.chain .refl))) .refl))) .refl))

theorem tmmUnknown_port {a0 s} : PortKeep a0 s (tmmUnknown a0 s) := by
  unfold tmmUnknown
  split
  · exact .refl
  · exact (PortKeep.ite .refl (PortKeep.ite (PortKeep.chain (Keep.port (m := 2) rfl (bump_keep.chain rfl .refl)) (setFramer_port.chain .refl)) (PortKeep.chain (Keep.port (m := 2) rfl (bump_keep.chain rfl .refl)) (setFramer_port.chain .refl))))

theorem execTmmUnknown_port {a0 : Fin 16} {s} : PortKeepN a0 s (execTmmUnknown a0 s) := by
  unfold execTmmUnknown
  exact (.next (PortKeep.chain (onlyIf_port (fun _ => (tmmUnknown_port.chain .refl))) .refl))

theorem execAnnounceTimerExpiry_port {a0 : Fin 16} {s} : PortKeepN a0 s (execAnnounceTimerExpiry a0 s) := by
  unfold execAnnounceTimerExpiry
  exact (.next (PortKeep.chain (onlyIf_port (fun _ => (leave_port.chain .refl))) .refl))

theorem execRangeTimerExpiry_port {a0 : Fin 16} {s} : PortKeepN a0 s (execRangeTimerExpiry a0 s) := by
  unfold execRangeTimerExpiry
  exact (.next (PortKeep.chain (onlyIf_port (fun _ => (leave_port.chain .refl))) .refl))

theorem execHoldTimerExpiry_port {a0 : Fin 16} {s} : PortKeepN a0 s (execHoldTimerExpiry a0 s) := by
  unfold execHoldTimerExpiry
  exact (.next (PortKeep.chain (onlyIf_port (fun _ => (leave_port.chain .refl))) .refl))

theorem execSilenceDurationEnd_port {a0 : Fin 16} {s} : PortKeepN a0 s (execSilenceDurationEnd a0 s) := by
  unfold execSilenceDurationEnd
  exact (.next (PortKeep.chain (onlyIf_port (fun _ => (endSilence_port.chain .refl))) .refl))

theorem replyFallback_port {a0 s} : PortKeep a0 s (replyFallback a0 s) := by
  unfold replyFallback
  first | (dsimp only; split) | (extract_lets; split) | split
  · exact .refl
  · exact (PortKeep.ite (PortKeep.chain (Keep.port (m := 1073746106) rfl (queueLm_keep.chain rfl .refl)) (setRegn_port.chain .refl)) .refl)

theorem execReplyLookoutFallback_port {a0 : Fin 16} {s} : PortKeepN a0 s (execReplyLookoutFallback a0 s) := by
  unfold execReplyLookoutFallback
  exact (.next (PortKeep.chain (onlyIf_port (fun _ => (replyFallback_port.chain .refl))) .refl))

theorem regEnable_port {a0 a1 s} : PortKeep a0 s (regEnable a0 a1 s) := by
  unfold regEnable
  exact (PortKeep.chain (Keep.port (m := 4294967312) rfl (trkFollow_keep.chain rfl .refl)) (PortKeep.ite (PortKeep.ite (downstreamAcquired_port.chain (Keep.port (m := 2) rfl (setBit_keep.chain rfl .refl))) (Keep.port (m := 2) rfl (setBit_keep.chain rfl .refl))) (leave_port.chain (Keep.port (m := 2) rfl (setBit_keep.chain rfl .refl)))))

theorem regRelease_port {a0 s} : PortKeep a0 s (regRelease a0 s).1 := by
  unfold regRelease
  split
  · exact (Keep.port (m := 1073742002) rfl (hostNotInState_keep.chain rfl .refl))
  · exact (Keep.port (m := 1073742002) rfl (hostNotInState_keep.chain rfl .refl))
  · exact (leave_port.chain .refl)
  · exact (leave_port.chain .refl)

theorem regSilence_port {a0 a1 s} : PortKeep a0 s (regSilence a0 a1 s).1 := by
  unfold regSilence
  exact (PortKeep.ite1 (closeGate_port.chain (silencePort_port.chain .refl)) (Keep.port (m := 1073742002) rfl (hostNotInState_keep.chain rfl .refl)))

theorem countInvalid_port {a0 a1 s} : PortKeep a0 s (countInvalid a0 a1 s) := by
  unfold countInvalid
  exact (PortKeep.chain (Keep.port (m := 1073742002) rfl (halEvent_keep.chain rfl .refl)) (pmInvalid_port.chain (Keep.port (m := 2) rfl (bump_keep.chain rfl .refl))))

theorem markFollowed_port {a0 a1 s} : PortKeep a0 s (markFollowed a0 a1 s) := by
  unfold markFollowed
  exact (setHalyard_port.chain .refl)

theorem holdGrant_port {p : Nat} {ns : List Grant × State} {g : Grant} : PortKeep p ns.2 (holdGrant p ns g).2 := by
  simp only [holdGrant]
  split
  · exact countInvalid_port
  · split
    · dsimp only; exact countMissed_port
    · split
      · dsimp only; exact countMissed_port
      · split
        · dsimp only; exact (Keep.port rfl halEvent_keep).chain countMissed_port
        · dsimp only; exact (Keep.port rfl bump64_keep).chain setHalyard_port

theorem holdGrants_port {p : Nat} {gs : List Grant} {ns : List Grant × State} : PortKeep p ns.2 (gs.foldl (holdGrant p) ns).2 := by
  induction gs generalizing ns with
  | nil => exact .refl
  | cons g gs ih => exact ih.chain holdGrant_port

theorem validateEntries_port {p f es s} : PortKeep p s (validateEntries p f es s) := by
  simp only [validateEntries]
  refine markFollowed_port.chain ((holdGrants_port (ns := ([], _))).chain ((forAll_port fun e x => ?_).chain ?_))
  · split
    · exact countInvalid_port
    · exact .refl
  · split
    · exact .refl
    · exact setHalyard_port

theorem validateMap_port {a0 s} : PortKeep a0 s (validateMap a0 s) := by
  unfold validateMap
  first | (dsimp only; split) | (extract_lets; split) | split
  · exact .refl
  · exact (PortKeep.ite (setHalyard_port.chain .refl) (by
  split
  · exact (countMissed_port.chain (setHalyard_port.chain .refl))
  · exact (PortKeep.ite (countMissed_port.chain (setHalyard_port.chain .refl)) (PortKeep.ite (dozeOut_port.chain (validateEntries_port.chain (setHalyard_port.chain (setHalyard_port.chain .refl)))) (validateEntries_port.chain (setHalyard_port.chain (setHalyard_port.chain .refl)))))
  ))

theorem execGrantMapValidation_port {a0 : Fin 16} {s} : PortKeepN a0 s (execGrantMapValidation a0 s) := by
  unfold execGrantMapValidation
  exact (.next (PortKeep.chain (onlyIf_port (fun _ => (validateMap_port.chain .refl))) .refl))

theorem setGrant_port {a0 a1 s} : PortKeep a0 s (setGrant a0 a1 s) := by
  unfold setGrant
  exact (setHalyard_port.chain .refl)

theorem dropGrants_port {a0 a1 s} : PortKeep a0 s (dropGrants a0 a1 s) := by
  unfold dropGrants
  exact (setHalyard_port.chain .refl)

theorem commitNext_port {a0 s} : PortKeep a0 s (commitNext a0 s) := by
  unfold commitNext
  first | (dsimp only; split) | (extract_lets; split) | split
  · exact .refl
  · exact (PortKeep.ite (by
  split
  · exact (countMissed_port.chain (dropGrants_port.chain .refl))
  · exact (PortKeep.ite (countMissed_port.chain (dropGrants_port.chain .refl)) (setGrant_port.chain (Keep.port (m := 1544028338) rfl (fillGrant_keep.chain rfl .refl))))
  ) (setGrant_port.chain (PortKeep.chain (Keep.port (m := 1544028338) rfl (fillGrant_keep.chain rfl .refl)) (PortKeep.ite (setHalyard_port.chain (setRegn_port.chain .refl)) (setRegn_port.chain .refl)))))

theorem execBurstCommit_port {a0 : Fin 16} {s} : PortKeepN a0 s (execBurstCommit a0 s) := by
  unfold execBurstCommit
  exact (.next (PortKeep.chain (onlyIf_port (fun _ => (commitNext_port.chain .refl))) .refl))

theorem fillRead_port {a0 a1 a2 s} : PortKeep a0 s (fillRead a0 a1 a2 s) := by
  unfold fillRead
  split
  · exact .refl
  · split
    · exact .refl
    · exact (PortKeep.ite (PortKeep.chain (Keep.port (m := 1141899442) rfl (bufSettle_keep.chain rfl .refl)) (PortKeep.chain (Keep.port (m := 1140850866) rfl (freeRef_keep.chain rfl .refl)) (setGrant_port.chain (Keep.port (m := 10) rfl (Keep.ite (Keep.ite (drawn_keep.chain rfl .refl) .refl) (bump_keep.chain rfl (Keep.ite (drawn_keep.chain rfl .refl) .refl))))))) (by
    split
    · exact (Keep.port (m := 8) rfl (Keep.ite (drawn_keep.chain rfl .refl) .refl))
    · exact (setGrant_port.chain (Keep.port (m := 268435466) rfl (sealEnvelope_keep.chain rfl (Keep.ite (drawn_keep.chain rfl .refl) .refl))))
    ))

theorem lateMiss_port {a0 s} : PortKeep a0 s (lateMiss a0 s) := by
  unfold lateMiss
  split
  · exact .refl
  · exact (PortKeep.chain (Keep.port (m := 1073742002) rfl (halEvent_keep.chain rfl .refl)) (PortKeep.chain (Keep.port (m := 1141375154) rfl (returnFills_keep.chain rfl .refl)) (setGrant_port.chain .refl)))

theorem execLaunchDeadlineMiss_port {a0 : Fin 16} {s} : PortKeepN a0 s (execLaunchDeadlineMiss a0 s) := by
  unfold execLaunchDeadlineMiss
  exact (.next (PortKeep.chain (onlyIf_port (fun _ => (lateMiss_port.chain .refl))) .refl))

theorem missParted_port {a0 a1 s} : PortKeep a0 s (missParted a0 a1 s) := by
  unfold missParted
  exact (missGrants_port.chain (dropGrants_port.chain .refl))

theorem launchNext_port {a0 s} : PortKeep a0 s (launchNext a0 s) := by
  unfold launchNext
  first | (dsimp only; split) | (extract_lets; split) | split
  · exact .refl
  · exact (PortKeep.ite .refl (missParted_port.chain (PortKeep.chain (Keep.port (m := 16) rfl (emit_keep.chain rfl .refl)) (PortKeep.chain (Keep.port (m := 2) rfl (bump64_keep.chain rfl .refl)) (PortKeep.ite (PortKeep.chain (Keep.port (m := 2) rfl (bump_keep.chain rfl .refl)) (setHalyard_port.chain .refl)) (setHalyard_port.chain .refl))))))

theorem launchAnswer_port {a0 a1 s} : PortKeep a0 s (launchAnswer a0 a1 s) := by
  unfold launchAnswer
  exact (PortKeep.ite .refl (PortKeep.chain (Keep.port (m := 16) rfl (emit_keep.chain rfl .refl)) (PortKeep.chain (Keep.port (m := 2) rfl (bump64_keep.chain rfl .refl)) (setHalyard_port.chain (setWaiken_port.chain (setRegn_port.chain .refl))))))

theorem launchBurst_port {a0 s} : PortKeep a0 s (launchBurst a0 s) := by
  unfold launchBurst
  split
  · exact (launchAnswer_port.chain .refl)
  · exact (launchNext_port.chain .refl)

theorem execBurstLaunch_port {a0 : Fin 16} {s} : PortKeepN a0 s (execBurstLaunch a0 s) := by
  unfold execBurstLaunch
  exact (.next (PortKeep.chain (onlyIf_port (fun _ => (launchBurst_port.chain .refl))) .refl))

theorem endAnswer_port {a0 a1 s} : PortKeep a0 s (endAnswer a0 a1 s) := by
  unfold endAnswer
  exact (dozeIn_port.chain (PortKeep.chain (Keep.port (m := 16) rfl (emit_keep.chain rfl .refl)) (PortKeep.chain (Keep.port (m := 16) rfl (emit_keep.chain rfl .refl)) (PortKeep.chain (Keep.port (m := 2) rfl (bump64_keep.chain rfl .refl)) (setHalyard_port.chain (setWaiken_port.chain (setRegn_port.chain .refl)))))))

theorem endBurst_port {a0 s} : PortKeep a0 s (endBurst a0 s) := by
  unfold endBurst
  first | (dsimp only; split) | (extract_lets; split) | split
  · exact (endAnswer_port.chain .refl)
  · split
    · exact .refl
    · exact (PortKeep.ite (dozeIn_port.chain (PortKeep.chain (Keep.port (m := 16) rfl (emit_keep.chain rfl .refl)) (PortKeep.chain (Keep.port (m := 16) rfl (emit_keep.chain rfl .refl)) (missParted_port.chain (PortKeep.ite (PortKeep.chain (Keep.port (m := 1073742002) rfl (halEvent_keep.chain rfl .refl)) (PortKeep.chain (Keep.port (m := 2) rfl (bump_keep.chain rfl .refl)) (PortKeep.chain (Keep.port (m := 2) rfl (bump64_keep.chain rfl .refl)) (PortKeep.chain (Keep.port (m := 1141375154) rfl (returnFills_keep.chain rfl .refl)) (PortKeep.chain (Keep.port (m := 1141899442) rfl (sentFills_keep.chain rfl .refl)) (dropGrants_port.chain (setHalyard_port.chain .refl))))))) (PortKeep.chain (Keep.port (m := 2) rfl (bump64_keep.chain rfl .refl)) (PortKeep.chain (Keep.port (m := 1141375154) rfl (returnFills_keep.chain rfl .refl)) (PortKeep.chain (Keep.port (m := 1141899442) rfl (sentFills_keep.chain rfl .refl)) (dropGrants_port.chain (setHalyard_port.chain .refl)))))))))) .refl)

theorem execBurstEnd_port {a0 : Fin 16} {s} : PortKeepN a0 s (execBurstEnd a0 s) := by
  unfold execBurstEnd
  exact (.next (PortKeep.chain (onlyIf_port (fun _ => (endBurst_port.chain .refl))) .refl))

theorem execDozeExit_port {a0 : Fin 16} {s} : PortKeepN a0 s (execDozeExit a0 s) := by
  unfold execDozeExit
  exact (.next (PortKeep.chain (onlyIf_port (fun _ => (dozeOut_port.chain .refl))) .refl))

theorem checkLanes_port {a0 s} : PortKeep a0 s (checkLanes a0 s) := by
  unfold checkLanes
  exact (PortKeep.ite .refl (by
  first | (dsimp only; split) | (extract_lets; split) | split
  · exact (loseWindow_port.chain (PortKeep.chain (Keep.port (m := 1073742002) rfl (halEvent_keep.chain rfl .refl)) (setHalyard_port.chain .refl)))
  · split
    · exact .refl
    · exact (PortKeep.chain (Keep.port (m := 1073742002) rfl (halEvent_keep.chain rfl .refl)) (setHalyard_port.chain (missGrants_port.chain (missGrants_port.chain (dropGrants_port.chain .refl)))))
  ))

theorem execLaneReadinessCheck_port {a0 : Fin 16} {s} : PortKeepN a0 s (execLaneReadinessCheck a0 s) := by
  unfold execLaneReadinessCheck
  exact (.next (PortKeep.chain (onlyIf_port (fun _ => (checkLanes_port.chain .refl))) .refl))

theorem halEnable_port {a0 a1 s} : PortKeep a0 s (halEnable a0 a1 s) := by
  unfold halEnable
  exact (dozeIn_port.chain (PortKeep.chain (Keep.port (m := 2) rfl (setBit_keep.chain rfl .refl)) (PortKeep.ite .refl (missAnswer_port.chain (missAll_port.chain (setHalyard_port.chain .refl))))))

theorem writeHalEnable_port {a0 a1 s} : PortKeep a0 s (writeHalEnable a0 a1 s) := by
  unfold writeHalEnable
  exact (PortKeep.chain (Keep.port (m := 4294967312) rfl (trkFollow_keep.chain rfl .refl)) (halEnable_port.chain .refl))

theorem execHalEnableWrite_port {a0 : Fin 16} {a1 s} : PortKeepN a0 s (execHalEnableWrite a0 a1 s) := by
  unfold execHalEnableWrite
  exact (.next (PortKeep.chain (onlyIf_port (fun _ => (writeHalEnable_port.chain .refl))) .refl))

theorem writeDozeCtl_port {a0 a1 s} : PortKeep a0 s (writeDozeCtl a0 a1 s) := by
  unfold writeDozeCtl
  exact (setWaiken_port.chain (setHalyard_port.chain (Keep.port (m := 2) rfl (setReg_keep.chain rfl .refl))))

theorem execDozeCtlWrite_port {a0 : Fin 16} {a1 s} : PortKeepN a0 s (execDozeCtlWrite a0 a1 s) := by
  unfold execDozeCtlWrite
  exact (.next (PortKeep.chain (onlyIf_port (fun _ => (writeDozeCtl_port.chain .refl))) .refl))

theorem backstayMap_port {a0 s} : PortKeep a0 s (backstayMap a0 s) := by
  unfold backstayMap
  first | (dsimp only; split) | (extract_lets; split) | split
  · exact .refl
  · first | (dsimp only; split) | (extract_lets; split) | split
    · exact (setGuard_port.chain .refl)
    · exact (PortKeep.ite (PortKeep.chain (Keep.port (m := 2) rfl (bump_keep.chain rfl .refl)) (setGuard_port.chain .refl)) (PortKeep.ite (setGuard_port.chain .refl) (PortKeep.ite (setGuard_port.chain (setGuard_port.chain .refl)) (setGuard_port.chain (setGuard_port.chain .refl)))))

end Sys2Proof.Machine
end

