-- ==== Sys2Proof/Laws/Port2.lean ====
section
/-! SUPPORT. What each operation of one trunk port leaves alone on the others (R22). -/
namespace Sys2Proof.Machine
open Sys2Proof

theorem execBackstayMap_port {a0 : Fin 16} {s} : PortKeepN a0 s (execBackstayMap a0 s) := by
  unfold execBackstayMap
  exact (.next (PortKeep.chain (onlyIf_port (fun _ => (backstayMap_port.chain .refl))) .refl))

theorem closedFrame_port {a0 a1 s} : PortKeep a0 s (closedFrame a0 a1 s) := by
  unfold closedFrame
  exact (PortKeep.ite (PortKeep.ite (PortKeep.chain (Keep.port (m := 2) rfl (bump_keep.chain rfl .refl)) (setGuard_port.chain .refl)) .refl) (setGuard_port.chain .refl))

theorem execClosedFrame_port {a0 : Fin 16} {a1 s} : PortKeepN a0 s (execClosedFrame a0 a1 s) := by
  unfold execClosedFrame
  exact (.next (PortKeep.chain (onlyIf_port (fun _ => (closedFrame_port.chain .refl))) .refl))

theorem answerInterval_port {a0 a1 s} : PortKeep a0 s (answerInterval a0 a1 s) := by
  unfold answerInterval
  exact (PortKeep.ite (PortKeep.ite (setGuard_port.chain .refl) .refl) (setGuard_port.chain (setHalyard_port.chain (PortKeep.chain (forAll_port (fun _ _ => (PortKeep.ite (endAnswer_port.chain .refl) (loseWindow_port.chain .refl)))) .refl))))

theorem execVersion2AnswerInterval_port {a0 : Fin 16} {a1 s} : PortKeepN a0 s (execVersion2AnswerInterval a0 a1 s) := by
  unfold execVersion2AnswerInterval
  exact (.next (PortKeep.chain (onlyIf_port (fun _ => (answerInterval_port.chain .refl))) .refl))

theorem discardRun_port {a0 a1 s} : PortKeep a0 s (discardRun a0 a1 s) := by
  unfold discardRun
  first | (dsimp only; split) | (extract_lets; split) | split
  · exact (PortKeep.ite (setGuard_port.chain .refl) .refl)
  · exact .refl

theorem cutOff_port {a0 a1 a2 s} : PortKeep a0 s (cutOff a0 a1 a2 s) := by
  unfold cutOff
  exact (PortKeep.ite (Keep.port (m := 2) rfl (bump_keep.chain rfl (unclean_keep.chain rfl .refl))) (PortKeep.ite .refl (muzzleRow_port.chain (missAnswer_port.chain (cutBurst_port.chain (forceOff_port.chain (setMuzzle_port.chain (PortKeep.chain (Keep.port (m := 2) rfl (bump_keep.chain rfl .refl)) (discardRun_port.chain .refl)))))))))

theorem execCutOff_port {a0 : Fin 16} {a1 a2 s} : PortKeepN a0 s (execCutOff a0 a1 a2 s) := by
  unfold execCutOff
  exact (.next (PortKeep.chain (onlyIf_port (fun _ => (cutOff_port.chain .refl))) .refl))

theorem repeatAlert_port {a0 s} : PortKeep a0 s (repeatAlert a0 s) := by
  unfold repeatAlert
  exact (PortKeep.ite (alertMuzzled_port.chain .refl) .refl)

theorem execMuzzleAlertRepeat_port {a0 : Fin 16} {s} : PortKeepN a0 s (execMuzzleAlertRepeat a0 s) := by
  unfold execMuzzleAlertRepeat
  exact (.next (PortKeep.chain (onlyIf_port (fun _ => (repeatAlert_port.chain .refl))) .refl))

theorem cleanFrame_port {a0 a1 s} : PortKeep a0 s (cleanFrame a0 a1 s) := by
  unfold cleanFrame
  exact (PortKeep.ite .refl (PortKeep.ite (Keep.port (m := 2) rfl (setFld_keep.chain rfl .refl)) (PortKeep.ite .refl (setGuard_port.chain (Keep.port (m := 2) rfl (setFld_keep.chain rfl .refl))))))

theorem execCleanFrameCount_port {a0 : Fin 16} {a1 s} : PortKeepN a0 s (execCleanFrameCount a0 a1 s) := by
  unfold execCleanFrameCount
  exact (.next (PortKeep.chain (onlyIf_port (fun _ => (cleanFrame_port.chain .refl))) .refl))

theorem hostUnlock_port {a0 s} : PortKeep a0 s (hostUnlock a0 s) := by
  unfold hostUnlock
  split
  · exact (clearMuzzle_port.chain .refl)
  · exact (clearMuzzle_port.chain .refl)
  · exact (PortKeep.ite (PortKeep.chain (Keep.port (m := 1073742002) rfl (hostNotInState_keep.chain rfl .refl)) (clearMuzzle_port.chain .refl)) (clearMuzzle_port.chain .refl))

theorem writeUnlock_port {a0 a1 a2 s} : PortKeep a2 s (writeUnlock a0 a1 a2 s) := by
  unfold writeUnlock
  exact (PortKeep.ite .refl (by
  split
  · exact (Keep.port (m := 17179869186) rfl (Keep.ite (setUnlock_keep.chain rfl .refl) (Keep.ite (unlockRej_keep.chain rfl .refl) .refl)))
  · exact (PortKeep.ite (PortKeep.ite (Keep.port (m := 17179869186) rfl (unlockRej_keep.chain rfl (setUnlock_keep.chain rfl .refl))) (hostUnlock_port.chain (Keep.port (m := 17179869184) rfl (setUnlock_keep.chain rfl .refl)))) (Keep.port (m := 17179869186) rfl (unlockRej_keep.chain rfl (setUnlock_keep.chain rfl .refl))))
  ))

theorem execUnlockFirstWrite_port {a1 : Fin 16} {a0 s} : PortKeepN a1 s (execUnlockFirstWrite a0 a1 s) := by
  unfold execUnlockFirstWrite
  exact (.next (writeUnlock_port.chain .refl))

theorem execUnlockSecondWrite_port {a1 : Fin 16} {a0 s} : PortKeepN a1 s (execUnlockSecondWrite a0 a1 s) := by
  unfold execUnlockSecondWrite
  exact (.next (writeUnlock_port.chain .refl))

theorem execSilenceGateClose_port {a0 : Fin 16} {s} : PortKeepN a0 s (execSilenceGateClose a0 s) := by
  unfold execSilenceGateClose
  exact (.next (PortKeep.chain (onlyIf_port (fun _ => (closeGate_port.chain .refl))) .refl))

theorem faultCopies_port {a0 a1 a2 s} : PortKeep a0 s (faultCopies a0 a1 a2 s) := by
  unfold faultCopies
  exact (PortKeep.ite (PortKeep.ite (Keep.port (m := 9663676594) rfl (setGuardFault_keep.chain rfl (Keep.hchain (forAll_keep rfl (fun _ _ => (bksEvent_keep.chain rfl (bumpLo_keep.chain rfl (unclean_keep.chain rfl (logGuard_keep.chain rfl (setBit_keep.chain rfl .refl))))))) .refl))) (muzzleRow_port.chain (setMuzzle_port.chain (Keep.port (m := 9663676594) rfl (setGuardFault_keep.chain rfl (Keep.hchain (forAll_keep rfl (fun _ _ => (bksEvent_keep.chain rfl (bumpLo_keep.chain rfl (unclean_keep.chain rfl (logGuard_keep.chain rfl (setBit_keep.chain rfl .refl))))))) .refl)))))) (Keep.port (m := 9663676594) rfl (Keep.hchain (forAll_keep rfl (fun _ _ => (bksEvent_keep.chain rfl (bumpLo_keep.chain rfl (unclean_keep.chain rfl (logGuard_keep.chain rfl (setBit_keep.chain rfl .refl))))))) .refl)))

theorem execCopyFault_port {a0 : Fin 16} {a1 s} : PortKeepN a0 s (execCopyFault a0 a1 s) := by
  unfold execCopyFault
  exact (.next (PortKeep.chain (onlyIf_port (fun _ => (faultCopies_port.chain .refl))) .refl))

theorem failTest_port {a0 a1 s} : PortKeep a0 s (failTest a0 a1 s) := by
  unfold failTest
  exact (muzzleRow_port.chain (setMuzzle_port.chain (Keep.port (m := 1073742002) rfl (bksEvent_keep.chain rfl (bumpLo_keep.chain rfl (setGuardFault_keep.chain rfl .refl))))))

theorem lowSeen_port {a0 s} : PortKeep a0 s (lowSeen a0 s) := by
  unfold lowSeen
  exact (PortKeep.chain (Keep.port (m := 1073742002) rfl (bksEvent_keep.chain rfl .refl)) (setGuard_port.chain .refl))

theorem heldLow_port {a0 s} : PortKeep a0 s (heldLow a0 s) := by
  unfold heldLow
  exact (PortKeep.chain (withPins_port (fun _ => (lowSeen_port.chain .refl))) .refl)

theorem dryFire_port {a0 a1 a2 s} : PortKeep a0 s (dryFire a0 a1 a2 s) := by
  unfold dryFire
  first | (dsimp only; split) | (extract_lets; split) | split
  · exact (Keep.port (m := 2) rfl (setBit_keep.chain rfl .refl))
  · exact (PortKeep.ite (heldLow_port.chain (Keep.port (m := 2) rfl (lastTest_keep.chain rfl (setBit_keep.chain rfl .refl)))) (PortKeep.ite (faultCopies_port.chain (PortKeep.ite (PortKeep.chain (Keep.port (m := 2) rfl (setFld_keep.chain rfl .refl)) (PortKeep.chain (Keep.port (m := 2) rfl (setBit_keep.chain rfl .refl)) (PortKeep.chain (Keep.port (m := 2) rfl (bump_keep.chain rfl .refl)) (PortKeep.chain (Keep.port (m := 2) rfl (setBit_keep.chain rfl .refl)) (forceOn_port.chain (setGuard_port.chain (Keep.port (m := 2) rfl (lastTest_keep.chain rfl (setBit_keep.chain rfl .refl))))))))) (PortKeep.chain (Keep.port (m := 2) rfl (bump_keep.chain rfl .refl)) (PortKeep.chain (Keep.port (m := 2) rfl (setBit_keep.chain rfl .refl)) (forceOn_port.chain (setGuard_port.chain (Keep.port (m := 2) rfl (lastTest_keep.chain rfl (setBit_keep.chain rfl .refl))))))))) (PortKeep.ite (forceOn_port.chain (setGuard_port.chain (Keep.port (m := 2) rfl (lastTest_keep.chain rfl (setBit_keep.chain rfl .refl))))) (faultCopies_port.chain (failTest_port.chain (forceOn_port.chain (setGuard_port.chain (Keep.port (m := 2) rfl (lastTest_keep.chain rfl (setBit_keep.chain rfl .refl))))))))))

theorem execDryFireStartup_port {a0 : Fin 16} {a1 s} : PortKeepN a0 s (execDryFireStartup a0 a1 s) := by
  unfold execDryFireStartup
  exact (.next (PortKeep.chain (onlyIf_port (fun _ => (dryFire_port.chain .refl))) .refl))

theorem execRetest_port {a0 : Fin 16} {a1 s} : PortKeepN a0 s (execRetest a0 a1 s) := by
  unfold execRetest
  exact (.next (PortKeep.chain (onlyIf_port (fun _ => (dryFire_port.chain .refl))) .refl))

theorem periodicDryFire_port {a0 a1 s} : PortKeep a0 s (periodicDryFire a0 a1 s) := by
  unfold periodicDryFire
  exact (PortKeep.ite .refl (by
  split
  · exact (countDefer_port.chain (setGuard_port.chain .refl))
  · exact (PortKeep.ite (heldLow_port.chain (PortKeep.chain (Keep.port (m := 2) rfl (lastTest_keep.chain rfl .refl)) (setGuard_port.chain .refl))) (PortKeep.ite (PortKeep.chain (Keep.port (m := 2) rfl (bump_keep.chain rfl .refl)) (PortKeep.chain (Keep.port (m := 2) rfl (lastTest_keep.chain rfl .refl)) (setGuard_port.chain .refl))) (PortKeep.ite (faultCopies_port.chain (PortKeep.chain (Keep.port (m := 2) rfl (lastTest_keep.chain rfl .refl)) (setGuard_port.chain .refl))) (faultCopies_port.chain (failTest_port.chain (PortKeep.chain (Keep.port (m := 2) rfl (lastTest_keep.chain rfl .refl)) (setGuard_port.chain .refl)))))))
  ))

theorem execPeriodicDryFire_port {a0 : Fin 16} {a1 s} : PortKeepN a0 s (execPeriodicDryFire a0 a1 s) := by
  unfold execPeriodicDryFire
  exact (.next (PortKeep.chain (onlyIf_port (fun _ => (periodicDryFire_port.chain .refl))) .refl))

theorem deferDryFire_port {a0 s} : PortKeep a0 s (deferDryFire a0 s) := by
  unfold deferDryFire
  first | (dsimp only; split) | (extract_lets; split) | split
  · exact (PortKeep.ite (PortKeep.chain (Keep.port (m := 1073742002) rfl (bksEvent_keep.chain rfl .refl)) (PortKeep.chain (Keep.port (m := 2) rfl (bumpHi_keep.chain rfl .refl)) (setGuard_port.chain (countDefer_port.chain .refl)))) (countDefer_port.chain .refl))
  · exact (countDefer_port.chain .refl)

theorem execDryFireDefer_port {a0 : Fin 16} {s} : PortKeepN a0 s (execDryFireDefer a0 s) := by
  unfold execDryFireDefer
  exact (.next (PortKeep.chain (onlyIf_port (fun _ => (deferDryFire_port.chain .refl))) .refl))

theorem clockFault_port {a0 s} : PortKeep a0 s (clockFault a0 s) := by
  unfold clockFault
  exact (PortKeep.ite .refl (PortKeep.chain (Keep.port (m := 8589934594) rfl (logGuard_keep.chain rfl .refl)) (PortKeep.chain (Keep.port (m := 1073742002) rfl (bksEvent_keep.chain rfl .refl)) (PortKeep.chain (Keep.port (m := 2) rfl (bumpHi_keep.chain rfl .refl)) (PortKeep.chain (Keep.port (m := 2) rfl (unclean_keep.chain rfl .refl)) (setGuard_port.chain .refl))))))

theorem execClockFault_port {a0 : Fin 16} {s} : PortKeepN a0 s (execClockFault a0 s) := by
  unfold execClockFault
  exact (.next (PortKeep.chain (onlyIf_port (fun _ => (clockFault_port.chain .refl))) .refl))

theorem execClockFaultClear_port {a0 : Fin 16} {s} : PortKeepN a0 s (execClockFaultClear a0 s) := by
  unfold execClockFaultClear
  exact (.next (PortKeep.chain (onlyIf_port (fun _ => (setGuard_port.chain .refl))) .refl))

theorem pinFault_port {a0 a1 s} : PortKeep a0 s (pinFault a0 a1 s) := by
  unfold pinFault
  exact (PortKeep.ite (PortKeep.ite (setGuard_port.chain .refl) .refl) (PortKeep.ite (forceOff_port.chain (PortKeep.chain (Keep.port (m := 2) rfl (setGuardFault_keep.chain rfl .refl)) (PortKeep.chain (Keep.port (m := 8589934594) rfl (logGuard_keep.chain rfl .refl)) (PortKeep.chain (Keep.port (m := 1073742002) rfl (bksEvent_keep.chain rfl .refl)) (setGuard_port.chain .refl))))) (PortKeep.chain (Keep.port (m := 8589934594) rfl (logGuard_keep.chain rfl .refl)) (PortKeep.chain (Keep.port (m := 1073742002) rfl (bksEvent_keep.chain rfl .refl)) (setGuard_port.chain .refl)))))

theorem execTxdisPinFault_port {a0 : Fin 16} {a1 s} : PortKeepN a0 s (execTxdisPinFault a0 a1 s) := by
  unfold execTxdisPinFault
  exact (.next (PortKeep.chain (withPins_port (fun _ => (pinFault_port.chain .refl))) .refl))

theorem setRaws_port {a0 a1 s} : PortKeep a0 s (setRaws a0 a1 s) := by
  unfold setRaws
  exact (PortKeep.chain (forAll_port (fun _ _ => (Keep.port (m := 1073742002) rfl (Keep.ite (frEvent_keep.chain rfl .refl) .refl)))) (setPmStore_port.chain (setFramer_port.chain .refl)))

theorem setRaw_port {a0 a1 a2 s} : PortKeep a0 s (setRaw a0 a1 a2 s) := by
  unfold setRaw
  exact (PortKeep.ite (setRaws_port.chain .refl) .refl)

theorem toHunt_port {a0 a1 s} : PortKeep a0 s (toHunt a0 a1 s) := by
  unfold toHunt
  exact (PortKeep.ite (pmDiscard_port.chain (PortKeep.chain (Keep.port (m := 2) rfl (bump_keep.chain rfl .refl)) (PortKeep.ite (PortKeep.chain (Keep.port (m := 2) rfl (bump_keep.chain rfl .refl)) (setFramer_port.chain .refl)) (setFramer_port.chain .refl)))) (PortKeep.ite (PortKeep.chain (Keep.port (m := 2) rfl (bump_keep.chain rfl .refl)) (setFramer_port.chain .refl)) (setFramer_port.chain .refl)))

theorem dropLock_port {a0 s} : PortKeep a0 s (dropLock a0 s) := by
  unfold dropLock
  exact (setRaw_port.chain (setFramer_port.chain (toHunt_port.chain .refl)))

theorem raiseLoss_port {a0 a1 s} : PortKeep a0 s (raiseLoss a0 a1 s) := by
  unfold raiseLoss
  exact (PortKeep.ite (PortKeep.chain (Keep.port (m := 1073742002) rfl (rclkSettle_keep.chain rfl .refl)) (PortKeep.chain (withTiming_port (fun _ => (dropLock_port.chain (setRaw_port.chain .refl)))) .refl)) .refl)

theorem startFramer_port {a0 s} : PortKeep a0 s (startFramer a0 s) := by
  unfold startFramer
  exact (setRaws_port.chain (setFramer_port.chain .refl))

theorem stopFramer_port {a0 s} : PortKeep a0 s (stopFramer a0 s) := by
  unfold stopFramer
  exact (PortKeep.chain (Keep.port (m := 2) rfl (setReg64_keep.chain rfl .refl)) (setFramer_port.chain (PortKeep.ite (pmDiscard_port.chain (Keep.port (m := 2) rfl (bump_keep.chain rfl .refl))) .refl)))

theorem lightLost_port {a0 s} : PortKeep a0 s (lightLost a0 s) := by
  unfold lightLost
  exact (raiseLoss_port.chain (setWaiken_port.chain .refl))

theorem execLosRaise_port {a0 : Fin 16} {s} : PortKeepN a0 s (execLosRaise a0 s) := by
  unfold execLosRaise
  exact (.next (PortKeep.chain (onlyIf_port (fun _ => (lightLost_port.chain .refl))) .refl))

theorem execLosClear_port {a0 : Fin 16} {s} : PortKeepN a0 s (execLosClear a0 s) := by
  unfold execLosClear
  exact (.next (PortKeep.chain (onlyIf_port (fun _ => (PortKeep.chain (withTiming_port (fun _ => (setRaw_port.chain .refl))) (setWaiken_port.chain .refl)))) .refl))

theorem execLolClear_port {a0 : Fin 16} {s} : PortKeepN a0 s (execLolClear a0 s) := by
  unfold execLolClear
  exact (.next (PortKeep.chain (onlyIf_port (fun _ => (PortKeep.chain (withTiming_port (fun _ => (setRaw_port.chain .refl))) .refl))) .refl))

theorem execForceHunt_port {a0 : Fin 16} {s} : PortKeepN a0 s (execForceHunt a0 s) := by
  unfold execForceHunt
  exact (.next (PortKeep.chain (onlyIf_port (fun _ => (PortKeep.chain (withTiming_port (fun _ => (dropLock_port.chain .refl))) .refl))) .refl))

theorem frEnable_port {a0 a1 s} : PortKeep a0 s (frEnable a0 a1 s) := by
  unfold frEnable
  exact (PortKeep.ite .refl (PortKeep.ite (PortKeep.ite (Keep.port (m := 2) rfl (setBit_keep.chain rfl .refl)) (PortKeep.chain (Keep.port (m := 1073742002) rfl (rclkSettle_keep.chain rfl .refl)) (startFramer_port.chain (Keep.port (m := 2) rfl (setBit_keep.chain rfl .refl))))) (PortKeep.chain (Keep.port (m := 1073742002) rfl (rclkSettle_keep.chain rfl .refl)) (PortKeep.chain (Keep.port (m := 2) rfl (setBit_keep.chain rfl .refl)) (stopFramer_port.chain (PortKeep.chain (withTiming_port (fun _ => (setFramer_port.chain .refl))) .refl))))))

theorem writeFrEn_port {a0 a1 s} : PortKeep a0 s (writeFrEn a0 a1 s) := by
  unfold writeFrEn
  exact (PortKeep.chain (Keep.port (m := 4294967312) rfl (trkFollow_keep.chain rfl .refl)) (frEnable_port.chain .refl))

theorem execFrCtlEnWrite_port {a0 : Fin 16} {a1 s} : PortKeepN a0 s (execFrCtlEnWrite a0 a1 s) := by
  unfold execFrCtlEnWrite
  exact (.next (PortKeep.chain (onlyIf_port (fun _ => (writeFrEn_port.chain .refl))) .refl))

theorem execLodChange_port {a0 : Fin 16} {s} : PortKeepN a0 s (execLodChange a0 s) := by
  unfold execLodChange
  exact (.next (PortKeep.chain (onlyIf_port (fun _ => (setRaw_port.chain .refl))) .refl))

theorem keyfChange_port {a0 s} : PortKeep a0 s (keyfChange a0 s) := by
  unfold keyfChange
  exact (PortKeep.ite (setRaw_port.chain .refl) (PortKeep.ite (setRaw_port.chain .refl) .refl))

theorem execKeyfChange_port {a0 : Fin 16} {s} : PortKeepN a0 s (execKeyfChange a0 s) := by
  unfold execKeyfChange
  exact (.next (PortKeep.chain (onlyIf_port (fun _ => (keyfChange_port.chain .refl))) .refl))

theorem sdWindow_port {a0 s} : PortKeep a0 s (sdWindow a0 s) := by
  unfold sdWindow
  exact (PortKeep.ite (PortKeep.ite (setRaw_port.chain (setFramer_port.chain .refl)) (PortKeep.ite (setRaw_port.chain (setFramer_port.chain .refl)) (setFramer_port.chain .refl))) .refl)

theorem execSdWindow_port {a0 : Fin 16} {s} : PortKeepN a0 s (execSdWindow a0 s) := by
  unfold execSdWindow
  exact (.next (PortKeep.chain (onlyIf_port (fun _ => (sdWindow_port.chain .refl))) .refl))

theorem sighting_port {a0 a1 a2 s} : PortKeep a0 s (sighting a0 a1 a2 s) := by
  unfold sighting
  exact (PortKeep.ite .refl (by
  split
  · exact (PortKeep.chain (Keep.port (m := 2) rfl (bump_keep.chain rfl .refl)) (setFramer_port.chain .refl))
  · exact (Keep.port (m := 2) rfl (bump_keep.chain rfl .refl))
  ))

theorem execSighting_port {a0 : Fin 16} {a1 a2 s} : PortKeepN a0 s (execSighting a0 a1 a2 s) := by
  unfold execSighting
  exact (.next (PortKeep.chain (onlyIf_port (fun _ => (sighting_port.chain .refl))) .refl))

theorem deliverTmm_port {a0 a1 s} : PortKeep a0 s (deliverTmm a0 a1 s) := by
  unfold deliverTmm
  exact (snoop_port.chain (PortKeep.ite (Keep.port (m := 1073742002) rfl (frEvent_keep.chain rfl (bump_keep.chain rfl .refl))) (PortKeep.chain (Keep.port (m := 2) rfl (bump_keep.chain rfl .refl)) (setFramer_port.chain .refl))))

theorem examineTmm_port {a0 a1 a2 s} : PortKeep a0 s (examineTmm a0 a1 a2 s) := by
  unfold examineTmm
  exact (PortKeep.ite (Keep.port (m := 2) rfl (bump_keep.chain rfl .refl)) (PortKeep.ite (Keep.port (m := 2) rfl (bump_keep.chain rfl .refl)) (deliverTmm_port.chain .refl)))

theorem deliverOverhead_port {a0 a1 a2 s} : PortKeep a0 s (deliverOverhead a0 a1 a2 s) := by
  unfold deliverOverhead
  exact (setGuard_port.chain (setHalyard_port.chain (PortKeep.ite (PortKeep.chain (Keep.port (m := 1073742002) rfl (frEvent_keep.chain rfl .refl)) (PortKeep.chain (Keep.port (m := 2) rfl (bump_keep.chain rfl .refl)) (PortKeep.chain (forAll_port (fun _ _ => (examineTmm_port.chain .refl))) .refl))) (PortKeep.chain (forAll_port (fun _ _ => (examineTmm_port.chain .refl))) .refl))))

theorem noMap_port {a0 a1 s} : PortKeep a0 s (noMap a0 a1 s) := by
  unfold noMap
  exact (setHalyard_port.chain .refl)

theorem setSf_port {a0 a1 s} : PortKeep a0 s (setSf a0 a1 s) := by
  unfold setSf
  exact (PortKeep.chain (Keep.port (m := 2) rfl (setReg64_keep.chain rfl .refl)) (setFramer_port.chain .refl))

theorem keepStamp_port {a0 a1 s} : PortKeep a0 s (keepStamp a0 a1 s) := by
  unfold keepStamp
  exact (setFramer_port.chain .refl)

theorem countFec_port {a0 a1 s} : PortKeep a0 s (countFec a0 a1 s) := by
  unfold countFec
  exact (setPmStore_port.chain (Keep.port (m := 2) rfl (bump64_keep.chain rfl (bump64_keep.chain rfl (bump64_keep.chain rfl .refl)))))

theorem countSd_port {a0 a1 s} : PortKeep a0 s (countSd a0 a1 s) := by
  unfold countSd
  exact (PortKeep.ite (setFramer_port.chain .refl) .refl)

theorem addPayload_port {a0 a1 s} : PortKeep a0 s (addPayload a0 a1 s) := by
  unfold addPayload
  exact (setFramer_port.chain .refl)

theorem reachLock_port {a0 a1 s} : PortKeep a0 s (reachLock a0 a1 s) := by
  unfold reachLock
  exact (PortKeep.ite (countSd_port.chain (countFec_port.chain (PortKeep.chain (withTiming_port (fun _ => (setSf_port.chain (setRaw_port.chain (setFramer_port.chain .refl))))) .refl))) (deliverOverhead_port.chain (keepStamp_port.chain (countSd_port.chain (countFec_port.chain (PortKeep.chain (withTiming_port (fun _ => (setSf_port.chain (setRaw_port.chain (setFramer_port.chain .refl))))) .refl))))))

theorem trackerCheck_port {a0 a1 a2 s} : PortKeep a0 s (trackerCheck a0 a1 a2 s) := by
  unfold trackerCheck
  first | (dsimp only; split) | (extract_lets; split) | split
  · exact .refl
  · exact (PortKeep.ite .refl (PortKeep.ite (PortKeep.ite (reachLock_port.chain .refl) (setFramer_port.chain .refl)) (setFramer_port.chain .refl)))

theorem execTrackerCheck_port {a0 : Fin 16} {a1 a2 s} : PortKeepN a0 s (execTrackerCheck a0 a1 a2 s) := by
  unfold execTrackerCheck
  exact (.next (PortKeep.chain (onlyIf_port (fun _ => (trackerCheck_port.chain .refl))) .refl))

theorem endKeyFrame_port {a0 s} : PortKeep a0 s (endKeyFrame a0 s) := by
  unfold endKeyFrame
  exact (setFramer_port.chain .refl)

theorem countSilence_port {a0 s} : PortKeep a0 s (countSilence a0 s) := by
  unfold countSilence
  first | (dsimp only; split) | (extract_lets; split) | split
  · exact (PortKeep.ite .refl (setRegn_port.chain .refl))
  · exact .refl

theorem huntFrame_port {a0 a1 s} : PortKeep a0 s (huntFrame a0 a1 s) := by
  unfold huntFrame
  exact (setFramer_port.chain (toHunt_port.chain .refl))

theorem missFrame_port {a0 a1 s} : PortKeep a0 s (missFrame a0 a1 s) := by
  unfold missFrame
  exact (noMap_port.chain (PortKeep.ite (PortKeep.chain (withTiming_port (fun _ => (dropLock_port.chain .refl))) (huntFrame_port.chain (PortKeep.chain (Keep.port (m := 2) rfl (bump_keep.chain rfl .refl)) (setFramer_port.chain .refl)))) (huntFrame_port.chain (PortKeep.chain (Keep.port (m := 2) rfl (bump_keep.chain rfl .refl)) (setFramer_port.chain .refl)))))

theorem badHeader_port {a0 a1 s} : PortKeep a0 s (badHeader a0 a1 s) := by
  unfold badHeader
  exact (noMap_port.chain (huntFrame_port.chain (PortKeep.chain (Keep.port (m := 2) rfl (bump_keep.chain rfl .refl)) (setFramer_port.chain .refl))))

theorem losfHeader_port {a0 a1 a2 a3 s} : PortKeep a0 s (losfHeader a0 a1 a2 a3 s) := by
  unfold losfHeader
  exact (PortKeep.ite (deliverOverhead_port.chain (keepStamp_port.chain (PortKeep.chain (withTiming_port (fun _ => (setSf_port.chain (setRaw_port.chain (setFramer_port.chain .refl))))) (setFramer_port.chain (PortKeep.ite (setSf_port.chain .refl) (Keep.port (m := 2) rfl (bump_keep.chain rfl .refl))))))) (noMap_port.chain (setFramer_port.chain (PortKeep.ite (setSf_port.chain .refl) (Keep.port (m := 2) rfl (bump_keep.chain rfl .refl))))))

theorem goodHeader_port {a0 a1 a2 s} : PortKeep a0 s (goodHeader a0 a1 a2 s) := by
  unfold goodHeader
  exact (PortKeep.ite (deliverOverhead_port.chain (setSf_port.chain (setFramer_port.chain .refl))) (noMap_port.chain (PortKeep.ite (PortKeep.chain (withTiming_port (fun _ => (setRaw_port.chain (setFramer_port.chain .refl)))) (PortKeep.chain (Keep.port (m := 2) rfl (bump_keep.chain rfl .refl)) (setFramer_port.chain .refl))) (PortKeep.chain (Keep.port (m := 2) rfl (bump_keep.chain rfl .refl)) (setFramer_port.chain .refl)))))

theorem downstreamFrame_port {a0 a1 s} : PortKeep a0 s (downstreamFrame a0 a1 s) := by
  unfold downstreamFrame
  exact (PortKeep.ite .refl (countDefer_port.chain (countSd_port.chain (PortKeep.ite (missFrame_port.chain (countFec_port.chain (setFramer_port.chain (countSilence_port.chain (endKeyFrame_port.chain .refl))))) (PortKeep.ite (badHeader_port.chain (PortKeep.ite (setFramer_port.chain (countFec_port.chain (setFramer_port.chain (countSilence_port.chain (endKeyFrame_port.chain .refl))))) (keepStamp_port.chain (setFramer_port.chain (countFec_port.chain (setFramer_port.chain (countSilence_port.chain (endKeyFrame_port.chain .refl)))))))) (PortKeep.ite (losfHeader_port.chain (addPayload_port.chain (PortKeep.ite (setFramer_port.chain (countFec_port.chain (setFramer_port.chain (countSilence_port.chain (endKeyFrame_port.chain .refl))))) (keepStamp_port.chain (setFramer_port.chain (countFec_port.chain (setFramer_port.chain (countSilence_port.chain (endKeyFrame_port.chain .refl))))))))) (goodHeader_port.chain (addPayload_port.chain (PortKeep.ite (setFramer_port.chain (countFec_port.chain (setFramer_port.chain (countSilence_port.chain (endKeyFrame_port.chain .refl))))) (keepStamp_port.chain (setFramer_port.chain (countFec_port.chain (setFramer_port.chain (countSilence_port.chain (endKeyFrame_port.chain .refl)))))))))))))))

theorem execDownstreamFrame_port {a0 : Fin 16} {a1 s} : PortKeepN a0 s (execDownstreamFrame a0 a1 s) := by
  unfold execDownstreamFrame
  exact (.next (PortKeep.chain (onlyIf_port (fun _ => (downstreamFrame_port.chain .refl))) .refl))

theorem pmSecond_port {a0 s} : PortKeep a0 s (pmSecond a0 s) := by
  unfold pmSecond
  exact (setPmStore_port.chain .refl)

theorem execPmSecond_port {a0 : Fin 16} {s} : PortKeepN a0 s (execPmSecond a0 s) := by
  unfold execPmSecond
  exact (.next (PortKeep.chain (onlyIf_port (fun _ => (pmSecond_port.chain .refl))) .refl))

theorem endBin_port {a0 a1 a2 a3 s} : PortKeep a0 s (endBin a0 a1 a2 a3 s) := by
  unfold endBin
  exact (setPmStore_port.chain .refl)

theorem execPmBinEnd_port {a0 : Fin 16} {a1 s} : PortKeepN a0 s (execPmBinEnd a0 a1 s) := by
  unfold execPmBinEnd
  exact (.next (PortKeep.chain (onlyIf_port (fun _ => (endBin_port.chain .refl))) .refl))

theorem closeBin_port {a0 a1 s} : PortKeep a0 s (closeBin a0 a1 s) := by
  unfold closeBin
  exact (PortKeep.ite (by
  split
  · exact (PortKeep.chain (Keep.port (m := 1073742002) rfl (frEvent_keep.chain rfl .refl)) (setPmStore_port.chain .refl))
  · exact .refl
  ) (by
  split
  · exact (PortKeep.chain (Keep.port (m := 1073742002) rfl (frEvent_keep.chain rfl .refl)) (setPmStore_port.chain .refl))
  · exact .refl
  ))

theorem execPmBinClose_port {a0 : Fin 16} {a1 s} : PortKeepN a0 s (execPmBinClose a0 a1 s) := by
  unfold execPmBinClose
  exact (.next (PortKeep.chain (onlyIf_port (fun _ => (closeBin_port.chain .refl))) .refl))

theorem brokenSecond_port {a0 s} : PortKeep a0 s (brokenSecond a0 s) := by
  unfold brokenSecond
  exact (setPmStore_port.chain .refl)

theorem pmStop_port {a0 a1 s} : PortKeep a0 s (pmStop a0 a1 s) := by
  unfold pmStop
  exact (setPmStore_port.chain .refl)

theorem clearCur_port {a0 s} : PortKeep a0 s (clearCur a0 s) := by
  unfold clearCur
  exact (setPmStore_port.chain .refl)

theorem execPmClrCur_port {a0 : Fin 16} {s} : PortKeepN a0 s (execPmClrCur a0 s) := by
  unfold execPmClrCur
  exact (.next (PortKeep.chain (onlyIf_port (fun _ => (clearCur_port.chain .refl))) .refl))

theorem wknFault_port {a0 a1 s} : PortKeep a0 s (wknFault a0 a1 s) := by
  unfold wknFault
  exact (PortKeep.ite (setWaiken_port.chain .refl) (PortKeep.ite (PortKeep.chain (Keep.port (m := 1073742002) rfl (wknEvent_keep.chain rfl .refl)) (PortKeep.chain (Keep.port (m := 1073742002) rfl (wknEvent_keep.chain rfl .refl)) (setWaiken_port.chain .refl))) (PortKeep.chain (Keep.port (m := 1073742002) rfl (wknEvent_keep.chain rfl .refl)) (setWaiken_port.chain .refl))))

theorem toStep_port {a0 a1 a2 s} : PortKeep a0 s (toStep a0 a1 a2 s) := by
  unfold toStep
  exact (PortKeep.ite (PortKeep.chain (Keep.port (m := 1073742002) rfl (wknEvent_keep.chain rfl .refl)) (PortKeep.chain (forAll_port (fun _ _ => (Keep.port (m := 1073873074) rfl (Keep.ite .refl (laneHalf_keep.chain rfl .refl))))) (setWaiken_port.chain .refl))) (PortKeep.chain (forAll_port (fun _ _ => (Keep.port (m := 1073873074) rfl (Keep.ite .refl (laneHalf_keep.chain rfl .refl))))) (setWaiken_port.chain .refl)))

theorem dozeDrop_port {a0 s} : PortKeep a0 s (dozeDrop a0 s) := by
  unfold dozeDrop
  exact (setHalyard_port.chain .refl)

theorem rxBack_port {a0 a1 s} : PortKeep a0 s (rxBack a0 a1 s) := by
  unfold rxBack
  exact (PortKeep.ite .refl (raiseLoss_port.chain (toStep_port.chain .refl)))

theorem txBack_port {a0 a1 s} : PortKeep a0 s (txBack a0 a1 s) := by
  unfold txBack
  exact (PortKeep.ite .refl (toStep_port.chain (dozeDrop_port.chain .refl)))

theorem restartSets_port {a0 s} : PortKeep a0 s (restartSets a0 s) := by
  unfold restartSets
  exact (raiseLoss_port.chain (PortKeep.chain (Keep.port (m := 2) rfl (countRetrain_keep.chain rfl .refl)) (setWaiken_port.chain (toStep_port.chain (dozeDrop_port.chain (toStep_port.chain .refl))))))

theorem rechoose_port {a0 s} : PortKeep a0 s (rechoose a0 s) := by
  unfold rechoose
  exact (PortKeep.ite (PortKeep.chain (Keep.port (m := 1073742002) rfl (wknEvent_keep.chain rfl .refl)) (wknFault_port.chain (setWaiken_port.chain .refl))) (PortKeep.ite (wknFault_port.chain (setWaiken_port.chain .refl)) (setWaiken_port.chain .refl)))

theorem capStep_port {a0 a1 s} : PortKeep a0 s (capStep a0 a1 s) := by
  unfold capStep
  exact (PortKeep.ite (rechoose_port.chain (PortKeep.chain (forAll_port (fun _ _ => (Keep.port (m := 2) rfl (setReg_keep.chain rfl .refl)))) (setWaiken_port.chain .refl))) (PortKeep.ite (wknFault_port.chain (PortKeep.ite (setWaiken_port.chain (toStep_port.chain (setWaiken_port.chain (rechoose_port.chain (PortKeep.chain (forAll_port (fun _ _ => (Keep.port (m := 2) rfl (setReg_keep.chain rfl .refl)))) (setWaiken_port.chain .refl)))))) (toStep_port.chain (setWaiken_port.chain (rechoose_port.chain (PortKeep.chain (forAll_port (fun _ _ => (Keep.port (m := 2) rfl (setReg_keep.chain rfl .refl)))) (setWaiken_port.chain .refl))))))) (PortKeep.ite (setWaiken_port.chain (toStep_port.chain (setWaiken_port.chain (rechoose_port.chain (PortKeep.chain (forAll_port (fun _ _ => (Keep.port (m := 2) rfl (setReg_keep.chain rfl .refl)))) (setWaiken_port.chain .refl)))))) (toStep_port.chain (setWaiken_port.chain (rechoose_port.chain (PortKeep.chain (forAll_port (fun _ _ => (Keep.port (m := 2) rfl (setReg_keep.chain rfl .refl)))) (setWaiken_port.chain .refl))))))))

theorem rxStep_port {a0 a1 s} : PortKeep a0 s (rxStep a0 a1 s) := by
  unfold rxStep
  split
  · exact (toStep_port.chain (setWaiken_port.chain .refl))
  · exact (wknFault_port.chain (toStep_port.chain (setWaiken_port.chain .refl)))
  · exact (toStep_port.chain (setWaiken_port.chain .refl))
  · exact (PortKeep.ite (wknFault_port.chain .refl) (PortKeep.ite (wknFault_port.chain .refl) (wknFault_port.chain (toStep_port.chain (Keep.port (m := 131072) rfl (rxCorrect_keep.chain rfl .refl))))))
  · exact (toStep_port.chain .refl)
  · exact (capStep_port.chain .refl)
  · exact (PortKeep.ite .refl (toStep_port.chain (setWaiken_port.chain .refl)))
  · exact .refl

theorem txStep_port {a0 a1 s} : PortKeep a0 s (txStep a0 a1 s) := by
  unfold txStep
  exact (PortKeep.ite .refl (PortKeep.ite (PortKeep.ite (Keep.port (m := 131072) rfl (setLane_keep.chain rfl .refl)) (PortKeep.ite (toStep_port.chain (Keep.port (m := 131072) rfl (txCorrect_keep.chain rfl .refl))) .refl)) (PortKeep.ite (dozeIn_port.chain (toStep_port.chain .refl)) (toStep_port.chain .refl))))

theorem bringupStep_port {a0 a1 a2 s} : PortKeep a0 s (bringupStep a0 a1 a2 s) := by
  unfold bringupStep
  exact (PortKeep.ite .refl (by
  split
  · exact (rxStep_port.chain .refl)
  · exact (txStep_port.chain .refl)
  ))

theorem withFramerEn_port {a0 f1 s} (hf1 : ∀ v0, PortKeep a0 v0 (f1 v0)) : PortKeep a0 s (withFramerEn a0 f1 s) := by
  unfold withFramerEn
  exact (PortKeep.ite (writeFrEn_port.chain (PortKeep.chain (hf1 _) .refl)) (PortKeep.chain (hf1 _) .refl))

theorem execWaikenBringupStep_port {a0 : Fin 16} {a1 a2 s} : PortKeepN a0 s (execWaikenBringupStep a0 a1 a2 s) := by
  unfold execWaikenBringupStep
  exact (.next (PortKeep.chain (onlyIf_port (fun _ => (PortKeep.chain (withFramerEn_port (fun _ => (bringupStep_port.chain .refl))) .refl))) .refl))

theorem waikenTimeout_port {a0 s} : PortKeep a0 s (waikenTimeout a0 s) := by
  unfold waikenTimeout
  split
  · exact (PortKeep.ite (wknFault_port.chain .refl) .refl)
  · exact .refl

theorem execWaikenTimeout_port {a0 : Fin 16} {s} : PortKeepN a0 s (execWaikenTimeout a0 s) := by
  unfold execWaikenTimeout
  exact (.next (PortKeep.chain (onlyIf_port (fun _ => (waikenTimeout_port.chain .refl))) .refl))

theorem execWaikenCapRetry_port {a0 : Fin 16} {s} : PortKeepN a0 s (execWaikenCapRetry a0 s) := by
  unfold execWaikenCapRetry
  exact (.next (PortKeep.chain (onlyIf_port (fun _ => (rechoose_port.chain .refl))) .refl))

theorem rateSwitch_port {a0 s} : PortKeep a0 s (rateSwitch a0 s) := by
  unfold rateSwitch
  exact (PortKeep.ite .refl (by
  split
  · exact (PortKeep.ite (toStep_port.chain (toStep_port.chain (setWaiken_port.chain .refl))) .refl)
  · exact (wknFault_port.chain .refl)
  ))

theorem execWaikenRateSwitch_port {a0 : Fin 16} {s} : PortKeepN a0 s (execWaikenRateSwitch a0 s) := by
  unfold execWaikenRateSwitch
  exact (.next (PortKeep.chain (onlyIf_port (fun _ => (rateSwitch_port.chain .refl))) .refl))

theorem versionAttempt_port {a0 s} : PortKeep a0 s (versionAttempt a0 s) := by
  unfold versionAttempt
  exact (PortKeep.ite .refl (PortKeep.chain (Keep.port (m := 2) rfl (bump_keep.chain rfl .refl)) (toStep_port.chain (toStep_port.chain (setWaiken_port.chain .refl)))))

theorem execWaikenVersionAttempt_port {a0 : Fin 16} {s} : PortKeepN a0 s (execWaikenVersionAttempt a0 s) := by
  unfold execWaikenVersionAttempt
  exact (.next (PortKeep.chain (onlyIf_port (fun _ => (versionAttempt_port.chain .refl))) .refl))

theorem setLost_port {a0 a1 s} : PortKeep a0 s (setLost a0 a1 s) := by
  unfold setLost
  exact (PortKeep.ite (restartSets_port.chain (setWaiken_port.chain .refl)) (raiseLoss_port.chain (PortKeep.chain (Keep.port (m := 2) rfl (countRetrain_keep.chain rfl .refl)) (rxBack_port.chain (setWaiken_port.chain .refl)))))

theorem lockLoss_port {a0 a1 s} : PortKeep a0 s (lockLoss a0 a1 s) := by
  unfold lockLoss
  exact (PortKeep.ite (setLost_port.chain (Keep.port (m := 1073873074) rfl (setLane_keep.chain rfl (countLockLoss_keep.chain rfl .refl)))) .refl)

theorem execLaneLockLoss_port {a0 : Fin 16} {a1 s} : PortKeepN a0 s (execLaneLockLoss a0 a1 s) := by
  unfold execLaneLockLoss
  exact (.next (PortKeep.chain (onlyIf_port (fun _ => (lockLoss_port.chain .refl))) .refl))

theorem engineRetrain_port {a0 s} : PortKeep a0 s (engineRetrain a0 s) := by
  unfold engineRetrain
  exact (PortKeep.ite .refl (PortKeep.chain (Keep.port (m := 2) rfl (countRetrain_keep.chain rfl .refl)) (txBack_port.chain .refl)))

theorem takeStatus_port {a0 a1 s} : PortKeep a0 s (takeStatus a0 a1 s) := by
  unfold takeStatus
  exact (PortKeep.ite .refl (PortKeep.ite (engineRetrain_port.chain (PortKeep.ite (lightLost_port.chain (setWaiken_port.chain .refl)) (setWaiken_port.chain .refl))) (PortKeep.ite (lightLost_port.chain (setWaiken_port.chain .refl)) (setWaiken_port.chain .refl))))

theorem sendBlocks_port {a0 s} : PortKeep a0 s (sendBlocks a0 s) := by
  unfold sendBlocks
  first | (dsimp only; split) | (extract_lets; split) | split
  · exact (PortKeep.chain (Keep.port (m := 16) rfl (emit_keep.chain rfl .refl)) (setWaiken_port.chain .refl))
  · exact (setWaiken_port.chain .refl)

theorem takeBlocks_port {a0 a1 s} : PortKeep a0 s (takeBlocks a0 a1 s) := by
  unfold takeBlocks
  exact (PortKeep.ite .refl (takeStatus_port.chain (PortKeep.chain (Keep.port (m := 2) rfl (takeEcho_keep.chain rfl .refl)) (PortKeep.ite (Keep.port (m := 1073873074) rfl (Keep.hchain (forAll_keep rfl (fun _ _ => (setLane_keep.chain rfl .refl))) (Keep.hchain (forAll_keep rfl (fun _ _ => (laneBlock_keep.chain rfl .refl))) .refl))) (setLost_port.chain (Keep.port (m := 1073873074) rfl (Keep.hchain (forAll_keep rfl (fun _ _ => (setLane_keep.chain rfl .refl))) (Keep.hchain (forAll_keep rfl (fun _ _ => (laneBlock_keep.chain rfl .refl))) .refl))))))))

theorem controlBlock_port {a0 a1 s} : PortKeep a0 s (controlBlock a0 a1 s) := by
  unfold controlBlock
  exact (takeBlocks_port.chain (sendBlocks_port.chain .refl))

theorem execWaikenControlBlock_port {a0 : Fin 16} {a1 s} : PortKeepN a0 s (execWaikenControlBlock a0 a1 s) := by
  unfold execWaikenControlBlock
  exact (.next (PortKeep.chain (onlyIf_port (fun _ => (controlBlock_port.chain .refl))) .refl))

theorem dozeCheck_port {a0 s} : PortKeep a0 s (dozeCheck a0 s) := by
  unfold dozeCheck
  exact (dozeIn_port.chain (setWaiken_port.chain .refl))

theorem execDozeCheck_port {a0 : Fin 16} {s} : PortKeepN a0 s (execDozeCheck a0 s) := by
  unfold execDozeCheck
  exact (.next (PortKeep.chain (onlyIf_port (fun _ => (dozeCheck_port.chain .refl))) .refl))

theorem execTxPllSourceChange_port {a0 : Fin 16} {s} : PortKeepN a0 s (execTxPllSourceChange a0 s) := by
  unfold execTxPllSourceChange
  exact (.next (PortKeep.chain (onlyIf_port (fun _ => (setWaiken_port.chain .refl))) .refl))

theorem lmToPort_port {a0 a1 s} : PortKeep a0 s (lmToPort a0 a1 s) := by
  unfold lmToPort
  exact (PortKeep.ite (deliverTmm_port.chain .refl) (Keep.port (m := 2) rfl (bump_keep.chain rfl .refl)))

theorem ruleTake_port {f0 q s} (hf0 : ∀ v0, PortKeep q v0 (f0 v0)) : PortKeep q s (ruleTake f0 s) := by
  unfold ruleTake
  exact (PortKeep.ite (PortKeep.ite (Keep.port (m := 1073742010) rfl (ruleEnd_keep.chain rfl (drawn_keep.chain rfl .refl))) (PortKeep.chain (hf0 _) (Keep.port (m := 8) rfl (drawn_keep.chain rfl .refl)))) (PortKeep.chain (hf0 _) .refl))

theorem ringRun_port {a0 a1 a2 f3 q s} (hf3 : ∀ v0 v1, PortKeep q v1 (f3 v0 v1)) : PortKeep q s (ringRun a0 a1 a2 f3 s) := by
  unfold ringRun
  first | (dsimp only; split) | (extract_lets; split) | split
  · exact (Keep.port (m := 1107296434) rfl (ringSkip_keep.chain rfl .refl))
  · exact (PortKeep.ite (Keep.port (m := 1107296434) rfl (ringSkip_keep.chain rfl .refl)) (PortKeep.chain (Keep.port (m := 1107296434) rfl (ringSkip_keep.chain rfl .refl)) (PortKeep.chain (hf3 _ _) (Keep.port (m := 1107296434) rfl (ringSkip_keep.chain rfl .refl)))))

theorem discardGrants_port {a0 s} : PortKeep a0 s (discardGrants a0 s) := by
  unfold discardGrants
  exact (PortKeep.chain (Keep.port (m := 2) rfl (bump_keep.chain rfl .refl)) (setHalyard_port.chain (returnTmms_port.chain (Keep.port (m := 1142423730) rfl (returnFills_keep.chain rfl (Keep.hchain (forAll_keep rfl (fun _ _ => (sentFills_keep.chain rfl .refl))) .refl))))))

theorem goDark_port {a0 s} : PortKeep a0 s (goDark a0 s) := by
  unfold goDark
  exact (PortKeep.chain (Keep.port (m := 1073742002) rfl (reefEvent_keep.chain rfl .refl)) (PortKeep.chain (Keep.port (m := 1073742002) rfl (rclkSettle_keep.chain rfl .refl)) (PortKeep.chain (Keep.port (m := 4294967312) rfl (setDom_keep.chain rfl .refl)) (PortKeep.chain (Keep.port (m := 2) rfl (setBit_keep.chain rfl .refl)) (pmStop_port.chain (setRegn_port.chain (setWaiken_port.chain (PortKeep.chain (Keep.port (m := 1073873074) rfl (lanesOff_keep.chain rfl .refl)) (stopFramer_port.chain (bksLost_port.chain (missAnswer_port.chain (discardGrants_port.chain .refl))))))))))))

theorem lightPort_port {a0 s} : PortKeep a0 s (lightPort a0 s) := by
  unfold lightPort
  exact (PortKeep.ite .refl (PortKeep.chain (Keep.port (m := 1073742002) rfl (reefEvent_keep.chain rfl .refl)) (PortKeep.chain (Keep.port (m := 1073742002) rfl (rclkSettle_keep.chain rfl .refl)) (PortKeep.ite (startFramer_port.chain (PortKeep.chain (Keep.port (m := 1073873074) rfl (lanesFirst_keep.chain rfl .refl)) (setRegn_port.chain (Keep.port (m := 4294967314) rfl (Keep.ite (setBit_keep.chain rfl .refl) (setDom_keep.chain rfl (setBit_keep.chain rfl .refl))))))) (PortKeep.chain (Keep.port (m := 1073873074) rfl (lanesFirst_keep.chain rfl .refl)) (setRegn_port.chain (Keep.port (m := 4294967314) rfl (Keep.ite (setBit_keep.chain rfl .refl) (setDom_keep.chain rfl (setBit_keep.chain rfl .refl))))))))))

theorem headNotice_port {a0 a1 s} : PortKeep a0 s (headNotice a0 a1 s) := by
  unfold headNotice
  exact (PortKeep.ite (answer_port.chain (Keep.port (m := 1073741824) rfl (.reef rfl rfl .refl))) (answer_port.chain .refl))

theorem execReefNotice_port {a0 : Fin 16} {s} : PortKeepN a0 s (execReefNotice a0 s) := by
  unfold execReefNotice
  exact (.next (PortKeep.chain (onlyIf_port (fun _ => (PortKeep.chain (withTmm_port (fun _ _ => (headNotice_port.chain .refl))) .refl))) .refl))

theorem execPortDark_port {a0 : Fin 16} {s} : PortKeepN a0 s (execPortDark a0 s) := by
  unfold execPortDark
  exact (.next (PortKeep.chain (onlyIf_port (fun _ => (PortKeep.chain (Keep.port (m := 9663676418) rfl (darkLeft_keep.chain rfl .refl)) (goDark_port.chain .refl)))) .refl))

theorem lightTimeout_port {a0 s} : PortKeep a0 s (lightTimeout a0 s) := by
  unfold lightTimeout
  split
  · exact (PortKeep.ite .refl (downstreamLost_port.chain (setRegn_port.chain .refl)))
  · exact .refl

theorem execLightTimeout_port {a0 : Fin 16} {s} : PortKeepN a0 s (execLightTimeout a0 s) := by
  unfold execLightTimeout
  exact (.next (PortKeep.chain (onlyIf_port (fun _ => (lightTimeout_port.chain .refl))) .refl))

end Sys2Proof.Machine
end

