-- ==== Sys2Proof/Laws/Port3.lean ====
section
/-! SUPPORT. What each operation of one trunk port leaves alone on the others (R22). -/
namespace Sys2Proof.Machine
open Sys2Proof

theorem park_port {a0 a1 s} : PortKeep a0 s (park a0 a1 s) := by
  unfold park
  exact (PortKeep.ite (answer_port.chain .refl) (answer_port.chain (Keep.port (m := 1073741970) rfl (.reef rfl rfl (Keep.ite (Keep.hchain (withRises_keep rfl (fun _ => (armSource_keep.chain rfl .refl))) (setBit_keep.chain rfl (setRegN_keep.chain rfl (setRegN_keep.chain rfl .refl)))) (Keep.hchain (withRises_keep rfl (fun _ => (armSource_keep.chain rfl .refl))) (setBit_keep.chain rfl (Keep.hchain (withRises_keep rfl (fun _ => (armSource_keep.chain rfl .refl))) (setBit_keep.chain rfl (setRegN_keep.chain rfl (setRegN_keep.chain rfl .refl)))))))))))

theorem execPark_port {a0 : Fin 16} {s} : PortKeepN a0 s (execPark a0 s) := by
  unfold execPark
  exact (.next (PortKeep.chain (onlyIf_port (fun _ => (PortKeep.chain (withTmm_port (fun _ _ => (park_port.chain .refl))) .refl))) .refl))

theorem moveQueue_port {a0 f1 q s} (hf1 : ∀ v0, PortKeep q v0 (f1 v0)) : PortKeep q s (moveQueue a0 f1 s) := by
  unfold moveQueue
  exact (PortKeep.ite (PortKeep.chain (Keep.port (m := 67108864) rfl (setQueue_keep.chain rfl .refl)) (PortKeep.chain (hf1 _) (Keep.port (m := 67108864) rfl (leaveRound_keep.chain rfl .refl)))) (PortKeep.chain (Keep.port (m := 67108864) rfl (joinRound_keep.chain rfl .refl)) (PortKeep.chain (Keep.port (m := 67108864) rfl (setQueue_keep.chain rfl .refl)) (PortKeep.chain (hf1 _) (Keep.port (m := 67108864) rfl (leaveRound_keep.chain rfl .refl))))))

theorem doCmd_port {a0 f1 q s} (hf1 : ∀ v0 v1, PortKeep q v1 (f1 v0 v1).1) : PortKeep q s (doCmd a0 f1 s) := by
  unfold doCmd
  split
  · exact (PortKeep.ite (PortKeep.chain (Keep.port (m := 1207959730) rfl (endCmd_keep.chain rfl .refl)) (PortKeep.chain (hf1 _ _) .refl)) .refl)
  · exact .refl

theorem tsiSwitch_port {a0 a1 s} : PortKeep a0 s (tsiSwitch a0 a1 s) := by
  unfold tsiSwitch
  exact (PortKeep.ite (answer_port.chain .refl) (by
  split
  · exact (PortKeep.ite (answer_port.chain .refl) (answer_port.chain .refl))
  · exact (PortKeep.ite (answer_port.chain .refl) (answer_port.chain (Keep.port (m := 524290) rfl (requestCals_keep.chain rfl (setReg64_keep.chain rfl (setTsi_keep.chain rfl .refl))))))
  ))

theorem execTsiSwitch_port {a0 : Fin 16} {s} : PortKeepN a0 s (execTsiSwitch a0 s) := by
  unfold execTsiSwitch
  exact (.next (PortKeep.chain (onlyIf_port (fun _ => (PortKeep.chain (withTmm_port (fun _ _ => (tsiSwitch_port.chain .refl))) .refl))) .refl))

theorem trunkPower_port {a0 s} : PortKeep a0 s (trunkPower a0 s) := by
  unfold trunkPower
  exact (PortKeep.ite (PortKeep.chain (forAll_port (fun _ _ => (Keep.port (m := 1073873074) rfl (laneStep_keep.chain rfl .refl)))) (PortKeep.chain (Keep.port (m := 8589934592) rfl (.faults rfl .refl)) (PortKeep.chain (Keep.port (m := 1073873074) rfl (lanesOff_keep.chain rfl .refl)) (PortKeep.chain (Keep.port (m := 4294967312) rfl (cycleDom_keep.chain rfl .refl)) (setWaiken_port.chain (PortKeep.ite (raiseLoss_port.chain .refl) .refl)))))) (PortKeep.chain (Keep.port (m := 1073873074) rfl (lanesFirst_keep.chain rfl .refl)) (PortKeep.chain (Keep.port (m := 8589934592) rfl (.faults rfl .refl)) (PortKeep.chain (Keep.port (m := 1073873074) rfl (lanesOff_keep.chain rfl .refl)) (PortKeep.chain (Keep.port (m := 4294967312) rfl (cycleDom_keep.chain rfl .refl)) (setWaiken_port.chain (PortKeep.ite (raiseLoss_port.chain .refl) .refl)))))))

theorem keyRotate_port {a0 a1 s} : PortKeep a0 s (keyRotate a0 a1 s) := by
  unfold keyRotate
  exact (PortKeep.ite (answer_port.chain .refl) (PortKeep.ite (answer_port.chain .refl) (PortKeep.chain (Keep.port (m := 268435456) rfl (pinKey_keep.chain rfl .refl)) (remember_port.chain (Keep.port (m := 268435456) rfl (setPortKeys_keep.chain rfl .refl))))))

theorem execKeyRotate_port {a0 : Fin 16} {s} : PortKeepN a0 s (execKeyRotate a0 s) := by
  unfold execKeyRotate
  exact (.next (PortKeep.chain (onlyIf_port (fun _ => (PortKeep.chain (withTmm_port (fun _ _ => (keyRotate_port.chain .refl))) .refl))) .refl))

theorem runJob_port {a0 a1 f2 q s} (hf2 : ∀ v0 v1, PortKeep q v1 (f2 v0 v1).1) : PortKeep q s (runJob a0 a1 f2 s) := by
  unfold runJob
  first | (dsimp only; split) | (extract_lets; split) | split
  · exact (Keep.port (m := 1073742002) rfl (skipReserved_keep.chain rfl .refl))
  · exact (PortKeep.ite (Keep.port (m := 1073742002) rfl (skipReserved_keep.chain rfl .refl)) (PortKeep.chain (Keep.port (m := 1073742002) rfl (skipReserved_keep.chain rfl .refl)) (PortKeep.chain (Keep.port (m := 1073742002) rfl (jobEnd_keep.chain rfl .refl)) (PortKeep.ite (PortKeep.ite1 (Keep.port (m := 1073742002) rfl (jobReject_keep.chain rfl (skipReserved_keep.chain rfl .refl))) (PortKeep.chain (hf2 _ _) (Keep.port (m := 1073742002) rfl (skipReserved_keep.chain rfl .refl)))) (PortKeep.chain (Keep.port (m := 8) rfl (drawn_keep.chain rfl .refl)) (PortKeep.ite1 (Keep.port (m := 1073742002) rfl (jobReject_keep.chain rfl (skipReserved_keep.chain rfl .refl))) (PortKeep.chain (hf2 _ _) (Keep.port (m := 1073742002) rfl (skipReserved_keep.chain rfl .refl)))))))))

theorem answerTime_port {a0 a1 a2 s} : PortKeep a0 s (answerTime a0 a1 a2 s) := by
  unfold answerTime
  exact (PortKeep.ite (answer_port.chain (Keep.port (m := 2) rfl (Keep.ite (bump_keep.chain rfl .refl) .refl))) (answer_port.chain (Keep.port (m := 2) rfl (bump_keep.chain rfl (Keep.ite (bump_keep.chain rfl .refl) .refl)))))

theorem actTimeSet_port {a0 a1 a2 a3 a4 s} : PortKeep a0 s (actTimeSet a0 a1 a2 a3 a4 s) := by
  unfold actTimeSet
  split
  · exact (answerTime_port.chain .refl)
  · exact (PortKeep.ite (answerTime_port.chain (Keep.port (m := 1073807546) rfl (correct_keep.chain rfl .refl))) (answerTime_port.chain (Keep.port (m := 2) rfl (setReg64_keep.chain rfl (setReg64_keep.chain rfl .refl)))))

theorem timeSet_port {a0 a1 s} : PortKeep a0 s (timeSet a0 a1 s) := by
  unfold timeSet
  exact (PortKeep.ite (Keep.port (m := 2) rfl (bump_keep.chain rfl .refl)) (PortKeep.ite (answerTime_port.chain (Keep.port (m := 65536) rfl (dropHeldTime_keep.chain rfl .refl))) (PortKeep.ite (Keep.port (m := 65536) rfl (setTime_keep.chain rfl (dropHeldTime_keep.chain rfl .refl))) (actTimeSet_port.chain (Keep.port (m := 65536) rfl (dropHeldTime_keep.chain rfl .refl))))))

theorem execTimeSet_port {a0 : Fin 16} {s} : PortKeepN a0 s (execTimeSet a0 s) := by
  unfold execTimeSet
  exact (.next (PortKeep.chain (onlyIf_port (fun _ => (PortKeep.chain (withTmm_port (fun _ _ => (timeSet_port.chain .refl))) .refl))) .refl))

theorem heldApply_port {a0 s} : PortKeep a0 s (heldApply a0 s) := by
  unfold heldApply
  split
  · exact .refl
  · exact (PortKeep.ite .refl (actTimeSet_port.chain (Keep.port (m := 65536) rfl (dropHeldTime_keep.chain rfl .refl))))

theorem execTimeSetHeldApply_port {a0 : Fin 16} {s} : PortKeepN a0 s (execTimeSetHeldApply a0 s) := by
  unfold execTimeSetHeldApply
  exact (.next (PortKeep.chain (onlyIf_port (fun _ => (heldApply_port.chain .refl))) .refl))

theorem onBit_port {a0 a1 f2 q s} (hf2 : ∀ v0, PortKeep q v0 (f2 v0)) : PortKeep q s (onBit a0 a1 f2 s) := by
  unfold onBit
  exact (PortKeep.ite (PortKeep.chain (hf2 _) .refl) .refl)

theorem withEdge_port {a0 a1 f2 q s} (hf2 : ∀ v0, PortKeep q v0 (f2 v0)) : PortKeep q s (withEdge a0 a1 f2 s) := by
  unfold withEdge
  exact (PortKeep.ite (PortKeep.chain (Keep.port (m := 1073742002) rfl (signalSource_keep.chain rfl .refl)) (PortKeep.chain (hf2 _) .refl)) (PortKeep.chain (hf2 _) .refl))

theorem enableTrunk_port {a0 s} : PortKeep a0 s (enableTrunk a0 s) := by
  unfold enableTrunk
  exact (PortKeep.chain (Keep.port (m := 2) rfl (setBit_keep.chain rfl .refl)) (writeHalEnable_port.chain (regEnable_port.chain .refl)))

theorem keyDiscard_port {a0 s} : PortKeep a0 s (keyDiscard a0 s) := by
  unfold keyDiscard
  exact (pmDiscard_port.chain (setFramer_port.chain (Keep.port (m := 2) rfl (bump_keep.chain rfl .refl))))

end Sys2Proof.Machine
end

