-- ==== Sys2Proof/Laws/Registration.lean ====
section
/-! SUPPORT. What the handling of replies, missed grants and states leaves of a port's registration. -/
namespace Sys2Proof.Machine
open Sys2Proof

variable {s : State}

/-- r and r' differ at most in the messages that wait to be sent. -/
def sameButOut (r r' : Registration) : Prop := { r' with out := r.out, out2 := r.out2 } = r

theorem sameButOut.refl (r : Registration) : sameButOut r r := rfl

/-- The registration after, in terms of the one before. -/
theorem sameButOut.eq {r r' : Registration} (h : sameButOut r r') : r' = { r with out := r'.out, out2 := r'.out2 } := by
  unfold sameButOut at h
  rw [← h]

theorem sameButOut.trans {a b c : Registration} (h : sameButOut a b) (k : sameButOut b c) : sameButOut a c := by
  unfold sameButOut at *
  rw [← h, ← k]

/-- From s to t no port's registration changes but in the messages that wait. -/
def RegnOut (s t : State) : Prop := ∀ q, sameButOut (regnOf s q) (regnOf t q)

theorem RegnOut.refl (s : State) : RegnOut s s := fun _ => .refl _

theorem RegnOut.trans {a b c : State} (h : RegnOut a b) (k : RegnOut b c) : RegnOut a c := fun q => (h q).trans (k q)

theorem Keep.regnOut {m : Nat} {t : State} (k : Keep m s t) (h : m.testBit 10 = false) : RegnOut s t := fun q => by
  rw [k.regnOf h]; exact .refl _

theorem regnOut_setRegn (p : Nat) (a b : List TmmOut) :
    RegnOut s (setRegn p { regnOf s p with out := a, out2 := b } s) := fun q => by
  rw [regnOf_setRegn]
  split
  · subst_vars; rfl
  · exact .refl _

theorem regnOut_forAll {α : Type} {f : α → State → State} (h : ∀ x y, RegnOut y (f x y)) (l : List α) :
    RegnOut s (forAll f l s) := by
  induction l generalizing s with
  | nil => exact .refl _
  | cons x l ih => exact (h x s).trans ih

theorem regnOut_routeAway (p : Nat) (t : TmmOut) : RegnOut s (routeAway p t s) := by
  unfold routeAway
  split
  · exact queueLm_keep.regnOut rfl
  · dsimp only
    split
    · exact bump_keep.regnOut rfl
    · exact regnOut_setRegn p (regnOf s p).out _

theorem regnOut_queueTmm (p sf : Nat) (t : BitVec 384) : RegnOut s (queueTmm p t sf s) := by
  unfold queueTmm
  dsimp only
  split
  · exact regnOut_setRegn p _ (regnOf s p).out2
  · exact regnOut_routeAway p _

theorem regnOut_flushOut (p : Nat) : RegnOut s (flushOut p s) := by
  unfold flushOut
  exact (regnOut_setRegn p [] (regnOf s p).out2).trans (regnOut_forAll (fun t x => regnOut_routeAway p t) _)

theorem regnOut_returnTmms (p : Nat) (l : List TmmOut) : RegnOut s (returnTmms p l s) := by
  unfold returnTmms
  dsimp only
  split
  · exact .refl _
  · split
    · exact regnOut_setRegn p _ (regnOf s p).out2
    · exact regnOut_setRegn p (regnOf s p).out _

theorem regnOut_missGrants (p o n : Nat) (t : Int) (gs l : List Grant) : RegnOut s (missGrants p o n t gs l s) := by
  unfold missGrants
  dsimp only
  refine RegnOut.trans (RegnOut.trans (RegnOut.trans (RegnOut.trans (regnOut_forAll (fun g x => ?_) _)
    (returnFills_keep.regnOut rfl)) fun q => regnOut_returnTmms _ _ q) (bump64_keep.regnOut rfl)) (countMissed_keep.regnOut rfl)
  exact sentFills_keep.regnOut rfl

theorem regnOut_missAll (p o : Nat) : RegnOut s (missAll p o s) := by
  unfold missAll
  dsimp only
  refine RegnOut.trans (RegnOut.trans (b := setHalyard p { halyard s p with grants := [], txOpen := false } s)
    (setHalyard_keep.regnOut rfl) fun q => ?_) (dozeIn_keep.regnOut rfl)
  exact regnOut_missGrants p o _ _ _ _ q

/-- r and r' differ at most in the messages that wait and in the answers of quiet windows. -/
def sameButAnswer (r r' : Registration) : Prop := { r' with out := r.out, out2 := r.out2, qws := r.qws } = r

theorem sameButAnswer.trans {a b c : Registration} (h : sameButAnswer a b) (k : sameButAnswer b c) : sameButAnswer a c := by
  unfold sameButAnswer at *
  rw [← h, ← k]

theorem sameButOut.answer {r r' : Registration} (h : sameButOut r r') : sameButAnswer r r' := by
  unfold sameButOut sameButAnswer at *
  rw [← h]

theorem regn_missAnswer (p q : Nat) : sameButAnswer (regnOf s q) (regnOf (missAnswer p s) q) := by
  unfold missAnswer
  dsimp only
  split
  · rfl
  · rw [dozeIn_keep.regnOf rfl, bump_keep.regnOf rfl, bump64_keep.regnOf rfl, setGuard_keep.regnOf rfl, setHalyard_keep.regnOf rfl, regnOf_setRegn]
    split
    · subst_vars; rfl
    · rfl

@[simp] theorem regnOf_setPend (p q : Nat) (c o : Option EqdChange) :
    regnOf (setPend p c o s) q = if q = p then { regnOf s p with pend := c, pendOld := o } else regnOf s q := by
  unfold setPend
  simp only [setGuard_keep.regnOf rfl, regnOf_setRegn]

/-- A change of EqD that falls away leaves none pending, answered BUSY where it waited for its confirmation (R101). -/
theorem regn_dropEqd (p : Nat) : ∃ a b, regnOf (dropEqd p s) p =
    { regnOf s p with out := a, out2 := b, pend := none, pendOld := none } := by
  have e : regnOf (setPend p none none s) p = { regnOf s p with pend := none, pendOld := none } := by simp
  unfold dropEqd
  dsimp only
  split
  · exact ⟨_, _, e⟩
  · split
    · exact ⟨_, _, e⟩
    · rename_i c _ _
      have h := (regnOut_queueTmm (s := setPend p none none s) p c.sfRx (replyTo (setPend p none none s) p (changeTmm c).bits 1 []) p).eq
      rw [e] at h
      exact ⟨_, _, h⟩

@[simp] theorem regnOf_rgEvent (p q i : Nat) : regnOf (rgEvent p i s) q = regnOf s q := rgEvent_keep.regnOf rfl q

@[simp] theorem guardOf_setState (p q : Nat) (st : RegState) : guardOf (setState p st s) q = guardOf s q :=
  setState_keep.guardOf rfl q

/-- Entering a state touches the state and its timers alone (R84, R86). -/
theorem regnOf_setState (p : Nat) (st : RegState) :
    ∃ a b c : Option Nat, regnOf (setState p st s) p = { regnOf s p with state := st, annAt := a, rangeAt := b, holdAt := c } := by
  have e : ∀ (r : Registration) (now : Nat), ∃ a b c : Option Nat,
      { enterTimers r st now with state := st } = { r with state := st, annAt := a, rangeAt := b, holdAt := c } := by
    intro r now
    unfold enterTimers
    cases st <;> dsimp only <;> (repeat' split) <;> exact ⟨_, _, _, rfl⟩
  unfold setState
  dsimp only
  split
  · rename_i h; subst h; exact ⟨_, _, _, rfl⟩
  · obtain ⟨a, b, c, h⟩ := e (regnOf s p) s.uptime
    refine ⟨a, b, c, ?_⟩
    split
    · rw [cancelDark_keep.regnOf rfl, regnOf_rgEvent, regnOf_setRegn, if_pos rfl, h]
    · rw [regnOf_rgEvent, regnOf_setRegn, if_pos rfl, h]

/-- What a departure leaves of the port's registration beside the waiting messages. -/
theorem regn_leaveBehind (p : Nat) : ∃ a b c, regnOf (leaveBehind p s) p = { regnOf s p with
    out := a, out2 := b, qws := c, pend := none, pendOld := none } := by
  unfold leaveBehind
  dsimp only [openGate]
  rw [setGuard_keep.regnOf rfl, setGuard_keep.regnOf rfl, setWaiken_keep.regnOf rfl, dropHeldTime_keep.regnOf rfl, tsiPortGone_keep.regnOf rfl,
    forgetKeys_keep.regnOf rfl, unbind_keep.regnOf rfl, clearFilter_keep.regnOf rfl]
  have h := ((regnOut_missAll (s := s) p missState p).answer).trans (regn_missAnswer p p)
  obtain ⟨a, b, k⟩ := regn_dropEqd (s := missAnswer p (missAll p missState s)) p
  have f := (regnOut_flushOut (s := dropEqd p (missAnswer p (missAll p missState s))) p p).eq
  rw [k] at f
  unfold sameButAnswer at h
  rw [← h]
  exact ⟨_, _, _, f⟩

/-- A departure: the port's registration, Backstay's copy and the contexts (R87). -/
theorem leave_spec (p : Nat) (st : RegState) :
    (∃ a b c d e f, regnOf (leave p st s) p = { (regnOf s p).departed (regnOf s p).tid with
      state := st, out := a, out2 := b, qws := c, pend := none, pendOld := none, annAt := d, rangeAt := e, holdAt := f }) ∧
    (guardOf (leave p st s) p).tid = none ∧ (guardOf (leave p st s) p).eqd = none ∧
    ∀ c b, (leave p st s).contexts.look none c = some b → b.port ≠ p := by
  unfold leave
  dsimp only
  obtain ⟨a, b, c, h⟩ := regn_leaveBehind (s := s) p
  have hg : (guardOf (leaveBehind p s) p).tid = none ∧ (guardOf (leaveBehind p s) p).eqd = none := by
    unfold leaveBehind; simp [openGate]
  have hcx : ∀ c b, (leaveBehind p s).contexts.look none c = some b → b.port ≠ p := by
    intro c b
    unfold leaveBehind
    dsimp only [openGate]
    rw [(setGuard_keep.same .contexts rfl : _ = _), (setGuard_keep.same .contexts rfl : _ = _), (setWaiken_keep.same .contexts rfl : _ = _), (dropHeldTime_keep.same .contexts rfl : _ = _), (tsiPortGone_keep.same .contexts rfl : _ = _), (forgetKeys_keep.same .contexts rfl : _ = _)]
    simp only [unbind]; rw [Tab.look_adjust _ _ _ _ rfl]
    split
    · split
      · simp
      · rename_i h; rintro ⟨⟩; simpa using h
    · simp
  generalize leaveBehind p s = y at *
  generalize hx : (if (regnOf s p).tid.isSome = true then rgEvent p 5 (setRegn p ((regnOf y p).departed (regnOf s p).tid) y) else setRegn p ((regnOf y p).departed (regnOf s p).tid) y) = x
  have h1 : regnOf x p = (regnOf y p).departed (regnOf s p).tid := by subst hx; split <;> simp
  have h2 : guardOf x p = guardOf y p := by subst hx; split; rw [rgEvent_keep.guardOf rfl, setRegn_keep.guardOf rfl]; rw [setRegn_keep.guardOf rfl]
  have h3 : x.contexts = y.contexts := by
    subst hx; split
    · rw [(rgEvent_keep.same .contexts rfl : _ = _), (setRegn_keep.same .contexts rfl : _ = _)]
    · rfl
  obtain ⟨a', b', c', hs⟩ := regnOf_setState (s := x) p st
  rw [hs, h1, h]
  refine ⟨⟨a, b, c, a', b', c', rfl⟩, by rw [guardOf_setState, h2]; exact hg.1, by rw [guardOf_setState, h2]; exact hg.2, ?_⟩
  intro c b
  rw [(setState_keep.same .contexts rfl : _ = _), h3]
  exact hcx c b

/-- An answer: remembered with the TMM, and nothing else of the registration but the waiting messages (R80). -/
theorem answer_spec (p : Nat) (t : TmmIn) (st : Nat) (body : List (Nat × Nat)) :
    sameButOut { regnOf s p with remembered := (regnOf (answer p t st body s) p).remembered } (regnOf (answer p t st body s) p) ∧
    (regnOf (answer p t st body s) p).remembered.head? =
      some { type := tf t.bits 371 364, seq := tf t.bits 363 356, reply := some (replyTo s p t.bits st body), actedSf := t.sf } := by
  have h := regnOut_queueTmm (s := remember p t.bits t.sf (some (replyTo s p t.bits st body)) s) p t.sf (replyTo s p t.bits st body) p
  unfold answer
  dsimp only
  unfold sameButOut at *
  generalize queueTmm p (replyTo s p t.bits st body) t.sf _ = u at *
  have r : (regnOf u p).remembered = (regnOf (remember p t.bits t.sf (some (replyTo s p t.bits st body)) s) p).remembered := by
    rw [← h]
  refine ⟨?_, by rw [r]; simp [remember]⟩
  have e : regnOf (remember p t.bits t.sf (some (replyTo s p t.bits st body)) s) p =
      { regnOf s p with remembered := (regnOf u p).remembered } := by
    rw [r]; simp [remember]
  rw [e] at h; exact h

end Sys2Proof.Machine
end

