-- ==== Sys2Proof/WellFormed.lean ====
section
/-! DEFINITION. Which commands a sender can bring: operands in the ranges and of the sizes that the spec gives what they
stand for, where the operand's type does not already say so. -/
namespace Sys2Proof

/-- A byte address that an access path performs an access at: aligned, inside the register space (R8, R490). -/
def accessAddr (a : Word) : Bool := a.toNat % 4 == 0 && decide (a.toNat < 0x10000000)

/-- Codes of the power domains (R413). -/
def powerDomain (d : Nat) : Bool :=
  d ≤ 6 || (0x10 ≤ d && d ≤ 0x13) || (0x20 ≤ d && d ≤ 0x2F) || (0x40 ≤ d && d ≤ 0x5F)

/-- The firings of one dry-fire: three of single copies and one of all (R156). -/
def firings (l : List Firing) : Bool := l.length == 4

/-- A classifier command names one of 16 tables and brings a key of up to ten words (R276, R278). -/
def ruleCommandWf (c : RuleCommand) : Bool := c.table.toNat < 16 && c.key.length ≤ 10 && c.keyMask.length ≤ 10

/-- A downstream frame has at most 40,000 codewords of 500 symbols, and 23,400,000 data bytes, the pattern's 8 among them;
one that ends early is cut where the line went (R24, R41). Each codeword with errors is named once, in order. -/
def rxFrame (rx : RxFrame) : Bool :=
  rx.bytes.length ≤ 23399992 && rx.cwErr.all (fun x => decide (x.1 < 40000) && x.2 != 0) && decide ((rx.cwErr.map Prod.fst).Pairwise (· < ·))

/-- The command bytes of the BMC SPI target (R493). -/
def spiBytes : List Byte := [0x9F, 0x05, 0x0B, 0x02, 0x21, 0x22, 0x23, 0xA5]

/-- MOSI's bytes of an address, which come before any others. -/
def addrBytes (a r : List Byte) : Bool := a.length == 4 || (a.length ≤ 4 && r.isEmpty)

/-- The well-formed commands. -/
def Instr.wf (i : Instr) : Bool :=
  match i with
  | .registerWrite _ a _ => accessAddr a
  | .wideReadSnapshot _ a => accessAddr a
  | .wideWriteCommit _ a _ => accessAddr a
  | .connMemWrite _ a _ => accessAddr a
  | .pgMemoryWrite _ a _ => accessAddr a
  | .indEntryWrite _ a _ => accessAddr a
  | .canTblWrite a _ => accessAddr a
  | .bufLimitWrite a _ => accessAddr a
  | .waikenControlBlock _ t => t.blocks.length == 8
  | .waikenBringupStep _ _ r => r.laneIds.length == 8 && r.txSeen.length == 8
  | .dryFireStartup _ l => firings l
  | .retest _ l => firings l
  | .flexeOverheadRx _ o => o.calA.length == 80 && o.calB.length == 80
  | .ruleInsert c => ruleCommandWf c
  | .ruleDelete c => ruleCommandWf c
  | .ruleSearch c => ruleCommandWf c
  | .ruleNext c => ruleCommandWf c
  | .cellRequest ⟨_, some f⟩ => 64 ≤ f.bytes.length && f.bytes.length ≤ 16000
  | .qflush q => decide (q < 67584)
  | .powerGoodLoss d => powerDomain d.toNat
  | .coreReset c => 2 ≤ c.toNat && c.toNat ≤ 6
  | .correctableError k _ => k != 0
  | .uncorrectableError k _ _ => k != 0
  | .scrubRead k _ _ => k != 0
  | .wakeSequence (some (n, d)) => 1 ≤ n && n ≤ 8 && powerDomain d
  | .wakeStepRetry (.passes (some (n, d))) => 1 ≤ n && n ≤ 8 && powerDomain d
  | .pcieMemoryRequest q => match q.data with
    | some l => l.length == q.dwords
    | none => true
  | .spiRead a r => addrBytes a r
  | .spiWrite a r => addrBytes a r
  | .winWrite a r => addrBytes a r
  | .spiReset (.unknown b _) => !spiBytes.contains b
  | .xtAccessReject _ a n => n != 4 || a.toNat % 4 != 0 || decide (0x10000000 ≤ a.toNat)
  | .trackerCheck _ _ rx => rxFrame rx
  | .downstreamFrame _ rx => rxFrame rx
  | _ => true

end Sys2Proof
end

