-- ==== Sys2Proof/Tests/Slice0.lean ====
section
/-! SUPPORT. Tests: ill-formed commands, a few worked results of the spec, and for every statement with hypotheses a
state and operands that meet them, clause by clause. -/
namespace Sys2Proof.Tests
set_option Elab.async false
set_option maxRecDepth 4000
open Sys2Proof Sys2Proof.Machine

/-! ### Small states -/

/-- After reset, with the core domain up. -/
def up : State := { State.reset with boot := { State.reset.boot with coreUp := true } }

/-- The framer of port p enabled, beside f. -/
def port (p : Nat) (f : Framer) (s : State) : State := setFramer p f (setRegN (trkR p 0) 1 s)

/-- A frame as received: SF sf with a good HEC and the frame pattern. -/
def hdrFrame (sf : Nat) : RxFrame :=
  let h := sf * 2 ^ 77
  { pattern := framePattern, bytes := scramble (toBytes 16 (h + hec16 (bitsMsb (h / 2 ^ 16) 112))),
    cwErr := [], stamp := 7, line := 0 }
/-- The same with its HEC wrong. -/
def badFrame (sf : Nat) : RxFrame :=
  { hdrFrame sf with bytes := scramble (toBytes 16 (sf * 2 ^ 77 + (hec16 (bitsMsb (sf * 2 ^ 61) 112) + 1) % 2 ^ 16)) }

/-! ### Ill-formed commands are refused by the check -/

def rulec (t k m : Nat) : RuleCommand :=
  { table := BitVec.ofNat 5 t, count := 0, key := List.replicate k 0, keyMask := List.replicate m 0, result := 0, walk := false,
    endWalk := false, handle := 0, outAddr := 0, outTgt := false }
def found8 (r t : Nat) : TrainResult :=
  { laneIds := List.replicate r 0, inverted := 0, clockInverted := false, skewOk := true, txSeen := List.replicate t 0, txInverted := 0, caps := [] }
def firing1 : Firing := { wasHigh := true, fellInTime := true, latency := 9, seen := 7 }
def overhead (a b : Nat) : FlexeOverhead :=
  { lock := true, rpf := false, group := 0, calA := List.replicate a 0, calB := List.replicate b 0, c := false, cr := false, ca := false }

theorem test_wf_addresses :
    Instr.wf (.registerWrite .pcie 0x01000002 0) = false ∧ Instr.wf (.registerWrite .pcie 0x10000000 0) = false ∧
    Instr.wf (.registerWrite .pcie 0x0FFFFFFC 0) = true ∧ Instr.wf (.wideReadSnapshot .xt 0x01000009) = false ∧
    Instr.wf (.wideWriteCommit .bmc 0xFFFFFFFC 0) = false ∧ Instr.wf (.connMemWrite .xt 0x02440001 0) = false ∧
    Instr.wf (.pgMemoryWrite .xt 0x03000002 0) = false ∧ Instr.wf (.indEntryWrite .xt 0x03200003 0) = false ∧
    Instr.wf (.canTblWrite 0x04001001 0) = false ∧ Instr.wf (.bufLimitWrite 0x20000000 0) = false := by decide +kernel

theorem test_wf_waiken :
    Instr.wf (.waikenControlBlock 0 { blocks := List.replicate 7 0 }) = false ∧ Instr.wf (.waikenControlBlock 0 { blocks := List.replicate 8 0 }) = true ∧
    Instr.wf (.waikenBringupStep 0 .rx (found8 7 8)) = false ∧ Instr.wf (.waikenBringupStep 0 .rx (found8 8 9)) = false ∧
    Instr.wf (.waikenBringupStep 0 .rx (found8 8 8)) = true := by decide +kernel

theorem test_wf_lists :
    Instr.wf (.dryFireStartup 0 [firing1, firing1, firing1]) = false ∧ Instr.wf (.retest 0 (List.replicate 5 firing1)) = false ∧
    Instr.wf (.retest 0 (List.replicate 4 firing1)) = true ∧ Instr.wf (.flexeOverheadRx 0 (overhead 79 80)) = false ∧
    Instr.wf (.flexeOverheadRx 0 (overhead 80 81)) = false ∧ Instr.wf (.flexeOverheadRx 0 (overhead 80 80)) = true ∧
    Instr.wf (.pcieMemoryRequest { addr := 0, dwords := 2, fullEnables := true, data := some [1] }) = false ∧
    Instr.wf (.pcieMemoryRequest { addr := 0, dwords := 1, fullEnables := true, data := some [1] }) = true ∧
    Instr.wf (.downstreamFrame 0 { hdrFrame 1 with cwErr := [(0, 0)] }) = false ∧
    Instr.wf (.downstreamFrame 0 { hdrFrame 1 with cwErr := [(40000, 1)] }) = false ∧
    Instr.wf (.trackerCheck 0 0 { hdrFrame 1 with cwErr := [(1, 1), (0, 1)] }) = false ∧
    Instr.wf (.downstreamFrame 0 { hdrFrame 1 with cwErr := [(0, 1), (39999, 2)] }) = true := by decide +kernel

def cpuFrame (n : Nat) : CpuFrame := { bytes := List.replicate n 0, queue := 9, tag := none }

theorem test_wf_frames :
    Instr.wf (.cellRequest ⟨0, none⟩) = true ∧ Instr.wf (.cellRequest ⟨0, some (cpuFrame 63)⟩) = false ∧
    Instr.wf (.cellRequest ⟨0, some (cpuFrame 64)⟩) = true ∧ Instr.wf (.spiReset (.reset [])) = true ∧
    Instr.wf (.spiReset (.unknown 0x9F [])) = false ∧ Instr.wf (.spiReset (.unknown 0x77 [0])) = true ∧
    Instr.wf (.spiRead [1, 2, 3] [4]) = false ∧ Instr.wf (.spiWrite [1, 2, 3] []) = true ∧ Instr.wf (.winWrite [1, 2, 3, 4, 5] []) = false ∧
    Instr.wf (.wakeStepRetry (.passes (some (9, 0)))) = false ∧ Instr.wf (.wakeStepRetry (.passes (some (7, 0x5F)))) = true := by decide +kernel

theorem test_wf_rules :
    Instr.wf (.ruleInsert (rulec 16 10 10)) = false ∧ Instr.wf (.ruleDelete (rulec 0 11 10)) = false ∧
    Instr.wf (.ruleSearch (rulec 0 10 11)) = false ∧ Instr.wf (.ruleNext (rulec 31 0 0)) = false ∧
    Instr.wf (.ruleInsert (rulec 15 10 10)) = true := by decide +kernel

theorem test_wf_codes :
    Instr.wf (.qflush 67584) = false ∧ Instr.wf (.qflush 67583) = true ∧ Instr.wf (.powerGoodLoss 0x07) = false ∧
    Instr.wf (.powerGoodLoss 0x5F) = true ∧ Instr.wf (.coreReset 1) = false ∧ Instr.wf (.coreReset 7) = false ∧ Instr.wf (.coreReset 6) = true ∧
    Instr.wf (.correctableError 0 0) = false ∧ Instr.wf (.uncorrectableError 0 0 false) = false ∧ Instr.wf (.scrubRead 0 0 false) = false ∧
    Instr.wf (.wakeSequence (some (9, 0))) = false ∧ Instr.wf (.wakeSequence (some (0, 0))) = false ∧
    Instr.wf (.wakeSequence (some (3, 0x60))) = false ∧ Instr.wf (.wakeSequence none) = true ∧
    Instr.wf (.xtAccessReject false 0x01000000 4) = false ∧ Instr.wf (.xtAccessReject false 0x01000002 4) = true := by decide +kernel

/-! ### Ch. 02 -/

theorem witness_FramerControls : coreOn up = true ∧ framerOn (port 3 {} up) 3 = true ∧ framerOn up 3 = false ∧
    bitAt up (trkR 3 0) 0 ≠ true ∧ portDark up 3 = false ∧ bitAt (port 3 {} up) (trkR 3 0) 0 ≠ false ∧
    bitAt up (trkR 3 0) 0 = false ∧ (((BitVec.ofNat 32 (2 ^ 31 + 4095)).getLsbD 31 = true) ∧ (BitVec.ofNat 32 (2 ^ 31 + 4095)).toNat % 4096 = 4095) ∧
    ¬((BitVec.ofNat 32 (2 ^ 31 + 4094)).getLsbD 31 = true ∧ (BitVec.ofNat 32 (2 ^ 31 + 4094)).toNat % 4096 = 4095) ∧
    (selectedBin (pmStore up 0) 0).isSome = true ∧ (selectedBin (pmStore up 0) 1).isSome = false := by decide +kernel

/-- A locked port in the last frame of a window of the signal-degrade metric. -/
def sdPort (ov un metric : Nat) : State :=
  port 0 { locked := true, e := 5, sdFrames := 8, sdOver := ov, sdUnder := un, sdMetric := metric } up
def sdFull (s : State) : Bool := (framer s 0).locked && (framer s 0).sdFrames == 8
/-- Port 3 with its framer on and its nine receive lanes active. -/
def lanesOn : State :=
  { port 3 { raw := 2 } up with lanes := (setLanes 3).foldl (fun t l => t.put l { rx := 5 }) [] }

theorem witness_FramerDefects : framerOn (port 15 { raw := 3 } up) 15 = true ∧
    (framer (port 0 { delin := .sync } up) 0).delin = .sync ∧ (framer (port 0 {} up) 0).delin ≠ .sync ∧
    2 ≤ (framer (port 0 { keyfRun := 2 } up) 0).keyfRun ∧
    ((framer (port 0 { keyfClean := 8 } up) 0).keyfRun < 2 ∧ 8 ≤ (framer (port 0 { keyfClean := 8 } up) 0).keyfClean) ∧
    ((framer (port 0 {} up) 0).keyfRun < 2 ∧ (framer (port 0 {} up) 0).keyfClean < 8) ∧
    sdFull (port 0 {} up) = false ∧ sdFull (sdPort 2 0 1) = true ∧
    regN (sdPort 2 0 (2 ^ 33)) (trkR 0 0x20) < (framer (sdPort 2 0 (2 ^ 33)) 0).sdMetric ∧ 3 ≤ (framer (sdPort 2 0 (2 ^ 33)) 0).sdOver + 1 ∧
    (framer (sdPort 0 9 0) 0).sdMetric < regN (setRegN (trkR 0 0x24) 1 (sdPort 0 9 0)) (trkR 0 0x24) ∧
    (framer (sdPort 0 9 0) 0).sdUnder + 1 = 10 ∧ rxLanesActive lanesOn 3 = true ∧ framerOn lanesOn 3 = true ∧
    rxLanesActive (port 3 {} up) 3 = false := by decide +kernel

/-- A locked port that expects frame 41. -/
def locked (f : Framer) : State := port 0 { f with locked := true, e := 40, lastSf := some 40 } up
def found (s : State) (rx : RxFrame) : Bool := decide (mismatches rx.pattern framePattern ≤ lockTol s 0)

theorem witness_FramerAlignment :
    framerOn (port 0 {} up) 0 = true ∧ mismatches framePattern framePattern ≤ huntTol up 0 ∧
    huntTol up 0 < mismatches 0 framePattern ∧
    ((List.range 4).find? fun k => ((framer (port 0 {} up) 0).trackers.look none k).isNone) = some 0 ∧
    ((List.range 4).find? fun k => ((framer (port 0 { trackers := (List.range 4).map fun k => (k, some ⟨k, 0⟩) } up) 0).trackers.look
      none k).isNone) = none ∧
    (framer (port 0 { trackers := [(3, some ⟨5, 2⟩)] } up) 0).trackers.look none 3 = some ⟨5, 2⟩ ∧
    (framer (port 0 { trackers := [(3, some ⟨5, 1⟩)] } up) 0).trackers.look none 3 = some ⟨5, 1⟩ ∧
    headerGood (headerOf (plainOf (hdrFrame 41))) = true ∧ headerGood (headerOf (plainOf (badFrame 41))) = false ∧
    bits (headerOf (plainOf (hdrFrame 41))) 127 77 = 41 ∧
    found (locked {}) (hdrFrame 41) = true ∧ found (locked {}) { hdrFrame 41 with pattern := 0 } = false ∧
    (framer (locked { missRun := 2 }) 0).missRun < 3 ∧ 3 ≤ (framer (locked { missRun := 3 }) 0).missRun ∧
    (framer (locked {}) 0).raw.getLsbD bitLosf = false ∧ bits (headerOf (plainOf (hdrFrame 43))) 127 77 ≠ (framer (locked {}) 0).e + 1 ∧
    (framer (locked { raw := 8, clrLen := 2, clrNext := 41 }) 0).raw.getLsbD bitLosf = true ∧
    (framer (locked { raw := 8 }) 0).clrLen < 2 := by decide +kernel

/-- A port with one bin ended and not closed, and a run of SES in progress; ten seconds of uptime have passed, in the first
quarter-hour. -/
def pmPort : State :=
  setPmStore 0 { end15 := [{}], end24 := [{}], sesRun := List.replicate 8 { es := true } } { up with uptime := 250000000 }
/-- The same after a day. -/
def nextDay : State := { pmPort with uptime := 25000000 * 86400 }

theorem witness_PerformanceBins : coreOn pmPort = true ∧ portDark (setRegN 0x00200014 1 up) 0 = true ∧
    portDark pmPort 0 = false ∧ (pmStore pmPort 0).uaTime = false ∧ (pmStore pmPort 0).sesRun.length < 9 ∧
    (pmStore pmPort 0).end15.getLast? = some {} ∧ (pmStore pmPort 0).end24.getLast? = some {} ∧
    ({} : PmBin).endUp + 250000000 ≤ pmPort.uptime ∧ up.uptime < ({} : PmBin).endUp + 250000000 ∧
    (pmStore up 0).end15 = [] ∧ (pmStore up 0).end24 = [] ∧ secondNo pmPort ≠ (pmStore pmPort 0).secNo ∧
    (pmStore pmPort 0).secWhole = true ∧ secondNo up = (pmStore up 0).secNo ∧
    (pmStore (setPmStore 0 { secWhole := false } pmPort) 0).secWhole = false ∧
    binNo true nextDay ≠ (pmStore nextDay 0).no24 ∧ binNo false nextDay ≠ (pmStore nextDay 0).no15 ∧
    binNo true pmPort = (pmStore pmPort 0).no24 ∧ binNo false pmPort = (pmStore pmPort 0).no15 := by decide +kernel

/-! ### Ch. 03 -/

/-- A TMM for ID 1 that came in frame 40, by TYPE and body fields. -/
def tmm (type : Nat) (body : List (Nat × Nat)) : TmmIn := { bits := mkTmm 1 type 9 0 body, sf := 40, lookout := false }
/-- Port 0 with t at the head of its queue, and registration r. -/
def got (t : TmmIn) (r : Registration) : State :=
  setRegn 0 r (port 0 { locked := true, e := 40, lastSf := some 40, queue := [t] } up)
/-- Registered in a state with TID 1. -/
def regd (st : RegState) : Registration := { state := st, ret := .range, version := 3, tid := some 1, eqd := 1000 }
/-- An EqD change to 900 in frame 50 that waits for its confirmation. -/
def eqdChange : EqdChange :=
  { eqd := 900, sfEff := 50, done := true, confirmed := false, seq := 9, idField := 1, sfRx := 40, lookout := false }
def early : List RegState := [.announce, .range, .operate, .silent]

theorem tmmDue_of {s : State} {type : Nat} {t : TmmIn}
    (h : ((framer s 0).queue == [t] && tf t.bits 371 364 == type && knownType s 0 type && !notDevice s 0 t.bits &&
      (rememberedOf s 0 t.bits t.sf).isNone && !awaitsConfirm s 0) = true) : TmmDue s 0 type t [] := by
  simp only [Bool.and_eq_true, beq_iff_eq, Bool.not_eq_true', Option.isNone_iff_eq_none] at h
  exact ⟨h.1.1.1.1.1, h.1.1.1.1.2, h.1.1.1.2, h.1.1.2, h.1.2, h.2⟩

theorem witness_TmmAdmission : TmmCommand 0 (.echo 0) 0x12 ∧ TmmCommand 0 (.versionOffer 0) 0x03 ∧
    (tf (tmm 0x12 []).bits 371 364 = 0x12 ∧ knownType (got (tmm 0x12 []) (regd .operate)) 0 0x12 = true) ∧
    knownType (got (tmm 0x0D []) { regd .operate with version := 2 }) 0 0x0D = false ∧
    notDevice (got (tmm 0x08 []) {}) 0 (mkTmm 4095 8 9 0 []) = true ∧
    notDevice (got (tmm 0x12 []) (regd .operate)) 0 (tmm 0x12 []).bits = false ∧
    rememberedOf (got (tmm 0x12 []) { regd .operate with remembered := [⟨0x12, 9, none, 40⟩] }) 0 (tmm 0x12 []).bits 40 ≠ none ∧
    knownType up 0 (tf (tmm 0x77 []).bits 371 364) = false ∧ awaitsConfirm up 0 = false ∧
    awaitsConfirm (got (tmm 0x12 []) { regd .range with pend := some eqdChange }) 0 = true ∧
    notDevice (got (tmm 0x77 []) {}) 0 (mkTmm 4095 0x77 9 0 []) = true :=
  ⟨by unfold TmmCommand; decide, by unfold TmmCommand; decide, by decide +kernel, by decide +kernel, by decide +kernel,
    by decide +kernel, by decide +kernel, by decide +kernel, by decide +kernel, by decide +kernel, by decide +kernel⟩

/-- An ASSIGN_ID with this ID for a port that has accepted a version. -/
def assign (id : Nat) : State := got (tmm 0x05 [(271, id)]) { state := .announce, version := 3 }
/-- A GRANT_PROFILE with ACTION and ALLOC 7. -/
def profile (action : Nat) : TmmIn := tmm 0x0A [(350, action), (338, 7)]
def bound (s : State) : State := { s with contexts := [(9, some { port := 0, alloc := 7, rpt := 0, rigid := false })] }
/-- Every context from c on for n, bound for another port. -/
def others (c : Nat) : Nat → Tab (Option Binding)
  | 0 => []
  | n + 1 => (c, some { port := 1, alloc := c, rpt := 0, rigid := false }) :: others (c + 1) n
def full (s : State) : State := { s with contexts := others 0 4096 }
theorem look_others (n c k : Nat) (h : c ≤ k) (h2 : k < c + n) : ((others c n).look none k).isNone = false := by
  induction n generalizing c with
  | zero => omega
  | succ n ih =>
    simp only [others, Tab.look, if_neg (Nat.not_lt.2 h)]
    split
    · rfl
    · exact ih (c + 1) (by omega) (by omega)
theorem chooseCtx_full (s : State) (h : homed (full s) = []) : chooseCtx (full s) 0 0 = none := by
  simp only [chooseCtx, h, List.find?_nil, List.find?_eq_none, upTo, List.mem_range]
  intro k hk
  have : ctxFree (full s) k = false := look_others 4096 0 k (by omega) (by omega)
  simp [this]

theorem witness_DiscoveryTmms :
    TmmDue (got (tmm 0x03 []) { state := .announce }) 0 0x03 (tmm 0x03 []) [] ∧
    TmmDue (assign 4093) 0 0x05 (tmm 0x05 [(271, 4093)]) [] ∧ TmmDue (assign 4094) 0 0x05 (tmm 0x05 [(271, 4094)]) [] ∧
    TmmDue (got (profile 0) (regd .range)) 0 0x0A (profile 0) [] ∧ TmmDue (got (profile 3) (regd .operate)) 0 0x0A (profile 3) [] ∧
    TmmDue (got (tmm 0x12 []) (regd .silent)) 0 0x12 (tmm 0x12 []) [] := by
  refine ⟨tmmDue_of ?_, tmmDue_of ?_, tmmDue_of ?_, tmmDue_of ?_, tmmDue_of ?_,
    tmmDue_of ?_⟩ <;> decide +kernel

theorem witness_DiscoveryTmms_clauses :
    (regnOf (assign 4093) 0).state = .announce ∧ (regnOf (assign 4093) 0).version ≠ 0 ∧ (regnOf (assign 4093) 0).tid = none ∧
    (tmm 0x05 [(271, 4093)]).bits.getLsbD 287 = false ∧ tf (tmm 0x05 [(271, 4093)]).bits 282 271 = 4093 ∧
    tf (tmm 0x05 [(271, 4094)]).bits 282 271 = 4094 ∧ (chooseCtx (assign 4093) 0 0).isSome = true ∧
    homed (full (assign 4093)) = [] ∧ inService (got (profile 0) (regd .range)) 0 = true ∧
    findCtx (got (profile 0) (regd .range)) 0 7 = none ∧ (findCtx (bound (got (profile 2) (regd .range))) 0 7).isSome = true ∧
    tf (profile 0).bits 351 350 = 0 ∧ tf (profile 1).bits 351 350 = 1 ∧ tf (profile 2).bits 351 350 = 2 ∧
    tf (profile 3).bits 351 350 = 3 ∧ tf (profile 1).bits 349 338 = 7 ∧ (profile 2).bits.getLsbD 329 = false ∧
    (let h := tmm 0x01 []; tf h.bits 371 364 = 1 ∧ notDevice (got h { state := .listen }) 0 h.bits = false ∧
      h.bits.getLsbD 251 = false ∧ h.bits.getLsbD 250 = false ∧ (tmm 0x01 [(251, 1)]).bits.getLsbD 251 = true) := by decide +kernel

theorem witness_RegistrationEnds :
    (∀ st ∈ early ++ [.hold], TmmDue (got (tmm 0x10 []) (regd st)) 0 0x10 (tmm 0x10 []) []) ∧
    (∀ st ∈ early, TmmDue (got (tmm 0x0E []) (regd st)) 0 0x0E (tmm 0x0E []) [] ∧ silenceOk (got (tmm 0x0E []) (regd st)) 0 = true) ∧
    TmmDue (got (tmm 0x0F [(350, 1)]) (regd .silent)) 0 0x0F (tmm 0x0F [(350, 1)]) [] ∧
    TmmDue (got { tmm 0x0F [(350, 1)] with mayClear := true } (regd .silent)) 0 0x0F { tmm 0x0F [(350, 1)] with mayClear := true } [] := by
  refine ⟨?_, ?_, tmmDue_of (by decide +kernel), tmmDue_of (by decide +kernel)⟩
  · simp only [early, List.cons_append, List.nil_append, List.forall_mem_cons, List.not_mem_nil, false_imp_iff, implies_true, and_true]
    refine ⟨?_, ?_, ?_, ?_, ?_⟩ <;> exact tmmDue_of (by decide +kernel)
  · simp only [early, List.forall_mem_cons, List.not_mem_nil, false_imp_iff, implies_true, and_true]
    refine ⟨⟨tmmDue_of ?_, ?_⟩, ⟨tmmDue_of ?_, ?_⟩, ⟨tmmDue_of ?_, ?_⟩, ⟨tmmDue_of ?_, ?_⟩⟩ <;>
      decide +kernel

/-- Port 0 with registration r, at uptime 2^40, a hundred frames after the framer's frame 40. -/
def later (r : Registration) : State :=
  { got (tmm 0x12 []) r with uptime := 2 ^ 40, time := { frc := 10 ^ 9 } }

theorem witness_RegistrationEnds_clauses :
    (regnOf (later { releaseAt := some 47 }) 0).releaseAt = some 47 ∧ upStart (later {}) 0 50 0 ≤ lineNow (later {}) 0 ∧
    lineNow (got (tmm 0x12 []) {}) 0 < upStart (got (tmm 0x12 []) {}) 0 50 0 ∧
    portDark (later {}) 0 = false ∧ expired (later { annAt := some 0 }) (some 0) (trkR 0 0x418) = true ∧
    expired (later { rangeAt := some 0 }) (some 0) (trkR 0 0x41C) = true ∧ expired (later { holdAt := some 0 }) (some 0) (trkR 0 0x420) = true ∧
    expired up none (trkR 0 0x418) = false ∧ silenceOver (later { state := .silent, silence := some ⟨0, false, 0⟩ }) 0 = true ∧
    silenceOver (later { state := .silent, silence := some ⟨1, false, 0⟩ }) 0 = false ∧ muzzled up 0 = false ∧
    muzzled (setBit (bksR 0 4) 31 true up) 0 = true ∧ (tmm 0x0F [(350, 1)]).bits.getLsbD 350 = true ∧
    (tmm 0x0F [(350, 1)]).mayClear = false ∧ ({ tmm 0x0F [(350, 1)] with mayClear := true } : TmmIn).mayClear = true ∧ (tmm 0x0F [(351, 1)]).bits.getLsbD 350 = false ∧ (tmm 0x0F [(351, 1)]).bits.getLsbD 351 = true := by
  decide +kernel

def rset (sf : Nat) : TmmIn := tmm 0x06 [(320, 900), (269, sf), (268, 1)]

theorem witness_RangingCommands :
    TmmDue (got (rset 42) (regd .range)) 0 0x06 (rset 42) [] ∧ TmmDue (got (rset 41) (regd .operate)) 0 0x06 (rset 41) [] ∧
    TmmDue (got (tmm 0x07 [(301, 42)]) (regd .range)) 0 0x07 (tmm 0x07 [(301, 42)]) [] := by
  refine ⟨tmmDue_of ?_, tmmDue_of ?_, tmmDue_of ?_⟩ <;> decide +kernel

theorem witness_RangingCommands_clauses :
    ranging (got (rset 42) (regd .range)) 0 = true ∧ (regnOf (got (rset 42) (regd .range)) 0).pend = none ∧
    frameInReach true (got (rset 42) (regd .range)) 0 (rset 42) 42 = true ∧ frameInReach true (got (rset 41) (regd .range)) 0 (rset 41) 41 = false ∧
    tf (rset 42).bits 319 269 = 42 ∧ tf (rset 42).bits 351 320 = 900 ∧ halEqd (got (rset 42) (regd .range)) 0 42 = 1000 ∧
    (rset 42).bits.getLsbD 268 = true ∧ (rset 42).bits.getLsbD 267 = false ∧ eqdChange.confirmed = false ∧
    upStart (later {}) 0 eqdChange.sfEff eqdChange.eqd ≤ lineNow (later {}) 0 + 1000 ∧
    lineNow (got (rset 42) (regd .range)) 0 + 1000 < upStart (got (rset 42) (regd .range)) 0 eqdChange.sfEff eqdChange.eqd ∧
    (let s := got (rset 42) { regd .range with pend := some { eqdChange with confirmed := true } }
     awaitsConfirm s 0 = false ∧ 42 ≤ eqdChange.sfEff ∧ frameInReach true s 0 (rset 42) 42 = true) ∧ ¬ (51 ≤ eqdChange.sfEff) ∧ tf (tmm 0x07 [(301, 42)]).bits 351 301 = 42 ∧
    frameInReach true (got (rset 42) (regd .range)) 0 (tmm 0x07 [(301, 8041)]) 8041 = false := by decide +kernel

/-- Instance 0 with a request of this code at the head of the queue. -/
def asked (code : Nat) : State := { setRegN (xtR 0 0x1000) (2 ^ 24 + code) up with xt := { requests := [0] } }

theorem witness_MailboxReplies : PlainMailbox 0 (.mbHello 0) 0x01 ∧ PlainMailbox 1 (.reefSet 1) 0x80 ∧
    (asked 0x01).xt.requests = [0] ∧ (requestOf (asked 0x01) 0).code = 0x01 ∧ (requestOf (asked 0x80) 0).code ≠ 0x01 ∧
    reefHolds (asked 0x01) = false ∧ reefHolds { asked 0x01 with reef := { phase := .commit } } = true :=
  ⟨by unfold PlainMailbox; decide, by unfold PlainMailbox; decide, rfl, by decide +kernel, by decide +kernel, by decide +kernel,
    by decide +kernel⟩

/-- An LM to DEVID d for port 3, with its CRC, and one with a wrong CRC. -/
def lmTo (d : Nat) : BitVec 512 :=
  let l := toBytes 8 d ++ toBytes 4 (3 * 2 ^ 28) ++ toBytes 48 (tmm 0x12 []).bits.toNat
  BitVec.ofNat 512 (ofBytes (l ++ toBytes 4 (crc32 l)))
/-- Lookout receivers and transmitters enabled with their lanes up, an LM queued on port 0 since instant 0. -/
def lkoUpState : State :=
  setLookout 0 { queue := [lmTo 0], delayFrom := some 0, delayUs := 5 }
    (setRegN (laneR 272 0) 1 (setReg64 0x10008 0 (setRegN 0x01300004 3 (setRegN 0x01300000 0x33 up))))
def tl : TimedLm := { port := 3, probe := true, base := 20481, k := 0, tmm := 0 }
def atTime (n : Nat) (s : State) : State := { s with time := { s.time with frc := n }, drift := (upTo 16).map fun p => (p, n) }

theorem witness_LookoutCommands : lkoHears lkoUpState 0 = true ∧ lkoHears up 0 = false ∧ lkoUpState.reef.level ≠ 3 ∧
    lmGood (lmTo 0) = true ∧ lmGood (lmTo 0 + 1) = false ∧ namesUs lkoUpState (lmDev (lmTo 0)) = true ∧
    namesUs lkoUpState (lmDev (lmTo 77)) = false ∧ lmCopy lkoUpState 0 (lmTo 0) = false ∧
    lmCopy (setLookout 1 { recent := [(lmTo 0, 0)] } lkoUpState) 0 (lmTo 0) = true ∧ lmAllp (lmTo 0) = false ∧
    keyedUntil lkoUpState 0 ≤ nowOf lkoUpState ∧ lmPort (lmTo 0) = 3 ∧ tmmOurs lkoUpState 3 (lmTmm (lmTo 0)) = false ∧
    tmmOurs (setRegN (trkR 3 0x40) (2 ^ 31 + 1) lkoUpState) 3 (lmTmm (lmTo 0)) = true ∧
    nowOf lkoUpState < 0 + 80000 * (lookout lkoUpState 0).delayUs ∧
    0 + 80000 * (lookout lkoUpState 0).delayUs ≤ nowOf (atTime 400000 lkoUpState) ∧ mayKey lkoUpState 0 = true ∧ mayKey up 0 = false ∧
    inTheWay (atTime 400000 lkoUpState) 400000 = none ∧ earliest [tl] = some tl ∧ nowOf up + keyLead < timedAt tl ∧
    timedAt tl ≤ nowOf (atTime 1 up) + keyLead ∧
    (let s := setRegn 0 { version := 3, out := [⟨0, 40⟩] } (later {})
     (regnOf s 0).out.find? (fun x => upStart s 0 (x.sf + 10) (halEqd s 0 (x.sf + 10)) ≤ lineNow s 0) = some ⟨0, 40⟩ ∧ speaksLookout s 0 = true) ∧
    lineNow (got (tmm 0 []) {}) 0 < upStart (got (tmm 0 []) {}) 0 51 0 := by decide +kernel

/-! ### Ch. 04 -/

/-- A grant-map entry for ID 1, ALLOC 7, of LEN slots from START. -/
def entry (start len : Nat) : Nat := 1 * 2 ^ 52 + 7 * 2 ^ 40 + start * 2 ^ 25 + len * 2 ^ 10
/-- A map of these entries, with its CRC. -/
def mapOf (l : List Nat) : List Byte := let b := l.flatMap (toBytes 8); b ++ toBytes 4 (crc32 b)
/-- Port 0 enabled and in service with ALLOC 7 bound to context 9, and this map waiting. -/
def mapped (b : Option (List Byte)) (gs : List Grant) : State :=
  setHalyard 0 { maps := [{ sf := 100, bytes := b }], grants := gs }
    (setRegN (halR 0 0) 1 (bound (setRegn 0 { regd .operate with ranged := true } up)))
def gr (start len : Nat) : Grant := grantOf 102 (entry start len)

theorem witness_GrantMaps : (halyard up 0).maps = [] ∧ bitAt up (halR 0 0) 0 = false ∧ bitAt (mapped none []) (halR 0 0) 0 = true ∧
    mapGood (mapOf [entry 0 4]) = true ∧ mapGood [0, 0, 0, 0, 0] = false ∧ goodEntries (mapOf []) = [] ∧
    goodEntries (mapOf [entry 19996 4]) = [entry 19996 4] ∧ (regnOf (mapped none []) 0).tid = some (bits (entry 19996 4) 63 52) ∧
    failsCheck (mapped none []) 0 (entry 19996 4) (gr 19996 4) = none ∧ failsCheck (mapped none []) 0 (entry 19997 4) (gr 19997 4) = some 0x128 ∧
    failsCheck (mapped none []) 0 (entry 0 3) (gr 0 3) = some 0x128 ∧ stopped (mapped none []) 0 = false ∧
    [gr 100 10].any (overlaps (gr 109 4)) = true ∧ [gr 100 10].any (overlaps (gr 1000 4)) = false ∧
    (∀ g ∈ [{ gr 0 4 with committed := true }], g.committed = true) ∧
    ([{ gr 0 4 with cont := true }].find? fun g => !g.committed) = some { gr 0 4 with cont := true } ∧ (gr 0 4).cont = false ∧
    findCtx (mapped none []) 0 7 ≠ none ∧ findCtx up 0 (gr 0 4).alloc = none := by decide +kernel

/-- Port 0 with these grants at Halyard. -/
def holding (gs : List Grant) (tx : Bool) : State := setHalyard 0 { grants := gs, txOpen := tx } up
def fillOf (b : Option (List Byte)) : Fill :=
  { frame := 0, queue := 0, rigid := false, dtid := 0, stream := 0, mgmt := false, plain := [], sealed := b, dropped := false }
def sent (b : Option (List Byte)) : Grant := { gr 0 4 with committed := true, launched := true, fill := [fillOf b] }
def allActive : State := (upTo 8).foldl (fun s i => { s with lanes := s.lanes.put (128 + i) { tx := 5 } }) (setWaiken 0 { txReady := true } up)

theorem witness_Bursts : (regnOf up 0).qws = [] ∧ ([sent none].find? fun g => !g.cont && !g.launched) = none ∧
    ([gr 0 4].find? fun g => !g.cont && !g.launched) = some (gr 0 4) ∧ (gr 0 4).committed = false ∧ (halyard (holding [] true) 0).txOpen = true ∧
    ({ gr 0 4 with committed := true }).committed = true ∧ (halyard (holding [] false) 0).txOpen = false ∧
    ([sent none].find? fun g => !g.cont && g.launched) = some (sent none) ∧
    (sent none).fill.any (fun f => f.sealed.isNone) = true ∧ (sent (some [])).fill.any (fun f => f.sealed.isNone) = false ∧
    ([sent none].find? fun g => g.committed && g.fill.any fun f => f.sealed.isNone) = some (sent none) ∧
    ([sent (some [])].find? fun g => g.committed && g.fill.any fun f => f.sealed.isNone) = none ∧
    dataLanesActive allActive 0 = true ∧ dataLanesActive up 0 = false := by decide +kernel

theorem witness_HalyardControls : (halyard up 0).dozing = false ∧ (halyard (setHalyard 0 { dozing := true } up) 0).dozing = true ∧
    findCtx up 0 4095 = none ∧ findCtx (mapped none []) 0 7 = some (9, { port := 0, alloc := 7, rpt := 0, rigid := false }) := by
  decide +kernel

/-! ### Ch. 05 -/

/-- Port 0 with timing in frame 100, the guard armed for it with TID 1 and EqD 0. -/
def guarded (g : Guard) (n : Nat) : State :=
  atTime n (setGuard 0 { g with tid := some 1, eqd := some 0 } (port 0 { locked := true, e := 100, rxAt := 0 } up))
def gmap (b : Option (List Byte)) : Guard := { maps := [{ sf := 100, bytes := b }] }
def win : Window := { sf := 100, first := -2, last := 10, pre := none }

theorem witness_GuardWindows : (guardOf up 0).maps = [] ∧ (guardOf (guarded (gmap none) 0) 0).maps ≠ [] ∧
    mapGood (mapOf [entry 19996 4]) = true ∧ rangeOk (entry 19996 4) = true ∧ rangeOk (entry 0 4) = true ∧ rangeOk (entry 0 3) = false ∧
    (guardOf (guarded { gateClosed := true } 0) 0).gateClosed = true ∧ hasTiming up 0 = false ∧ hasTiming (guarded {} 0) 0 = true ∧
    (guardOf (guarded {} 0) 0).gateClosed = false ∧ (lineNow (guarded { windows := [win] } 0) 0 : Int) ≤ windowTo (guarded { windows := [win] } 0) 0 win + 80000000 ∧
    102 ∉ (guardOf (guarded {} 0) 0).closed ∧ (guardOf (guarded {} 0) 0).tid = some (bits (entry 0 4) 63 52) ∧
    (guardOf (guarded { closed := [100] } 5) 0).closed.contains (upFrameAt (guarded { closed := [100] } 5) 0 5) = true ∧
    (guardOf (guarded {} 5) 0).closed.contains (upFrameAt (guarded {} 5) 0 5) = false ∧ (guardOf up 0).answers = [] ∧
    answerOver (guarded {} 9968000) 0 9968000 (101, 0) = false ∧ answerBegun (guarded {} 9968000) 0 9968000 (101, 0) = true ∧
    answerBegun (guarded {} 9967999) 0 9967999 (101, 0) = false ∧ answerOver (guarded {} 20000000) 0 20000000 (101, 0) = true ∧
    upStart (guarded {} 9968000) 0 101 0 ≤ lineNow (guarded {} 9968000) 0 + 32000 ∧
    lineNow (guarded {} 9967999) 0 + 32000 < upStart (guarded {} 9967999) 0 101 0 ∧
    lineNow (guarded {} 19999999) 0 < upStart (guarded {} 0) 0 101 0 + 10000000 ∧
    upStart (guarded {} 20000000) 0 101 0 + 10000000 ≤ lineNow (guarded {} 20000000) 0 := by decide +kernel

/-- The same with TXDIS_N released: the port's transmit enable and TEST_PASSED set. -/
def released (g : Guard) (n : Nat) : State :=
  setRegN (bksR 0 4) (2 ^ 25 + 7 * 2 ^ 20) (setRegN (bksR 0 0) 1 (guarded g n))
def muz (s : State) : State := setBit (bksR 0 4) 31 true s

theorem witness_CutOff : txReleased up 0 = false ∧ txReleased (released {} 0) 0 = true ∧ legalAt (released {} 0) 0 0 = false ∧
    legalAt (released { windows := [win] } 0) 0 0 = true ∧ voterCuts (released {} 0) 0 3 = true ∧ voterCuts (released {} 0) 0 4 = false ∧
    muzzled (muz up) 0 = true ∧ muzzled up 0 = false ∧ 24999999 < (guardOf up 0).alertAt + 25000000 ∧
    (guardOf up 0).alertAt + 25000000 ≤ ({ up with uptime := 25000000 } : State).uptime ∧
    bitAt (setRegN 0x01300000 0x10 up) 0x01300000 4 = true ∧ (bitAt up 0x01300000 4 = false ∧ bitAt up 0x01300000 5 = false) ∧
    speaksLookout up 0 = false ∧ hasTiming (muz (guarded {} 0)) 0 = true ∧ muzzled (muz (guarded {} 0)) 0 = true ∧
    upFrameAt (guarded { cleanFrom := 100 } 0) 0 0 ≤ (guardOf (guarded { cleanFrom := 100 } 0) 0).cleanFrom ∧
    ¬ upFrameAt (guarded { cleanFrom := 99 } 0) 0 0 ≤ (guardOf (guarded { cleanFrom := 99 } 0) 0).cleanFrom ∧ (guardOf up 0).gateDue = false ∧ (guardOf (guarded { gateDue := true } 0) 0).gateDue = true := by
  decide +kernel

/-- A sequence of the PCIe path for port q since uptime 0. -/
def unlocking (q : Nat) (n : Nat) (s : State) : State :=
  { setPath .pcie { unlock := some (q, 0) } s with uptime := n }

theorem witness_HostUnlock : (pathOf up .pcie).unlock = none ∧ (pathOf (unlocking 0 25000 up) .pcie).unlock = some (0, 0) ∧
    (unlocking 0 25000 up).uptime ≤ 0 + 25000 ∧ 0 + 25000 < (unlocking 0 25001 up).uptime ∧ guardFault up 0 = false ∧
    guardFault (setBit (bksR 0 4) 27 true up) 0 = true ∧ (regnOf (setRegn 0 (regd .silent) up) 0).state = .silent ∧
    (regd .silent).silence = none ∧ bits (0x5EA10003 : Word).toNat 3 0 = 3 ∧ bits (0x5EA10003 : Word).toNat 31 16 = 0x5EA1 ∧
    bits (0xA15E0003 : Word).toNat 31 16 = 0xA15E ∧ bits (0x00000003 : Word).toNat 31 16 ≠ 0x5EA1 := by decide +kernel

def shot : Firing := { wasHigh := true, fellInTime := true, latency := 3, seen := 7 }

theorem witness_DryFires : txReleased up 0 = false ∧ (laneOf ({ up with lanes := [(256, { tx := 5 })] } : State) 256).tx = 5 ∧ shot.wasHigh = true ∧
    shot.fellInTime = true ∧ shot.seen = 7 ∧ ({ shot with fellInTime := false }).fellInTime = false ∧ ({ shot with wasHigh := false }).wasHigh = false ∧
    (let s := { released {} 5 with framers := (guarded {} 5).framers.put 0 { framer (guarded {} 5) 0 with e := 1000 } }
     txReleased s 0 = true ∧ upFrameAt s 0 (lineNow s 0) % 1000 = 0 ∧ inGap s 0 (lineNow s 0) = false ∧ freeSlot s 0 1000 ≠ none ∧
       freeSlot (setGuard 0 { windows := [{ sf := 1000, first := 0, last := 19999, pre := none }] } s) 0 1000 = none) ∧
    total ((upTo 3).map fun k => bitN (shot.seen.getLsbD k)) = 3 ∧ total ((upTo 3).map fun k => bitN ((5 : BitVec 3).getLsbD k)) = 2 ∧
    total ((upTo 3).map fun k => bitN ((4 : BitVec 3).getLsbD k)) < 2 ∧
    (let s := fun m => released { defer := some (7999, m) } 5
     (guardOf (s 99) 0).defer = some (7999, 99) ∧ txReleased (s 99) 0 = true ∧ upFrameAt (s 99) 0 (lineNow (s 99) 0) = 100) ∧
    (guardOf (guarded { defer := some (7999, 99) } 5) 0).defer = some (7999, 99) ∧ txReleased (guarded {} 5) 0 = false := by decide +kernel

theorem witness_GuardFaults : copyOk up 0 2 = true ∧ copiesOk up 0 = 3 ∧ copyOk (setBit (bksR 0 4) 22 false up) 0 2 = false ∧
    copiesOk (setBit (bksR 0 4) 22 false up) 0 = 2 ∧ (guardOf up 0).clkHold = false ∧ (guardOf (guarded { clkHold := true } 0) 0).clkHold = true ∧
    false = txReleased up 0 ∧ true ≠ txReleased up 0 ∧ false ≠ txReleased (released {} 0) 0 ∧ true = txReleased (released {} 0) 0 := by
  decide +kernel

/-! ### Ch. 06 -/

def chg (n : Nat) : TimeChange := { cApp := n, rate := some 5, step := some (0, 0) }
/-- The port of the source (SRC_PORT 0) in OPERATE, with SRC_VALID, SERVO_EN and STEP_ARMED, STATE st. -/
def sourced (st : Nat) (s : State) : State :=
  setRegN 0x01400004 (st * 2 ^ 30 + 2 ^ 28 + 1) (setRegN 0x01400000 3 (setRegn 0 (regd .operate) s))
def stamped : State := setFramer 0 { stamps := [(45, 50000007), (40, 7)] } up

theorem witness_TimeChanges : up.time.pend = [] ∧ nowOf up < (chg 1).cApp ∧ (chg 0).cApp ≤ nowOf up ∧
    ({ chg 0 with step := none } : TimeChange).step = none ∧ (chg 0).step = some (0, 0) ∧ ({ chg 0 with rate := none } : TimeChange).rate = none ∧
    bitAt (setRegN 0x01400000 1 up) 0x01400000 1 = false ∧ tbState (sourced 2 stamped) = 2 ∧ (framer (sourced 1 stamped) 0).stamps.head? = some (45, 50000007) ∧
    (framer (sourced 1 stamped) 0).stamps.getLast? = some (40, 7) ∧ bitAt (sourced 1 stamped) 0x01400000 0 = true ∧
    bitAt (sourced 1 stamped) 0x01400000 1 = true ∧ tbState (sourced 1 stamped) ≠ 2 ∧ isSource (sourced 1 stamped) 0 = true ∧
    fld (sourced 1 stamped) 0x01400004 7 4 = 0 ∧ servoBase 5 50000000 = 0 ∧ up.time.slew = 0 ∧
    nowOf up + 320000 < 320001 ∧ 320000 ≤ nowOf up + 320000 ∧
    (changeLive (sourced 1 stamped) { chg 0 with port := 0 }).step = some (0, 0) ∧ (changeLive up { chg 0 with port := 0, rate := none }).step = none ∧
    (changeLive up { chg 0 with port := 0, rate := none }).rate = none := by decide +kernel

/-- A TIME_SET with this SF, NS and MODE 1 or 0. -/
def tset (sf ns mode : Nat) : TmmIn := tmm 0x08 [(301, sf), (205, ns), (188, mode)]
def tgot (t : TmmIn) (st : Nat) : State :=
  sourced st (setRegn 0 (regd .operate) (port 0 { locked := true, e := 50, queue := [t], stamps := [(40, 7)] } up))

theorem witness_TimeSets : (∀ m ∈ [0, 1], ∀ sf ∈ [25, 40, 41, 8040], TmmDue (got (tset sf 0 m) (regd .operate)) 0 0x08 (tset sf 0 m) []) ∧
    TmmDue (got (tset 24 0 1) (regd .range)) 0 0x08 (tset 24 0 1) [] := by
  refine ⟨?_, tmmDue_of (by decide +kernel)⟩
  simp only [List.forall_mem_cons, List.not_mem_nil, false_imp_iff, implies_true, and_true]
  refine ⟨⟨?_, ?_, ?_, ?_⟩, ?_, ?_, ?_, ?_⟩ <;> exact tmmDue_of (by decide +kernel)

theorem witness_TimeSets_clauses : inService (tgot (tset 40 0 1) 1) 0 = true ∧ (tgot (tset 40 0 1) 1).time.held.look none 0 = none ∧
    tf (tset 24 0 1).bits 351 301 + 15 < 40 ∧ 40 + 8000 < tf (tset 8041 0 1).bits 351 301 ∧
    1000000000 ≤ tf (tset 40 1000000000 1).bits 236 205 ∧ tf (tset 40 999999999 1).bits 236 205 < 1000000000 ∧
    (framer (tgot (tset 39 0 1) 1) 0).stamps.find? (fun x => x.1 == 39) = none ∧
    (framer (tgot (tset 40 0 1) 1) 0).stamps.find? (fun x => x.1 == 40) = some (40, 7) ∧ isSource up 0 = false ∧
    isSource (tgot (tset 40 0 1) 1) 0 = true ∧ bitAt (tgot (tset 40 0 1) 1) 0x01400000 1 = true ∧ (tset 40 0 0).bits.getLsbD 188 = false ∧
    stepArmed (tgot (tset 40 0 0) 1) = true ∧ (tset 40 0 1).bits.getLsbD 188 = true ∧ tbState (tgot (tset 40 0 1) 0) = 0 ∧
    tbState (tgot (tset 40 0 1) 1) ≠ 0 ∧
    65536000000 < ((tf (tset 40 1100000 1).bits 236 205 : Int) * 65536 - readAt (tgot (tset 40 1100000 1) 1) 7).natAbs ∧
    ((tf (tset 40 900000 1).bits 236 205 : Int) * 65536 - readAt (tgot (tset 40 900000 1) 1) 7).natAbs ≤ 65536000000 ∧
    (framer (tgot (tset 40 0 1) 1) 0).e = 50 ∧ up.time.held.look none 0 = none := by decide +kernel

theorem witness_TimeSources : ppsSource up = false ∧ qualifiesSource (sourced 1 up) 0 = true ∧ qualifiesSource up 0 = false ∧
    bitAt (setRegN 0x01400000 0x800 up) 0x01400000 11 = true ∧
    (let s := setRegn 15 (regd .operate) up
     (regnOf s 15).state = .operate ∧ portDark s 15 = false ∧ ∀ k, k < 15 → (regnOf s k).state ≠ .operate) ∧
    bitAt (setRegN 0x01400000 0 up) 0x01400000 11 = false ∧ (∀ k, k < 16 → (regnOf up k).state ≠ .operate) ∧
    tbState (sourced 1 up) = 1 ∧ tbState (sourced 2 up) = 2 ∧ onXtal (setRegN 0x01400004 (2 ^ 24) up) = true ∧
    onXtal (setRegN 0x01400004 (2 ^ 26 + 2 ^ 25) up) = false ∧ refActive (setRegN 0x01400004 (2 ^ 26 + 2 ^ 25) up) = 0 ∧
    refOk (setRegN 0x01400004 (2 ^ 26 + 2 ^ 25) up) 1 = true ∧ refAllowed up 1 = true ∧ refOk up 1 = false ∧
    refAllowed (setRegN 0x01400000 4 up) 1 = false ∧ refAllowed (setRegN 0x01400000 8 up) 1 = true := by decide +kernel

def pps (s : State) : State := setRegN 0x01400040 (2 ^ 31 + 2 ^ 30 + 2 ^ 29) s

theorem witness_PulsesAndClocks : bitAt up 0x01400040 31 = false ∧
    (bitAt (pps up) 0x01400040 31 && (timeHeld (pps up) || bitAt (pps up) 0x01400040 30) && up.time.ppsHigh.isNone &&
      up.time.lastPulse != some (readNow up / 65536000000000)) = true ∧ up.time.ppsHigh = none ∧ (nowOf up : Int) < 1 ∧ 0 ≤ (nowOf up : Int) ∧
    bitAt (pps up) 0x01400040 29 = true ∧ 39999999999 < 0 + 40000000000 ∧ up.time.ppsInLast = none ∧ up.time.ppsInUp + 27500000 ≤ 27500000 ∧
    rclkCause up 0 = true ∧
    (let s : State := { setRegN 0x01400060 (2 ^ 31) up with lanes := [(0, { rx := 5 })], time := { rclkGood := [(0, 3125)] } }
     rclkCause s 0 = false ∧ s.time.rclkGood.look 0 0 = 3125) ∧ up.time.rclkGood.look 0 0 < 3125 := by decide +kernel

/-! ### Ch. 07 -/

def wk (w : Waiken) (s : State) : State := setWaiken 0 w s
/-- Every lane of port 0 enabled. -/
def ready (s : State) : State := (256 :: (upTo 8).map (128 + ·)).foldl (fun s l => setRegN (laneR l 0) 1 s) s
def ids : List (Fin 16) := [7, 6, 5, 4, 3, 2, 1, 0]
def train : TrainResult :=
  { laneIds := ids, inverted := 0, clockInverted := false, skewOk := true, txSeen := ids, txInverted := 0, caps := [0x0402] }

theorem witness_WaikenBringup : trunkLive up 0 = true ∧ setReady up 0 = false ∧ setReady (ready up) 0 = true ∧ wknMode up 0 = 0 ∧
    isOrder ids = true ∧ isOrder [7, 6, 5, 4, 3, 2, 1, 1] = false ∧ train.skewOk = true ∧ ({ train with skewOk := false }).skewOk = false ∧
    (∀ k ∈ [0, 1, 2, 3, 4, 5, 6, 7], (waiken (wk { rxStep := k } (ready up)) 0).rxStep = k) ∧
    (waiken (wk { rxStep := 6, rate := 1 } up) 0).rate ≠ 2 ∧ (waiken (wk { rxStep := 7, txStep := 4 } up) 0).txStep = 4 ∧
    (train.txSeen.headD 0).val ≠ 15 ∧ (waiken (wk { rxStep := 1, step2At := some 0 } up) 0).step2At = some 0 ∧
    0 + 2500000 ≤ ({ up with uptime := 2500000 } : State).uptime ∧ up.uptime < 0 + 2500000 ∧
    (waiken (wk { rxStep := 5 } up) 0).chosen = 0 ∧ (wk { rxStep := 5, chosen := 2 } up).waikens.length = 1 ∧
    (waiken (wk { version := 1, rxStep := 6, txStep := 6, rate := 0 } up) 0).version = 1 ∧
    nextRate (setRegN (wknR 0 0x28) (2 ^ 25) (wk { rate := 0 } up)) 0 = some 1 ∧ nextRate (wk { rate := 0 } up) 0 = none ∧
    chooseWaiken (setRegN 0x10148 6 (setRegN (wknR 0 0) 0x600 up)) 0 4 = 2 ∧ chooseWaiken up 0 0 = 0 ∧
    (waiken (wk { rxStep := 3 } up) 0).attemptAt + 500000 ≤ 500000 ∧
    (waiken (wk { rxStep := 5, version := 2, capRound := [0x0402] } up) 0).capRound = train.caps.take 6 ∧
    (waiken (wk { proposal := some (1, 64) } up) 0).proposal = some (1, 64) ∧ (waiken up 0).proposal = none ∧
    capWord (setRegN (wknR 0 0x28) (2 * 2 ^ 16 + 64) up) 0 2 % 2 ^ 24 = 2 ^ 1 * 2 ^ 16 + 64 ∧
    capWord up 0 2 % 2 ^ 24 ≠ 2 ^ 1 * 2 ^ 16 + 64 := by decide +kernel

/-- A control block that is accepted: SYNC, a legal kind, its HEC. -/
def block : BitVec 125 :=
  let top := 0xB4E * 2 ^ 113 + 1 * 2 ^ 105
  BitVec.ofNat 125 (top + hec16 (bitsMsb (bits top 112 16) 97))
/-- The first lane of the port with 3 failures in a row. -/
def failing (v : Nat) : State := { wk { rxStep := 7, version := v } up with lanes := [(128, { failRun := 3 })] }

theorem witness_WaikenBlocks : trunkLive up 0 = true ∧ blockGood block = true ∧ blockGood 0 = false ∧
    (List.replicate 4 block ++ List.replicate 4 0).filter blockGood = List.replicate 4 block ∧
    (List.replicate 5 block ++ List.replicate 3 0).filter blockGood = List.replicate 5 block ∧
    (waiken (failing 2) 0).rxStep = 7 ∧ (waiken (failing 2) 0).version = 2 ∧ 3 ≤ (laneOf (failing 2) 128).failRun ∧
    (laneOf (failing 2) 129).failRun < 3 ∧ (waiken up 0).rxStep ≤ 2 ∧ 3 ≤ (waiken (failing 1) 0).rxStep ∧ (waiken (failing 1) 0).version = 1 ∧
    (waiken (failing 2) 0).version ≠ 1 ∧ framerOn (port 0 {} (failing 2)) 0 = true ∧ (waiken up 0).checkDue = false ∧
    (waiken (wk { checkDue := true } up) 0).checkDue = true ∧ ownKind (wk { txStep := 7 } up) 0 = some 3 ∧ ownKind up 0 = none ∧
    (waiken (wk { rxStep := 2 } up) 0).rxStep = 2 ∧ (waiken (wk { rxStep := 2, version := 1, rate := 1 } up) 0).rate ≠ 0 ∧
    ([block, 0][1]? = some 0 ∧ (laneOf { wk { rxStep := 7, version := 2 } up with lanes := [(129, { failRun := 3 })] } 129).failRun = 3) := by decide +kernel

/-- Lane l enabled and in state x. -/
def lane (l : Nat) (x : Lane) : State := { setRegN (laneR l 0) 1 up with lanes := [(l, x)] }

theorem witness_LaneFaults : bitAt up (laneR 278 0) 0 = false ∧ bitAt up (laneR 0 0) 0 ≠ true ∧ bitAt (lane 278 {}) (laneR 278 0) 0 ≠ false ∧
    lanePowered up 130 = true ∧ laneServed up 130 = true ∧ laneServed up 0 = false ∧ trunkOf 130 = some 0 ∧ trunkOf 0 = none ∧
    lanePowered (setRegN 0x00200014 1 up) 130 = false ∧ bitAt (lane 130 {}) (laneR 130 0x20) 31 = false ∧ (laneOf (lane 274 { isOpen := true }) 274).isOpen = true ∧
    (laneOf (lane 274 {}) 274).isOpen = false ∧ bitAt (lane 274 {}) (laneR 274 0) 0 = true := by decide +kernel

theorem witness_LanePatterns : patOk up 0 0x40000000 = true ∧ patOk (port 0 {} up) 128 0x40000000 = false ∧ patOk up 256 0xA0000000 = true ∧
    patOk up 256 0x80000000 = false ∧ (0x80000000 : Word).getLsbD 31 = true ∧ (0x80000000 : Word).getLsbD 30 = false ∧
    bitAt (setRegN (laneR 0 0x20) (2 ^ 30) up) (laneR 0 0x20) 30 = true ∧ bitAt up (laneR 0 0x20) 30 = false ∧
    (laneOf (lane 0 { patLock := true }) 0).patLock = true ∧ (laneOf up 0).patLock = false ∧ injectable up 0 = false ∧
    (laneOf (lane 0 { patLock := true, patWin := List.replicate 63 9 }) 0).patWin.length + 0 < 64 ∧
    ¬ (laneOf (lane 0 { patLock := true, patWin := List.replicate 63 9 }) 0).patWin.length + 1 < 64 ∧
    (64 ≤ 64 ∧ 100 < 64 + 64 ∧ 100 ≤ 1024) ∧ 64 * (1 + 1) ≤ 129 - 1 ∧ (laneOf (lane 0 { patRun := 60 }) 0).patRun + (4 - 1) < 64 ∧
    (laneOf (lane 0 { patRun := 63 }) 0).patRun + 0 < 64 ∧ 64 ≤ (laneOf (lane 0 { patRun := 63 }) 0).patRun + 1 ∧
    injectable (setRegN (laneR 0 0x20) (2 ^ 31) up) 0 = true ∧ (laneOf (lane 0 { injBusy := true }) 0).injBusy = true := by decide +kernel

theorem witness_LaneOperations : coreOn up = true ∧ lanePowered up 130 = true ∧ bitAt (lane 274 {}) (laneR 274 0) 0 = true ∧
    patOk up 0 0x40000000 = true ∧ bitAt (setRegN (laneR 0 0x20) (2 ^ 30) (lane 0 { patLock := true })) (laneR 0 0x20) 30 = true ∧
    (laneOf (setRegN (laneR 0 0x20) (2 ^ 30) (lane 0 { patLock := true })) 0).patLock = true ∧
    injectable (setRegN (laneR 0 0x20) (2 ^ 31) up) 0 = true ∧ (laneOf (setRegN (laneR 0 0x20) (2 ^ 31) up) 0).injBusy = false := by
  decide +kernel

/-! ### Ch. 08 -/

/-- Client block b in this mode, with its sub-port 0 enabled and its link up. -/
def cli (b m : Nat) : State :=
  setRegN (subR b 0 0) (2 ^ 31 + 1518) (setRegN (subR b 0 4) (2 ^ 31) (setRegN (cliR b 0) m up))
def stored (l : List Byte) : Stored := { bytes := l, owner := 0, pool := 0, hbm := false, queue := 65536, gran := 0, refs := 1 }
/-- A frame of n bytes at the head of the first queue of block 0, in that queue's round. -/
def queued (n : Nat) (s : State) : State :=
  let s := setRegN 0x06000000 1 s
  { s with buf := { s.buf with frames := [(7, stored (List.replicate n 0))], queues := [(65536, { frames := [7] })], rounds := [(32768, [65536])] } }
def ethFrame (ty n : Nat) : List Byte := List.replicate 12 0 ++ toBytes 2 ty ++ List.replicate (n - 14) 0
def pfc : List Byte := pfcDest ++ List.replicate 6 0 ++ [0x88, 0x08, 0x01, 0x01, 0, 3] ++ List.replicate 44 1 ++ [0, 0]

theorem modeAllowed_up (b m : Nat) (h : (decide (m ≤ 4) && (upTo 4).all (fun u => !bitAt up (subR b u 0) 31) &&
    (m != 4 || (b % 2 == 0 && portMode up (b + 1) == 0 && (upTo 4).all fun u => !bitAt up (subR (b + 1) u 0) 31))) = true) :
    ModeAllowed up b m := by
  simp only [Bool.and_eq_true, decide_eq_true_eq, List.all_eq_true, upTo, List.mem_range, Bool.not_eq_true', Bool.or_eq_true,
    bne_iff_ne, beq_iff_eq] at h
  exact ⟨h.1.1, h.1.2, fun hm => by
    rcases h.2 with h2 | h2
    · exact absurd hm h2
    · exact ⟨h2.1.1, h2.1.2, h2.2⟩⟩

theorem witness_ClientModes : ModeAllowed up 0 4 ∧ ModeAllowed up 31 3 ∧ ¬ ModeAllowed up 1 4 ∧ ¬ ModeAllowed up 0 5 :=
  ⟨modeAllowed_up _ _ (by decide +kernel), modeAllowed_up _ _ (by decide +kernel),
    fun h => absurd (h.2.2 rfl).1 (by decide), fun h => absurd h.1 (by decide)⟩

theorem witness_ClientModes_clauses : paired (setRegN (cliR 30 0) 4 up) 31 = true ∧ paired up 31 = false ∧ subExists up 0 0 = false ∧
    subExists up 32 0 = true ∧ subExists (cli 0 1) 0 3 = true ∧ linkUp (cli 0 1) 0 0 = true ∧ linkUp (cli 0 1) 0 1 = false ∧
    (let s := ([0, 1, 2, 3].foldl (fun s l => setRegN (laneR l 0) 1 s) (setRegN (cliR 0 0) 3 up))
     (subExists s 0 0 && !linkUp s 0 0 && !portUnlit s 0 && !s.boot.furled && (subLanes s 0 0).all (laneCarries s)) = true ∧
       0 ∈ subLanes s 0 0) ∧ macUp up 32 0 = false := by decide +kernel

/-- Whether a PHY type has its lanes trained is an open value: where it has, the hypothesis is met. -/
theorem witness_ClientModes_trained (h : Config.phyTrains 1 0 = true) : phyTrained (cli 0 1) 0 = true := by
  have h2 : phyCode (cli 0 1) 0 = 0 := by decide +kernel
  have h3 : portMode (cli 0 1) 0 = 1 := by decide +kernel
  simp [phyTrained, h2, h3, h]

theorem witness_PfcAndLpi : macUp up 0 0 = false ∧ macUp (cli 0 1) 0 0 = true ∧ validPfc pfc = true ∧ validPfc (ethFrame 0x0800 64) = false ∧
    (pfc.getD 17 0).toNat.testBit 1 = true ∧ (fld (setRegN (subR 0 0 0x14) 0xFF (cli 0 1)) (subR 0 0 0x14) 7 0).testBit 7 = true ∧
    ofBytes (slice pfc 18 2) ≠ 0 ∧ Tab.has ([(7, 0)] : Tab Nat) 7 = true ∧
    xoffTx (setRegN (subR 0 0 4) (2 ^ 31 + 0x8000) up) 0 0 ≠ 0 ∧ quanta (cli 0 1) 0 65535 ≤ 134217728 ∧
    (subOf (cli 0 1) 0 0).sending = none ∧ (subOf (cli 0 1) 0 0).pfcDue = false ∧ subHasFrame (cli 0 1) 0 0 = false ∧
    subHasFrame (queued 64 (cli 0 1)) 0 0 = true ∧ gateOpensSoon (cli 0 1) 0 0 = false ∧ bitAt (cli 0 1) (subR 0 0 4) 26 = false ∧
    (subOf (cli 0 1) 0 0).idleFrom + 80000 * fld (cli 0 1) (subR 0 0 0x18) 15 0 ≤ 80000 * 65535 ∧
    bitAt (setBit (subR 0 0 0) 27 true (cli 0 1)) (subR 0 0 0) 27 = true := by decide +kernel

/-- LPI_OK of a PHY is an open value of the spec: where a PHY has it, the hypotheses on it are met. -/
theorem witness_PfcAndLpi_lpiOk (h : Config.phyLpi 1 0 = true) : lpiOk (cli 0 1) 0 0 = true := by
  have h1 : subExists (cli 0 1) 0 0 = true := by decide +kernel
  have h2 : phyCode (cli 0 1) 0 = 0 := by decide +kernel
  have h3 : portMode (cli 0 1) 0 = 1 := by decide +kernel
  simp [lpiOk, h1, h2, h3, h]

theorem witness_ClientEgress : macUp (queued 64 (cli 0 1)) 0 0 = true ∧ subSlotted (queued 64 (cli 0 1)) 0 0 = false ∧
    dnEligible (queued 64 (cli 0 1)) 0 0 65536 = true ∧ (∀ q ∈ subQueueIds (cli 0 1) 0 0, dnEligible (cli 0 1) 0 0 q = false) ∧
    firstEligible (queued 64 (cli 0 1)) (dnEligible (queued 64 (cli 0 1)) 0 0) (subRound 0 0) 8 = some 65536 ∧
    headLen (queued 64 (cli 0 1)) 65536 ≤ (queueOf (queued 64 (cli 0 1)) 65536).deficit + quantum (queued 64 (cli 0 1)) 65536 ∧
    (queueOf (queued 64 (cli 0 1)) 65536).fresh = true ∧ headLen (queued 1518 (cli 0 1)) 65536 ≤ maxFrame (queued 1518 (cli 0 1)) 0 0 ∧
    maxFrame (cli 0 1) 0 0 < headLen (queued 1519 (cli 0 1)) 65536 ∧ (frameOf (queued 64 up) 7).isSome = true ∧
    (let s := setRegN (subR 0 0 4) 0 (setBit (subR 0 0 0) 26 true (queued 64 (cli 0 1)))
     subExists s 0 0 = true ∧ macUp s 0 0 = false ∧ bitAt s (subR 0 0 0) 26 = true ∧
       firstEligible s (fun q => !(queueOf s q).frames.isEmpty) (subRound 0 0) 8 = some 65536) ∧
    (let s : State := { setBit (subR 32 0 0) 26 true up with xt := { waitTx := [[1]] } }
     macUp s 32 0 = false ∧ bitAt s (subR 32 0 0) 26 = true ∧ s.xt.waitTx ≠ []) ∧
    (coreOn State.reset && subExists State.reset 0 0) = false ∧ (coreOn up && subExists up 32 0) = true ∧ (subOf up 32 0).stamps = [] := by
  decide +kernel

theorem dnEligible_none (q : Nat) : dnEligible up 0 0 q = false := by
  have h : macUp up 0 0 = false := by decide +kernel
  simp [dnEligible, dnReady, h]

theorem witness_FramesReceived : macUp (cli 0 1) 0 0 = true ∧ validPfc pfc = true ∧ (ethFrame 0x0800 63).length < 64 ∧
    (∀ n ∈ [64, 1518], validPfc (ethFrame 0x0800 n) = false ∧ 64 ≤ (ethFrame 0x0800 n).length ∧
      (ethFrame 0x0800 n).length ≤ maxFrame (cli 0 1) 0 0 ∧ etherType (ethFrame 0x0800 n) ≠ 0x8808 ∧
      filterPasses (cli 0 1) 0 0 (ethFrame 0x0800 n) = true) ∧
    maxFrame (cli 0 1) 0 0 < (ethFrame 0x0800 1519).length ∧ etherType (ethFrame 0x8808 64) = 0x8808 ∧ validPfc (ethFrame 0x8808 64) = false ∧
    filterPasses (setBit (subR 0 0 0) 30 true (cli 0 1)) 0 0 (ethFrame 0x0800 64) = false ∧
    shareFill (cli 0 1) 0 0 + maxFrame (cli 0 1) 0 0 ≤ fifoShare (cli 0 1) 0 ∧
    fifoShare (cli 0 1) 0 < 131072 + maxFrame (cli 0 1) 0 0 ∧ fifoShare (cli 0 1) 0 = 131072 ∧
    ({ up.reef with level := 3 } : Reef).phase ≠ .entering ∧ up.reef.level ≠ 3 ∧ macUp up 32 0 = false ∧
    macUp (setRegN (cliR 32 0) 1 (cli 32 1)) 32 0 = true ∧ etherType (ethFrame 0x88B5 64) = 0x88B5 := by decide +kernel

/-! ### Ch. 09 -/

/-- An entry of connection memory: upstream or downstream, this slot. -/
def cmWord (down : Bool) (t : Nat) : Nat := 2 ^ 63 + bitN down * 2 ^ 62 + t * 2 ^ 49
/-- The TSI on, with this entry first in page q. -/
def tsiWith (q w : Nat) (x : Tsi) : State := { setReg64 (pageR q 0) w (setRegN 0x02400000 1 up) with tsi := x }
def cont (k : Nat) : Container := { cut := k, slot := 5119, entry := cmWord false 5119, body := [] }

theorem witness_Containers : tsiOn up = false ∧ activeEntry (tsiWith 0 (cmWord false 5119) {}) 5119 false = some (cmWord false 5119) ∧
    activeEntry (tsiWith 0 (cmWord true 5119) {}) 5119 false = none ∧ (activeEntry (tsiWith 0 (cmWord true 5119) {}) 5119 true).isSome = true ∧
    tsiOn (tsiWith 0 0 {}) = true ∧ (upConn up 0).stored.length < 16 ∧
    16 ≤ ((List.range 16).map cont |>.filter fun x => x.entry == cmWord false 5119).length ∧ (dnConn up 0).playing = false ∧
    (dnConn (tsiWith 0 0 { dn := [(9, { playing := true })] }) 9).playing = true ∧ (dnConn (tsiWith 0 0 { dn := [(9, { playing := true })] }) 9).fifo = [] ∧
    min (max (fld up 0x02400000 29 16) 1024) 15360 ≤ 15360 ∧ cutDue up {} [] = true ∧
    cutDue up { cutIn := some 0 } (List.replicate 1223 0) = false ∧ cutDue up { cutIn := some 0 } (List.replicate 1224 0) = true := by decide +kernel

def sw : PageSwitch := { page := 1, port := 0, sf := 1 }

theorem witness_PageCommands : pageOfAddr 0x0243FFFC = none ∧ pageOfAddr (pageR 1 8191 + 4) = some 1 ∧ pageR 1 8191 + 4 < 0x02460000 ∧
    up.tsi.armed = false ∧ (1 : Nat) ≠ up.tsi.active ∧ (pathOf (setPath .xt { high := [(pageR 1 0 + 4, 5)] } up) .xt).high.has (pageR 1 0 + 4) = true ∧
    up.tsi.arming = false ∧ pageFails up [] (pageEntries up 1) = none ∧
    pageFails (tsiWith 1 (cmWord false 8191) { arming := true }) [] (pageEntries (tsiWith 1 (cmWord false 8191) { arming := true }) 1) ≠ none ∧
    ({ armed := true, pend := some sw } : Tsi).pend ≠ none ∧ up.tsi.pend = none ∧ lineNow up sw.port < tRx up sw.port sw.sf ∧
    tRx up sw.port sw.sf ≤ lineNow (atTime 10000000 up) sw.port ∧
    (let s := tsiWith 0 (cmWord false 9) {}
     pageEntries s 0 = [(0, cmWord false 9)] ∧ (activePage s).any (sameConn (cmWord false 9)) = true) := by decide +kernel

/-- A TSI_SWITCH to this page in frame sf. -/
def tsw (page sf : Nat) : TmmIn := tmm 0x0B [(351, page), (300, sf)]
def tswGot (page sf : Nat) (x : Tsi) : State := { setRegN 0x02400000 1 (got (tsw page sf) (regd .operate)) with tsi := x }

theorem witness_TsiSwitches : (∀ page ∈ [0, 1], ∀ sf ∈ [41, 42, 8040], TmmDue (tswGot page sf { armed := true }) 0 0x0B (tsw page sf) []) := by
  simp only [List.forall_mem_cons, List.not_mem_nil, false_imp_iff, implies_true, and_true]
  refine ⟨⟨?_, ?_, ?_⟩, ?_, ?_, ?_⟩ <;> exact tmmDue_of (by decide +kernel)

theorem witness_TsiSwitches_clauses : inOperation (tswGot 1 42 {}) 0 = true ∧ frameInReach false (tswGot 1 42 {}) 0 (tsw 1 42) 42 = true ∧
    frameInReach false (tswGot 1 41 {}) 0 (tsw 1 41) 41 = false ∧ tsiOn (tswGot 1 42 {}) = true ∧ (tsw 1 42).bits.getLsbD 351 = true ∧
    (tsw 0 42).bits.getLsbD 351 = false ∧ tf (tsw 1 42).bits 350 300 = 42 ∧ ({ armed := true } : Tsi).active = 0 ∧
    (let s := tswGot 1 42 { armed := true, pend := some { sw with sf := 42 } }
     tRx s 0 42 ≤ tRx s sw.port 42 + 80000 ∧ tRx s 0 60 > tRx s sw.port 42 + 80000) ∧ slotted up 0 = false ∧
    (let s := setRegN (phyMac 0) (2 ^ 25) (setRegN (cliR 0 0) 2 up)
     slotted s 0 = true ∧ pageCal s 0 0 = false ∧ pageCal (setRegN 0x02400048 1 s) 1 0 = true) ∧
    bitAt up (spR 0 4) 26 = false ∧ (let s : State := { setRegN (spR 63 4) (2 ^ 26 + 2 ^ 27) up with tsi := { dueC := [63] } }
      bitAt s (spR 63 4) 26 = true ∧ s.tsi.dueC.contains 63 = true) ∧ up.tsi.dueC.contains 63 = false := by decide +kernel

/-! ### Ch. 10 -/

theorem witness_ParseGraph : up.pg.copyBusy = false ∧ ({ copyBusy := true } : ParseGraph).copyBusy = true ∧ pgMemory 0x03001000 = true ∧
    pgMemory 0x03004FFC = true ∧ pgMemory 0x0300FFFC = true ∧ pgMemory 0x03000FFC = false ∧ pgMemory 0x03005000 = false ∧
    (setRegN 0x03001000 5 up).regs.has 0x03001000 = true ∧ 0x03001000 ∉ Tab.keys ([] : Tab Word) := by decide +kernel

theorem witness_ParseGraph_words : PgWord 0x03001000 ∧ PgWord 0x0300FFFC :=
  ⟨.inl ⟨0, 0, by decide⟩, .inr ⟨2047, 3, by decide⟩⟩

/-- A key that stands in its first candidate position is found, whatever the seeds. -/
theorem found_somewhere (c : TableShape) (h : c.nb false ≠ 0) (e : Entry) :
    ∃ p, (({ on := [(p, e)] } : HashTable).find c false e.key) = some (false, p, e) := by
  let x := c.buckets false e.key
  refine ⟨8 * x.1 + 0, ?_⟩
  simp only [HashTable.find, HashTable.findIn, TableShape.positions, if_neg h]
  rw [if_neg (by decide), show bucketPos (c.buckets false e.key).1 = (8 * x.1 + 0) :: (List.range 7).map (fun i => 8 * x.1 + (i + 1)) from rfl,
    List.cons_append, List.eraseDups_cons, List.findSome?_cons]
  simp [HashTable.atPos, HashTable.tier, Tab.has, Tab.look]

/-- Rule table 0 enabled with n units of 512 buckets. -/
def ruled (n : Nat) (x : HashTable) : State :=
  { setRegN (ruleR 0 0) (2 ^ 31 + 2 ^ 24 + n) up with cls := { tables := [(0, x)] } }
def rcmd : RuleCommand :=
  { table := 0, count := 3, key := [9], keyMask := [], result := 5, walk := false, endWalk := false, handle := 7, outAddr := 0, outTgt := false }

theorem witness_RuleCommands_hit :
    ∃ p, (ruleTable (ruled 1 { on := [(p, { key := [9], result := 5 })] }) 0).find (ruleShape (ruled 1 {}) 0) false [9] =
      some (false, p, { key := [9], result := 5 }) := by
  have h : (ruleShape (ruled 1 {}) 0).nb false ≠ 0 := by
    simp only [ruleShape, TableShape.nb]; decide +kernel
  obtain ⟨p, hp⟩ := found_somewhere (ruleShape (ruled 1 {}) 0) h { key := [9], result := 5 }
  exact ⟨p, hp⟩

theorem witness_RuleCommands_free : (ruleTable (ruled 1 {}) 0).free false ((ruleShape (ruled 1 {}) 0).positions false [9]) ≠ [] := by
  have h : (ruleShape (ruled 1 {}) 0).nb false ≠ 0 := by
    simp only [ruleShape, TableShape.nb]; decide +kernel
  simp only [TableShape.positions, if_neg h]
  rw [show bucketPos ((ruleShape (ruled 1 {}) 0).buckets false [9]).1 = (8 * ((ruleShape (ruled 1 {}) 0).buckets false [9]).1 + 0) ::
    (List.range 7).map (fun i => 8 * ((ruleShape (ruled 1 {}) 0).buckets false [9]).1 + (i + 1)) from rfl, List.cons_append, List.eraseDups_cons]
  simp [HashTable.free, ruleTable, ruled, Tab.look, HashTable.atPos, HashTable.tier, Tab.has]

theorem witness_RuleCommands : ruleBad up rcmd = true ∧ ruleBad (ruled 1 {}) rcmd = false ∧ ruleBad (ruled 1 {}) { rcmd with key := [0, 1] } = true ∧
    ruleBad (ruled 0 {}) rcmd = false ∧ ruleKey (ruled 1 {}) 0 rcmd.key = [9] ∧ ruleOn up 0 = false ∧ up.cls.walks.has 0 = false ∧ rcmd.walk = false ∧ rcmd.other = false ∧ ({ rcmd with other := true }).other = true ∧
    (let w : Walk := { table := 0, key := [], mask := [], used := 0 }
     let s : State := { ruled 1 {} with cls := { tables := [], walks := (upTo 8).map fun h => (h, w) } }
     (∀ h, h < 8 → s.cls.walks.has h = true ∧ walkHeld s (s.cls.walks.look ⟨0, [], [], 0, [], 0, false, 0⟩ h) = true) ∧
       s.cls.walks.has rcmd.handle.toNat = true ∧ walkHeld s w = true ∧ w.lost = false ∧ ruleOn s w.table = true ∧
       walkHeld { s with uptime := 25000000 } w = false ∧ ({ w with lost := true }).lost = true) := by decide +kernel

/-- With no bucket a new key has no placement. -/
theorem witness_RuleCommands_full : (ruleTable (ruled 0 {}) 0).find (ruleShape (ruled 0 {}) 0) false [9] = none ∧
    (ruleTable (ruled 0 {}) 0).place (ruleShape (ruled 0 {}) 0) { key := [9], result := 5 } none (freeVal up) = none := by
  have h : (ruleShape (ruled 0 {}) 0).nb false = 0 := by
    simp only [ruleShape, TableShape.nb]; decide +kernel
  have h2 : (ruleShape (ruled 0 {}) 0).nb true = 0 := rfl
  simp [HashTable.find, HashTable.findIn, HashTable.place, HashTable.placeFree, HashTable.placeMoved, HashTable.free,
    TableShape.positions, h, h2, pickOf]

/-- Profile 3 repairing, its home entry 0 naming a PATH on port 5, which is in OPERATE or not. -/
def repairing (st : RegState) : State :=
  { setRegn 5 (regd st) (setRegN (profR 3 0) (2 ^ 30) up) with
    cls := { home := [(4096 * 3, 2 * 2 ^ 62 + 5 * 2 ^ 48)], usable := 1 } }

theorem witness_Classifier_other (st : RegState) (j : Nat) (h : j ≠ 0) : homeEntry (repairing st) 3 j = 0 := by
  simp [homeEntry, repairing, Tab.look, h]

theorem witness_Classifier : repairOn (repairing .operate) 3 = true ∧ repairOn up 3 = false ∧ (0x40000000 : Word).getLsbD 30 = true ∧
    (setRegN (indR 63 4095) 1 up).regs.has (indR 63 4095) = true ∧ isIndirection (indR 63 4095 + 4) = true ∧ isIndirection 0x031FFFFC = false ∧
    isIndirection 0x03400000 = false ∧ usablePorts up = up.cls.usable ∧ usablePorts (repairing .operate) ≠ (repairing .operate).cls.usable ∧
    bits (homeEntry (repairing .operate) 3 0) 63 62 = 2 ∧ (usablePorts (repairing .operate)).getLsbD (bits (homeEntry (repairing .operate) 3 0) 51 48) = true ∧
    usablePorts (repairing .hold) ≠ (repairing .hold).cls.usable ∧
    (usablePorts (repairing .hold)).getLsbD (bits (homeEntry (repairing .hold) 3 0) 51 48) = false ∧
    (let s := setRegN (xtR 0 0x1008) 63 (setRegN (xtR 0 0x100C) 4095 (setRegN (xtR 0 0x1010) 1 (setRegN (xtR 0 0x1004) 20 (asked 0x60))))
     let r := requestOf s 0
     reefHolds s = false ∧ r.code = 0x60 ∧ s.xt.requests = [0] ∧ (decide (64 ≤ r.arg 0) || decide (4096 < r.arg 1 + r.arg 2) || decide (r.len < 12 + 8 * r.arg 2)) = false) ∧
    (let r := requestOf (asked 0x60) 0
     (decide (64 ≤ r.arg 0) || decide (4096 < r.arg 1 + r.arg 2) || decide (r.len < 12 + 8 * r.arg 2)) = true) := by decide +kernel

/-! ### Ch. 11 -/

/-- One command of this opcode, TABLE, FLAGS and COUNT due on ring 0, with these key words, word 0 first. -/
def ringed (op t flags count : Nat) (key : List Nat) (s : State) : State :=
  ((upTo 4).foldl (fun s i => setRegN (descR 0 0 (4 + i)) (key.getD i 0) s)
    (setRegN (descR 0 0 0) (op * 2 ^ 24 + t * 2 ^ 19 + flags * 2 ^ 16 + count) (setRegN (ringProdR 0) 1 s)))
/-- RingDue of descriptor 0 of ring 0, as a truth value. -/
def due (s : State) (op : Nat) : Bool :=
  coreOn s && engineFree s && ringHead s 0 == some 0 && bits (regN s (descR 0 0 0)) 31 24 == op && decide (bits (regN s (descR 0 0 0)) 23 19 ≤ 16)
theorem ringDue_of {s : State} {op : Nat} (h : due s op = true) : RingDue s 0 0 op := by
  simp only [due, Bool.and_eq_true, beq_iff_eq, decide_eq_true_eq] at h
  exact ⟨h.1.1.1.1, h.1.1.1.2, h.1.1.2, by decide, h.1.2, h.2⟩

/-- Table 0 enabled on-die (and in HBM) with one unit, keys of one word, HBM readable or not, holding x. -/
def tabled (hbm avail : Bool) (x : HashTable) : State :=
  { setRegN 0x05000004 (bitN avail * 2 ^ 31) (setRegN (canR 0 4) (1 + bitN hbm * 2 ^ 16) (setRegN (canR 0 0) (2 ^ 31 + (1 + bitN hbm) * 2 ^ 29) up)) with
    can := { tables := [(0, x)] } }
def place0 (key : List Nat) : Nat := ((canShape (tabled false true {}) 0).positions false key).headD 0
def ent (owner : Nat) (st : Bool) : Entry := { key := [9], result := 5, owner := owner, isStatic := st }
def holdsKey (owner : Nat) (st : Bool) : HashTable := { on := [(place0 [9], ent owner st)] }
/-- Every candidate position of the key taken by another key. -/
def crowded : HashTable :=
  { on := ((canShape (tabled false true {}) 0).positions false [9]).foldl (fun (x : Tab Entry) p => x.put p { key := [7], result := 0, isStatic := true }) [] }

theorem witness_CanopyTables_due : RingDue (ringed 1 0 0 0 [9] (tabled false true {})) 0 0 1 ∧
    RingDue (ringed 2 0 0 0 [9] (tabled false true {})) 0 0 2 ∧ RingDue (ringed 3 15 0 0 [9] (tabled false true {})) 0 0 3 ∧
    RingDue (ringed 3 0 1 5 [9] (tabled false true {})) 0 0 3 ∧ RingDue (ringed 4 16 0 5 [] up) 0 0 4 ∧ RingDue (ringed 5 0 0 0 [] (tabled false true {})) 0 0 5 ∧
    RingDue (ringed 6 0 0 65535 [] (tabled false true {})) 0 0 6 ∧ RingDue (ringed 7 16 0 0 [] up) 0 0 7 ∧ RingDue (ringed 1 16 0 0 [] up) 0 0 1 := by
  refine ⟨ringDue_of ?_, ringDue_of ?_, ringDue_of ?_, ringDue_of ?_, ringDue_of ?_, ringDue_of ?_, ringDue_of ?_, ringDue_of ?_, ringDue_of ?_⟩ <;>
    decide +kernel

def hit (s : State) : Option (Bool × Nat × Entry) := (canTable s 0).find (canShape s 0) (hbmAvail s) [9]

theorem witness_CanopyTables : ringKey (ringed 1 0 0 0 [9] (tabled false true {})) (commandOf (ringed 1 0 0 0 [9] (tabled false true {})) 0 0) = [9] ∧
    keyBad (ringed 1 0 0 0 [9] (tabled false true {})) (commandOf (ringed 1 0 0 0 [9] (tabled false true {})) 0 0) = false ∧
    keyBad (ringed 1 0 0 0 [9, 9] (tabled false true {})) (commandOf (ringed 1 0 0 0 [9, 9] (tabled false true {})) 0 0) = true ∧
    hit (tabled false true (holdsKey 3 false)) = some (false, place0 [9], ent 3 false) ∧ hit (tabled false true {}) = none ∧
    hbmAvail (tabled false true {}) = true ∧ hbmAvail (tabled true false {}) = false ∧ (canShape (tabled true false {}) 0).hbmB ≠ 0 ∧
    (({} : HashTable).free false ((canShape (tabled false true {}) 0).positions false [9])) ≠ [] ∧
    (crowded.free false ((canShape (tabled false true {}) 0).positions false [9])) = [] ∧ hit (tabled true false crowded) = none ∧
    (canOnT (tabled false true {}) 0) = true ∧ bitAt (setBit (canR 0 0) 25 true up) (canR 0 0) 25 = true ∧ bitAt (setRegN (canR 0 0) 0 up) (canR 0 0) 25 = false ∧
    ((commandOf (ringed 3 0 4 0 [9] up) 0 0).flags % 4 = 0) ∧
    (let f : Flush := ⟨0, 0, 3, 0xFFF, true⟩
     flushHides { up with can := { flush := some f } } 0 3 false = true ∧ flushHides { up with can := { flush := some f } } 0 4 false = false) ∧
    eventRoom up = 32768 ∧ (ent 3 true).isStatic = true ∧ up.can.learns = [] := by decide +kernel

/-- With no bucket a new key has no placement, whatever is drawn. -/
theorem witness_CanopyTables_full (n : Nat) : (({} : HashTable).place (canShape up 0) (ent 3 false) (some true) n) = none := by
  have h : (canShape up 0).onB = 0 ∧ (canShape up 0).hbmB = 0 := by decide +kernel
  simp [HashTable.place, HashTable.placeFree, HashTable.placeMoved, HashTable.placeEvict, HashTable.victims, HashTable.oldest, HashTable.free,
    TableShape.positions, TableShape.nb, h, pickOf]

/-- An event FIFO with no room. -/
theorem witness_CanopyTables_noRoom (n : Nat) (h : 32768 ≤ n) : eventRoom { up with can := { events := List.replicate n [] } } = 0 := by
  simp only [eventRoom, List.length_replicate]; omega

def oldWalk : Walk := { table := 16, key := [], mask := [], used := 0 }
def walking (w : Walk) (n : Nat) (s : State) : State := { s with uptime := n, can := { s.can with walks := (upTo 8).map fun h => (h, w) } }

theorem witness_RingWalks : (walking oldWalk 24999999 up).can.walks.has 7 = true ∧
    oldWalk.used + 80000000000 ≤ coreNow (walking oldWalk 25000000 up) ∧ coreNow (walking oldWalk 24999999 up) < oldWalk.used + 80000000000 ∧
    (1023 + 1024 - regN up (ringConsR 0)) % 1024 = 1023 ∧ ¬ (1 + 1024 - regN (ringed 1 0 0 0 [] up) (ringConsR 0)) % 1024 < ringWaiting (ringed 1 0 0 0 [] up) 0 ∧
    (0 + 1024 - regN (ringed 1 0 0 0 [] up) (ringConsR 0)) % 1024 < ringWaiting (ringed 1 0 0 0 [] up) 0 ∧
    up.can.flush = none ∧ up.uptime < max (canTable up 0).tickAt up.can.ageFrom + ageTicks up 0 ∧
    max (canTable up 0).tickAt up.can.ageFrom + ageTicks up 0 ≤ 25000000 ∧
    bitAt up (canR 0 0) 24 = false ∧ bitAt (setBit (canR 0 0) 24 true (tabled false true {})) (canR 0 0) 24 = true ∧
    (canTable (tabled false true {}) 0).auto < allBuckets (canShape (tabled false true {}) 0) ∧ allBuckets (canShape up 0) = 0 ∧
    (commandOf (ringed 3 16 1 5 [] up) 0 0).flags % 2 = 1 ∧ (commandOf (ringed 3 16 1 5 [] up) 0 0).table = 16 ∧ walkReads up 16 = true ∧
    walkReads (tabled false true {}) 0 = true ∧ sweepReads (tabled false true {}) 0 = true ∧ up.can.walks.has 0 = false ∧ dmaOk false up = false ∧ dmaOk true up = true ∧
    (commandOf (ringed 4 16 0 5 [] up) 0 0).handle = 0 ∧ oldWalk.lost = false ∧ ({ oldWalk with lost := true }).lost = true ∧
    (commandOf (ringed 6 0 0 4096 [] up) 0 0).table ≠ 16 ∧ up.can.scan = none ∧ 8 * (commandOf (ringed 6 0 0 4096 [] up) 0 0).count ≤ eventRoom up ∧
    keyBad (ringed 3 0 1 5 [9, 9] (tabled false true {})) (commandOf (ringed 3 0 1 5 [9, 9] (tabled false true {})) 0 0) = true ∧
    ageLimit up 0 ≤ 32767 ∧ (canTable (tabled false true (holdsKey 3 true)) 0).atPos false (place0 [9]) = some (ent 3 true) ∧
    (canTable (tabled false true (holdsKey 3 false)) 0).age (ent 3 false) < ageLimit (tabled false true (holdsKey 3 false)) 0 := by decide +kernel

/-- A TCAM key of IPv4 with this address and length. -/
def pre (addr len : Nat) : Prefix := { v6 := false, vrf := 0, addr := addr, len := len, result := 0 }
def bank0 : Nat := (prefixBanks up (pre 0x0A000000 12)).headD 0
def banked (x : Tab (Prefix × Bool)) : State := { up with can := { banks := [(bank0, x)] } }

theorem witness_PrefixTcam : prefixBad (pre 0x0A000000 8) = false ∧ prefixBad (pre 0 0) = false ∧ prefixBad (pre 0xFFFFFFFF 32) = false ∧
    prefixBad (pre 0 33) = true ∧ prefixBad (pre 0x0A000001 8) = true ∧ findPrefix up (pre 0x0A000000 12) = none ∧
    (findPrefix (banked [(0, (pre 0x0A000000 12, false))]) (pre 0x0A000000 12)).isSome = true ∧ prefixBanks up (pre 0x0A000000 12) = [bank0] ∧
    (placeAll up (pre 0x0A000000 12) [bank0]).isSome = true ∧ (commandOf (ringed 3 16 2 0 [] up) 0 0).flags % 4 = 2 ∧
    2 ^ addrWidth false ≤ 0x100000000 ∧ (0xFFFFFFFF : Nat) < 2 ^ addrWidth false ∧ bankMatch (bankOf up bank0) false 0 0x0A000001 = none ∧
    (bankMatch (bankOf (banked [(0, (pre 0x0A000000 12, false))]) bank0) false 0 0x0A000001).isSome = true ∧
    steerBank up false 4095 = 63 ∧ (decide (4096 ≤ 4095) || ([0, 0, 0, 4095].take 3).any (· != 0)) = false ∧
    (decide (4096 ≤ 4096) || ([0, 0, 0, 4096].take 3).any (· != 0)) = true ∧ tcamOn up = false ∧ tcamOn (setRegN 0x04100000 1 up) = true ∧
    ([(0, 1)] : Tab Nat).any (fun x => decide (total (([(0, 1)] : Tab Nat).map Prod.snd) < 8 * x.2)) = true ∧
    (([] : Tab Nat).any fun x => decide (total (([] : Tab Nat).map Prod.snd) < 8 * x.2)) = false := by decide +kernel

/-- A bank whose first n slots are taken by prefixes of one slot of length 32. -/
def slots (n : Nat) : TcamBank := (List.range n).map fun k => (k, ({ v6 := false, vrf := 0, addr := k, len := 32, result := 0 }, false))

theorem mem_put_self {α : Type} (x : α) (n : Nat) : ∀ t : Tab α, (n, x) ∈ t.put n x
  | [] => by simp [Tab.put]
  | (k, v) :: r => by
    simp only [Tab.put]
    split
    · simp
    · split
      · simp
      · simp [mem_put_self x n r]

theorem packed_fold (l : List (Nat × Prefix)) (hl : ∀ y ∈ l, y.2.pair = false) (hn : l ≠ []) (x : TcamBank) (m : Nat) :
    ∃ q, q.pair = false ∧ (∃ y ∈ l, y.2 = q) ∧ (m + l.length - 1, (q, false)) ∈
      (l.foldl (fun (acc : TcamBank × Nat) y => (putSlot acc.1 acc.2 y.2, acc.2 + if y.2.pair then 2 else 1)) (x, m)).1 := by
  induction l generalizing x m with
  | nil => exact absurd rfl hn
  | cons y r ih =>
    have hy := hl y (List.mem_cons_self ..)
    by_cases hr : r = []
    · subst hr
      refine ⟨y.2, hy, ⟨y, List.mem_cons_self .., rfl⟩, ?_⟩
      simp only [List.foldl_cons, List.foldl_nil, putSlot, hy]
      exact mem_put_self (y.2, false) m x
    · obtain ⟨q, h1, ⟨z, hz, h2⟩, h3⟩ := ih (fun z hz => hl z (List.mem_cons_of_mem _ hz)) hr (putSlot x m y.2) (m + 1)
      refine ⟨q, h1, ⟨z, List.mem_cons_of_mem _ hz, h2⟩, ?_⟩
      simp only [List.foldl_cons, hy, List.length_cons]
      rw [show m + (r.length + 1) - 1 = m + 1 + r.length - 1 by omega]
      exact h3

theorem le_foldl_max {α : Type} (f : α → Nat) (l : List α) (m : Nat) :
    m ≤ l.foldl (fun m y => max m (f y)) m ∧ ∀ y ∈ l, f y ≤ l.foldl (fun m y => max m (f y)) m := by
  induction l generalizing m with
  | nil => simp
  | cons a r ih =>
    simp only [List.foldl_cons, List.forall_mem_cons]
    have := ih (max m (f a))
    exact ⟨by omega, by omega, this.2⟩

theorem placePrefix_end (x : TcamBank) (p q : Prefix) (hp : p.pair = false) (hq : q.pair = false) (hl : p.len ≤ q.len)
    (h : (16383, (q, false)) ∈ x) : placePrefix x p = none := by
  have he : 16384 ≤ groupEnd x p.len := by
    have hm : (16383, q) ∈ (heads x).filter fun y => decide (p.len ≤ y.2.len) := by
      simp only [List.mem_filter, heads, List.mem_filterMap, decide_eq_true_eq]
      exact ⟨⟨_, h, by simp⟩, hl⟩
    have h2 := (le_foldl_max (fun y : Nat × Prefix => y.1 + if y.2.pair then 2 else 1) _ 0).2 _ hm
    simp only [hq] at h2
    exact h2
  simp only [placePrefix, hp, openSingle, Nat.sub_eq_zero_of_le he]
  simp

theorem heads_slots (n : Nat) : heads (slots n) = (List.range n).map fun k => (k, { v6 := false, vrf := 0, addr := k, len := 32, result := 0 }) := by
  simp [heads, slots, List.filterMap_map, Function.comp_def]

/-- A bank without a free slot takes no further prefix. -/
theorem witness_PrefixTcam_full (p : Prefix) (hp : p.pair = false) (hl : p.len ≤ 32) : placeInBank (slots 16384) p = none := by
  have h1 : placePrefix (slots 16384) p = none :=
    placePrefix_end _ p { v6 := false, vrf := 0, addr := 16383, len := 32, result := 0 } hp rfl hl
      (List.mem_map.mpr ⟨16383, List.mem_range.mpr (by decide), rfl⟩)
  have h2 : placePrefix (packed (slots 16384)) p = none := by
    obtain ⟨q, hq, ⟨y, hy, hyq⟩, hm⟩ := packed_fold (heads (slots 16384)) (by simp [heads_slots, Prefix.pair])
      (by rw [heads_slots]; intro h; simpa using congrArg List.length h) [] 0
    refine placePrefix_end _ p q hp hq ?_ ?_
    · rw [heads_slots, List.mem_map] at hy
      obtain ⟨k, -, rfl⟩ := hy
      rw [← hyq]; exact hl
    · rw [heads_slots, List.length_map, List.length_range] at hm
      rw [packed, heads_slots]; exact hm
  rw [placeInBank, h1, h2]; rfl

/-- Steering value 0 moved from its bank to bank 1, which holds x. -/
def steered (x : TcamBank) : State :=
  { up with can := { banks := [(0, [(0, (pre 0 12, false))]), (1, x)] } }
def steerHeld (s : State) : List Prefix :=
  ((heads (bankOf s (steerBank s false 0))).map Prod.snd).filter fun q => q.v6 == false && (coveredValues q).contains 0
def steerPlaced (s : State) : Option TcamBank :=
  ((steerHeld s).filter fun q => !((heads (bankOf s 1)).any fun y => y.2.same q)).foldl
    (fun (x : Option TcamBank) q => x.bind fun b => placeInBank b q) (some (bankOf s 1))

theorem witness_PrefixTcam_steer : steerBank (steered []) false 0 = 0 ∧ steerHeld (steered []) = [pre 0 12] ∧
    (steerPlaced (steered [])).isSome = true ∧ up.uptime < up.can.windowFrom + 25 ∧ up.can.windowFrom + 25 ≤ 25 := by decide +kernel

theorem steered_state {x : TcamBank} : steerBank (steered x) false 0 = 0 ∧ bankOf (steered x) 0 = [(0, (pre 0 12, false))] ∧ bankOf (steered x) 1 = x :=
  ⟨(by decide +kernel : steerBank up false 0 = 0), rfl, rfl⟩

theorem steerPlaced_none {x : TcamBank} (h1 : (heads x).any (fun y => y.2.same (pre 0 12)) = false) (h2 : placeInBank x (pre 0 12) = none) :
    steerPlaced (steered x) = none := by
  have hh : steerHeld (steered x) = [pre 0 12] := by rw [steerHeld, steered_state.1, steered_state.2.1]; decide +kernel
  rw [steerPlaced, hh, steered_state.2.2]
  simp only [List.filter_cons, h1, Bool.not_false, if_true, List.filter_nil, List.foldl_cons, List.foldl_nil, Option.bind_some, h2]

theorem heads_slots_other (n : Nat) : (heads (slots n)).any (fun y => y.2.same (pre 0 12)) = false := by
  simp [heads_slots, Prefix.same, pre]

theorem witness_PrefixTcam_noRoom : steerPlaced (steered (slots 16384)) = none :=
  steerPlaced_none (heads_slots_other _) (witness_PrefixTcam_full _ (by decide) (by decide))

/-! ### Ch. 12 -/

def waits (hbm : Bool) (n : Nat) : Waiting :=
  { requester := 20, frame := { stored (List.replicate n 0) with hbm := hbm }, queues := [65536], got := 0, since := 0 }
/-- A frame of n bytes waits; owner 0 has a reserve and a maximum of 3 cells and pool 0 so many pages. -/
def waitingFor (hbm : Bool) (n pages : Nat) : State :=
  { setRegN (poolR 0 0x18) pages (setRegN 0x05000004 (2 ^ 31) (setRegN (0x05002004) 3 (setRegN 0x05002008 3 up))) with buf := { waiting := [waits hbm n] } }

theorem witness_BufferCells_quiet : PipesQuiet (waitingFor false 256 0) := ⟨fun _ _ => rfl, rfl⟩

theorem witness_BufferCells : coreOn (waitingFor false 256 0) = true ∧ (waits false 256).frame.pool = 0 ∧ (waits false 256).requester < 21 ∧
    0 < cellsFree (waitingFor false 256 0) 0 1 ∧ ¬ 0 < cellsFree (setRegN 0x05002004 0 (setRegN (poolR 0 0) 0 (waitingFor false 256 0))) 0 1 ∧
    (waits false 256).got + 1 = cellsOf (waits false 256).frame ∧ (waits false 257).got + 1 ≠ cellsOf (waits false 257).frame ∧
    pagesFit (waitingFor true 64 1) (waits true 64).frame = true ∧ pagesFit (waitingFor true 64 0) (waits true 64).frame = false ∧
    ownRsv (setRegN 0x05002004 0 (waitingFor false 256 0)) 0 ≤ ownUse (setRegN 0x05002004 0 (waitingFor false 256 0)) 0 ∧
    tierOf (setRegN 0x05000000 1 (setRegN (0x05100000 + 0x10 * 65545) 1 (waitingFor false 256 0))) (some 65545) 0 = some false ∧ cellsOf (CpuStored up (cpuFrame 64)) ≤ cellsFree (waitingFor false 256 0) 0 1 ∧
    up.buf.waiting = [] ∧ 0 < fld (setRegN (poolR 0 0) 1 up) (poolR 0 0) 15 0 ∧ coreNow up < 0 + 80 * fld (setRegN (poolR 0 0) 1 up) (poolR 0 0) 15 0 ∧
    0 + 80 * fld (setRegN (poolR 0 0) 1 up) (poolR 0 0) 15 0 ≤ coreNow { up with uptime := 1 } := by decide +kernel

/-- Frame 7 with these references, staged and in egress. -/
def holds (refs : Nat) (staged : Bool) : State :=
  { up with buf := { frames := [(7, { stored [1, 2] with refs := refs, staged := staged })], queues := [(67583, { frames := [7] })] },
            subs := [(0, { sending := some (7, 67583) })] }

theorem witness_BufferCommands : isLimit 0x05000020 = true ∧ bufMask 0x05000020 ≠ 0 ∧ isLimit 0x05002004 = true ∧ bufMask 0x05002004 ≠ 0 ∧
    (bits (100 : Word).toNat 31 24 + bits (100 : Word).toNat 23 16 + bits (100 : Word).toNat 15 8 + bits (100 : Word).toNat 7 0 ≤ 100) ∧
    ¬ (bits (101 : Word).toNat 31 24 + bits (101 : Word).toNat 23 16 + bits (101 : Word).toNat 15 8 + bits (101 : Word).toNat 7 0 ≤ 100) ∧
    cellsPlanned (setReg 0x05002004 786432 up) ≤ 786432 ∧ 786432 < cellsPlanned (setReg 0x05002004 786433 up) ∧ pagesPlanned up ≤ 25165824 ∧
    up.buf.flush = none ∧ ({ flush := some [7] } : Buffers).flush.isSome = true ∧ (queueOf (holds 1 false) 67583).frames = [7] ∧
    (frameOf (holds 2 false) 7).isSome = true ∧ ([7] : List Nat).Nodup ∧ readingPort (holds 1 false) 7 = none ∧ inEgress (holds 1 false) 7 = true ∧
    inEgress up 7 = false ∧ readingPort (holding [sent none] true) 0 = some 0 ∧ (∀ x ∈ (holds 1 false).buf.frames, x.2.staged = false) ∧
    ((holds 1 true).buf.frames.find? (fun x => x.2.staged)).isSome = true ∧ total (up.faults.withheld.map Prod.snd) = 0 ∧
    total (([(0, 3)] : List (Nat × Nat)).map Prod.snd) ≠ 0 := by decide +kernel

/-! ### Ch. 13 -/

def schBase : State := { up with time := { up.time with frc := 8000000 } }
def shaperWith (x : Shaper) : State := { up with sch := { shapers := [(0, x)] } }
def listed (ct : Nat) : State := { schBase with sch := { change := [(63, some (ct, {}))] } }
def gates (ct : Nat) : GateList := { cycle := 1000, base := ct, entries := [(1, 500), (2, 500)] }
def timed (s : State) : State := setRegN 0x01400004 (2 ^ 30) s

theorem witness_SchedulerQueues : queueCtx up 0 = 0 ∧ queueCtx (setRegN (schQueueR 65535 + 4) 4095 up) 65535 ≠ 0 ∧
    (queueOf (queued 64 up) 65536).frames ≠ [] ∧ queueLevel up 0 = bits (0 : Word).toNat 15 13 ∧
    queueLevel up 0 ≠ bits (0x2000 : Word).toNat 15 13 ∧ (shaperOf up 0).en = false ∧ (shaperOf (shaperWith { en := true }) 0).en = true ∧
    (let x := shaperOf (shaperWith { en := true, rate := 625, burst := 1 }) 0
     x.credit + ((x.part.val + 512 * x.rate) / 625 : Nat) < 65536 * (x.burst : Int)) ∧
    (let x := shaperOf (shaperWith { en := true, rate := 80000, burst := 1 }) 0
     65536 * (x.burst : Int) ≤ x.credit + ((x.part.val + 512 * x.rate) / 625 : Nat)) ∧
    (meterOf up 0).mode = 0 ∧ ({ cfg := [BitVec.ofNat 32 (2 ^ 30)] } : Meter).mode ≠ 0 ∧ up.sch.change.look none 63 = none ∧
    (listed 0).sch.change.look none 63 = some (0, {}) ∧ readNs (listed 100001) < 100001 ∧ 100000 ≤ readNs (listed 100000) ∧
    glRunning up 0 = false ∧ timeHeld up = false ∧ timeHeld (timed (listed 100000)) = true ∧ 100000 ≤ readNs (timed (listed 100000)) ∧
    up.time.frc < 8000 * (up.sch.refills + 1) ∧ 8000 * (schBase.sch.refills + 1) ≤ schBase.time.frc ∧
    (let s := timed { schBase with sch := { oper := [(0, gates 0)] } }
     glRunning s 0 = true ∧ (operList s 0).cycle ≠ 0 ∧ entryAt (operList s 0).entries ((readNs s - 0).toNat % 1000) 0 = some (1, 0)) := by
  decide +kernel

/-- The scheduler's command register with opcode and object, and the command in progress. -/
def schCmd (op k : Nat) : Word := BitVec.ofNat 32 (2 ^ 31 + op * 2 ^ 26 + k)
def running (op k : Nat) (s : State) : State := { s with sch := { s.sch with cmd := some (schCmd op k) } }

theorem witness_SchedulerCommands_names : SchCommand .meterSet 0 ∧ SchCommand .glCancel 6 := ⟨by unfold SchCommand; decide, by unfold SchCommand; decide⟩

theorem witness_SchedulerCommands : (running 0 0 up).sch.cmd.isSome = true ∧ up.sch.cmd = none ∧ (0 : Word).getLsbD 31 = false ∧
    (schCmd 6 0).getLsbD 31 = true ∧ cmdOp (schCmd 6 63) = 6 ∧ 6 < cmdOp (schCmd 7 0) ∧ cmdIndex (schCmd 3 16383) = 16383 ∧
    (∀ op ∈ [0, 1, 2, 3, 4, 5, 6], cmdOp (schCmd op 0) = op) ∧
    (let s := setRegN (stageR 0) (2 ^ 31) (setRegN (stageR 1) 5 (setRegN (stageR 2) 4 up))
     bits (stage s 0) 31 30 = 2 ∧ stage s 2 < stage s 1) ∧
    (let s := setRegN (stageR 0) (2 ^ 30) (setRegN (stageR 2) 1 up)
     bits (stage s 0) 31 30 = 1 ∧ stage s 2 ≠ 0) ∧ bits (stage up 0) 31 30 = 0 ∧
    (let s := running 3 0 (setRegN (stageR 0) (2 ^ 31) (shaperWith { credit := -5 }))
     (reg s (stageR 0)).getLsbD 31 = true ∧ (shaperOf s 0).en = false ∧ (shaperOf s 0).credit < 0 ∧ 0 ≤ (shaperOf up 0).credit) ∧
    (let s := setRegN (listR 0 4) 1000 up
     (up.sch.change.look none 0).isSome = false ∧ nsAt s (listR 0 0x1C) (listR 0 0x20) = 0 ∧
       (decide ((adminList s 0).cycle < 1000) || decide (1000000000 < (adminList s 0).cycle) ||
         (adminList s 0).entries.any (fun e => decide (e.2 < 8))) = false) ∧
    (adminList (setRegN (listR 0 4) 999 up) 0).cycle < 1000 ∧ ((listed 5).sch.change.look none 63).isSome = true := by decide +kernel

/-! ### Ch. 14 -/

/-- Port 0 locked in SYNC, with ID 1 in filter entry 1 and epoch 0 installed; Shroud enabled or not. -/
def secured (on : Bool) (d : Delin) (k : PortKeys) : State :=
  { setRegN 0x07000000 (bitN on) (setRegN (trkR 0 0x44) (2 ^ 31 + 1) (port 0 { locked := true, e := 50, delin := d } up)) with
    shr := { ports := [(0, { k with inst := [(0, some { root := 0, label := 0 })] })] } }
/-- An envelope header for this ID and LEN, with D of bit 33 set, its HEC good or not. -/
def envHead (id len : Nat) (good : Bool) : BitVec 64 :=
  let h := id * 2 ^ 52 + 2 ^ 33 + len * 2 ^ 16
  BitVec.ofNat 64 (h + (hec16 (bitsMsb (h / 2 ^ 16) 48) + bitN (!good)) % 2 ^ 16)
/-- The first 16 bytes of a sealed payload: IV_HI and SEQ 0, suite 1. -/
def sealHead : List Byte := List.replicate 12 0 ++ [1, 0, 0, 0]

theorem aesEnc_length (key b : List Byte) : (aesEnc key b).length = 16 := by simp [aesEnc, toBytes]
theorem gctrStream_length (key : List Byte) (k n : Nat) : (gctrStream key n k).length = 16 * k := by
  induction k generalizing n with
  | zero => rfl
  | succ k ih => simp only [gctrStream, List.length_append, aesEnc_length, ih]; omega
theorem gctr_length (key l : List Byte) (n : Nat) : (gctr key n l).length = l.length := by
  simp only [gctr, xorBytes, List.length_zipWith, gctrStream_length, ceilDiv]; omega
theorem xor_twice : ∀ (a s : List Byte), a.length ≤ s.length → List.zipWith (· ^^^ ·) (List.zipWith (· ^^^ ·) a s) s = a
  | [], _, _ => rfl
  | x :: a, y :: s, h => by
    simp only [List.zipWith_cons_cons, BitVec.xor_assoc, BitVec.xor_self, BitVec.xor_zero]
    rw [xor_twice a s (by simpa using h)]
  | _ :: _, [], h => by simp at h
/-- Text under GCM restores itself. -/
theorem gcmText_twice (key iv l : List Byte) : gcmText key iv (gcmText key iv l) = l := by
  have h := gctr_length key l (ofBytes iv * 2 ^ 32 + 2)
  simp only [gcmText]
  rw [gctr, h, gctr, xorBytes, xorBytes]
  exact xor_twice l _ (by simp only [gctrStream_length, ceilDiv]; omega)

/-- Under every key there is a payload of 128 bytes that opens, with a length field of 0. -/
theorem witness_ShroudTraffic_sealed (dk h6 : List Byte) : ∃ pay : List Byte, pay.length = 128 ∧ pay.getD 12 0 = 1 ∧
    ofBytes (slice pay 4 8) = 0 ∧
    gcmTag dk (pay.take 12) (h6 ++ pay.take 16) (slice pay 16 (128 - 32)) = slice pay (128 - 16) 16 ∧
    bits (ofBytes (slice (gcmText dk (pay.take 12) (slice pay 16 (128 - 32))) (128 - 128) 2)) 13 0 = 128 - 128 := by
  let ct := gcmText dk (List.replicate 12 0) (List.replicate 96 0)
  let tag := gcmTag dk (List.replicate 12 0) (h6 ++ sealHead) ct
  have hc : ct.length = 96 := by simp [ct, gcmText, gctr_length]
  have ht : tag.length = 16 := by simp only [tag, gcmTag, gctr_length]; simp [toBytes]
  have h1 : slice (sealHead ++ (ct ++ tag)) 16 96 = ct := by
    rw [slice, show (16 : Nat) = sealHead.length from rfl, List.drop_left, ← hc, List.take_left]
  have h2 : slice (sealHead ++ (ct ++ tag)) 112 16 = tag := by
    rw [slice, ← List.append_assoc, show (112 : Nat) = (sealHead ++ ct).length by rw [List.length_append, hc]; rfl, List.drop_left, ← ht,
      List.take_length]
  have h3 : (sealHead ++ (ct ++ tag)).take 16 = sealHead := by rw [show (16 : Nat) = sealHead.length from rfl, List.take_left]
  have h4 : (sealHead ++ (ct ++ tag)).take 12 = List.replicate 12 0 := rfl
  refine ⟨sealHead ++ (ct ++ tag), by simp [hc, ht, sealHead], rfl, rfl, ?_, ?_⟩
  · rw [h1, h2, h3, h4]
  · rw [h1, h4, gcmText_twice]; decide

/-- Port 0 so, with these payload bytes waiting and what the front header was matched with. -/
def running8 (d : Delin) (r : List Byte) (h : Option RunHead) (s : State) : State :=
  setFramer 0 { framer s 0 with delin := d, run := r, head := h } s
/-- An envelope of 128 bytes with its header good or not, and the next header good or not. -/
def whole8 (good next : Bool) : List Byte :=
  toBytes 8 (envHead 1 128 good).toNat ++ (sealHead ++ List.replicate 112 0) ++ toBytes 8 (envHead 1 0 next).toNat
def keyed : RunHead := { entry := some 1, key := some { root := 0, label := 0 } }

theorem witness_ShroudTraffic_state : framerOn (secured true .sync {}) 0 = true ∧ (framer (secured true .sync {}) 0).locked = true ∧
    framerOn up 0 = false ∧ (framer (secured true .hunt {}) 0).delin = .hunt ∧ (framer (secured true .presync {}) 0).delin = .presync ∧
    (framer (secured true .sync {}) 0).delin = .sync := by decide +kernel

theorem witness_ShroudTraffic_hunt : (let r := toBytes 8 (envHead 1 0 true).toNat
     4 * 0 + 8 ≤ min 8 r.length ∧ envHeaderGood (frontHeader (r.drop (4 * 0))) = true) ∧
    (let r := [1, 2, 3, 4] ++ toBytes 8 (envHead 1 128 true).toNat
     4 * 1 + 8 ≤ min 12 r.length ∧ envHeaderGood (frontHeader (r.drop (4 * 1))) = true ∧
       ∀ j, j < 1 → envHeaderGood (frontHeader (r.drop (4 * j))) = false) ∧
    (let r : List Byte := [1, 2, 3, 4, 5, 6, 7, 8]
     ∀ k, 4 * k + 8 ≤ min 8 r.length → envHeaderGood (frontHeader (r.drop (4 * k))) = false) := by
  refine ⟨by decide +kernel, by decide +kernel, fun k hk => ?_⟩
  have h0 : k = 0 := by simp only [List.length_cons, List.length_nil] at hk; omega
  subst h0; decide +kernel

theorem witness_ShroudTraffic_presync : bits (frontHeader (whole8 true true)) 29 16 = 128 ∧ min 143 (whole8 true true).length < envSize 128 + 8 ∧
    envSize 128 + 8 ≤ min 144 (whole8 true true).length ∧ envHeaderGood (frontHeader ((whole8 true true).drop (envSize 128))) = true ∧
    envHeaderGood (frontHeader ((whole8 true false).drop (envSize 128))) = false := by decide +kernel

theorem witness_ShroudTraffic_sync : min 7 (whole8 true true).length < 8 ∧ 8 ≤ min 8 (whole8 false true).length ∧
    envHeaderGood (frontHeader (whole8 false true)) = false ∧ envHeaderGood (frontHeader (whole8 true true)) = true ∧
    min 135 (whole8 true true).length < envSize 128 ∧ envSize 128 ≤ min 136 (whole8 true true).length ∧
    bits (frontHeader (toBytes 8 (envHead 1 0 true).toNat)) 29 16 = 0 ∧ envSize 0 ≤ 8 ∧
    filterEntry (secured true .sync {}) 0 2 = none ∧ filterEntry (secured true .sync {}) 0 1 = some 1 ∧
    bits (frontHeader (whole8 true true)) 63 52 = 1 ∧ bits (frontHeader (whole8 true true)) 35 34 = 0 ∧
    (frontHeader (whole8 true true)).testBit 33 = true ∧
    (framer (running8 .sync (whole8 true true) (some keyed) (secured true .sync {})) 0).head = some keyed ∧
    (({ keyed with key := none } : RunHead).key.isNone) = true ∧ epochOf (secured true .sync {}) 0 1 = none ∧
    epochOf (secured true .sync {}) 0 0 = keyed.key ∧
    (regnOf (setRegn 0 { version := 2 } (secured true .sync {})) 0).version = 2 ∧ (regnOf (setRegn 0 { version := 3 } (secured true .sync {})) 0).version = 3 ∧
    ({ keyed with key := some { root := 1, label := 0 } } : RunHead).key ≠ epochOf (secured true .sync {}) 0 0 ∧
    bitAt (secured true .sync {}) 0x07000000 0 = true ∧ bitAt (secured false .sync {}) 0x07000000 0 = false ∧
    (decide (128 ≤ 128) && (slice (whole8 true true) 8 128).getD 12 0 == 1) = true ∧ (decide (128 ≤ 127)) = false ∧
    windowPasses none 0 = true ∧ windowPasses (some (64, 1)) 0 = false ∧ windowPasses (some (63, 1)) 0 = true ∧
    windowPasses (some (63, 1)) 63 = false := by decide +kernel

/-- A KEY_ROTATE of this epoch to root 0 in frame sf, and its port with the root loaded or not. -/
def rotate (e sf : Nat) : TmmIn := tmm 0x09 [(350, e), (294, sf)]
def rotGot (e sf : Nat) (root : Bool) (k : PortKeys) : State :=
  { got (rotate e sf) (regd .operate) with
    shr := { roots := if root then [(0, some { key := [], use := 1, kcv := 0 })] else [], ports := [(0, k)] } }
def rot (dn : Bool) : Rotation := { epoch := 2, key := { root := 0, label := 0 }, sf := 50, dn := dn }

theorem witness_ShroudTraffic_rotate : TmmDue (rotGot 3 42 true {}) 0 0x09 (rotate 3 42) [] ∧ TmmDue (rotGot 3 41 true {}) 0 0x09 (rotate 3 41) [] ∧
    TmmDue (rotGot 3 42 false {}) 0 0x09 (rotate 3 42) [] :=
  ⟨tmmDue_of (by decide +kernel), tmmDue_of (by decide +kernel), tmmDue_of (by decide +kernel)⟩

theorem witness_ShroudTraffic_epochs : inService (rotGot 3 42 true {}) 0 = true ∧ frameInReach false (rotGot 3 42 true {}) 0 (rotate 3 42) 42 = true ∧
    frameInReach false (rotGot 3 41 true {}) 0 (rotate 3 41) 41 = false ∧ rootFor (rotGot 3 42 true {}) 0 0 = true ∧
    rootFor (rotGot 3 42 false {}) 0 0 = false ∧ (portKeys (rotGot 3 42 true { tx := some 3 }) 0).tx = some 3 ∧
    (portKeys (secured true .sync { pend := some (rot false) }) 0).pend = some (rot false) ∧ (rot false).dn = false ∧ (rot true).dn = true ∧
    (rot false).sf ≤ (framer (secured true .sync {}) 0).e ∧ (framer (secured true .sync {}) 0).e < ({ rot false with sf := 51 }).sf ∧
    hasUpstream (secured true .sync {}) 0 = false ∧ hasUpstream (setRegn 0 { ranged := true } (secured true .sync {})) 0 = true ∧
    (let s := setRegn 0 { ranged := true } (secured true .sync {})
     lineNow s 0 < upStart s 0 60 (halEqd s 0 60) ∧ upStart (atTime (10 ^ 9) s) 0 60 (halEqd s 0 60) ≤ lineNow (atTime (10 ^ 9) s) 0) ∧
    up.shr.deriv = [] ∧ (portKeys up 0).pend = none := by decide +kernel

/-- A job of this mode and length due on ring 0 with FIRST, LAST and KSRC; memories as Crosstree's or, with the host link down, the host's. -/
def job (mode flags len : Nat) (xt : Bool) : State :=
  setRegN (jobR 0 0 0) (mode * 2 ^ 28 + flags * 2 ^ 24 + bitN xt * 3) (setRegN (jobR 0 0 2) len (setRegN (jrProdR 0) 1 (setRegN 0x07000000 2 up)))
theorem jobDue_of {s : State} {mode : Nat} (h : (coreOn s && jobHead s 0 == some 0 && fld s (jobR 0 0 0) 31 28 == mode) = true) :
    JobDue s 0 0 mode := by
  simp only [Bool.and_eq_true, beq_iff_eq] at h
  exact ⟨h.1.1, h.1.2, h.2⟩

theorem witness_ShroudJobs_due : (∀ m ∈ [1, 2, 3, 4], JobDue (job m 7 16 true) 0 0 m) ∧ JobDue (job 1 15 16 false) 0 0 1 ∧ (job 1 7 16 true).memOk := by
  simp only [List.forall_mem_cons, List.not_mem_nil, false_imp_iff, implies_true, and_true]
  exact ⟨⟨jobDue_of (by decide +kernel), jobDue_of (by decide +kernel), jobDue_of (by decide +kernel), jobDue_of (by decide +kernel)⟩,
    jobDue_of (by decide +kernel), rfl, rfl, fun _ => rfl⟩

theorem witness_ShroudJobs : (dmaOk (jobOf (job 1 7 16 true) 0 0).inTgt (job 1 7 16 true) && dmaOk (jobOf (job 1 7 16 true) 0 0).outTgt (job 1 7 16 true)) = true ∧
    dmaOk (jobOf (job 1 7 16 false) 0 0).inTgt (job 1 7 16 false) = false ∧ (jobOf (job 1 7 16 true) 0 0).first = true ∧
    (jobOf (job 1 7 16 true) 0 0).last = true ∧ (jobOf (job 3 3 16 true) 0 0).first = false ∧ (jobOf (job 1 15 16 true) 0 0).decrypt = true ∧
    (jobOf (job 1 7 16 true) 0 0).decrypt = false ∧ KeyFor (job 1 6 16 true) (jobOf (job 1 6 16 true) 0 0) 32 = none ∧
    KeyFor (job 1 7 16 true) (jobOf (job 1 7 16 true) 0 0) 32 = some (List.replicate 32 0) ∧
    (let j := jobOf (setRegN (jobR 0 0 8) 100 (job 1 7 16 true)) 0 0; j.outAddr + j.len ≤ j.aux) ∧
    (jobOf (job 3 7 0 true) 0 0).len = 0 ∧ (jobOf (job 3 7 17 true) 0 0).len % 16 ≠ 0 ∧ (jobOf (job 4 7 15 true) 0 0).len < 16 ∧
    2 ^ 24 < (jobOf (job 4 7 (2 ^ 24 + 1) true) 0 0).len ∧
    (∀ key, KeyFor (job 4 7 16 true) (jobOf (job 4 7 16 true) 0 0) 64 = some key → key.take 32 = key.drop 32) ∧
    (let s := { job 4 7 16 true with xtMem := [(0, 1)] }
     ∃ key, KeyFor s (jobOf s 0 0) 64 = some key ∧ key.take 32 ≠ key.drop 32) ∧
    rootNamed up 0 = false ∧ rootNamed (secured true .sync {}) 0 = true ∧
    (let r := requestOf (asked 0x70) 0; (decide (32 ≤ r.arg 0) || r.arg 1 == 0 || decide (4 ≤ r.arg 1)) = true) ∧
    (let r := requestOf (setRegN (xtR 0 0x1004) 48 (setRegN (xtR 0 0x1008) 31 (setRegN (xtR 0 0x100C) 3 (asked 0x70)))) 0
     (decide (32 ≤ r.arg 0) || r.arg 1 == 0 || decide (4 ≤ r.arg 1)) = false) ∧
    up.shr.xmssReady = false ∧ ({ xmssReady := true, exhausted := true } : Shroud).exhausted = true ∧ ({ block := some 0 } : Shroud).block.isSome = true ∧
    (decide (({ fuses := 1024 } : Shroud).fuses = 1024) && ({ fuses := 1024 } : Shroud).block.isNone) = true ∧
    (decide (up.shr.fuses = 1024) && up.shr.block.isNone) = false ∧ ({ fuses := 1024 } : Shroud).exhausted = false := by
  have h : KeyFor (job 4 7 16 true) (jobOf (job 4 7 16 true) 0 0) 64 = some (List.replicate 64 0) := by decide +kernel
  have h2 : KeyFor { job 4 7 16 true with xtMem := [(0, 1)] } (jobOf { job 4 7 16 true with xtMem := [(0, 1)] } 0 0) 64 =
      some (1 :: List.replicate 63 0) := by decide +kernel
  refine ⟨?_, ?_, ?_, ?_, ?_, ?_, ?_, ?_, ?_, ?_, ?_, ?_, ?_, ?_, fun key hk => ?_, ⟨_, h2, by decide⟩, ?_⟩
  case refine_15 => rw [h, Option.some.injEq] at hk; rw [← hk]; decide
  all_goals decide +kernel

theorem witness_ShroudJobs_mailbox : ∀ code ∈ [0x70, 0x71, 0x72, 0x73], (asked code).xt.requests = [0] ∧ (requestOf (asked code) 0).code = code := by
  decide +kernel

/-! ### Ch. 15 -/

/-- Source 21 enabled at priority 5 toward target 0 and pending; target 0 with this stack. -/
def irq (stack : List (Nat × Nat)) (frozen : Bool) : State :=
  { setRegN 0x00100000 1 (setRegN (srcCfgR 21) (2 ^ 31 + 5) up) with
    ic := { src := [(21, { pending := true })], tgt := [(0, { stack := stack, frozen := frozen })] } }

theorem witness_Interrupts : (sourceExists 21 && srcEn (irq [] false) 21 && coreOn (irq [] false)) = true ∧
    (sourceExists 9 && srcEn up 9 && coreOn up) = false ∧ sourceExists 1012 = true ∧ sourceExists 1013 = false ∧
    tgtReached State.reset 0 = false ∧ tgtReached State.reset 21 = true ∧ tgtReached up 0 = true ∧
    (!(icTgt (irq [] false) 0).frozen && tgtEnabled (irq [] false) 0) = true ∧ highest (irq [] false) (qualifying (irq [] false) 0) = some 21 ∧
    highest (irq [(7, 5)] false) (qualifying (irq [(7, 5)] false) 0) = none ∧
    highest (irq [(7, 6)] false) (qualifying (irq [(7, 6)] false) 0) = some 21 ∧
    highest (irq (List.replicate 16 (7, 6)) false) (qualifying (irq (List.replicate 16 (7, 6)) false) 0) = some 21 ∧
    16 ≤ (icTgt (irq (List.replicate 16 (7, 6)) false) 0).stack.length ∧ (icTgt (irq [] true) 0).frozen = true ∧
    (icTgt (irq [(7, 5)] false) 0).stack = [(7, 5)] ∧ bits (7 : Word).toNat 9 0 = 7 ∧ bits (8 : Word).toNat 9 0 ≠ 7 ∧
    up.ic.funcMask = false ∧ ({ funcMask := true } : Interrupts).funcMask = true ∧ bitAt up 0x3380 31 = false ∧
    bitAt (setRegN 0x3380 (2 ^ 31) up) 0x3380 31 = true := by decide +kernel

/-! ### Ch. 16 -/

/-- READY, at this level, with the reef manager's further state r. -/
def reefAt (r : Reef) : State := { up with boot := { up.boot with ready := true }, reef := r }
/-- The same with port 5 in OPERATE. -/
def withPort (r : Reef) : State := setRegn 5 (regd .operate) (reefAt r)
def cmd (level : Nat) (noticed : Bool) : Word := BitVec.ofNat 32 (2 ^ 31 + level * 2 ^ 28 + bitN noticed * 2 ^ 27)

theorem witness_ReefRequests : reefStatus (reefAt {}) .pcie 1 = 0 ∧ reefStatus (reefAt {}) .pcie 3 = 0 ∧ reefStatus (reefAt {}) .xt 3 = 3 ∧
    reefStatus (reefAt { active := true }) .pcie 1 = 1 ∧ reefStatus (reefAt { phase := .waking }) .pcie 1 = 1 ∧
    (reefAt {}).reef.active = false ∧ (reefAt {}).reef.phase ≠ .waking ∧ (reefAt {}).reef.level ≠ 3 ∧ (reefAt {}).boot.ready = true ∧
    (reefAt {}).reef.busStuck = false ∧ (reefAt {}).reef.avsStuck = false ∧ bits (cmd 2 true).toNat 29 28 = 2 ∧ (cmd 2 true).getLsbD 27 = true ∧
    (cmd 0 false).getLsbD 27 = false ∧ (regnOf (withPort {}) 5).state = .operate ∧ (∀ p, p < 16 → (regnOf (reefAt {}) p).state ≠ .operate) ∧
    reg (setRegN 0x00200014 1 (withPort {})) 0x00200014 ≠ 0 ∧ reg (reefAt {}) 0x00200014 = 0 ∧ (reefAt { level := 1 }).reef.level = 1 ∧
    reefStatus (reefAt { level := 1 }) .bmc 1 = 0 := by decide +kernel

theorem witness_ReefRequests_set : MbDue (asked 0x80) 0 0x80 [] := ⟨⟨rfl, by decide +kernel⟩, by decide +kernel⟩

/-- A REEF_NOTICE of LEVEL and PORTS; a REEF_GRANT with SF_EFF besides; a PARK. -/
def notice (level ports : Nat) : TmmIn := tmm 0x0C [(350, level), (334, ports)]
def grant (level ports sf : Nat) : TmmIn := tmm 0x0D [(350, level), (334, ports), (283, sf)]
def parkMsg (sec : Nat) : TmmIn := tmm 0x11 [(320, sec)]
/-- Its port 0 in OPERATE, ports 1 and 2 enabled besides, LEVEL_CTL's POLICY bits set, with reef state r. -/
def reefGot (t : TmmIn) (r : Reef) : State :=
  { setRegN 0x00200000 3 (setRegN (trkR 2 0) 1 (setRegN (trkR 1 0) 1 (got t (regd .operate)))) with reef := r }

theorem witness_ReefRequests_due : TmmDue (reefGot (notice 2 1) {}) 0 0x0C (notice 2 1) [] ∧ TmmDue (reefGot (notice 3 1) {}) 0 0x0C (notice 3 1) [] ∧
    TmmDue (reefGot (grant 2 3 56) {}) 0 0x0D (grant 2 3 56) [] ∧ TmmDue (reefGot (grant 1 0 56) {}) 0 0x0D (grant 1 0 56) [] ∧
    TmmDue (reefGot (parkMsg 0) {}) 0 0x11 (parkMsg 0) [] ∧ TmmDue (reefGot (parkMsg 9) {}) 0 0x11 (parkMsg 9) [] := by
  refine ⟨tmmDue_of ?_, tmmDue_of ?_, tmmDue_of ?_, tmmDue_of ?_, tmmDue_of ?_, tmmDue_of ?_⟩ <;> decide +kernel

/-- A grant that darkens ports 0 and 1 of three and leaves port 2 is not refused at Reef 2; one frame earlier it is. -/
theorem witness_ReefRequests_granted : ¬ GrantRefused (reefGot (grant 2 3 56) {}) 0 (grant 2 3 56) := by
  have h : ∀ q, q < 16 → trunkDisabled (reefGot (grant 2 3 56) {}) q = false → (grantPorts (grant 2 3 56)).getLsbD q = false → q = 2 := by
    decide +kernel
  have h2 : grantLevel (grant 2 3 56) = 2 ∧ grantPorts (grant 2 3 56) = 3 ∧ grantSf (grant 2 3 56) = 56 ∧ (grant 2 3 56).sf = 40 ∧
      (grant 2 3 56).lookout = false ∧ trunkDisabled (reefGot (grant 2 3 56) {}) 2 = false ∧
      lineNow (reefGot (grant 2 3 56) {}) 0 < tRx (reefGot (grant 2 3 56) {}) 0 56 := by decide +kernel
  rintro (h1 | ⟨h1, -⟩ | ⟨-, h1 | h1 | ⟨h1, -⟩ | ⟨-, h1⟩⟩ | h1 | ⟨-, q, r, hn, hq, hr⟩)
  · rw [h2.1] at h1; simp at h1
  · rw [h2.1] at h1; simp at h1
  · rw [h2.2.2.1, h2.2.2.2.1] at h1; simp at h1
  · rw [h2.2.2.1, h2.2.2.2.1] at h1; simp at h1
  · rw [h2.2.2.2.2.1] at h1; simp at h1
  · rw [h2.2.2.1] at h1; exact absurd h1 (Nat.not_le.mpr h2.2.2.2.2.2.2)
  · exact h1 ⟨2, by decide, h2.2.2.2.2.2.1, by rw [h2.2.1]; decide⟩
  · exact hn ((h q hq.1 hq.2.1 hq.2.2).trans (h r hr.1 hr.2.1 hr.2.2).symm)
theorem witness_ReefRequests_refused : GrantRefused (reefGot (grant 2 3 55) {}) 0 (grant 2 3 55) ∧ GrantRefused (reefGot (grant 3 0 56) {}) 0 (grant 3 0 56) :=
  ⟨.inr (.inr (.inl (by decide +kernel))), .inl (by decide +kernel)⟩

def pendDark (ports : BitVec 16) (sf : Nat) : PendingDark :=
  { level := 2, asked := ports, ports := ports, clients := 1, sfEff := sf, carrier := 0, inOper := 0, due := 500 }

theorem witness_ReefRequests_grants : namedLit (reefGot (grant 2 3 56) {}) (grant 2 3 56) ≠ [] ∧ grantSf (grant 2 3 56) = 56 ∧
    grantLevel (grant 2 3 56) = 2 ∧ grantPorts (grant 2 3 56) = 3 ∧ (pendDark 3 56).asked = grantPorts (grant 2 3 56) ∧ (pendDark 3 55).sfEff < grantSf (grant 2 3 56) ∧
    (pendDark 1 56).asked ≠ grantPorts (grant 2 3 56) ∧ grantSf (grant 2 3 56) ≤ (pendDark 1 56).sfEff ∧
    namedLit (reefGot (grant 0 0 56) {}) (grant 0 0 56) = [] ∧ grantLevel (grant 0 0 56) ≤ (reefGot (grant 0 0 56) {}).reef.level ∧
    bitAt (reefGot (notice 2 1) {}) 0x00200000 1 = true ∧ tf (notice 2 1).bits 351 350 = 2 ∧ tf (notice 3 1).bits 351 350 = 3 ∧
    noticeOver up = false ∧ noticeOver { up with reef := { notice := some ⟨1, 0, 0, false, 0⟩ }, uptime := 25000 * 65535 } = true ∧
    darkDue up 0 = false ∧ darkDue { atTime 500 up with reef := { dark := some (pendDark 3 0) } } 1 = true ∧
    darkDue { atTime 499 up with reef := { dark := some (pendDark 3 0) } } 1 = false ∧ darkFrom up (pendDark 3 0) = 500 ∧
    (regnOf up 0).litAt = none ∧ hasTiming up 0 = false ∧ 0 + 25000 * fld up 0x00200048 15 0 ≤ 25000 * 65535 ∧
    GrantBlocks (reefGot (grant 2 3 56) {}) = 0 ∧ GrantBlocks (reefGot (grant 2 3 56) { dark := some (pendDark 3 55) }) = 1 ∧
    GrantTarget (reefGot (grant 0 0 56) { active := true, phase := .voltage, target := 2 }) (grant 0 0 56) = 2 ∧
    GrantTarget (reefGot (grant 1 0 56) { active := true, phase := .notice, target := 2 }) (grant 1 0 56) = 1 ∧
    portDark (setRegN 0x00200014 1 up) 0 = true ∧ (regnOf (reefGot (parkMsg 0) {}) 0).state = .operate ∧ (reefGot (parkMsg 0) {}).reef.active = false := by decide +kernel

def yes : PrepareAnswer := { drained := true, silent := [] }
/-- PREPARE toward this level from that one; WAKE_ARM of the timer. -/
def preparing (t l : Nat) : State := setRegN 0x00200054 1 (setRegN 0x00200024 0x20 (setRegN (srcCfgR 5) (2 ^ 31 + 2 ^ 29)
    (reefAt { phase := .prepare, active := true, target := t, level := l })))

theorem witness_ReefTransitions_prepare : ¬ SomeRefusal (preparing 1 0) yes ∧ ¬ SomeRefusal (preparing 0 1) yes ∧ ¬ SomeRefusal (preparing 3 0) yes ∧
    SomeRefusal (preparing 2 0) { yes with drained := false } ∧ SomeRefusal (preparing 1 0) { yes with silent := [1] } := by
  simp only [SomeRefusal]
  refine ⟨?_, ?_, ?_, ?_, ?_⟩ <;> decide +kernel

/-- At Reef 3 with trunk port 0 and client block 0 to wake: a wake due, or one that waits to retry its step 7. -/
def wakingUp (retry : Bool) : State :=
  let r : Reef := { level := 3, wakeDue := true, wakeRetry := retry, wakeStep := 7, wakeDom := 0x40, phase := bif retry then .waking else .idle }
  setRegN 0x00200060 1 (setRegN 0x00200064 1 { State.reset with reef := r })
def armed3 : State := setRegN 0x00200050 (2 ^ 31) (setRegN 0x00200024 8 (setRegN (srcCfgR 3) (2 ^ 31 + 2 ^ 29) (wakingUp false)))

theorem witness_ReefTransitions : parkWaits (preparing 1 0) = false ∧ (reefAt {}).reef.phase ≠ .prepare ∧ (preparing 3 0).reef.target = 3 ∧
    (preparing 0 1).reef.target < (preparing 0 1).reef.level ∧ (preparing 1 0).reef.level ≤ (preparing 1 0).reef.target ∧
    ((8 : Fin 9).val ≠ 0 ∧ (4 : Fin 9).val < 5) ∧ up.reef.granted = false ∧
    ({ phase := .voltage, raising := true, lowerAt := 0 } : Reef).lowerAt + 25000 * max 1 (fld up 0x00200040 23 16) ≤ 25000 * 255 ∧
    ({ lowerTo := some 5 } : Reef).lowerTo = some 5 ∧ up.reef.lowerTo = none ∧
    ({ lowerTo := some 5 } : Reef).lowerAt + 25000000 ≤ 25000000 ∧ up.reef.avsStuck = false ∧ bitAt up 0x00200050 31 = false ∧
    bitAt armed3 0x00200050 31 = true ∧
    wakeArmed armed3 3 = true ∧ wakeArmed up 3 = false ∧
    (icSrc up 3).pending = false ∧ bitAt up 0x00200020 3 = false ∧ wakeTimerOver up = false ∧
    wakeTimerOver (setRegN 0x00200054 1 { wakingUp false with reef := { level := 3, timerFrom := some 0 }, uptime := 25000000 }) = true ∧
    (wakingUp false).reef.level = 3 ∧ (wakingUp false).reef.wakeDue = true ∧ (wakingUp false).reef.wakeRetry = false ∧
    (wakingUp true).reef.wakeRetry = true ∧ (wakingUp true).reef.phase = .waking ∧
    (wakingUp true).reef.retryAt ≤ (wakingUp true).uptime ∧
    (reefAt { level := 2, phase := .commit, target := 1 }).reef.target < 2 ∧ (reefAt { phase := .entering, level := 1 }).reef.phase = .entering ∧
    (domsBefore 7 0x40 (wakeDoms (wakingUp true))).length < (domsBefore 7 0x20 (wakeDoms (wakingUp true))).length ∧
    ¬ (domsBefore 7 0x40 (wakeDoms (wakingUp true))).length < (domsBefore 3 3 (wakeDoms (wakingUp true))).length ∧ (7, 0x20) ∈ wakeDoms (wakingUp false) ∧
    (6, 0x10) ∈ domsBefore 7 0x40 (wakeDoms (wakingUp true)) := by decide +kernel

theorem witness_ReefTransitions_rail : ¬ RailHeld up ∧ RailHeld (reefAt { busStuck := true }) ∧ RailHeld (reefAt { avsStuck := true }) := by
  simp only [RailHeld]; decide +kernel

/-! ### Ch. 17 -/

/-- Start-up at this stage with supplies good; s besides. -/
def atStage (n : Nat) (s : State) : State :=
  { setFld 0x10100 31 28 n s with boot := { s.boot with supplies := true } }
/-- Slot 0 of flash 0 says that it has no section. -/
def noSections : State := { State.reset with flash := [(0, [(0x0100000A, 0), (0x0100000B, 0)])] }

theorem witness_StartUp : State.reset.boot.supplies = false ∧ (∀ n ∈ [0, 1, 2, 3, 4, 5, 6, 7, 8, 9, 10, 11, 12, 13, 14, 15], bootStage (atStage n State.reset) = n) ∧
    (atStage 3 State.reset).boot.supplies = true ∧ (atStage 3 State.reset).boot.furled = false ∧ (bootRecord State.reset).testBit 31 = false ∧
    (∀ k ∈ slotOrder (bootRecord State.reset), (slotCheck State.reset (k / 2) (k % 2)).1 ≠ 1) ∧ slotOrder (bootRecord State.reset) = [0, 1, 2, 3] ∧
    (sectionsOf noSections 0 0).filter (fun x => x.type == 0x20 || x.type == 0x21 || x.type == 0x30) = [] ∧
    bootKind (setFld 0x10100 27 26 1 (atStage 5 State.reset)) = 1 ∧ bootStage (setFld 0x10100 27 26 1 (atStage 5 State.reset)) = 5 ∧
    bootKind State.reset ≠ 1 ∧ ({ coreTries := 2 } : Boot).coreTries = 2 ∧ State.reset.reef.busStuck = false ∧
    bitAt up (xtR 0 4) 31 = false ∧ bitAt (setRegN (xtR 0 4) (2 ^ 31) up) (xtR 0 4) 31 = true := by decide +kernel

/-- The hypothesis of stage 6 is met where the digest of the firmware in use is that of the slot's section. -/
theorem witness_StartUp_firmware :
    let s := atStage 6 noSections
    let t : State := { s with boot := { s.boot with fwDigest := Config.shake256 32 [] } }
    Config.shake256 32 (oneSection t 0 0 1) = t.boot.fwDigest ∧ bootStage t = 6 ∧ usedFlash t = 0 ∧ usedSlot t = 0 := by
  have h : oneSection noSections 0 0 1 = [] := by decide +kernel
  have h2 : bootStage (atStage 6 noSections) = 6 := by decide +kernel
  exact ⟨congrArg _ h, h2, rfl, rfl⟩

/-- A request of this code and version with these words, at the head of the queue of mailbox 0. -/
def request (ver code : Nat) (words : List Nat) (s : State) : State :=
  let s1 := setRegN (xtR 0 0x1000) (ver * 2 ^ 24 + code) (setRegN (xtR 0 0x1004) (7 * 2 ^ 16 + 4 * words.length) s)
  { (upTo words.length).foldl (fun s k => setRegN (xtR 0 (0x1008 + 4 * k)) (words.getD k 0) s) s1 with xt := { requests := [0] } }
/-- After start-up, with version 1 and 2 of the mailbox. -/
def started : State := setRegN 0x1014C 6 (setFld 0x10100 31 28 14 { up with boot := { up.boot with domOn := [(4, true)] } })

theorem witness_StartUp_mailbox : mbJudge started (requestOf (request 2 0x40 [0, 1] started) 0) = none ∧
    mbJudge started (requestOf (request 1 0x40 [0, 1] started) 0) = some 3 ∧ mbJudge (setFld 0x10100 31 28 6 started) (requestOf (request 2 0x40 [0, 1] started) 0) = some 1 ∧
    mbVersion started 3 = false ∧ 6 < bootStage started ∧ (request 2 0x18 [] started).xt.requests = [0] ∧
    (requestOf (request 2 0x18 [] started) 0).code = 0x18 ∧ 3 ≤ bootStage (request 2 0x18 [] started) := by decide +kernel

/-- A request of version 2 that waited at the furl is at the head and is not due; one of version 1 is. -/
theorem witness_StartUp_stale (h : State) (e : h = { request 2 0x18 [] started with boot := { started.boot with furled := true } }) :
    MbFirst h 0 0x18 [] ∧ ¬ MbDue h 0 0x18 [] := by
  subst e
  exact ⟨⟨rfl, by decide +kernel, by decide +kernel⟩, fun x => absurd (x.2 rfl) (by decide +kernel)⟩

theorem witness_MailboxCommands_due : ∀ code ∈ [0x01, 0x10, 0x11, 0x12, 0x13, 0x14, 0x15, 0x40, 0x41, 0x42, 0x43, 0x50, 0x51, 0x52],
    (request 2 code [0, 1] started).xt.requests = [0] ∧ (requestOf (request 2 code [0, 1] started) 0).code = code := by decide +kernel

def slotArgs (s : State) : Bool := decide ((requestOf s 0).arg 0 < 2) && decide ((requestOf s 0).arg 1 < 2)
/-- Slot 0 of flash 0 runs, as the trial slot or not. -/
def running0 (trial : Bool) : State := { setBit 0x10100 20 true started with boot := { started.boot with trial := trial } }

theorem witness_MailboxCommands : started.boot.coreUp = true ∧ slotArgs (request 2 0x10 [1, 1] started) = true ∧ slotArgs (request 2 0x10 [2, 1] started) = false ∧
    (requestOf (request 2 0x10 [1, 1] started) 0).ver = 2 ∧ started.boot.furled = false ∧ runningSlot started 0 0 = false ∧ runningSlot (running0 false) 0 0 = true ∧ flashUp started 1 = true ∧
    flashUp { started with boot := { started.boot with flashFault := 2 } } 1 = false ∧
    (let r := requestOf (request 2 0x11 [0, 0, 0x0EFFFFFC, 5] started) 0; r.arg 2 + (bytesOfWords (r.body.drop 3)).length ≤ 0x0F000000) ∧
    (let r := requestOf (request 2 0x11 [0, 0, 0x0EFFFFFD, 5] started) 0; 0x0F000000 < r.arg 2 + (bytesOfWords (r.body.drop 3)).length) ∧
    (let r := requestOf (request 2 0x12 [0, 0, 0x0EFFFFFC, 4] started) 0; r.arg 3 ≤ 4088 ∧ r.arg 2 + r.arg 3 ≤ 0x0F000000) ∧
    checkStatus (slotCheck started 0 0).1 ≠ 0 ∧ checkStatus 1 = 0 ∧ started.boot.trial = false ∧ (running0 true).boot.trial = true ∧
    goodFlashes started = [0, 1] ∧ goodFlashes { started with boot := { started.boot with flashFault := 3 } } = [] ∧
    (requestOf (request 2 0x40 [15, 1] started) 0).arg 0 < 16 ∧ 16 ≤ (requestOf (request 2 0x40 [16, 1] started) 0).arg 0 ∧
    (requestOf (request 2 0x40 [15, 1] started) 0).arg 1 % 2 = 1 ∧ hasTiming started 15 = false ∧ (regnOf started 0).state = .init ∧
    (∀ st ∈ early, silenceOk (setRegn 0 (regd st) started) 0 = true) ∧ silenceOk started 0 = false ∧ ppsSource started = false ∧
    ppsSource (setRegN 0x01400000 0x1000 started) = true := by decide +kernel

theorem witness_MailboxCommands_ok : started.memOk := ⟨rfl, rfl, fun _ => rfl⟩

/-- A log record and, without it, a copy toward Crosstree waiting for the notification ring of 1,024 units. -/
def ring (link : Bool) (logs : List (Nat × List Byte)) : State :=
  let c : Copy := { cls := 3, down := false, words := [], stamp := 0, length := 0, bytes := [] }
  { setRegN 0x0A020018 8 (setRegN 0x0A020000 (2 ^ 31) up) with xt := { records := logs }, ic := { linkUp := link }, cls := { cpu := [c] } }

theorem witness_MailboxCommands_ring : nextRecord up = none ∧ (nextRecord (ring true [(1, [2])])).isSome = true ∧ (nextRecord (ring true [])).isSome = true ∧
    bitAt (ring true []) 0x0A020000 31 = true ∧ bitAt up 0x0A020000 31 = false ∧ (ring true [(1, [2])]).xt.records ≠ [] ∧ (ring true []).ic.linkUp = true ∧
    (let s := ring true []; (nrProd s + nrUnits s - nrCons s) % nrUnits s + 0 + 1 < nrUnits s) ∧ (ring false []).ic.linkUp = false ∧ (ring false [(1, [2])]).xt.records ≠ [] ∧
    (reg64 (ring false []) 0x0A020018).testBit 3 = true ∧ (ring false []).cls.cpu ≠ [] ∧ up.cls.cpu = [] ∧
    (reg64 (setRegN 0x0A020018 0 (ring false [])) 0x0A020018).testBit 3 = false := by decide +kernel

/-! ### Ch. 18 -/

/-- The core up with HBM available, and start-up at this stage. -/
def running1 (stg : Nat) (f : Faults) : State :=
  { setRegN 0x05000004 (2 ^ 31) (setFld 0x10100 31 28 stg up) with
    faults := f, boot := { up.boot with domOn := [(0, true), (1, true), (4, true), (5, true), (0x10, true), (0x20, true), (0x40, true)] } }

theorem witness_MemoryFaults : structOn State.reset 1 = false ∧ structOn (running1 14 {}) 1 = true ∧ structOn (running1 14 {}) 5 = true ∧
    hbmStruct 5 = true ∧ hbmStruct 1 = false ∧ (coreOn (running1 14 {}) && structOn (running1 14 {}) 4 && (4 : Nat) != 8) = true ∧
    (coreOn (running1 14 {}) && structOn (running1 14 {}) 8 && (8 : Nat) != 8) = false ∧ (running1 14 {}).boot.furled = false ∧
    (∀ n ∈ [9, 10, 11, 12], bootStage (running1 n {}) = n) ∧ ¬ (9 ≤ bootStage (running1 14 {}) ∧ bootStage (running1 14 {}) ≤ 12) ∧
    restorable 4 = true ∧ restorable 5 = true ∧ restorable 1 = false ∧ (4, 9) ∈ (running1 14 { restoring := [(4, 9)] }).faults.restoring ∧
    (running1 14 {}).faults.restoring = [] ∧ needsMirror (4, 9) = true ∧ needsMirror (0xB, 0) = false ∧ restorable 0xB = true ∧
    (running1 14 { lastUe := [(4, (9, 0))] }).faults.lastUe.look (0, 0) 4 = (9, 0) ∧ (running1 14 { restoring := [(4, 9), (0xB, 0)] }).faults.restoring = [(4, 9)] ++ (0xB, 0) :: [] ∧ hbmAvail up = false ∧ hbmAvail (running1 14 {}) = true ∧
    (coreOn (running1 14 {}) && domOn (running1 14 {}) 0x10 && !(running1 14 {}).boot.furled) = true := by decide +kernel

theorem witness_ResetsAndPins : (coreOn up && !up.boot.furled && pairServes up 3) = true ∧ takingOver up 3 = false ∧
    takingOver (running1 14 { pairs := [(2, { mismatches := [0], down := true })] }) 3 = true ∧
    2 ≤ ((pairOf (running1 14 { pairs := [(3, { mismatches := [0, 0] })] }) 3).mismatches.filter fun t => decide (0 < t + 25000000 * 86400)).length ∧
    2 ≤ ((upTo 8).filter fun j => j != 3 && pairRetired (setRegN 0x501C 0x3FF up) j).length ∧
    (coreOn up && !up.boot.furled && (pairOf (running1 14 { pairs := [(3, { down := true })] }) 3).down && !pairRetired up 3) = true ∧
    bits (0x7A3C : Word).toNat 15 0 = 0x7A3C ∧ bits (0x7A3D : Word).toNat 15 0 ≠ 0x7A3C ∧
    bitAt (setRegN 0x5004 (2 ^ 31 + 1) up) 0x5004 31 = true ∧ 0 + 25000 * max 1 (fld (setRegN 0x5004 (2 ^ 31 + 1) up) 0x5004 15 0) ≤ 25000 ∧
    (2 ≤ (6 : BitVec 4).toNat ∧ (6 : BitVec 4).toNat ≤ 6 ∧ 3 ≤ bootStage (running1 3 {})) ∧ (7 : BitVec 4).toNat = 7 ∧ bootStage State.reset < 3 ∧
    domPowered (running1 14 {}) 5 = true ∧ domPowered (running1 14 {}) 0x10 = true ∧ domPowered (port 0 {} (running1 14 {})) 0x20 = true ∧
    domPowered (running1 14 {}) 0x20 = false ∧ domPowered (running1 14 {}) 0x40 = true ∧ domPowered (running1 14 {}) 0 = false ∧
    coreOn State.reset = false ∧ domOn State.reset 5 = false ∧ domOn (running1 14 {}) 5 = true ∧ (running1 14 {}).ic.linkUp ≠ true ∧
    linkCode true true (laneOf up 275).tx = 5 ∧ linkCode true false 5 = 0 ∧ linkCode false true 5 = 1 ∧ linkCode true true 8 = 8 ∧
    up.faults.xtalInt = false ∧ ({ xtalInt := true } : Faults).xtalInt = true ∧ up.reef.busStuck = false ∧ ({ avsStuck := true } : Reef).avsStuck = true ∧
    4 ≤ bootStage (running1 4 {}) ∧ bootStage (running1 13 {}) < 14 ∧ 14 ≤ bootStage (running1 14 {}) ∧
    (coreOn (running1 14 {}) && (flashUp (running1 14 {}) 0 || flashUp (running1 14 {}) 1)) = true ∧ (coreOn up && (flashUp up 0 || flashUp up 1)) = false ∧
    ({ uncopied := 1 } : Faults).uncopied ≠ 0 ∧ ({ copied := 16 } : Faults).copied ≥ 16 ∧ ({ lost := 3 } : Faults).lost ≠ 0 ∧
    flashUp up 0 = false ∧ ((List.replicate 16 (0 : Word)).length = 16) := by decide +kernel

/-- Power-good of the core domain lost: the domain is on. -/
theorem witness_ResetsAndPins_core : domPowered { running1 14 {} with boot := { up.boot with domOn := [(3, true)] } } 3 = true := by decide +kernel

/-! ### Ch. 19 and the machine -/

theorem witness_RegisterAccess : present State.reset (trkR 0 0x20) = false ∧ present up (trkR 0 0x20) = true ∧ rowOf 0x0001FFFC = none ∧
    (rowOf (trkR 0 0x20)).map (fun x => (x.1.words, x.2)) = some (1, 0) ∧ (writeEffect .xt (trkR 0 0x20) 5 up).isNone = true ∧
    present up 0x06001010 = true ∧ (rowOf 0x06001010).map (fun x => (x.1.words, x.2)) = some (2, 1) ∧
    (writeEffect .pcie 0x06001010 5 up).isNone = true ∧ (rowOf 0x0600100C).map (fun x => (x.1.words, x.2)) = some (2, 0) ∧
    (writeEffect .pcie 0x0600100C 5 up).isNone = true ∧ (rowOf 0x0600100C).all (fun x => writable up x.1 0 ||| x.1.w1cMask != 0) = true ∧
    (rowOf 0x06001010).all (fun x => openBits up x.1 1 ||| x.1.w1cMask != 0) = true ∧
    (pathOf (setPath .pcie { high := [(0x06001010, 9)] } up) .pcie).high.has 0x06001010 = true ∧ (pathOf up .pcie).high.has 0x06001010 = false ∧
    (readEffect .xt 0x0600100C up).isNone = true ∧ (readEffect .xt (trkR 0 0x20) up).isNone = true ∧
    fld (setRegN 0x0B000000 65535 up) 0x0B000000 15 0 ≠ 0 ∧ snapDue up = false ∧ snapDue (setRegN 0x0B000000 1 up) = false ∧
    (let s := { setRegN 0x0B000000 1 up with uptime := 25000 }
     fld s 0x0B000000 15 0 ≠ 0 ∧ s.xt.snapFrom + 25000 * fld s 0x0B000000 15 0 ≤ s.uptime) ∧
    (let s := setRegN (cliR 0 0) 4 up
     paired s 1 = true ∧ (subR 1 0 0 - 0x02000000) / 0x10000 = 1 ∧ (answers s (subR 1 0 0) && absentSet s (subR 1 0 0) && subR 1 0 0 % 0x1000 == 0) = true ∧
       paired up 1 = false) ∧
     bitAt up 0x0B001000 31 = false ∧
    bitAt (setRegN 0x0B0013FC (2 ^ 31) up) 0x0B0013FC 31 = true := by decide +kernel

def pcie (a n : Nat) (d : Option (List Word)) : PcieRequest := { addr := BitVec.ofNat 64 a, dwords := n, fullEnables := true, data := d }
def linked (s : State) : State := { s with ic := { s.ic with linkUp := true } }
/-- An in-band MB_HELLO of version 1, SEQ 5, without a tag. -/
def hello : InbandArrival :=
  { fromTrunk := false, port := 0, source := 0, stream := 0,
    bytes := [1, 1, 0, 0] ++ toBytes 8 5 ++ [1, 0] ++ [0, 1] ++ [0, 7] ++ [0, 0] }

theorem witness_AccessPaths : up.ic.linkUp = false ∧ (linked up).ic.linkUp = true ∧ 16 < (pcie 0 17 none).dwords ∧ (pcie 0 16 none).dwords ≤ 16 ∧
    ((pcie 0x0FFFFFFC 1 none).addr.toNat % 4 = 0 ∧ (pcie 0x0FFFFFFC 1 none).addr.toNat + 4 * 1 ≤ 0x10000000) ∧
    ¬ (pcie 0x0FFFFFFC 2 none).addr.toNat + 4 * 2 ≤ 0x10000000 ∧ (pcie 2 1 none).addr.toNat % 4 ≠ 0 ∧
    (pcie 0 2 (some [5, 6])).data = some [5, 6] ∧ ((8 : Nat) ≠ 4 ∨ (0 : BitVec 64).toNat % 4 ≠ 0) ∧ ¬ 0x0FFFFFFF < (0x0FFFFFFC : BitVec 64).toNat ∧
    0x0FFFFFFF < (0x10000000 : BitVec 64).toNat ∧ up.bmc.code < 256 ∧ directOk 0x1FFFC = true ∧ directOk 0x20000 = false ∧ directOk 2 = false ∧
    (readEffect .bmc (canonAddr 0x100) (bmcSeen up)).isNone = true ∧ (0x1FFF8 : Word).toNat + 4 < 2 ^ 32 ∧ up.bmc.running = none ∧
    ({ running := some (0x100, none) } : Bmc).running ≠ none ∧ answers up (canonAddr 0x01000000) = true ∧ answers State.reset (canonAddr 0x01000000) = false ∧
    (0x0FFFFFFF : Word).toNat % 4 ≠ 0 ∧ (0x5A5AC3C3 : Word) = 0x5A5AC3C3 ∧ 3 ≤ bootStage (running1 3 {}) ∧ up.xt.requests = [] ∧
    hello.bytes.length = 20 + fieldBe hello.bytes 18 2 ∧ fieldBe hello.bytes 0 2 = 0x0101 ∧ bitAt up 0x0A030000 31 = false ∧
    mcAccepts (setRegN 0x0A030000 (2 ^ 31) started) hello = true ∧ fieldBe hello.bytes 14 2 = 1 ∧ mbJudge started (msgRequest hello.bytes) = none ∧
    (pcie 0 1 none).config = none ∧ (0x77 : Byte) ∉ ([0x9F, 0x05, 0x0B, 0x02, 0x21, 0x22, 0x23, 0xA5] : List Byte) ∧
    macUp (setRegN (cliR 32 0) 1 (cli 32 1)) 32 0 = true := by decide +kernel

theorem witness_StepRunsCommand : ({ up with pending := [.forceHunt 3, .imgErase ⟨0, false⟩] } : State).pending = .forceHunt 3 :: [.imgErase ⟨0, false⟩] ∧ up.pending = [] :=
  ⟨rfl, rfl⟩

/-- A full stack of 16, with source 21 pending behind it. -/
def fullStack : State := irq (List.replicate 16 (7, 6)) false

theorem witness_StackDepth : State.reset.stacksOk ∧ fullStack.stacksOk ∧ tgtReached fullStack 0 = true ∧ (icTgt fullStack 0).stack.length = 16 ∧ tgtPowered fullStack 0 = true ∧
    (icTgt fullStack 0).frozen = false ∧ tgtEnabled fullStack 0 = true ∧ bits (7 : Word).toNat 9 0 = 7 ∧
    (icTgt fullStack 0).stack = (7, 6) :: List.replicate 15 (7, 6) ∧
    (let u := { fullStack with ic := { fullStack.ic with tgt := [(0, { stack := List.replicate 15 (7, 6) })] } }
     qualifies u 0 21 = true ∧ u.ic.src.has 21 = true ∧ highest u (qualifying u 0) = some 21) := by
  refine ⟨fun _ => by simp [icTgt, State.reset, Tab.look], fun t => ?_, ?_, ?_, ?_, ?_, ?_, ?_, ?_⟩
  · by_cases h : t = 0
    · subst h; decide +kernel
    · simp [icTgt, fullStack, irq, Tab.look, h]
  all_goals decide +kernel

theorem witness_WhatStepsKeep : State.reset.memOk ∧ up.memOk ∧ OfCore (.forceHunt 0) ∧ OfFlash .logCopy ∧ OfHost .nrRecordWrite ∧ coreOn State.reset = false :=
  ⟨⟨rfl, rfl, fun _ => rfl⟩, ⟨rfl, rfl, fun _ => rfl⟩, trivial, trivial, trivial, rfl⟩

theorem witness_PortIndependence : OfPort 3 (.losRaise 3) ∧ OfPort 15 (.timeSetHeldApply 15) ∧ ¬ OfPort 3 (.losRaise 4) :=
  ⟨rfl, rfl, by simp [OfPort]⟩

/-! ### The spec's worked examples -/

/-- Addresses of R9's example: lane 171, the framer, Halyard and the interrupt sources of trunk port 5 (ch. 00). -/
theorem test_addresses : laneR 171 0 = 0x082AC000 ∧ trkR 5 0 = 0x01050000 ∧ halR 5 0 = 0x01058000 ∧ 128 + 8 * 5 + 3 = 171 ∧
    trkR 6 0x404 = 0x01060404 := by decide

/-- "Encoding 1,000,000 bytes" (ch. 04). -/
theorem test_occupancy : occCode 1000000 = 0x4F43 ∧ occCode 2047 = 2047 := by decide +kernel

/-- A grant of START 10,000 in frame N + 2 at EqD 131,788,800: T0 is 1,367,886 slots after t_rx(N) (ch. 04). -/
theorem test_burst_instant :
    slotAt (setRegn 6 { state := .operate, eqd := 131788800 } (port 6 { locked := true, e := 100, lastSf := some 99 } up)) 6
      { sf := 102, start := 10000, len := 4, alloc := 7, rpt := false, rigid := false, ranging := false, ext := false, chain := false,
        cont := false } 9998 -
      tRx (port 6 { locked := true, e := 100, lastSf := some 99 } up) 6 100 = 500 * 1367886 := by decide +kernel

/-- "A doze gap": DZ_IN 80 and DZ_OUT 240 pass at the reset values of DOZE_CTL in version 2; DZ_OUT 305 does not (ch. 07, R207). -/
theorem test_doze_check :
    (waiken (dozeCheck 0 (setRegN (wknR 0 0x2C) (80 * 2 ^ 16 + 240) (setWaiken 0 { version := 2 } up))) 0).noDoze = false ∧
    (waiken (dozeCheck 0 (setRegN (wknR 0 0x2C) (80 * 2 ^ 16 + 305) (setWaiken 0 { version := 2 } up))) 0).noDoze = true := by decide +kernel

/-- The servo's RATE for 1,250,003,125 ticks per 8,000 frames, and with a slew of +1 ppm (ch. 06). -/
theorem test_servo : servoBase 8000 (1250003125 * 64) = -10995089 ∧ servoBase 8000 (1250003125 * 64) + slewRate up = -6597042 ∧
    BitVec.ofInt 32 (-10995089) = 0xFF583A6F ∧ BitVec.ofInt 32 (-6597042) = 0xFF9B564E := by decide +kernel

/-- "A shaper in debt": 125 bytes a tick, then 12.5 after a SHAPER_SET, and credit +9 after 558 ticks (ch. 13). -/
theorem test_shaper_refill :
    ({ en := true, rate := 10000000, burst := 20000, credit := -7216 * 65536 } : Shaper).refilled.credit = -7091 * 65536 ∧
    ({ en := true, rate := 1000000, burst := 20000, credit := -6966 * 65536 } : Shaper).refilled.credit = -13907 * 32768 := by decide +kernel
theorem test_shaper_debt :
    ((upTo 558).foldl (fun x _ => x.refilled) ({ en := true, rate := 1000000, burst := 20000, credit := -6966 * 65536 } : Shaper)).credit =
      9 * 65536 := by decide +kernel

/-- Bytes of one node of the parse graph, and of one transition. -/
def putWords (b : Nat) (l : List Nat) (m : Tab Word) : Tab Word :=
  (l.zip (upTo l.length)).foldl (fun acc x => acc.put (b + 4 * x.2) (BitVec.ofNat 32 x.1)) m
def putNode (n : Nat) (l : List Nat) : Tab Word → Tab Word := putWords (0x03001000 + 0x40 * n) l
def putTrans (e v next : Nat) : Tab Word → Tab Word := putWords (0x03008000 + 0x10 * e) [v, 0xFFFF, 2 ^ 31 + next]
/-- The words of the example's nodes (R267): flags, layer slot and transitions; extractions. -/
def w0 (flags slot count first : Nat) : Nat := 2 ^ 31 + flags + slot * 2 ^ 23 + count * 2 ^ 16 + first
def sel (off w : Nat) : Nat := 2 ^ 31 + (w - 1) * 2 ^ 24 + off * 2 ^ 15
def ext (c off w : Nat) : Nat := 2 ^ 31 + c * 2 ^ 27 + (w - 1) * 2 ^ 22 + off * 2 ^ 13
def lenOf (off w shift : Nat) : Nat := 2 ^ 31 + shift * 2 ^ 28 + (w - 1) * 2 ^ 24 + off * 2 ^ 15
def ipNode (slot first c : Nat) : List Nat :=
  [w0 (2 ^ 28 + 2 ^ 26) slot 1 first, lenOf 4 4 2, 20 * 2 ^ 8, 2 ^ 31 + 16 * 2 ^ 16, 2 ^ 31 + 48 * 2 ^ 16 + 0x3FFF, sel 72 8,
   ext c 96 32, ext (c + 1) 128 32, ext (c + 2) 72 8]
def graph : Tab Word :=
  putNode 1 [w0 (2 ^ 26) 0 2 0, 0, 14, 0, 0, sel 96 16] (putTrans 0 0x8100 2 (putTrans 1 0x0800 3
  (putNode 2 [w0 (2 ^ 30) 0 1 2, 0, 4, 0, 0, sel 16 16] (putTrans 2 0x0800 3
  (putNode 3 (ipNode 1 3 0) (putTrans 3 17 4
  (putNode 4 [w0 (2 ^ 26) 2 1 4, 0, 8, 2 ^ 31 + 32 * 2 ^ 16, 0, sel 16 16, ext 3 0 32] (putTrans 4 6081 5
  (putNode 5 [w0 (2 ^ 26) 3 1 5, lenOf 2 6 2, 8 * 2 ^ 8 + 8, 0, 0, sel 16 16, ext 4 32 24] (putTrans 5 0x6558 6
  (putNode 6 [w0 (2 ^ 26) 4 1 6, 0, 14, 0, 0, sel 96 16] (putTrans 6 0x0800 7
  (putNode 7 (ipNode 5 7 8) (putTrans 7 6 8
  (putNode 8 [w0 (2 ^ 26) 6 0 0, lenOf 96 4 2, 20 * 2 ^ 8, 0, 0, 0, ext 11 0 32] [])))))))))))))))
def hx (n v : Nat) : List Byte := toBytes n v
/-- The example's frame of 220 bytes, its flags and fragment offset field being `frag`. -/
def geneve (frag : Nat) : Arrival :=
  { up := true, block := 0, sub := 0, start := 1,
    bytes := hx 12 0 ++ hx 2 0x8100 ++ hx 2 0x6064 ++ hx 2 0x0800 ++
      (hx 2 0x4500 ++ hx 2 198 ++ hx 2 0 ++ hx 2 frag ++ hx 1 64 ++ hx 1 17 ++ hx 2 0 ++ hx 4 0x0A010001 ++ hx 4 0x0A020002) ++
      (hx 2 49152 ++ hx 2 6081 ++ hx 2 178 ++ hx 2 0) ++
      (hx 1 2 ++ hx 1 0 ++ hx 2 0x6558 ++ hx 3 0x012345 ++ hx 1 0 ++ hx 8 0) ++
      (hx 12 0 ++ hx 2 0x0800) ++
      (hx 2 0x4500 ++ hx 2 140 ++ hx 2 0 ++ hx 2 0 ++ hx 1 64 ++ hx 1 6 ++ hx 2 0 ++ hx 4 0xC0A80701 ++ hx 4 0xC0A80905) ++
      (hx 2 40000 ++ hx 2 443 ++ hx 8 0 ++ hx 1 0x50 ++ hx 7 0) ++ List.replicate 104 0 }
def parsed (frag : Nat) : Parsed :=
  parseFrame { up with pg := { up.pg with active := graph } } (geneve frag)

/-- "Ethernet, VLAN, IPv4, UDP and GENEVE" (ch. 10): FLAGS, containers, tag and layer offsets. -/
theorem test_parse : (geneve 0).bytes.length = 220 ∧ flagsWord (parsed 0) = 0x10100F1F ∧
    [0, 1, 2, 3, 4, 8, 9, 10, 11].map (wordSource (geneve 0) (parsed 0)) =
      [0x0A010001, 0x0A020002, 0x11, 0xC00017C1, 0x12345, 0xC0A80701, 0xC0A80905, 6, 0x9C4001BB] ∧
    wordSource (geneve 0) (parsed 0) 0x10 = 0x81006064 ∧ bits (wordSource (geneve 0) (parsed 0) 0x1C) 19 17 = 1 ∧
    [0x20, 0x21, 0x22, 0x23, 0x24, 0x25, 0x26].map (fun c => bits (wordSource (geneve 0) (parsed 0) c) 8 0) = [0, 18, 38, 46, 62, 76, 96] := by
  decide +kernel
/-- The same frame with MF set ends at node 3. -/
theorem test_parse_fragment : flagsWord (parsed 0x2000) = 0x46060007 := by decide +kernel

/-- "Preemption and a late arrival on a host vector" (ch. 15): what ACK answers. -/
def vector0 (n : List (Nat × IcSource)) (stack : List (Nat × Nat)) : State :=
  { setRegN 0x00100000 1 (setRegN (srcCfgR 592) (2 ^ 31 + 16 * 2 ^ 16 + 40) (setRegN (srcCfgR 218) (2 ^ 31 + 16 * 2 ^ 16 + 20)
      (setRegN (srcCfgR 208) (2 ^ 31 + 16 * 2 ^ 16 + 8) up))) with
    ic := { linkUp := true, src := n, tgt := [(16, { stack := stack })] } }
theorem test_ack : (ackTarget 16 (vector0 [(218, { pending := true }), (592, { pending := true })] [])).2 = 0x50DA ∧
    (ackTarget 16 (vector0 [(208, { pending := true }), (592, { pending := true, count := 1 })] [(218, 20)])).2 = 0x20D0 ∧
    (ackTarget 16 (vector0 [(592, { pending := true, count := 1 })] [])).2 = 0x1A250 := by decide +kernel

/-- The SPI_STATUS words of ch. 19's example. -/
theorem test_spi_status : spiWord up = 0x40000000 ∧ spiWord { up with boot := { up.boot with ready := true } } = 0x60000000 := by decide +kernel
/-- The windowed read of TRK.RG_STATUS of port 6 in OPERATE, TID 0x2A3, version 3 (ch. 19). -/
theorem test_windowed_read :
    (winDone { setRegn 6 { state := .operate, version := 3, tid := some 0x2A3, ranged := true } (setRegN (trkR 6 0) 1 up) with
      boot := { up.boot with domOn := (0x26, true) :: up.boot.domOn }, bmc := { running := some (0x01060404, none) } }).bmc.data = 0x02A30304 := by
  decide +kernel


end Sys2Proof.Tests
end

section
/-! SUPPORT. O5: what a command of one trunk port leaves alone on the others (R22). -/
namespace Sys2Proof.Machine
open Sys2Proof

variable {p : Nat} {c : Instr} {s t : State}

/-- A command that answers a next state completes, with what its answer leaves alone on the other ports. -/
theorem PortKeepN.completes (k : PortKeepN p s (exec c s)) (h : exec c s = .next t) : Completes c s (PortKeep p s) :=
  ⟨t, h, k t h⟩

/-- Settles O5, by the meaning of each command of the port: it answers, and its operations write pieces of its own port alone. -/
theorem portIndependence : Obligations.PortIndependence := by
  intro p c s h
  cases c with
  | grantProfile => cases h; exact execGrantProfile_port.completes rfl
  | hail => cases h; exact execHail_port.completes rfl
  | versionOffer => cases h; exact execVersionOffer_port.completes rfl
  | assignId => cases h; exact execAssignId_port.completes rfl
  | rangeSet => cases h; exact execRangeSet_port.completes rfl
  | eqdConfirm => cases h; exact execEqdConfirm_port.completes rfl
  | eqdChangeApply => cases h; exact execEqdChangeApply_port.completes rfl
  | rangeProbe => cases h; exact execRangeProbe_port.completes rfl
  | silence => cases h; exact execSilence_port.completes rfl
  | unmuzzle => cases h; exact execUnmuzzle_port.completes rfl
  | release => cases h; exact execRelease_port.completes rfl
  | releaseEffect => cases h; exact execReleaseEffect_port.completes rfl
  | echo => cases h; exact execEcho_port.completes rfl
  | tmmUnknown => cases h; exact execTmmUnknown_port.completes rfl
  | announceTimerExpiry => cases h; exact execAnnounceTimerExpiry_port.completes rfl
  | rangeTimerExpiry => cases h; exact execRangeTimerExpiry_port.completes rfl
  | holdTimerExpiry => cases h; exact execHoldTimerExpiry_port.completes rfl
  | silenceDurationEnd => cases h; exact execSilenceDurationEnd_port.completes rfl
  | replyLookoutFallback => cases h; exact execReplyLookoutFallback_port.completes rfl
  | grantMapValidation => cases h; exact execGrantMapValidation_port.completes rfl
  | burstCommit => cases h; exact execBurstCommit_port.completes rfl
  | launchDeadlineMiss => cases h; exact execLaunchDeadlineMiss_port.completes rfl
  | burstLaunch => cases h; exact execBurstLaunch_port.completes rfl
  | burstEnd => cases h; exact execBurstEnd_port.completes rfl
  | dozeExit => cases h; exact execDozeExit_port.completes rfl
  | laneReadinessCheck => cases h; exact execLaneReadinessCheck_port.completes rfl
  | halEnableWrite => cases h; exact execHalEnableWrite_port.completes rfl
  | dozeCtlWrite => cases h; exact execDozeCtlWrite_port.completes rfl
  | backstayMap => cases h; exact execBackstayMap_port.completes rfl
  | closedFrame => cases h; exact execClosedFrame_port.completes rfl
  | version2AnswerInterval => cases h; exact execVersion2AnswerInterval_port.completes rfl
  | cutOff => cases h; exact execCutOff_port.completes rfl
  | muzzleAlertRepeat => cases h; exact execMuzzleAlertRepeat_port.completes rfl
  | unlockFirstWrite => cases h; exact execUnlockFirstWrite_port.completes rfl
  | unlockSecondWrite => cases h; exact execUnlockSecondWrite_port.completes rfl
  | silenceGateClose => cases h; exact execSilenceGateClose_port.completes rfl
  | copyFault => cases h; exact execCopyFault_port.completes rfl
  | dryFireStartup => cases h; exact execDryFireStartup_port.completes rfl
  | retest => cases h; exact execRetest_port.completes rfl
  | periodicDryFire => cases h; exact execPeriodicDryFire_port.completes rfl
  | dryFireDefer => cases h; exact execDryFireDefer_port.completes rfl
  | clockFault => cases h; exact execClockFault_port.completes rfl
  | clockFaultClear => cases h; exact execClockFaultClear_port.completes rfl
  | txdisPinFault => cases h; exact execTxdisPinFault_port.completes rfl
  | losRaise => cases h; exact execLosRaise_port.completes rfl
  | losClear => cases h; exact execLosClear_port.completes rfl
  | lolClear => cases h; exact execLolClear_port.completes rfl
  | forceHunt => cases h; exact execForceHunt_port.completes rfl
  | frCtlEnWrite => cases h; exact execFrCtlEnWrite_port.completes rfl
  | lodChange => cases h; exact execLodChange_port.completes rfl
  | keyfChange => cases h; exact execKeyfChange_port.completes rfl
  | sdWindow => cases h; exact execSdWindow_port.completes rfl
  | sighting => cases h; exact execSighting_port.completes rfl
  | trackerCheck => cases h; exact execTrackerCheck_port.completes rfl
  | downstreamFrame => cases h; exact execDownstreamFrame_port.completes rfl
  | pmSecond => cases h; exact execPmSecond_port.completes rfl
  | pmBinEnd => cases h; exact execPmBinEnd_port.completes rfl
  | pmBinClose => cases h; exact execPmBinClose_port.completes rfl
  | pmClrCur => cases h; exact execPmClrCur_port.completes rfl
  | waikenBringupStep => cases h; exact execWaikenBringupStep_port.completes rfl
  | waikenTimeout => cases h; exact execWaikenTimeout_port.completes rfl
  | waikenCapRetry => cases h; exact execWaikenCapRetry_port.completes rfl
  | waikenRateSwitch => cases h; exact execWaikenRateSwitch_port.completes rfl
  | waikenVersionAttempt => cases h; exact execWaikenVersionAttempt_port.completes rfl
  | laneLockLoss => cases h; exact execLaneLockLoss_port.completes rfl
  | waikenControlBlock => cases h; exact execWaikenControlBlock_port.completes rfl
  | dozeCheck => cases h; exact execDozeCheck_port.completes rfl
  | txPllSourceChange => cases h; exact execTxPllSourceChange_port.completes rfl
  | reefNotice => cases h; exact execReefNotice_port.completes rfl
  | portDark => cases h; exact execPortDark_port.completes rfl
  | lightTimeout => cases h; exact execLightTimeout_port.completes rfl
  | park => cases h; exact execPark_port.completes rfl
  | keyRotate => cases h; exact execKeyRotate_port.completes rfl
  | tsiSwitch => cases h; exact execTsiSwitch_port.completes rfl
  | timeSet => cases h; exact execTimeSet_port.completes rfl
  | timeSetHeldApply => cases h; exact execTimeSetHeldApply_port.completes rfl
  | _ => exact h.elim

end Sys2Proof.Machine
end

section
/-! SUPPORT. O1: what one tick of the clock does to each part that it may change. -/
namespace Sys2Proof

variable {α : Type}

/-- A table after the entries of some keys, each named once, have been rewritten. -/
theorem Tab.look_foldl_put (d : α) (f : Nat → α → α) {l : List Nat} (h : l.Nodup) (t : Tab α) (n : Nat) :
    (l.foldl (fun t k => t.put k (f k (t.look d k))) t).look d n = if n ∈ l then f n (t.look d n) else t.look d n := by
  induction l generalizing t with
  | nil => simp
  | cons k l ih =>
    obtain ⟨hk, hl⟩ := List.nodup_cons.1 h
    rw [List.foldl_cons, ih hl, Tab.look_put]
    by_cases e : n = k
    · subst e; simp [hk]
    · simp [e]

end Sys2Proof

namespace Sys2Proof.Machine
open Sys2Proof

variable {m : Nat} {s t : State}

theorem Keep.boot_eq (k : Keep m s t) (hb : m.testBit 32 = false) (hc : m.testBit 31 = false) : t.boot = s.boot := by
  have e : t.boot.coreUp = s.boot.coreUp := k.same .coreUp hc
  have b : { t.boot with coreUp := s.boot.coreUp } = s.boot := k.same .boot hb
  rwa [← e] at b

/-! ### The recovered clocks' distance -/

/-- One tick moves a trunk port's recovered clock by the advance that is drawn for it, of three, less one. -/
theorem look_lineDrift {p : Nat} (h : p < 16) :
    (lineDrift s).look 0 p = s.drift.look 0 p + (Config.lineAdvance p s.uptime % 3 : Nat) - 1 := by
  have := Tab.look_foldl_put (0 : Int) (fun p x => x + (Config.lineAdvance p s.uptime % 3 : Nat) - 1) (l := upTo 16)
    List.nodup_range s.drift p
  rwa [if_pos (show p ∈ upTo 16 from List.mem_range.2 h)] at this

theorem lineDrift_le_one {p : Nat} (h : p < 16) :
    -1 ≤ (lineDrift s).look 0 p - s.drift.look 0 p ∧ (lineDrift s).look 0 p - s.drift.look 0 p ≤ 1 := by
  rw [look_lineDrift h]
  omega

/-! ### The free-running counter's step -/

theorem frcStep_of_onXtal (h : onXtal s = true) : frcStep s = 3200 := if_pos h

theorem frcStep_bounds : 3199 ≤ frcStep s ∧ frcStep s ≤ 3201 := by
  unfold frcStep
  split <;> omega

/-! ### The queues that the guard holds -/

/-- A queue after the guard has looked at it: held still where its gate has not closed (R359). -/
theorem queueOf_holdsFrom (a : Int) (q : Nat) :
    queueOf (holdsFrom a s) q = { queueOf s q with held := (queueOf s q).held && gateStays s a q } :=
  Tab.look_adjust ({} : Queue) (fun q x => { x with held := x.held && gateStays s a q }) s.buf.queues q rfl

/-! ### What the clock plays out -/

theorem played_boot : (played s).boot = { s.boot with flashBusy := false } := by
  have e : (slotsTick (if coreOn s then rclkTick s else s)).boot = s.boot :=
    (slotsTick_keep.chain (m := 589840) rfl (.ite (rclkTick_keep.weaken rfl) .refl)).boot_eq rfl rfl
  exact congrArg (fun b => { b with flashBusy := false }) e

/-- Once the recovered-clock outputs have been counted, what is played out leaves network time alone. -/
theorem played_keep_rclkTick : Keep 4295622672 (if coreOn s then rclkTick s else s) (played s) := by
  unfold played
  exact .lanes rfl (.boot rfl rfl (slotsTick_keep.chain rfl .refl))

/-- Of network time only the ticks that the recovered-clock outputs have been good change. -/
theorem played_time : (played s).time = { s.time with rclkGood := (played s).time.rclkGood } := by
  rw [(played_keep_rclkTick.same .time rfl : _ = _)]
  split <;> rfl

/-! ### One tick -/

/-- The state at the next tick before anything is played out: uptime, the recovered clocks and the free-running counter have moved on. -/
def clockMoved (s : State) : State :=
  let s1 := { s with uptime := s.uptime + 1, drift := lineDrift s }
  if frcRuns s then { s1 with time := { s1.time with frc := s1.time.frc + frcStep s } } else s1

theorem clockMoved_uptime : (clockMoved s).uptime = s.uptime + 1 := by
  unfold clockMoved; split <;> rfl

theorem clockMoved_drift : (clockMoved s).drift = lineDrift s := by
  simp only [clockMoved, apply_ite State.drift, ite_self]

theorem clockMoved_time :
    (clockMoved s).time = { s.time with frc := s.time.frc + (if frcRuns s then frcStep s else 0) } := by
  unfold clockMoved; split <;> rfl

theorem clockMoved_buf : (clockMoved s).buf = s.buf := by
  unfold clockMoved; split <;> rfl

theorem clockMoved_boot : (clockMoved s).boot = s.boot := by
  unfold clockMoved; split <;> rfl

theorem tick_eq : tick s = played (holdsFrom (nowNs s) (clockMoved s)) := rfl

theorem tick_uptime : (tick s).uptime = s.uptime + 1 := by
  rw [tick_eq, (played_keep.same .uptime rfl : _ = _), (holdsFrom_keep.same .uptime rfl : _ = _), clockMoved_uptime]

theorem tick_drift : (tick s).drift = lineDrift s := by
  rw [tick_eq, (played_keep.same .drift rfl : _ = _), (holdsFrom_keep.same .drift rfl : _ = _), clockMoved_drift]

theorem tick_boot : (tick s).boot = { s.boot with flashBusy := false } := by
  rw [tick_eq, played_boot, holdsFrom_keep.boot_eq rfl rfl, clockMoved_boot]

/-- A tick moves the counter, and of the rest of network time only the ticks that the recovered-clock outputs have been good. -/
theorem tick_time : (tick s).time = { s.time with
    frc := s.time.frc + (if frcRuns s then frcStep s else 0), rclkGood := (tick s).time.rclkGood } := by
  rw [tick_eq, played_time, (holdsFrom_keep.same .time rfl : _ = _), clockMoved_time]

theorem tick_buf : (tick s).buf = (holdsFrom (nowNs s) (clockMoved s)).buf := by
  rw [tick_eq, (played_keep.same .buf rfl : _ = _)]

/-- Of the buffer manager a tick changes the queues alone. -/
theorem tick_buf_queues : { (tick s).buf with queues := s.buf.queues } = s.buf := by
  rw [tick_buf]
  dsimp only [holdsFrom]
  rw [clockMoved_buf]

theorem queueOf_tick (q : Nat) : queueOf (tick s) q =
    { queueOf s q with held := (queueOf s q).held && gateStays (clockMoved s) (nowNs s) q } := by
  have e : queueOf (clockMoved s) q = queueOf s q := congrArg (·.queues.look {} q) clockMoved_buf
  rw [← e, ← queueOf_holdsFrom]
  exact congrArg (·.queues.look {} q) tick_buf

theorem tick_only : Only [.uptime, .sent, .time, .lanes, .tsi, .buf, .boot, .drift] s (tick s) := tick_keep.only rfl

/-! ### A step -/

theorem step_of_pending_nil (h : s.pending = []) : step s = .next (tick s) := by
  unfold step; rw [h]

theorem step_of_pending_cons {c : Instr} {rest : List Instr} (h : s.pending = c :: rest) :
    step s = exec c { s with pending := rest } := by
  unfold step; rw [h]

/-- Settles O1: the queue's first command runs, and on an empty queue each part of the tick by its own lemma. -/
theorem stepRunsCommand : Obligations.StepRunsCommand := by
  refine ⟨fun s c rest h => step_of_pending_cons h, fun s h => ?_, fun s n w => ⟨rfl, rfl⟩⟩
  obtain ⟨hlo, hhi⟩ := frcStep_bounds (s := s)
  refine ⟨tick s, step_of_pending_nil h, tick_uptime, tick_only, ?boot, ?buf, fun q => ?queue, fun p hp => ?drift,
    ?time, ?frc, hlo, hhi, frcStep_of_onXtal⟩
  case boot => rw [tick_boot]
  case buf => exact tick_buf_queues
  case queue =>
    rw [queueOf_tick]
    exact ⟨rfl, fun hq => (Bool.and_eq_true_iff.1 hq).1⟩
  case drift =>
    rw [tick_drift]
    exact lineDrift_le_one hp
  case time => rw [tick_time]
  case frc => rw [tick_time]; rfl

end Sys2Proof.Machine
end

section
/-! SUPPORT. Downstream reception (ch. 02): how a command that acts only in some states takes effect, the registers that
framers write, and what a framer's operations do to its alignment. -/
namespace Sys2Proof.Machine
open Sys2Proof

variable {p m : Nat} {s t : State} {c : Instr} {P : State → Prop}

/-! ### Commands that act only in some states -/

/-- A command that acts where b holds and else leaves the state as it is, with what it keeps. -/
theorem completes_onlyIf {b : Bool} {f : State → State} (h : exec c s = .next (onlyIf b f s)) (hk : KeepN m s (exec c s))
    (hp : PortKeepN p s (exec c s)) (ht : b = true → Keep m s (f s) → PortKeep p s (f s) → P (f s))
    (hf : b = false → P s) :
    Completes c s P := by
  cases b with
  | false => exact ⟨s, h, hf rfl⟩
  | true => exact ⟨f s, h, ht rfl (hk _ h) (hp _ h)⟩

/-- A command that acts wherever the core is up. -/
theorem completes_of_coreOn (hc : coreOn s = true) {f : State → State} (h : exec c s = .next (onlyIf (coreOn s) f s))
    (hk : KeepN m s (exec c s)) (hp : PortKeepN p s (exec c s)) (ht : Keep m s (f s) → PortKeep p s (f s) → P (f s)) :
    Completes c s P :=
  completes_onlyIf h hk hp (fun _ => ht) fun h0 => by simp [hc] at h0

/-! ### Registers -/

theorem within_eq_false {b n a : Nat} : within b n a = false ↔ ¬(b ≤ a ∧ a < b + n) := by
  rw [← Bool.not_eq_true]
  exact not_congr ((Bool.and_eq_true_iff ..).trans (and_congr decide_eq_true_iff decide_eq_true_iff))

theorem reg_setReg64_ne {a b n : Nat} (h : b ≠ a) (h4 : b ≠ a + 4) : reg (setReg64 a n s) b = reg s b :=
  (reg_setRegN_ne h4 _).trans (reg_setRegN_ne h _)

/-- A frame's corrections are counted in three quantities of two words. -/
theorem reg_countFec {a : Nat} (h : within (trkR p 0x200) 0x18 a = false) (rx : RxFrame) :
    reg (countFec p rx s) a = reg s a := by
  have e : ∀ o n (x : State), 0x200 ≤ o → o ≤ 0x210 → reg (bump64 (trkR p o) n x) a = reg x a := fun o n x h1 h2 => by
    rw [within_eq_false, trkR] at h
    exact reg_setReg64_ne (by simp only [trkR]; omega) (by simp only [trkR]; omega)
  unfold countFec
  refine (congrFun (setPmStore_keep.reg_eq rfl) a).trans ?_
  rw [e 0x210 _ _ (by decide) (by decide), e 0x208 _ _ (by decide) (by decide), e 0x200 _ _ (by decide) (by decide)]

/-- Delineation's return to HUNT counts in two registers alone. -/
theorem reg_toHunt {a : Nat} (h : a ≠ trkR p 0x23C) (h' : a ≠ trkR p 0x230) (run : List Byte) :
    reg (toHunt p run s) a = reg s a := by
  unfold toHunt
  dsimp only
  have e : ∀ x : State, reg (pmDiscard p 1 (bump (trkR p 0x230) 1 x)) a = reg x a := fun x =>
    (congrFun (pmDiscard_keep.reg_eq rfl) a).trans (reg_bump_ne h' 1)
  have e' : ∀ x : State, reg (bump (trkR p 0x23C) 1 x) a = reg x a := fun x => reg_bump_ne h 1
  split <;> split
  · exact (e _).trans (e' _)
  · exact e _
  · exact e' _
  · rfl

theorem framerOn_countFec (q : Nat) (rx : RxFrame) : framerOn (countFec p rx s) q = framerOn s q := by
  refine framerOn_eq (reg_countFec ?_ rx) (reg_countFec ?_ rx) <;> rw [within_eq_false] <;> simp only [trkR] <;> omega

theorem framerOn_setSf (q sf : Nat) : framerOn (setSf p sf s) q = framerOn s q := by
  refine framerOn_eq (reg_setReg64_ne ?_ ?_) (reg_setReg64_ne ?_ ?_) <;> simp only [trkR] <;> omega

/-- An operation that writes no register leaves every framer's enable as it is. -/
theorem Keep.framerOn_eq (k : Keep m s t) (h : m.testBit 1 = false) (q : Nat) : framerOn t q = framerOn s q :=
  congrFun (framerOn_congr (k.same .regs h)) q

/-! ### Alignment -/

/-- A framer without what is counted and queued beside its alignment: the runs of key-epoch discards, the window of the
signal-degrade metric, the stamps, the origin of the run's bytes and the queue. -/
def Framer.align (f : Framer) : Framer :=
  { f with keyfNow := false, keyfRun := 0, keyfClean := 0, sdMetric := 0, sdFrames := 0, sdNext := 0, stamps := [],
           runFrames := [], queue := [] }

/-- The alignment of port p's framer. -/
def alignOf (s : State) (p : Nat) : Framer := (framer s p).align

theorem Keep.alignOf (k : Keep m s t) (h : m.testBit 8 = false) (p : Nat) :
    Machine.alignOf t p = Machine.alignOf s p := congrArg Framer.align (k.framer h p)

@[simp] theorem alignOf_setFramer (f : Framer) : alignOf (setFramer p f s) p = f.align := by
  simp [alignOf]

@[simp] theorem alignOf_withTiming (f : State → State) : alignOf (withTiming p f s) p = alignOf (f s) p :=
  congrArg Framer.align (framer_withTiming ..)

theorem alignOf_setRaw (h : framerOn s p = true) (i : Nat) (b : Bool) : alignOf (setRaw p i b s) p =
    { alignOf s p with raw := if b then (alignOf s p).raw ||| BitVec.ofNat 7 (2 ^ i)
                              else (alignOf s p).raw &&& ~~~BitVec.ofNat 7 (2 ^ i) } := by
  simp [alignOf, h, Framer.align]

@[simp] theorem alignOf_setSf (sf : Nat) : alignOf (setSf p sf s) p = { alignOf s p with lastSf := some sf } := by
  simp [alignOf, Framer.align]

@[simp] theorem alignOf_countFec (rx : RxFrame) : alignOf (countFec p rx s) p = alignOf s p :=
  congrArg Framer.align (framer_countFec ..)

theorem align_addSd (f : Framer) (rx : RxFrame) : (f.addSd rx).align = f.align := by
  unfold Framer.addSd
  dsimp only
  split
  · rfl
  · split <;> rfl

@[simp] theorem alignOf_countSd (rx : RxFrame) : alignOf (countSd p rx s) p = alignOf s p := by
  unfold countSd
  split
  · exact (alignOf_setFramer _).trans (align_addSd ..)
  · rfl

@[simp] theorem alignOf_endKeyFrame : alignOf (endKeyFrame p s) p = alignOf s p := by
  refine (alignOf_setFramer _).trans ?_
  split <;> rfl

@[simp] theorem alignOf_keepStamp (stamp : Nat) : alignOf (keepStamp p stamp s) p = alignOf s p := alignOf_setFramer _

@[simp] theorem alignOf_deliverOverhead (sf : Nat) (b : List Byte) :
    alignOf (deliverOverhead p sf b s) p = alignOf s p := by
  have h : { framer (deliverOverhead p sf b s) p with queue := (framer s p).queue } = framer s p :=
    framer_deliverOverhead p sf b
  have ha := congrArg Framer.align h
  exact ha

@[simp] theorem alignOf_noMap (sf : Nat) : alignOf (noMap p sf s) p = alignOf s p := noMap_keep.alignOf rfl p

@[simp] theorem alignOf_addPayload (b : List Byte) :
    alignOf (addPayload p b s) p = { alignOf s p with run := (alignOf s p).run ++ payloadOf b } := alignOf_setFramer _

@[simp] theorem alignOf_huntFrame (b : List Byte) :
    alignOf (huntFrame p b s) p = { alignOf s p with delin := .hunt, run := b.drop 16, head := none } := by
  simp [huntFrame, Framer.align, alignOf]

theorem framerOn_huntFrame (b : List Byte) (q : Nat) : framerOn (huntFrame p b s) q = framerOn s q :=
  framerOn_toHunt ..

theorem alignOf_dropLock (h : framerOn s p = true) : alignOf (dropLock p s) p = { alignOf s p with
    locked := false, missRun := 0, trackers := [], clrLen := 0, incRun := 0, delin := .hunt, run := [], head := none,
    raw := (alignOf s p).raw ||| 4 } := by
  simp [alignOf, framer_dropLock h, Framer.align]

/-- What is read of a framer and is part of its alignment. -/
theorem field_of_alignOf {α : Type} (g : Framer → α) {f : Framer} {v : α} (h : alignOf t p = f) (hv : g f = v)
    (hg : ∀ f : Framer, g f.align = g f := by exact fun _ => rfl) : g (framer t p) = v := by
  rw [← hv, ← h]
  exact (hg _).symm

/-- Whether a port has dropped lock is seen from its alignment. -/
theorem lockDropped_of_align (hl : (alignOf t p).locked = false) (hd : (alignOf t p).delin = .hunt)
    (ht : (alignOf t p).trackers = []) (hr : (alignOf t p).raw.getLsbD bitLof = true) : LockDropped p t := by
  have hl' : (framer t p).locked = false := hl
  exact ⟨hl, hd, ht, hr, by simp [hasTiming, hl']⟩

end Sys2Proof.Machine
end

section
/-! SUPPORT. O7: the raw defects of a port, each set and cleared by its own condition (R63, R66, R525). -/
namespace Sys2Proof.Machine
open Sys2Proof

variable {p : Nat} {s : State}

/-- Where a port keeps its timing, or gains it, no Waiken set changes for that. -/
theorem waiken_withTiming {f : State → State} (h : hasTiming s p = true → hasTiming (f s) p = true) (q : Nat) :
    waiken (withTiming p f s) q = waiken (f s) q := by
  unfold withTiming
  dsimp only
  split
  · rename_i hb
    simp only [Bool.and_eq_true, Bool.not_eq_true'] at hb
    rw [h hb.1] at hb
    cases hb.2
  · split
    · rw [downstreamAcquired_keep.waiken rfl, bksGained_keep.waiken rfl]
    · rfl

/-- The clearing of a raw defect takes no port its timing (R26). -/
theorem hasTiming_setRaw_false (i : Nat) (h : hasTiming s p = true) : hasTiming (setRaw p i false s) p = true := by
  simp only [hasTiming, Bool.and_eq_true, beq_iff_eq] at h ⊢
  obtain ⟨⟨hon, hl⟩, hr⟩ := h
  rw [framerOn_setRaw, framer_setRaw, if_pos ⟨hon, rfl⟩]
  refine ⟨⟨hon, hl⟩, ?_⟩
  simp only [Bool.false_eq_true, if_false]
  rw [BitVec.and_assoc, BitVec.and_comm (~~~_), ← BitVec.and_assoc, hr]
  exact BitVec.zero_and

/-- A raw defect set or cleared: on a disabled or dark port none changes (R66). -/
theorem raw_setRaw (i : Nat) (b : Bool) : (framer (setRaw p i b s) p).raw =
    if framerOn s p then (if b then (framer s p).raw ||| BitVec.ofNat 7 (2 ^ i)
      else (framer s p).raw &&& ~~~BitVec.ofNat 7 (2 ^ i)) else (framer s p).raw := by
  by_cases hon : framerOn s p = true <;> simp [hon]

theorem raw_lodChange : (framer (setRaw p bitLod ((framer s p).delin != .sync) s) p).raw =
    if framerOn s p then
      (if (framer s p).delin = .sync then (framer s p).raw &&& ~~~16 else (framer s p).raw ||| 16)
    else (framer s p).raw := by
  rw [raw_setRaw]
  by_cases hd : (framer s p).delin = .sync <;> simp [hd, bitLod]

theorem keyfChange_idle (h : ((framer s p).keyfRun < 2 ∧ (framer s p).keyfClean < 8) ∨ framerOn s p = false) :
    keyfChange p s = s := by
  unfold keyfChange setRaw
  rcases h with ⟨h2, h8⟩ | h
  · rw [if_neg (Nat.not_le.2 h2), if_neg (Nat.not_le.2 h8)]
  · simp [h]

/-! ### Windows of the signal-degrade metric -/

/-- The runs of windows above the raise threshold and below the clear threshold, with the window that ends (R63). -/
def sdAbove (s : State) (p : Nat) : Nat :=
  if regN s (trkR p 0x20) < (framer s p).sdMetric then (framer s p).sdOver + 1 else 0
def sdBelow (s : State) (p : Nat) : Nat :=
  if (framer s p).sdMetric < regN s (trkR p 0x24) then (framer s p).sdUnder + 1 else 0

/-- A framer whose full window has ended. -/
def sdEnded (s : State) (p : Nat) : Framer :=
  { framer s p with sdFrames := 0, sdMetric := 0, sdOver := sdAbove s p, sdUnder := sdBelow s p }

/-- The signal-degrade defect after a full window (R63). -/
def sdRaw (s : State) (p : Nat) : BitVec 7 :=
  if framerOn s p = true ∧ 3 ≤ sdAbove s p then (framer s p).raw ||| 64
  else if framerOn s p = true ∧ 10 ≤ sdBelow s p then (framer s p).raw &&& ~~~64
  else (framer s p).raw

theorem framer_sdWindow (h : ((framer s p).locked && (framer s p).sdFrames == 8) = true) :
    framer (sdWindow p s) p = { sdEnded s p with raw := sdRaw s p } := by
  have e : sdWindow p s = if 3 ≤ sdAbove s p then setRaw p bitSd true (setFramer p (sdEnded s p) s)
      else if 10 ≤ sdBelow s p then setRaw p bitSd false (setFramer p (sdEnded s p) s)
      else setFramer p (sdEnded s p) s := if_pos h
  rw [e, sdRaw]
  by_cases hon : framerOn s p = true
  · by_cases h3 : 3 ≤ sdAbove s p
    · simp [hon, h3, bitSd, sdEnded]
    · by_cases h10 : 10 ≤ sdBelow s p
      · simp [hon, h3, h10, bitSd, sdEnded]
      · simp [h3, h10, sdEnded]
  · have hs : ∀ b, setRaw p bitSd b (setFramer p (sdEnded s p) s) = setFramer p (sdEnded s p) s := fun b =>
      if_neg (by rwa [framerOn_setFramer])
    rw [hs, hs, ite_self, ite_self]
    simp [hon, sdEnded]

/-- Settles O7: each command sets or clears its own raw bit by its own condition, where the port is enabled and lit. -/
theorem framerDefects : Obligations.FramerDefects := by
  intro s p hc
  refine ⟨?losClear, ?lolClear, ?lodChange, ?keyfChange, ?sdWindow⟩
  case losClear =>
    refine completes_onlyIf rfl execLosClear_keep execLosClear_port (fun hb _ hp => ?_) fun hb => ?_
    · have ho : (waiken s p).optLos = false := by simpa [hc] using hb
      refine ⟨fun h => absurd h (by simp [ho]), fun _ => ⟨?_, ?_⟩, hp⟩
      · rw [waiken_withTiming (hasTiming_setRaw_false _), setRaw_keep.waiken rfl, waiken_setWaiken, if_pos rfl]
      · rw [framer_withTiming, raw_setRaw, setWaiken_keep.framerOn_eq rfl, setWaiken_keep.framer rfl]
        rfl
    · have ho : (waiken s p).optLos = true := by simpa [hc] using hb
      exact ⟨fun _ => rfl, fun h => absurd h (by simp [ho]), .refl⟩
  case lolClear =>
    refine completes_onlyIf rfl execLolClear_keep execLolClear_port (fun hb _ hp => ⟨?_, hp⟩) fun hb => ⟨?_, .refl⟩
    · have ha : rxLanesActive s p = true := by simpa [hc] using hb
      rw [framer_withTiming, raw_setRaw, ha, Bool.and_true]
      rfl
    · have ha : rxLanesActive s p = false := by simpa [hc] using hb
      simp [ha]
  case lodChange =>
    exact completes_of_coreOn hc rfl execLodChange_keep execLodChange_port fun hk hp => ⟨raw_lodChange, hk.only rfl, hp⟩
  case keyfChange =>
    refine completes_of_coreOn hc rfl execKeyfChange_keep execKeyfChange_port fun hk hp =>
      ⟨fun hon h2 => ?_, fun hon h2 h8 => ?_, keyfChange_idle, hk.only rfl, hp⟩
    · rw [keyfChange, if_pos h2, raw_setRaw, if_pos hon]
      rfl
    · rw [keyfChange, if_neg (Nat.not_le.2 h2), if_pos h8, raw_setRaw, if_pos hon]
      rfl
  case sdWindow =>
    refine completes_of_coreOn hc rfl execSdWindow_keep execSdWindow_port fun hk hp =>
      ⟨fun hn => if_neg (by simp [hn]), fun hf => ?_, hk.only rfl, hp⟩
    rw [framer_sdWindow hf]
    refine ⟨rfl, rfl, fun hon h3 => if_pos ⟨hon, h3⟩, fun hon h3 h10 => ?_, fun h3 h10 => ?_⟩
    · exact (if_neg fun h => Nat.not_le.2 h3 h.2).trans (if_pos ⟨hon, h10⟩)
    · exact (if_neg fun h => Nat.not_le.2 h3 h.2).trans (if_neg fun h => Nat.not_le.2 h10 h.2)

end Sys2Proof.Machine
end

section
/-! SUPPORT. O8: sightings, candidate trackers and the frames of a locked port (R45 to R51, R57, R58). -/
namespace Sys2Proof.Machine
open Sys2Proof

variable {p sf stamp : Nat} {s : State} {b : List Byte} {rx : RxFrame}

/-! ### A frame of a locked port -/

/-- The pattern of a locked port's frame is found (R48). -/
def patternFound (s : State) (p : Nat) (rx : RxFrame) : Bool := decide (mismatches rx.pattern framePattern ≤ lockTol s p)

/-- A frame of a locked port has been counted, and E has advanced to it (R49). -/
def frameTaken (p : Nat) (rx : RxFrame) (s : State) : State :=
  let s1 := countSilence p (endKeyFrame p s)
  let f := framer s1 p
  countFec p rx (setFramer p
    { f with e := f.e + 1, rxAt := if patternFound s p rx then rx.line else f.rxAt + 10000000 } s1)

/-- Its pattern has been found: the run of misses ends, and outside LOSF its stamp is kept (R48, R174). -/
def frameFound (p : Nat) (rx : RxFrame) (s : State) : State :=
  let s2 := frameTaken p rx s
  let s3 := setFramer p { framer s2 p with missRun := 0 } s2
  if (framer s2 p).raw.getLsbD bitLosf then s3 else keepStamp p rx.stamp s3

/-- What its pattern and its header make of it. -/
def frameJudged (p : Nat) (rx : RxFrame) (s : State) : State :=
  if !patternFound s p rx then missFrame p (plainOf rx) (frameTaken p rx s)
  else if !headerGood (HeaderOf rx) then badHeader p (plainOf rx) (frameFound p rx s)
  else if (framer (frameTaken p rx s) p).raw.getLsbD bitLosf then
    losfHeader p (SfOf (HeaderOf rx)) rx.stamp (plainOf rx) (addPayload p (plainOf rx) (frameFound p rx s))
  else goodHeader p (SfOf (HeaderOf rx)) (plainOf rx) (addPayload p (plainOf rx) (frameFound p rx s))

theorem downstreamFrame_eq (hon : framerOn s p = true) (hl : (framer s p).locked = true) :
    downstreamFrame p rx s = countDefer p (countSd p rx (frameJudged p rx s)) :=
  if_neg (by simp [hon, hl])

/-! ### Its counting -/

theorem framerOn_frameTaken : framerOn (frameTaken p rx s) p = framerOn s p := by
  unfold frameTaken
  rw [framerOn_countFec, framerOn_setFramer, countSilence_keep.framerOn_eq rfl, endKeyFrame_keep.framerOn_eq rfl]

theorem reg_frameTaken {a : Nat} (h : within (trkR p 0x200) 0x18 a = false) : reg (frameTaken p rx s) a = reg s a :=
  (reg_countFec h rx).trans (congrFun ((countSilence_keep.reg_eq rfl).trans (endKeyFrame_keep.reg_eq rfl)) a)

theorem alignOf_frameTaken : alignOf (frameTaken p rx s) p = { alignOf s p with
    e := (alignOf s p).e + 1,
    rxAt := if patternFound s p rx then rx.line else (alignOf s p).rxAt + 10000000 } := by
  have h : alignOf (countSilence p (endKeyFrame p s)) p = alignOf s p :=
    (countSilence_keep.alignOf rfl p).trans alignOf_endKeyFrame
  rw [← h]
  exact (alignOf_countFec rx).trans (alignOf_setFramer _)

theorem framerOn_frameFound : framerOn (frameFound p rx s) p = framerOn s p := by
  unfold frameFound
  dsimp only
  split
  · rw [framerOn_setFramer, framerOn_frameTaken]
  · rw [keepStamp_keep.framerOn_eq rfl, framerOn_setFramer, framerOn_frameTaken]

theorem reg_frameFound {a : Nat} (h : within (trkR p 0x200) 0x18 a = false) : reg (frameFound p rx s) a = reg s a := by
  unfold frameFound
  dsimp only
  split
  · exact (congrFun (setFramer_keep.reg_eq rfl) a).trans (reg_frameTaken h)
  · exact (congrFun ((keepStamp_keep.reg_eq rfl).trans (setFramer_keep.reg_eq rfl)) a).trans (reg_frameTaken h)

theorem alignOf_frameFound (hf : patternFound s p rx = true) : alignOf (frameFound p rx s) p =
    { alignOf s p with e := (alignOf s p).e + 1, rxAt := rx.line, missRun := 0 } := by
  have h : alignOf (frameFound p rx s) p = { alignOf (frameTaken p rx s) p with missRun := 0 } := by
    unfold frameFound
    dsimp only
    split
    · exact alignOf_setFramer _
    · exact (alignOf_keepStamp _).trans (alignOf_setFramer _)
  rw [h, alignOf_frameTaken, if_pos hf]

/-! ### Its judgement -/

theorem frameJudged_missed (hf : patternFound s p rx = false) :
    frameJudged p rx s = missFrame p (plainOf rx) (frameTaken p rx s) := if_pos (by simp [hf])

theorem frameJudged_badHeader (hf : patternFound s p rx = true) (hg : headerGood (HeaderOf rx) = false) :
    frameJudged p rx s = badHeader p (plainOf rx) (frameFound p rx s) := by
  simp [frameJudged, hf, hg]

theorem raw_frameTaken : (framer (frameTaken p rx s) p).raw = (framer s p).raw :=
  have h := congrArg Framer.raw (alignOf_frameTaken (p := p) (rx := rx) (s := s))
  h

theorem frameJudged_goodHeader (hf : patternFound s p rx = true) (hg : headerGood (HeaderOf rx) = true)
    (hr : (framer s p).raw.getLsbD bitLosf = false) : frameJudged p rx s =
      goodHeader p (SfOf (HeaderOf rx)) (plainOf rx) (addPayload p (plainOf rx) (frameFound p rx s)) := by
  simp [frameJudged, hf, hg, raw_frameTaken, hr]

theorem frameJudged_losfHeader (hf : patternFound s p rx = true) (hg : headerGood (HeaderOf rx) = true)
    (hr : (framer s p).raw.getLsbD bitLosf = true) : frameJudged p rx s =
      losfHeader p (SfOf (HeaderOf rx)) rx.stamp (plainOf rx) (addPayload p (plainOf rx) (frameFound p rx s)) := by
  simp [frameJudged, hf, hg, raw_frameTaken, hr]

/-- Up to three misses in a row, alignment goes on and delineation hunts (R48, R58). -/
theorem alignOf_missFrame (h : (alignOf s p).missRun < 3) : alignOf (missFrame p b s) p = { alignOf s p with
    missRun := (alignOf s p).missRun + 1, clrNext := (alignOf s p).clrNext + 1,
    delin := .hunt, run := b.drop 16, head := none } := by
  have h4 : ¬4 ≤ (framer s p).missRun + 1 := Nat.not_le.2 (Nat.succ_lt_succ h)
  simp only [missFrame, if_neg h4, alignOf_noMap, alignOf_huntFrame, bump_keep.alignOf rfl, alignOf_setFramer]
  rfl

/-- The fourth drops lock (R48). -/
theorem lockDropped_missFrame (hon : framerOn s p = true) (h : 3 ≤ (alignOf s p).missRun) :
    LockDropped p (missFrame p b s) := by
  have h4 : 4 ≤ (framer s p).missRun + 1 := Nat.succ_le_succ h
  have e : alignOf (missFrame p b s) p = { alignOf s p with
      locked := false, missRun := 0, trackers := [], clrLen := 0, incRun := 0, delin := .hunt, run := [], head := none,
      clrNext := (alignOf s p).clrNext + 1, raw := (alignOf s p).raw ||| 4 } := by
    simp only [missFrame, if_pos h4, alignOf_noMap, alignOf_withTiming]
    rw [alignOf_dropLock (by rw [framerOn_huntFrame, framerOn_bump (by simp only [trkR]; omega), framerOn_setFramer, hon]),
      alignOf_huntFrame, bump_keep.alignOf rfl, alignOf_setFramer]
    rfl
  refine lockDropped_of_align ?_ ?_ ?_ ?_ <;> rw [e]
  simp [bitLof]

theorem alignOf_badHeader : alignOf (badHeader p b s) p = { alignOf s p with
    clrNext := (alignOf s p).clrNext + 1, delin := .hunt, run := b.drop 16, head := none } := by
  simp only [badHeader, alignOf_noMap, alignOf_huntFrame, bump_keep.alignOf rfl, alignOf_setFramer]
  rfl

theorem alignOf_goodHeader_consistent (h : sf = (alignOf s p).e) :
    alignOf (goodHeader p sf b s) p = { alignOf s p with incRun := 0, lastSf := some sf } := by
  simp only [goodHeader, if_pos (show sf = (framer s p).e from h), alignOf_deliverOverhead, alignOf_setSf, alignOf_setFramer]
  rfl

/-- The first inconsistent header in a row sets nothing (R50). -/
theorem alignOf_goodHeader_first (h : sf ≠ (alignOf s p).e) (hi : (alignOf s p).incRun = 0) :
    alignOf (goodHeader p sf b s) p = { alignOf s p with incRun := 1 } := by
  have hi' : (framer s p).incRun = 0 := hi
  simp only [goodHeader, if_neg (show sf ≠ (framer s p).e from h), hi', alignOf_noMap]
  rw [if_neg (by decide), bump_keep.alignOf rfl, alignOf_setFramer]
  rfl

/-- The second sets LOSF (R50). -/
theorem alignOf_goodHeader_second (hon : framerOn s p = true) (h : sf ≠ (alignOf s p).e) (hi : (alignOf s p).incRun ≠ 0) :
    alignOf (goodHeader p sf b s) p = { alignOf s p with
      incRun := (alignOf s p).incRun + 1, raw := (alignOf s p).raw ||| 8, clrLen := 1, clrNext := sf + 1 } := by
  have hi' : 2 ≤ (framer s p).incRun + 1 := Nat.succ_le_succ (Nat.one_le_iff_ne_zero.2 hi)
  simp only [goodHeader, if_neg (show sf ≠ (framer s p).e from h), if_pos hi', alignOf_noMap, alignOf_withTiming]
  rw [alignOf_setRaw (by rw [framerOn_setFramer, framerOn_bump (by simp only [trkR]; omega), framerOn_setFramer, hon])]
  simp [bump_keep.framer rfl, bitLosf, alignOf, Framer.align]

/-- The run of good headers that clears LOSF, with a header of this SF (R50). -/
def clearRun (f : Framer) (sf : Nat) : Nat := if f.clrLen != 0 && sf == f.clrNext then f.clrLen + 1 else 1

theorem three_le_clearRun {f : Framer} : 3 ≤ clearRun f sf ↔ 2 ≤ f.clrLen ∧ sf = f.clrNext := by
  simp only [clearRun, Bool.and_eq_true, bne_iff_ne, beq_iff_eq]
  split <;> omega

/-- The header of a port in LOSF joins that run. -/
def losfCounted (p sf : Nat) (s : State) : State :=
  let s1 := if sf = (framer s p).e then setSf p sf s else bump (trkR p 0x250) 1 s
  setFramer p { framer s1 p with clrLen := clearRun (framer s p) sf, clrNext := sf + 1 } s1

theorem framerOn_losfCounted : framerOn (losfCounted p sf s) p = framerOn s p := by
  unfold losfCounted
  dsimp only
  split
  · rw [framerOn_setFramer, framerOn_setSf]
  · rw [framerOn_setFramer, framerOn_bump (by simp only [trkR]; omega)]

theorem alignOf_losfCounted : alignOf (losfCounted p sf s) p = { alignOf s p with
    lastSf := if sf = (alignOf s p).e then some sf else (alignOf s p).lastSf,
    clrLen := clearRun (alignOf s p) sf, clrNext := sf + 1 } := by
  have he : (alignOf s p).e = (framer s p).e := rfl
  have hc : clearRun (framer s p) sf = clearRun (alignOf s p) sf := rfl
  unfold losfCounted
  rw [he, hc]
  dsimp only
  split
  · exact (alignOf_setFramer _).trans (by rw [framer_setSf, if_pos rfl]; rfl)
  · exact (alignOf_setFramer _).trans (by rw [bump_keep.framer rfl]; rfl)

/-- Short of three in a row LOSF stays (R50). -/
theorem alignOf_losfHeader_short (h : ¬3 ≤ clearRun (alignOf s p) sf) : alignOf (losfHeader p sf stamp b s) p =
    { alignOf s p with
      lastSf := if sf = (alignOf s p).e then some sf else (alignOf s p).lastSf,
      clrLen := clearRun (alignOf s p) sf, clrNext := sf + 1 } := by
  have e : losfHeader p sf stamp b s = noMap p (framer s p).e (losfCounted p sf s) := if_neg h
  rw [e, alignOf_noMap, alignOf_losfCounted]

theorem align_cleared (l r : List (Nat × Nat)) :
    Framer.align { framer s p with e := sf, clrLen := 0, incRun := 0, stamps := l, runFrames := r } =
      { alignOf s p with e := sf, clrLen := 0, incRun := 0 } := rfl

/-- With the third header in a row LOSF clears, and E takes its SF (R50). -/
theorem alignOf_losfHeader_third (hon : framerOn s p = true) (h : 3 ≤ clearRun (alignOf s p) sf) :
    alignOf (losfHeader p sf stamp b s) p = { alignOf s p with
      lastSf := some sf, clrLen := 0, clrNext := sf + 1, incRun := 0, e := sf, raw := (alignOf s p).raw &&& ~~~8 } := by
  have e : losfHeader p sf stamp b s = deliverOverhead p sf b (keepStamp p stamp (withTiming p
      (fun x => setSf p sf (setRaw p bitLosf false (setFramer p { framer x p with
        e := sf, clrLen := 0, incRun := 0, stamps := []
        runFrames := (framer x p).runFrames.map fun y => (if y.1 = (framer s p).e then sf else y.1, y.2) } x)))
      (losfCounted p sf s))) := if_pos h
  rw [e, alignOf_deliverOverhead, alignOf_keepStamp, alignOf_withTiming, alignOf_setSf,
    alignOf_setRaw (by rw [framerOn_setFramer, framerOn_losfCounted, hon]), alignOf_setFramer]
  rw [align_cleared, alignOf_losfCounted]
  simp [bitLosf]

theorem reg_huntFrame {a : Nat} (h : a ≠ trkR p 0x23C) (h' : a ≠ trkR p 0x230) (b : List Byte) :
    reg (huntFrame p b s) a = reg s a := reg_toHunt h h' _

/-- A miss counts once (R48). -/
theorem regN_missFrame (h : (alignOf s p).missRun < 3) :
    regN (missFrame p b s) (trkR p 0x244) = min (regN s (trkR p 0x244) + 1) (2 ^ 32 - 1) := by
  have h4 : ¬4 ≤ (framer s p).missRun + 1 := Nat.not_le.2 (Nat.succ_lt_succ h)
  rw [← regN_bump_self, regN, missFrame, if_neg h4, noMap_keep.reg_eq rfl,
    reg_huntFrame (by simp only [trkR]; omega) (by simp only [trkR]; omega)]
  rfl

/-- A header that fails its HEC counts once (R49). -/
theorem regN_badHeader : regN (badHeader p b s) (trkR p 0x240) = min (regN s (trkR p 0x240) + 1) (2 ^ 32 - 1) := by
  rw [← regN_bump_self, regN, badHeader, noMap_keep.reg_eq rfl,
    reg_huntFrame (by simp only [trkR]; omega) (by simp only [trkR]; omega)]
  rfl

/-! ### DOWNSTREAM_FRAME by its cases -/

/-- A frame whose header is good: its payload has joined the run (R57). -/
def headerMet (p : Nat) (rx : RxFrame) (s : State) : State := addPayload p (plainOf rx) (frameFound p rx s)

theorem framerOn_headerMet : framerOn (headerMet p rx s) p = framerOn s p := by
  rw [headerMet, addPayload_keep.framerOn_eq rfl, framerOn_frameFound]

theorem alignOf_headerMet (hf : patternFound s p rx = true) : alignOf (headerMet p rx s) p = { alignOf s p with
    e := (alignOf s p).e + 1, rxAt := rx.line, missRun := 0, run := (alignOf s p).run ++ payloadOf (plainOf rx) } := by
  rw [headerMet, alignOf_addPayload, alignOf_frameFound hf]

section OfLocked
variable (hon : framerOn s p = true) (hl : (framer s p).locked = true)
include hon hl

theorem alignOf_downstreamFrame : alignOf (downstreamFrame p rx s) p = alignOf (frameJudged p rx s) p := by
  rw [downstreamFrame_eq hon hl, countDefer_keep.alignOf rfl, alignOf_countSd]

theorem regN_downstreamFrame (a : Nat) : regN (downstreamFrame p rx s) a = regN (frameJudged p rx s) a := by
  rw [regN, downstreamFrame_eq hon hl, countDefer_keep.reg_eq rfl, countSd_keep.reg_eq rfl, regN]

theorem downstreamFrame_missed (hf : patternFound s p rx = false) (hm : (framer s p).missRun < 3) :
    alignOf (downstreamFrame p rx s) p = { alignOf s p with
      e := (alignOf s p).e + 1, rxAt := (alignOf s p).rxAt + 10000000, missRun := (alignOf s p).missRun + 1,
      clrNext := (alignOf s p).clrNext + 1, delin := .hunt, run := (plainOf rx).drop 16, head := none } ∧
    regN (downstreamFrame p rx s) (trkR p 0x244) = min (regN s (trkR p 0x244) + 1) (2 ^ 32 - 1) := by
  have h : (alignOf (frameTaken p rx s) p).missRun < 3 := by rw [alignOf_frameTaken]; exact hm
  rw [alignOf_downstreamFrame hon hl, regN_downstreamFrame hon hl, frameJudged_missed hf, alignOf_missFrame h,
    regN_missFrame h, alignOf_frameTaken, hf, regN, reg_frameTaken (by rw [within_eq_false]; simp only [trkR]; omega)]
  exact ⟨rfl, rfl⟩

theorem lockDropped_downstreamFrame (hf : patternFound s p rx = false) (hm : 3 ≤ (framer s p).missRun) :
    LockDropped p (downstreamFrame p rx s) := by
  have h : LockDropped p (frameJudged p rx s) := by
    rw [frameJudged_missed hf]
    refine lockDropped_missFrame (by rw [framerOn_frameTaken, hon]) ?_
    rw [alignOf_frameTaken]
    exact hm
  obtain ⟨h1, h2, h3, h4, -⟩ := h
  have e := alignOf_downstreamFrame (rx := rx) hon hl
  refine lockDropped_of_align ?_ ?_ ?_ ?_ <;> rw [e] <;> assumption

theorem downstreamFrame_badHeader (hf : patternFound s p rx = true) (hg : headerGood (HeaderOf rx) = false) :
    alignOf (downstreamFrame p rx s) p = { alignOf s p with
      e := (alignOf s p).e + 1, rxAt := rx.line, missRun := 0, clrNext := (alignOf s p).clrNext + 1,
      delin := .hunt, run := (plainOf rx).drop 16, head := none } ∧
    regN (downstreamFrame p rx s) (trkR p 0x240) = min (regN s (trkR p 0x240) + 1) (2 ^ 32 - 1) := by
  rw [alignOf_downstreamFrame hon hl, regN_downstreamFrame hon hl, frameJudged_badHeader hf hg, alignOf_badHeader,
    regN_badHeader, alignOf_frameFound hf, regN, reg_frameFound (by rw [within_eq_false]; simp only [trkR]; omega)]
  exact ⟨rfl, rfl⟩

theorem downstreamFrame_goodHeader (hf : patternFound s p rx = true) (hg : headerGood (HeaderOf rx) = true)
    (hr : (framer s p).raw.getLsbD bitLosf = false) : alignOf (downstreamFrame p rx s) p =
      alignOf (goodHeader p (SfOf (HeaderOf rx)) (plainOf rx) (headerMet p rx s)) p := by
  rw [alignOf_downstreamFrame hon hl, frameJudged_goodHeader hf hg hr]
  rfl

theorem downstreamFrame_losfHeader (hf : patternFound s p rx = true) (hg : headerGood (HeaderOf rx) = true)
    (hr : (framer s p).raw.getLsbD bitLosf = true) : alignOf (downstreamFrame p rx s) p =
      alignOf (losfHeader p (SfOf (HeaderOf rx)) rx.stamp (plainOf rx) (headerMet p rx s)) p := by
  rw [alignOf_downstreamFrame hon hl, frameJudged_losfHeader hf hg hr]
  rfl

theorem downstreamFrame_consistent (hf : patternFound s p rx = true) (hg : headerGood (HeaderOf rx) = true)
    (hr : (framer s p).raw.getLsbD bitLosf = false) (hs : SfOf (HeaderOf rx) = (framer s p).e + 1) :
    alignOf (downstreamFrame p rx s) p = { alignOf s p with
      e := (alignOf s p).e + 1, rxAt := rx.line, missRun := 0, run := (alignOf s p).run ++ payloadOf (plainOf rx),
      incRun := 0, lastSf := some (SfOf (HeaderOf rx)) } := by
  rw [downstreamFrame_goodHeader hon hl hf hg hr, alignOf_goodHeader_consistent (by rw [alignOf_headerMet hf]; exact hs),
    alignOf_headerMet hf]

theorem downstreamFrame_inconsistent (hf : patternFound s p rx = true) (hg : headerGood (HeaderOf rx) = true)
    (hr : (framer s p).raw.getLsbD bitLosf = false) (hs : SfOf (HeaderOf rx) ≠ (framer s p).e + 1) :
    ∃ l n, alignOf (downstreamFrame p rx s) p = { alignOf s p with
      e := (alignOf s p).e + 1, rxAt := rx.line, missRun := 0, run := (alignOf s p).run ++ payloadOf (plainOf rx),
      incRun := (alignOf s p).incRun + 1, clrLen := l, clrNext := n,
      raw := if (alignOf s p).incRun = 0 then (alignOf s p).raw else (alignOf s p).raw ||| 8 } := by
  have hs' : SfOf (HeaderOf rx) ≠ (alignOf (headerMet p rx s) p).e := by rw [alignOf_headerMet hf]; exact hs
  rw [downstreamFrame_goodHeader hon hl hf hg hr]
  by_cases hi : (alignOf s p).incRun = 0
  · rw [alignOf_goodHeader_first hs' (by rw [alignOf_headerMet hf]; exact hi), alignOf_headerMet hf, if_pos hi, hi]
    exact ⟨_, _, rfl⟩
  · rw [alignOf_goodHeader_second (by rw [framerOn_headerMet, hon]) hs' (by rw [alignOf_headerMet hf]; exact hi),
      alignOf_headerMet hf, if_neg hi]
    exact ⟨_, _, rfl⟩

theorem downstreamFrame_losf_third (hf : patternFound s p rx = true) (hg : headerGood (HeaderOf rx) = true)
    (hr : (framer s p).raw.getLsbD bitLosf = true)
    (h : 2 ≤ (framer s p).clrLen ∧ SfOf (HeaderOf rx) = (framer s p).clrNext) :
    alignOf (downstreamFrame p rx s) p = { alignOf s p with
      e := SfOf (HeaderOf rx), rxAt := rx.line, missRun := 0, run := (alignOf s p).run ++ payloadOf (plainOf rx),
      lastSf := some (SfOf (HeaderOf rx)), clrLen := 0, clrNext := SfOf (HeaderOf rx) + 1, incRun := 0,
      raw := (alignOf s p).raw &&& ~~~8 } := by
  have h3 : 3 ≤ clearRun (alignOf (headerMet p rx s) p) (SfOf (HeaderOf rx)) := by
    rw [alignOf_headerMet hf]
    exact three_le_clearRun.2 h
  rw [downstreamFrame_losfHeader hon hl hf hg hr, alignOf_losfHeader_third (by rw [framerOn_headerMet, hon]) h3,
    alignOf_headerMet hf]

theorem downstreamFrame_losf_short (hf : patternFound s p rx = true) (hg : headerGood (HeaderOf rx) = true)
    (hr : (framer s p).raw.getLsbD bitLosf = true)
    (h : ¬(2 ≤ (framer s p).clrLen ∧ SfOf (HeaderOf rx) = (framer s p).clrNext)) :
    ∃ o l, alignOf (downstreamFrame p rx s) p = { alignOf s p with
      e := (alignOf s p).e + 1, rxAt := rx.line, missRun := 0, run := (alignOf s p).run ++ payloadOf (plainOf rx),
      lastSf := o, clrLen := l, clrNext := SfOf (HeaderOf rx) + 1 } := by
  have h3 : ¬3 ≤ clearRun (alignOf (headerMet p rx s) p) (SfOf (HeaderOf rx)) := by
    rw [alignOf_headerMet hf]
    exact mt three_le_clearRun.1 h
  rw [downstreamFrame_losfHeader hon hl hf hg hr, alignOf_losfHeader_short h3, alignOf_headerMet hf]
  exact ⟨_, _, rfl⟩

/-- The payload of a frame with a good header joins the run, wherever its header leads (R57). -/
theorem downstreamFrame_payload (hf : patternFound s p rx = true) (hg : headerGood (HeaderOf rx) = true) :
    (framer (downstreamFrame p rx s) p).run = (framer s p).run ++ payloadOf (plainOf rx) ∧
    (framer (downstreamFrame p rx s) p).delin = (framer s p).delin := by
  have of_align : ∀ f, alignOf (downstreamFrame p rx s) p = f → f.run = (framer s p).run ++ payloadOf (plainOf rx) →
      f.delin = (framer s p).delin → _ := fun f h h1 h2 =>
    And.intro (field_of_alignOf Framer.run h h1) (field_of_alignOf Framer.delin h h2)
  cases hr : (framer s p).raw.getLsbD bitLosf with
  | false =>
    by_cases hs : SfOf (HeaderOf rx) = (framer s p).e + 1
    · exact of_align _ (downstreamFrame_consistent hon hl hf hg hr hs) rfl rfl
    · obtain ⟨l, n, h⟩ := downstreamFrame_inconsistent hon hl hf hg hr hs
      exact of_align _ h rfl rfl
  | true =>
    by_cases hc : 2 ≤ (framer s p).clrLen ∧ SfOf (HeaderOf rx) = (framer s p).clrNext
    · exact of_align _ (downstreamFrame_losf_third hon hl hf hg hr hc) rfl rfl
    · obtain ⟨o, l, h⟩ := downstreamFrame_losf_short hon hl hf hg hr hc
      exact of_align _ h rfl rfl

end OfLocked

/-! ### Candidate trackers -/

theorem alignOf_reachLock (hon : framerOn s p = true) : alignOf (reachLock p rx s) p = { alignOf s p with
    locked := true, trackers := [], missRun := 0, e := SfOf (HeaderOf rx), rxAt := rx.line, incRun := 0,
    clrLen := bitN ((alignOf s p).raw.getLsbD bitLosf), clrNext := SfOf (HeaderOf rx) + 1, delin := .hunt,
    run := payloadOf (plainOf rx), head := none, sdOver := 0, sdUnder := 0, lastSf := some (SfOf (HeaderOf rx)),
    raw := (alignOf s p).raw &&& ~~~4 } := by
  unfold reachLock
  dsimp only
  split
  all_goals
    simp only [alignOf_deliverOverhead, alignOf_keepStamp, alignOf_countSd, alignOf_countFec, alignOf_withTiming, alignOf_setSf]
    rw [alignOf_setRaw (by rw [framerOn_setFramer, hon]), alignOf_setFramer]
    rfl

/-! ### Sightings -/

variable {pos k : Nat} {w : BitVec 64} {c : Tracker}

/-- The first free tracker of a port (R45). -/
def freeTracker (s : State) (p : Nat) : Option Nat :=
  (List.range 4).find? fun k => ((framer s p).trackers.look none k).isNone

/-- A sighting within the tolerance of a port that is not locked (R45). -/
def isSighting (s : State) (p : Nat) (w : BitVec 64) : Bool :=
  !(framer s p).locked && decide (mismatches w framePattern ≤ huntTol s p)

theorem sighting_other (h : isSighting s p w = false) : sighting p pos w s = s := by
  refine if_pos ?_
  simp only [isSighting, Bool.and_eq_false_iff, Bool.not_eq_false', decide_eq_false_iff_not, Nat.not_le] at h
  rcases h with h | h <;> simp [h]

/-- It goes to the lowest free tracker (R45). -/
theorem sighting_free (hon : framerOn s p = true) (h : isSighting s p w = true) (hf : freeTracker s p = some k) :
    sighting p pos w s = bump (trkR p 0x248) 1 (setFramer p
      { framer s p with trackers := (framer s p).trackers.put k (some { pos := pos, run := 0 }) } s) := by
  simp only [isSighting, Bool.and_eq_true, Bool.not_eq_true', decide_eq_true_eq] at h
  unfold sighting
  dsimp only
  rw [if_neg (by simp [hon, h.1, h.2]), upTo, ← freeTracker, hf]

theorem sighting_full (hon : framerOn s p = true) (h : isSighting s p w = true) (hf : freeTracker s p = none) :
    sighting p pos w s = bump (trkR p 0x24C) 1 s := by
  simp only [isSighting, Bool.and_eq_true, Bool.not_eq_true', decide_eq_true_eq] at h
  unfold sighting
  dsimp only
  rw [if_neg (by simp [hon, h.1, h.2]), upTo, ← freeTracker, hf]

/-- A sighting counts in one of two registers. -/
theorem regsOnly_sighting : RegsOnly (fun a => a == trkR p 0x248 || a == trkR p 0x24C) s (sighting p pos w s) := by
  intro a ha
  simp only [Bool.or_eq_false_iff, beq_eq_false_iff_ne] at ha
  unfold sighting
  dsimp only
  split
  · rfl
  · split
    · exact reg_bump_ne ha.1 1
    · exact reg_bump_ne ha.2 1

/-! ### Checks of a tracker -/

theorem trackerCheck_idle (h : (framer s p).trackers.look none k = none ∨ (framer s p).locked = true) :
    trackerCheck p k rx s = s := by
  unfold trackerCheck
  dsimp only
  split
  · rfl
  · rename_i e
    simp [h.resolve_left (by simp [e])]

/-- The header, and after the first sighting the pattern, pass at a tracker's place (R46). -/
def trackerPasses (s : State) (p : Nat) (rx : RxFrame) (c : Tracker) : Bool :=
  headerGood (HeaderOf rx) && (c.run == 0 || decide (mismatches rx.pattern framePattern ≤ huntTol s p))

/-- The check of a port that hunts with its light and its lanes (R46). -/
theorem trackerCheck_of (hon : framerOn s p = true) (hc : (framer s p).trackers.look none k = some c)
    (hl : (framer s p).locked = false) (h0 : (framer s p).raw.getLsbD bitLos = false)
    (h1 : (framer s p).raw.getLsbD bitLol = false) : trackerCheck p k rx s =
      if trackerPasses s p rx c then
        if 2 ≤ c.run then reachLock p rx s
        else setFramer p { framer s p with
          trackers := (framer s p).trackers.put k (some { pos := c.pos + 200000000, run := c.run + 1 }) } s
      else setFramer p { framer s p with trackers := (framer s p).trackers.put k none } s := by
  unfold trackerCheck
  dsimp only
  rw [hc]
  simp [hon, hl, h0, h1, trackerPasses, HeaderOf, Bool.and_comm]

/-- Settles O8: a sighting and a tracker's check by their outcomes, a locked port's frame by what pattern and header make of
its alignment. -/
theorem framerAlignment : Obligations.FramerAlignment := by
  intro s p hc hon
  refine ⟨fun pos w => ?sighting, fun k rx => ?tracker, fun rx => ?frame⟩
  case sighting =>
    refine completes_of_coreOn hc rfl execSighting_keep execSighting_port fun hk hp => ?_
    refine ⟨fun hn => sighting_other hn, fun hn hf => ?_, fun k hn hf => ?_, hp, hk.only rfl, regsOnly_sighting⟩
    · rw [sighting_full hon hn hf]
      exact ⟨bump_keep.framer rfl p, regN_bump_self ..⟩
    · rw [sighting_free hon hn hf]
      exact ⟨(bump_keep.framer rfl p).trans ((framer_setFramer ..).trans (if_pos rfl)), regN_bump_self ..⟩
  case tracker =>
    refine completes_of_coreOn hc rfl execTrackerCheck_keep execTrackerCheck_port fun hk hp => ?_
    refine ⟨fun c hc hl h0 h1 => ⟨fun hf => ?_, fun ht hr => ?_, fun ht hr => ?_⟩, trackerCheck_idle, hp⟩
    · have hf' : trackerPasses s p rx c = false := hf
      rw [trackerCheck_of hon hc hl h0 h1, hf']
      exact ⟨by simp, by simp [hl], setFramer_keep.only rfl⟩
    · have ht' : trackerPasses s p rx c = true := ht
      rw [trackerCheck_of hon hc hl h0 h1, ht', if_pos rfl, if_neg (by omega)]
      exact ⟨by simp, by simp [hl], setFramer_keep.only rfl⟩
    · have ht' : trackerPasses s p rx c = true := ht
      rw [trackerCheck_of hon hc hl h0 h1, ht', if_pos rfl, if_pos hr]
      have h := alignOf_reachLock (rx := rx) hon
      exact ⟨field_of_alignOf Framer.locked h rfl, field_of_alignOf Framer.trackers h rfl, field_of_alignOf Framer.e h rfl,
        field_of_alignOf Framer.rxAt h rfl, field_of_alignOf Framer.lastSf h rfl, field_of_alignOf Framer.raw h rfl,
        field_of_alignOf Framer.delin h rfl, field_of_alignOf Framer.run h rfl⟩
  case frame =>
    refine completes_of_coreOn hc rfl execDownstreamFrame_keep execDownstreamFrame_port fun hk hp => ?_
    refine ⟨fun hl => if_pos (by simp [hl]), fun hl hf hm => ?missed, fun hl hf hm => lockDropped_downstreamFrame hon hl hf hm,
      fun hl hf hg => ?badHeader, fun hl hf hg hr hs => ?consistent, fun hl hf hg hr hs => ?inconsistent,
      fun hl hf hg => downstreamFrame_payload hon hl hf hg, fun hl hf hg hr => ?losf, hp⟩
    case missed =>
      obtain ⟨h, hn⟩ := downstreamFrame_missed hon hl hf hm
      exact ⟨field_of_alignOf Framer.locked h hl, field_of_alignOf Framer.missRun h rfl, field_of_alignOf Framer.e h rfl,
        field_of_alignOf Framer.delin h rfl, field_of_alignOf Framer.run h rfl, hn⟩
    case badHeader =>
      obtain ⟨h, hn⟩ := downstreamFrame_badHeader hon hl hf hg
      exact ⟨field_of_alignOf Framer.locked h hl, field_of_alignOf Framer.missRun h rfl, field_of_alignOf Framer.e h rfl,
        field_of_alignOf Framer.raw h rfl, field_of_alignOf Framer.delin h rfl, field_of_alignOf Framer.run h rfl, hn⟩
    case consistent =>
      have h := downstreamFrame_consistent hon hl hf hg hr hs
      exact ⟨field_of_alignOf Framer.locked h hl, field_of_alignOf Framer.missRun h rfl,
        field_of_alignOf Framer.e h hs.symm, field_of_alignOf Framer.lastSf h rfl, field_of_alignOf Framer.raw h rfl⟩
    case inconsistent =>
      obtain ⟨l, n, h⟩ := downstreamFrame_inconsistent hon hl hf hg hr hs
      exact ⟨field_of_alignOf Framer.locked h hl, field_of_alignOf Framer.e h rfl, field_of_alignOf Framer.raw h rfl⟩
    case losf =>
      split
      · rename_i hc
        have h := downstreamFrame_losf_third hon hl hf hg hr hc
        exact ⟨field_of_alignOf Framer.locked h hl, field_of_alignOf Framer.raw h rfl, field_of_alignOf Framer.e h rfl⟩
      · rename_i hc
        obtain ⟨o, l, h⟩ := downstreamFrame_losf_short hon hl hf hg hr hc
        exact ⟨field_of_alignOf Framer.locked h hl, field_of_alignOf Framer.raw h rfl, field_of_alignOf Framer.e h rfl⟩

end Sys2Proof.Machine
end

section
/-! SUPPORT. O9: seconds and bins of a port's performance history (R67 to R71). -/
namespace Sys2Proof.Machine
open Sys2Proof

variable {p : Nat} {s : State} {m : PmStore} {es ses day : Bool}

/-! ### Seconds -/

/-- A second in available time, no run of nine SES before it, counts in both current bins (R67). -/
theorem classify_available (hu : m.uaTime = false) (hr : m.sesRun.length < 9) : classify es ses m =
    { m with cur15 := m.cur15.addSec (bitN es) (bitN ses) 0, cur24 := m.cur24.addSec (bitN es) (bitN ses) 0,
             sesRun := if ses then m.sesRun ++ [{ es := es }] else [] } := by
  unfold classify
  dsimp only
  rw [if_neg (by simp [hu])]
  cases ses with
  | false => rfl
  | true =>
    rw [if_neg (by decide), if_neg (Nat.not_le.2 hr)]
    rfl

/-- The store of a port whose second has ended: the next one begins (R67, R68). -/
def nextSecond (s : State) (p : Nat) (m : PmStore) : PmStore :=
  { m with secRep := reported (framer s p).raw, secUncorr := 0, secNo := secondNo s, secWhole := true }

theorem pmStore_pmSecond : pmStore (pmSecond p s) p = nextSecond s p (if (pmStore s p).secWhole then
      classify (secEs s p) (secSes s p) { pmStore s p with
        cur15 := (pmStore s p).cur15.countSec (pmStore s p).secRep,
        cur24 := (pmStore s p).cur24.countSec (pmStore s p).secRep }
    else pmStore s p) :=
  (pmStore_setPmStore ..).trans (if_pos rfl)

theorem pmStore_pmSecond_available (h : (pmStore s p).secWhole = true) (hu : (pmStore s p).uaTime = false)
    (hr : (pmStore s p).sesRun.length < 9) : pmStore (pmSecond p s) p = nextSecond s p { pmStore s p with
      cur15 := ((pmStore s p).cur15.countSec (pmStore s p).secRep).addSec (bitN (secEs s p)) (bitN (secSes s p)) 0,
      cur24 := ((pmStore s p).cur24.countSec (pmStore s p).secRep).addSec (bitN (secEs s p)) (bitN (secSes s p)) 0,
      sesRun := if secSes s p then (pmStore s p).sesRun ++ [{ es := secEs s p }] else [] } := by
  rw [pmStore_pmSecond, if_pos h]
  exact congrArg (nextSecond s p) (classify_available hu hr)

/-- The defect seconds of a bin after a second. -/
theorem ds_countSec (rep : BitVec 7) (b : PmBin) (i : Fin 7) :
    (b.countSec rep).ds.getD i 0 = sat32 (b.ds.getD i 0 + bitN (rep.getLsbD i)) := by
  simp [PmBin.countSec, upTo]

theorem secondDue_eq_false (h : portDark s p = true ∨ secondNo s = (pmStore s p).secNo) : secondDue s p = false := by
  rcases h with h | h <;> simp [secondDue, pmCounting, h]

theorem secondDue_of (hc : coreOn s = true) (hd : portDark s p = false) (hn : secondNo s ≠ (pmStore s p).secNo) :
    secondDue s p = true := by
  simp [secondDue, pmCounting, hc, hd, hn]

/-! ### Bins -/

theorem pmStore_setPmStore_self {x : PmStore} : pmStore (setPmStore p x s) p = x :=
  (pmStore_setPmStore ..).trans (if_pos rfl)

theorem binDue_iff : binDue p day s = true ↔
    binNo day s ≠ if day then (pmStore s p).no24 else (pmStore s p).no15 := bne_iff_ne

theorem pmStore_endBin_day : pmStore (endBin p true id id s) p = { pmStore s p with
    sesRun := runBack true (pmStore s p).sesRun, goodRun := runBack true (pmStore s p).goodRun,
    end24 := { (pmStore s p).cur24 with endUp := s.uptime } :: (pmStore s p).end24, cur24 := newBin s p,
    no24 := binNo true s } := pmStore_setPmStore_self

theorem pmStore_endBin_quarter : pmStore (endBin p false id id s) p = { pmStore s p with
    sesRun := runBack false (pmStore s p).sesRun, goodRun := runBack false (pmStore s p).goodRun,
    end15 := { (pmStore s p).cur15 with endUp := s.uptime } :: (pmStore s p).end15, cur15 := newBin s p,
    no15 := binNo false s } := pmStore_setPmStore_self

/-- The bins of one length that have ended and wait, the most recent first. -/
def endedBins (m : PmStore) (day : Bool) : List PmBin := if day then m.end24 else m.end15

/-- The store once its oldest ended bin, b, has joined the past ones (R70). -/
def binClosed (m : PmStore) (b : PmBin) (day : Bool) : PmStore :=
  if day then { m with end24 := m.end24.dropLast, past24 := (b :: m.past24).take 1 }
  else { m with end15 := m.end15.dropLast, past15 := (b :: m.past15).take 96 }

/-- The event of a bin that is closed (R70, R75). -/
def closeEvent (day : Bool) : Nat := if day then 8 else 7

theorem closeDue_iff : closeDue p day s = true ↔
    ∃ b, (endedBins (pmStore s p) day).getLast? = some b ∧ b.endUp + 250000000 ≤ s.uptime := by
  unfold closeDue
  rw [← endedBins]
  cases (endedBins (pmStore s p) day).getLast? <;> simp

theorem closeBin_eq {b : PmBin} (h : (endedBins (pmStore s p) day).getLast? = some b) :
    closeBin p day s = frEvent p (closeEvent day) (setPmStore p (binClosed (pmStore s p) b day) s) := by
  unfold closeBin
  cases day with
  | false =>
    have h : (pmStore s p).end15.getLast? = some b := h
    simp only [h]
    rfl
  | true =>
    have h : (pmStore s p).end24.getLast? = some b := h
    simp only [h]
    rfl

theorem pmStore_closeBin {b : PmBin} (h : (endedBins (pmStore s p) day).getLast? = some b) :
    pmStore (closeBin p day s) p = binClosed (pmStore s p) b day := by
  rw [closeBin_eq h, frEvent_keep.pmStore rfl, pmStore_setPmStore_self]

theorem bitAt_closeBin {b : PmBin} (h : (endedBins (pmStore s p) day).getLast? = some b) :
    bitAt (closeBin p day s) (trkR p 0x18) (closeEvent day) = true := by
  rw [closeBin_eq h]
  exact bitAt_raise (by cases day <;> decide) (by simp only [trkR]; omega)

/-- Its event writes FR_EVENT and, at Reef 3, WAKE_CAUSE. -/
theorem regsOnly_closeBin {b : PmBin} (h : (endedBins (pmStore s p) day).getLast? = some b) :
    RegsOnly (fun a => a == trkR p 0x18 || a == 0x0020005C) s (closeBin p day s) := by
  intro a ha
  simp only [Bool.or_eq_false_iff, beq_eq_false_iff_ne] at ha
  rw [closeBin_eq h]
  exact reg_raise ha.2 ha.1 ..

/-- PM_BIN_CLOSE, for bins of either length (R70). -/
theorem completes_pmBinClose (p : Fin 16) (hc : coreOn s = true) (day : Bool) : Completes (.pmBinClose p day) s (fun t =>
    (∀ b, (endedBins (pmStore s p) day).getLast? = some b → b.endUp + 250000000 ≤ s.uptime →
      pmStore t p = binClosed (pmStore s p) b day ∧ bitAt t (trkR p 0x18) (closeEvent day) = true) ∧
    ((∀ b, (endedBins (pmStore s p) day).getLast? = some b → s.uptime < b.endUp + 250000000) → t = s) ∧
    Only [.regs, .sent, .icSrc, .icMsix, .pm, .reef] s t ∧ PortKeep p s t ∧
    RegsOnly (fun a => a == trkR p 0x18 || a == 0x0020005C) s t) := by
  refine completes_onlyIf rfl execPmBinClose_keep execPmBinClose_port (fun hd hk hp => ?due) fun hd => ?early
  case due =>
    rw [hc, Bool.true_and, closeDue_iff] at hd
    obtain ⟨b, hb, hu⟩ := hd
    refine ⟨fun b' hb' _ => ?_, fun h => absurd hu (Nat.not_le.2 (h b hb)), hk.only rfl, hp, regsOnly_closeBin hb⟩
    exact ⟨pmStore_closeBin hb', bitAt_closeBin hb'⟩
  case early =>
    rw [hc, Bool.true_and, ← Bool.not_eq_true, closeDue_iff] at hd
    exact ⟨fun b hb hu => absurd ⟨b, hb, hu⟩ hd, fun _ => rfl, Keep.only (m := 0) .refl rfl, .refl, fun _ _ => rfl⟩

/-- A bin whose counts are cleared (R71). -/
def PmBin.zeroed (b : PmBin) : PmBin := { b with
  incomplete := true, cleared := true, seconds := 0, es := 0, ses := 0, uas := 0, ds := [],
  corrCw := 0, uncorrCw := 0, missed := 0, invalid := 0, discard := 0 }

/-- PM_CLR_CUR changes the current bins, and in the runs where each second's counts lie. -/
theorem pmStore_clearCur : ∃ l g, pmStore (clearCur p s) p = { pmStore s p with
    cur15 := (pmStore s p).cur15.zeroed, cur24 := (pmStore s p).cur24.zeroed, sesRun := l, goodRun := g } :=
  ⟨_, _, pmStore_setPmStore_self⟩

/-- Settles O9: each command by what it makes of the port's performance store. -/
theorem performanceBins : Obligations.PerformanceBins := by
  intro s p hc
  refine ⟨?second, fun day => ?binEnd, ?close15, ?close24, ?clear⟩
  case second =>
    refine completes_onlyIf rfl execPmSecond_keep execPmSecond_port (fun hd hk hp => ?due) fun hd => ?counted
    case due =>
      refine ⟨fun h => ?_, fun _ _ hw hu hr => ?_, fun _ _ => ?_, hk.only rfl, hp⟩
      · rw [secondDue_eq_false h] at hd
        cases hd
      · rw [pmStore_pmSecond_available hw hu hr]
        exact ⟨rfl, rfl, rfl, rfl, rfl, ds_countSec _ _⟩
      · rw [pmStore_pmSecond]
        exact ⟨rfl, rfl, rfl, rfl, fun hw => by rw [hw]; exact ⟨rfl, rfl⟩⟩
    case counted =>
      have no : ∀ {q : Prop}, portDark s p = false → secondNo s ≠ (pmStore s p).secNo → q := fun h hn => by
        rw [secondDue_of hc h hn] at hd
        cases hd
      exact ⟨fun _ => rfl, fun h hn => no h hn, fun h hn => no h hn, Keep.only (m := 0) .refl rfl, .refl⟩
  case binEnd =>
    refine completes_onlyIf rfl execPmBinEnd_keep execPmBinEnd_port (fun hd hk hp => ?boundary) fun hd => ?before
    case boundary =>
      rw [hc, Bool.true_and, binDue_iff] at hd
      refine ⟨fun h => absurd h hd, fun _ => ?_, rfl, rfl, rfl, rfl, rfl, hk.only rfl, hp⟩
      cases day with
      | false => rw [pmStore_endBin_quarter]; exact ⟨rfl, rfl, rfl, rfl⟩
      | true => rw [pmStore_endBin_day]; exact ⟨rfl, rfl, rfl, rfl⟩
    case before =>
      rw [hc, Bool.true_and, ← Bool.not_eq_true, binDue_iff] at hd
      exact ⟨fun _ => rfl, fun h => absurd h hd, rfl, rfl, rfl, rfl, rfl, Keep.only (m := 0) .refl rfl, .refl⟩
  case close15 =>
    obtain ⟨t, he, h1, h2, ho, hp, hr⟩ := completes_pmBinClose p hc false
    refine ⟨t, he, fun b hb hu => ?_, h2, ho, hp, hr⟩
    obtain ⟨e, hbit⟩ := h1 b hb hu
    rw [e]
    exact ⟨rfl, rfl, hbit⟩
  case close24 =>
    obtain ⟨t, he, h1, h2, ho, hp, hr⟩ := completes_pmBinClose p hc true
    refine ⟨t, he, fun b hb hu => ?_, h2, ho, hp, hr⟩
    obtain ⟨e, hbit⟩ := h1 b hb hu
    rw [e]
    exact ⟨rfl, rfl, hbit⟩
  case clear =>
    refine completes_of_coreOn hc rfl execPmClrCur_keep execPmClrCur_port fun hk hp => ?_
    obtain ⟨l, g, e⟩ := pmStore_clearCur (s := s) (p := p)
    rw [e]
    exact ⟨rfl, rfl, rfl, rfl, rfl, rfl, rfl, rfl, rfl, rfl, hk.only rfl, hp⟩

end Sys2Proof.Machine
end

section
/-! SUPPORT. Backstay's registers (ch. 05): how writes of registers compose, and that what the guard shares with the lanes, Halyard,
registration and the fault log writes none of its own registers. -/
namespace Sys2Proof.Machine
open Sys2Proof

variable {m : Nat} {s t u : State} {w v : Nat → Bool} {p : Fin 16}

/-! ### Which registers are written -/

theorem RegsOnly.refl : RegsOnly w s s := fun _ _ => rfl

theorem RegsOnly.chain (k : RegsOnly w t u) (h : RegsOnly w s t) : RegsOnly w s u := fun a ha => (k a ha).trans (h a ha)

theorem RegsOnly.ite {c : Prop} [Decidable c] (h : RegsOnly w s t) (k : RegsOnly w s u) :
    RegsOnly w s (if c then t else u) := by split <;> assumption

theorem RegsOnly.mono (k : RegsOnly w s t) (h : ∀ a, v a = false → w a = false) : RegsOnly v s t := fun a ha => k a (h a ha)

theorem regsOnly_of_regs (h : t.regs = s.regs) : RegsOnly w s t := fun a _ => by simp only [reg, h]

theorem Keep.regsOnly (k : Keep m s t) (h : m.testBit 1 = false) : RegsOnly w s t := regsOnly_of_regs (k.same .regs h)

theorem regsOnly_forAll {α : Type} {f : α → State → State} {l : List α} (h : ∀ x y, RegsOnly w y (f x y)) :
    RegsOnly w s (forAll f l s) := fun _ ha => reg_forAll fun x y => h x y _ ha

theorem regsOnly_setReg {a : Nat} {x : Word} (h : w a = true) : RegsOnly w s (setReg a x s) := fun b hb =>
  reg_setReg_ne (by rintro rfl; rw [h] at hb; cases hb) x

theorem regsOnly_setReg64 {a n : Nat} (h : w a = true) (h4 : w (a + 4) = true) : RegsOnly w s (setReg64 a n s) :=
  (regsOnly_setReg h4).chain (regsOnly_setReg h)

theorem regsOnly_signalSource {n : Nat} (h : w 0x0020005C = true) : RegsOnly w s (signalSource n s) := fun a ha =>
  reg_signalSource (by rintro rfl; rw [h] at ha; cases ha) n

theorem regsOnly_raise {ev en i src : Nat} (h : w 0x0020005C = true) (hv : w ev = true) : RegsOnly w s (raise ev en i src s) :=
  fun a ha => reg_raise (by rintro rfl; rw [h] at ha; cases ha) (by rintro rfl; rw [hv] at ha; cases ha) en i src

/-! ### Registers outside Backstay -/

/-- The register at a is none of Backstay's (R163). -/
def offGuard (a : Nat) : Bool := a < 0x01200000 || 0x01200500 ≤ a

theorem offGuard_iff {a : Nat} : offGuard a = true ↔ a < 0x01200000 ∨ 0x01200500 ≤ a := by simp [offGuard]

theorem offGuard_trkR {o : Nat} (h : o < 0x10000) : offGuard (trkR p o) = true :=
  offGuard_iff.2 (by simp only [trkR]; omega)

theorem offGuard_halR {o : Nat} (h : o < 0x8000) : offGuard (halR p o) = true :=
  offGuard_iff.2 (by simp only [halR]; omega)

theorem offGuard_laneR {l o : Nat} : offGuard (laneR l o) = true := offGuard_iff.2 (by simp only [laneR]; omega)

theorem offGuard_cliR {b o : Nat} : offGuard (cliR b o) = true :=
  offGuard_iff.2 (by simp only [cliR]; split <;> omega)

theorem offGuard_bksR {q o : Nat} (hq : q < 16) (h : o < 0x40) : offGuard (bksR q o) = false := by
  rw [← Bool.not_eq_true, offGuard_iff, bksR]
  omega

/-- From s to t no register of Backstay's is written. -/
abbrev GuardQuiet (s t : State) : Prop := RegsOnly offGuard s t

theorem quiet_signalSource {n : Nat} : GuardQuiet s (signalSource n s) := regsOnly_signalSource rfl

theorem quiet_raise {ev en i src : Nat} (h : offGuard ev = true) : GuardQuiet s (raise ev en i src s) := regsOnly_raise rfl h

/-! ### Lanes and doze -/

theorem quiet_rclkSettle : GuardQuiet s (rclkSettle s) := regsOnly_forAll fun n x => by
  refine .ite ?_ .refl
  unfold setSquelch
  exact .ite .refl ((quiet_raise rfl).chain (regsOnly_setReg rfl))

theorem quiet_laneEvent {l i : Nat} : GuardQuiet s (laneEvent l i s) := by
  unfold laneEvent
  exact .ite (quiet_signalSource.chain (regsOnly_setReg offGuard_laneR)) (regsOnly_setReg offGuard_laneR)

theorem quiet_laneHalf {l c : Nat} {h : WaikenHalf} : GuardQuiet s (laneHalf l h c s) := by
  unfold laneHalf laneStep
  exact .ite (quiet_rclkSettle.chain (.ite (quiet_laneEvent.chain (regsOnly_of_regs rfl)) (regsOnly_of_regs rfl)))
    (.ite (quiet_laneEvent.chain (regsOnly_of_regs rfl)) (regsOnly_of_regs rfl))

theorem quiet_dataLanesTx {q a b : Nat} : GuardQuiet s (dataLanesTx q a b s) :=
  regsOnly_forAll fun _ _ => .ite quiet_laneHalf .refl

theorem quiet_dozeIn {q : Nat} : GuardQuiet s (dozeIn q s) := by
  unfold dozeIn
  exact .ite (quiet_dataLanesTx.chain (regsOnly_of_regs rfl)) .refl

theorem quiet_forceOff {q : Nat} : GuardQuiet s (forceOff q s) := quiet_dataLanesTx.chain (regsOnly_of_regs rfl)

theorem quiet_forceOn {q : Nat} : GuardQuiet s (forceOn q s) := by
  unfold forceOn
  exact .ite (quiet_dataLanesTx.chain (regsOnly_of_regs rfl)) .refl

/-! ### Frames that a missed grant returns or frees -/

theorem quiet_cliEvent {b c i : Nat} : GuardQuiet s (cliEvent b c i s) := by
  unfold cliEvent
  exact .ite (regsOnly_setReg offGuard_cliR) (quiet_raise offGuard_cliR)

theorem quiet_lpiExit {b c : Nat} : GuardQuiet s (lpiExit b c s) := by
  unfold lpiExit macStatus
  exact .ite .refl (quiet_cliEvent.chain (regsOnly_setReg offGuard_cliR))

theorem quiet_sendPfc {b c : Nat} : GuardQuiet s (sendPfc b c s) := by
  unfold sendPfc
  exact .ite (regsOnly_of_regs rfl) (RegsOnly.chain (regsOnly_of_regs rfl) ((regsOnly_setReg offGuard_cliR).chain
    (RegsOnly.chain (regsOnly_of_regs rfl) (quiet_lpiExit.chain (regsOnly_of_regs rfl)))))

theorem quiet_pfcChange {b c : Nat} {want : BitVec 8} : GuardQuiet s (pfcChange b c want s) := by
  have k : ∀ x : State, GuardQuiet x (pfcNow b c x) := fun x => .ite (regsOnly_of_regs rfl) quiet_sendPfc
  unfold pfcChange
  exact .ite .refl ((k _).chain ((regsOnly_setReg offGuard_cliR).chain (regsOnly_of_regs rfl)))

theorem quiet_bufEvent {i : Nat} : GuardQuiet s (bufEvent i s) := quiet_raise rfl

theorem quiet_bufSettle : GuardQuiet s (bufSettle s) := by
  unfold bufSettle
  refine RegsOnly.chain (regsOnly_forAll fun k x => ?_)
    ((regsOnly_forAll fun _ _ => .ite quiet_pfcChange .refl).chain (latchXoff_keep.regsOnly rfl))
  have h : offGuard (0x05000018 + 4 * (k / 32)) = true := offGuard_iff.2 (by omega)
  exact .ite .refl (.ite (quiet_bufEvent.chain (regsOnly_setReg h)) (regsOnly_setReg h))

theorem quiet_freeRef {n : Nat} : GuardQuiet s (freeRef n s) := by
  unfold freeRef
  split
  · exact quiet_bufEvent.chain (regsOnly_setReg rfl)
  · exact .ite (quiet_bufEvent.chain (regsOnly_setReg rfl)) (.ite (regsOnly_of_regs rfl) (regsOnly_of_regs rfl))

theorem quiet_storeContainer {c : Container} {b : Bool} : GuardQuiet s (storeContainer c b s) := by
  unfold storeContainer
  exact .ite (RegsOnly.chain (quiet_raise rfl) ((regsOnly_setReg rfl).chain (regsOnly_of_regs rfl))) (regsOnly_of_regs rfl)

theorem quiet_bump64_halR {o n : Nat} (h : o < 0x7FFC) : GuardQuiet s (bump64 (halR p o) n s) :=
  regsOnly_setReg64 (offGuard_halR (by omega)) (offGuard_halR (o := o + 4) (by omega))

theorem quiet_returnFills {l : List Fill} : GuardQuiet s (returnFills p l s) := by
  unfold returnFills
  exact (regsOnly_setReg (offGuard_halR (by decide))).chain (RegsOnly.chain (regsOnly_forAll fun _ _ => quiet_storeContainer)
    (regsOnly_forAll fun _ _ => returnHead_keep.regsOnly rfl))

theorem quiet_sentFills {l : List Fill} : GuardQuiet s (sentFills p l s) := by
  unfold sentFills
  exact quiet_bufSettle.chain ((quiet_bump64_halR (by decide)).chain ((quiet_bump64_halR (by decide)).chain
    (regsOnly_forAll fun _ _ => .ite .refl quiet_freeRef)))

/-! ### Halyard's grants -/

theorem quiet_countMissed {o n : Nat} (h : o < 0x8000) : GuardQuiet s (countMissed p o n s) := by
  unfold countMissed
  exact .ite .refl (RegsOnly.chain (quiet_raise (offGuard_halR (by decide))) (RegsOnly.chain (pmMissed_keep.regsOnly rfl)
    (regsOnly_setReg (offGuard_halR h))))

theorem quiet_missGrants {o n : Nat} {x : Int} {gs l : List Grant} (h : o < 0x8000) :
    GuardQuiet s (missGrants p o n x gs l s) := by
  unfold missGrants
  exact (quiet_countMissed h).chain ((quiet_bump64_halR (by decide)).chain (RegsOnly.chain (returnTmms_keep.regsOnly rfl)
    (quiet_returnFills.chain (regsOnly_forAll fun _ _ => quiet_sentFills))))

theorem quiet_missAll {o : Nat} (h : o < 0x8000) : GuardQuiet s (missAll p o s) :=
  quiet_dozeIn.chain ((quiet_missGrants h).chain (regsOnly_of_regs rfl))

theorem quiet_cutBurst {o1 o2 : Nat} (h1 : o1 < 0x8000) (h2 : o2 < 0x8000) : GuardQuiet s (cutBurst p o1 o2 s) :=
  quiet_dozeIn.chain ((quiet_missGrants h2).chain ((quiet_missGrants h1).chain (regsOnly_of_regs rfl)))

theorem quiet_missAnswer : GuardQuiet s (missAnswer p s) := by
  unfold missAnswer
  exact .ite .refl (quiet_dozeIn.chain ((regsOnly_setReg (offGuard_trkR (by decide))).chain
    ((quiet_bump64_halR (by decide)).chain (regsOnly_of_regs rfl))))

/-! ### Lookout messages and waiting replies -/

theorem quiet_txDrop {n : Nat} : GuardQuiet s (txDrop n s) :=
  (quiet_raise rfl).chain (regsOnly_setReg (offGuard_iff.2 (by simp only [lkoR]; omega)))

theorem quiet_queueOn {n : Nat} {lm : List Byte} : GuardQuiet s (queueOn n lm s) := by
  unfold queueOn
  exact .ite quiet_txDrop (.ite (regsOnly_of_regs rfl) (regsOnly_of_regs rfl))

theorem quiet_queueLm {q : Nat} {b : Bool} {x : BitVec 384} : GuardQuiet s (queueLm q b x s) := by
  unfold queueLm
  exact .ite (regsOnly_forAll fun _ _ => .ite quiet_queueOn .refl) (quiet_txDrop.chain quiet_txDrop)

theorem quiet_alertMuzzled {q : Nat} : GuardQuiet s (alertMuzzled q s) := by
  unfold alertMuzzled
  exact .ite (quiet_queueLm.chain (regsOnly_of_regs rfl)) (regsOnly_of_regs rfl)

theorem quiet_flushOut : GuardQuiet s (flushOut p s) := by
  unfold flushOut
  refine RegsOnly.chain (regsOnly_forAll fun x y => ?_) (regsOnly_of_regs rfl)
  unfold routeAway
  exact .ite quiet_queueLm (.ite (regsOnly_setReg (offGuard_trkR (by decide))) (regsOnly_of_regs rfl))

/-! ### The fault log, registration's states -/

theorem quiet_writeLog {c k o n a i d : Nat} : GuardQuiet s (writeLog c k o n a i d s) := by
  unfold writeLog
  exact .ite ((regsOnly_setReg rfl).chain (regsOnly_of_regs rfl)) (regsOnly_of_regs rfl)

theorem quiet_logGuard {q c : Nat} : GuardQuiet s (logGuard q c s) := quiet_writeLog

theorem quiet_withPins {c n : Nat} {b : Bool} {f : State → State} : GuardQuiet (f s) (withPins c n b f s) := by
  unfold withPins
  exact .ite .refl (quiet_writeLog.chain (.ite (quiet_raise rfl) .refl))

theorem quiet_rgEvent {i : Nat} : GuardQuiet s (rgEvent p i s) := by
  unfold rgEvent withSummary
  exact .ite (quiet_signalSource.chain (regsOnly_setReg (offGuard_trkR (by decide)))) (regsOnly_setReg (offGuard_trkR (by decide)))

theorem quiet_reefProceed : GuardQuiet s (reefProceed s) := by
  have k : ∀ (a b c : Nat) (x : State), GuardQuiet x (reefEnd a b c x) := fun a b c x => by
    unfold reefEnd
    exact .ite ((regsOnly_setReg rfl).chain (regsOnly_of_regs rfl))
      (RegsOnly.chain quiet_writeLog ((regsOnly_setReg rfl).chain (regsOnly_of_regs rfl)))
  unfold reefProceed
  exact .ite (.ite (k _ _ _ _) (regsOnly_of_regs rfl)) .refl

theorem quiet_cancelDark {q : Nat} : GuardQuiet s (cancelDark q s) := by
  have k : ∀ (a : BitVec 16) (b : BitVec 32) (x : State), GuardQuiet x (darkLeft a b x) := fun a b x => by
    unfold darkLeft
    split
    · exact quiet_reefProceed.chain (regsOnly_of_regs rfl)
    · exact .refl
  unfold cancelDark
  split
  · exact .ite (k _ _ _) .refl
  · exact .refl

theorem quiet_setState {st : RegState} : GuardQuiet s (setState p st s) := by
  unfold setState
  exact .ite .refl (.ite (quiet_cancelDark.chain (quiet_rgEvent.chain (regsOnly_of_regs rfl)))
    (quiet_rgEvent.chain (regsOnly_of_regs rfl)))

theorem quiet_toSilent {st : RegState} : GuardQuiet s (toSilent p st s) := by
  unfold toSilent
  exact quiet_flushOut.chain (quiet_setState.chain (RegsOnly.chain (regsOnly_of_regs rfl)
    (quiet_missAnswer.chain (quiet_missAll (by decide)))))

theorem quiet_muzzleRow : GuardQuiet s (muzzleRow p s) := by
  unfold muzzleRow
  split
  · exact quiet_toSilent
  · exact quiet_toSilent
  · exact quiet_toSilent
  · exact quiet_missAll (by decide)

theorem quiet_endSilent : GuardQuiet s (endSilent p s) := by
  unfold endSilent
  exact .ite (RegsOnly.chain (regsOnly_of_regs rfl) quiet_setState) .refl

theorem quiet_hostNotInState : GuardQuiet s (hostNotInState p s) :=
  quiet_rgEvent.chain (regsOnly_setReg (offGuard_trkR (by decide)))

end Sys2Proof.Machine
end

section
/-! SUPPORT. The transmit guard's own operations (ch. 05): what each writes of a port's Backstay registers, and what it leaves. -/
namespace Sys2Proof.Machine
open Sys2Proof

variable {s t : State} {p q : Fin 16}

/-! ### Fields of registers -/

/-- A number with one field replaced: the field's bits are those of the value, the others stand. -/
theorem testBit_withBits {n hi lo v j : Nat} (h : lo ≤ hi) :
    (withBits n hi lo v).testBit j = if lo ≤ j ∧ j ≤ hi then v.testBit (j - lo) else n.testBit j := by
  have e : withBits n hi lo v = 2 ^ lo * (2 ^ (hi + 1 - lo) * (n / 2 ^ (hi + 1)) + v % 2 ^ (hi + 1 - lo)) + n % 2 ^ lo := by
    have h1 := Nat.div_add_mod n (2 ^ lo)
    have h2 := Nat.div_add_mod (n / 2 ^ lo) (2 ^ (hi + 1 - lo))
    rw [Nat.div_div_eq_div_mul, ← Nat.pow_add, Nat.add_sub_cancel' (by omega : lo ≤ hi + 1)] at h2
    rw [withBits, bits, Nat.shiftRight_eq_div_pow]
    generalize n / 2 ^ lo % 2 ^ (hi + 1 - lo) = b at h2 ⊢
    rw [← h2, Nat.mul_add] at h1
    have h3 : n - b * 2 ^ lo = 2 ^ lo * (2 ^ (hi + 1 - lo) * (n / 2 ^ (hi + 1))) + n % 2 ^ lo := by
      rw [Nat.mul_comm b]; omega
    rw [h3, Nat.mul_add, Nat.mul_comm (2 ^ lo) (v % _)]
    omega
  rw [e, Nat.testBit_two_pow_mul_add _ (Nat.mod_lt _ (Nat.two_pow_pos _)), Nat.testBit_mod_two_pow]
  split
  · rename_i hj
    simp [hj, Nat.not_le.2 hj]
  · rw [Nat.testBit_two_pow_mul_add _ (Nat.mod_lt _ (Nat.two_pow_pos _)), Nat.testBit_mod_two_pow, Nat.testBit_div_two_pow]
    by_cases hh : j ≤ hi
    · rw [if_pos (by omega), if_pos (by omega)]; simp; omega
    · rw [if_neg (by omega), if_neg (by omega)]; congr 1; omega

/-- A bit of the register that setFld writes. -/
theorem bitAt_setFld {a hi lo v j : Nat} (h : lo ≤ hi) (hj : j < 32) :
    bitAt (setFld a hi lo v s) a j = if lo ≤ j ∧ j ≤ hi then v.testBit (j - lo) else bitAt s a j := by
  rw [bitAt, setFld, reg_setRegN_self, BitVec.getLsbD_ofNat, testBit_withBits h]
  simp [hj, bitAt, regN, BitVec.testBit_toNat]

/-- The field that setFld writes. -/
theorem fld_setFld {a hi lo v : Nat} (h : lo ≤ hi) (hh : hi < 32) :
    fld (setFld a hi lo v s) a hi lo = v % 2 ^ (hi + 1 - lo) := by
  refine Nat.eq_of_testBit_eq fun j => ?_
  rw [fld, bits, regN, Nat.testBit_mod_two_pow, Nat.testBit_shiftRight, Nat.testBit_mod_two_pow, ← BitVec.getLsbD]
  by_cases hj : j < hi + 1 - lo
  · have := bitAt_setFld (s := s) (a := a) (v := v) (j := lo + j) h (by omega)
    rw [bitAt, if_pos (by omega), Nat.add_sub_cancel_left] at this
    rw [this]
  · simp [hj]

/-- A counter of 16 bits after a bump (R14). -/
theorem fld_bumpLo (a n : Nat) : fld (bumpLo a n s) a 15 0 = min (fld s a 15 0 + n) (2 ^ 16 - 1) :=
  (fld_setFld (by decide) (by decide)).trans (Nat.mod_eq_of_lt (by omega))

theorem fld_bumpHi (a n : Nat) : fld (bumpHi a n s) a 31 16 = min (fld s a 31 16 + n) (2 ^ 16 - 1) :=
  (fld_setFld (by decide) (by decide)).trans (Nat.mod_eq_of_lt (by omega))

theorem regN_setRegN {a n : Nat} (h : n < 2 ^ 32) : regN (setRegN a n s) a = n := by
  rw [regN, reg_setRegN_self, BitVec.toNat_ofNat, Nat.mod_eq_of_lt h]

theorem bksR_ne {n i j : Nat} (h : i ≠ j) : bksR n i ≠ bksR n j := fun e => h (Nat.add_left_cancel e)

theorem reg_bumpLo_ne {a b : Nat} (h : b ≠ a) (n : Nat) : reg (bumpLo a n s) b = reg s b := reg_setFld_ne h ..

theorem reg_bumpHi_ne {a b : Nat} (h : b ≠ a) (n : Nat) : reg (bumpHi a n s) b = reg s b := reg_setFld_ne h ..

theorem reg_setReg64_bksR {n a b m : Nat} (h : b ≠ a) (h4 : b ≠ a + 4) : reg (setReg64 (bksR n a) m s) (bksR n b) = reg s (bksR n b) :=
  reg_setReg64_ne (bksR_ne h) (by simp only [bksR]; omega)

/-! ### Writes of a port's Backstay registers -/

/-- The registers at the offsets of a list of port p's Backstay registers, and those outside Backstay. -/
def guardWrites (p : Nat) (l : List Nat) (a : Nat) : Bool :=
  offGuard a || (within (bksR p 0) 0x40 a && l.contains (a - bksR p 0))

/-- From s to t no register of Backstay's changes but those at the offsets of a list of port p's. -/
abbrev GuardOnly (p : Nat) (l : List Nat) (s t : State) : Prop := RegsOnly (guardWrites p l) s t

theorem guardWrites_bksR {n o : Nat} {l : List Nat} (ho : o < 0x40) : guardWrites n l (bksR n o) = true ↔
    offGuard (bksR n o) = true ∨ o ∈ l := by
  have h1 : within (bksR n 0) 0x40 (bksR n o) = true :=
    Bool.and_eq_true_iff.2 ⟨decide_eq_true (by simp only [bksR]; omega), decide_eq_true (by simp only [bksR]; omega)⟩
  have h2 : bksR n o - bksR n 0 = o := by simp only [bksR]; omega
  simp [guardWrites, h1, h2]

theorem GuardQuiet.guardOnly {n : Nat} {l : List Nat} (h : GuardQuiet s t) : GuardOnly n l s t :=
  RegsOnly.mono h fun _ ha => (Bool.or_eq_false_iff.1 ha).1

theorem GuardOnly.subset {n : Nat} {l k : List Nat} (h : GuardOnly n l s t) (hl : l ⊆ k) : GuardOnly n k s t :=
  RegsOnly.mono h fun a ha => by
    simp only [guardWrites, Bool.or_eq_false_iff, Bool.and_eq_false_iff, List.contains_eq_mem, decide_eq_false_iff_not] at ha ⊢
    exact ⟨ha.1, ha.2.imp_right fun hm hx => hm (hl hx)⟩

theorem guardOnly_setReg {n o : Nat} {l : List Nat} {x : Word} (ho : o < 0x40) (h : o ∈ l) :
    GuardOnly n l s (setReg (bksR n o) x s) := regsOnly_setReg ((guardWrites_bksR ho).2 (.inr h))

/-- A register of Backstay's that is not among those written stands. -/
theorem GuardOnly.reg_eq {l : List Nat} (h : GuardOnly p l s t) {o : Nat} (ho : o < 0x40) (hn : q ≠ p ∨ o ∉ l) :
    reg t (bksR q o) = reg s (bksR q o) := h _ <| by
  rw [← Bool.not_eq_true]
  rcases Decidable.em (q = p) with rfl | hq
  · rw [guardWrites_bksR ho, offGuard_bksR q.2 ho]
    exact fun h => h.elim (by decide) (hn.resolve_left (· rfl))
  · rw [guardWrites, offGuard_bksR q.2 ho, Bool.false_or, Bool.and_eq_true, not_and, within, Bool.and_eq_true,
      decide_eq_true_eq, decide_eq_true_eq]
    have : q.val ≠ p.val := fun e => hq (Fin.ext e)
    simp only [bksR]
    omega

theorem GuardQuiet.reg_eq (h : GuardQuiet s t) {o : Nat} (ho : o < 0x40) : reg t (bksR q o) = reg s (bksR q o) :=
  h _ (offGuard_bksR q.2 ho)

/-! ### What is read of them -/

theorem muzzled_eq (h : reg t (bksR p 4) = reg s (bksR p 4)) : muzzled t p = muzzled s p := by simp [muzzled, bitAt, h]

theorem guardFault_eq (h : reg t (bksR p 4) = reg s (bksR p 4)) : guardFault t p = guardFault s p := by
  simp [guardFault, bitAt, h]

theorem copyOk_eq (h : reg t (bksR p 4) = reg s (bksR p 4)) (i : Nat) : copyOk t p i = copyOk s p i := by
  simp [copyOk, bitAt, h]

theorem bitAt_eq {a : Nat} (h : reg t a = reg s a) (i : Nat) : bitAt t a i = bitAt s a i := by simp [bitAt, h]

theorem regN_eq {a : Nat} (h : reg t a = reg s a) : regN t a = regN s a := by simp [regN, h]

theorem fld_eq {a : Nat} (h : reg t a = reg s a) (hi lo : Nat) : fld t a hi lo = fld s a hi lo := by simp [fld, regN, h]

theorem GuardQuiet.muzzled_eq (h : GuardQuiet s t) (q : Fin 16) : muzzled t q = muzzled s q :=
  Machine.muzzled_eq (h.reg_eq (by decide))

theorem copiesOk_eq (s : State) (n : Nat) : copiesOk s n = bitN (copyOk s n 0) + bitN (copyOk s n 1) + bitN (copyOk s n 2) := by
  simp [copiesOk, upTo, total, List.range_succ]

theorem txReleased_of_muzzled (h : muzzled s p = true) : txReleased s p = false := by simp [txReleased, h]

theorem txReleased_of_gateClosed (h : (guardOf s p).gateClosed = true) : txReleased s p = false := by simp [txReleased, h]

theorem txReleased_of_clkHold (h : (guardOf s p).clkHold = true) : txReleased s p = false := by simp [txReleased, h]

theorem muzzled_of_txReleased (h : txReleased s p = true) : muzzled s p = false := by
  rw [← Bool.not_eq_true]
  exact fun hm => by rw [txReleased_of_muzzled hm] at h; cases h

/-! ### CLEAN and the event latch -/

theorem unclean_only : GuardOnly p [4] s (unclean p s) := by
  unfold unclean
  exact .ite (guardOnly_setReg (by decide) (by decide)) .refl

/-- Of the port's status only CLEAN changes. -/
theorem bitAt_unclean {j : Nat} (h2 : 2 ≤ j) (hj : j < 32) : bitAt (unclean p s) (bksR p 4) j = bitAt s (bksR p 4) j := by
  unfold unclean
  split
  · rw [bitAt_setFld (by decide) hj, if_neg (by omega)]
  · rfl

theorem clean_unclean (h : muzzled s p = true) : fld (unclean p s) (bksR p 4) 1 0 = 0 := by
  rw [unclean, if_pos h, fld_setFld (by decide) (by decide), Nat.zero_mod]

theorem bksEvent_only {i : Nat} : GuardOnly p [8] s (bksEvent p i s) := by
  have h8 : guardWrites p [8] (bksR p 8) = true := (guardWrites_bksR (by decide)).2 (.inr (by decide))
  have h : GuardOnly p [8] s (setBit (bksR p 8) i true s) := regsOnly_setReg h8
  unfold bksEvent
  exact .ite (regsOnly_raise rfl h8) (.ite (RegsOnly.chain (regsOnly_signalSource rfl) h) h)

/-- P_EVENT after an event: its bit is set, the others stand. -/
theorem bitAt_bksEvent {i j : Nat} (hj : j < 32) :
    bitAt (bksEvent p i s) (bksR p 8) j = (decide (i = j) || bitAt s (bksR p 8) j) := by
  have hw : bksR p 8 ≠ 0x0020005C := by simp only [bksR]; omega
  have hb : bitAt (setBit (bksR p 8) i true s) (bksR p 8) j = (decide (i = j) || bitAt s (bksR p 8) j) := by
    rw [bitAt_setBit hj]
    by_cases h : i = j <;> simp [h]
  unfold bksEvent
  split
  · rename_i h0
    subst h0
    rcases Decidable.em (0 = j) with rfl | hne
    · rw [bitAt_raise hj hw]; rfl
    · rw [bitAt_raise_ne hw hj (.inr hne)]; simp [hne]
  · dsimp only
    split
    · exact (bitAt_eq (reg_signalSource hw _) j).trans hb
    · exact hb

/-! ### MUZZLED is set -/

theorem quiet_muzzleReport {n c : Nat} : GuardQuiet s (alertMuzzled n (logGuard n c s)) := quiet_alertMuzzled.chain quiet_logGuard


theorem setMuzzle_only {c v k : Nat} : GuardOnly p [4, 8, 0x10, 0x18, 0x1C] s (setMuzzle p c v k s) := by
  have w : ∀ (o n : Nat) (x : State), o < 0x40 → o ∈ [4, 8, 0x10, 0x18, 0x1C] →
      GuardOnly p [4, 8, 0x10, 0x18, 0x1C] x (setRegN (bksR p o) n x) := fun o n x ho h => guardOnly_setReg ho h
  unfold setMuzzle
  exact (GuardQuiet.guardOnly quiet_muzzleReport).chain ((bksEvent_only.subset (by decide)).chain
    (RegsOnly.chain (w 0x1C _ _ (by decide) (by decide)) (RegsOnly.chain (w 0x18 _ _ (by decide) (by decide))
      (RegsOnly.chain (w 0x10 _ _ (by decide) (by decide)) (RegsOnly.chain (regsOnly_of_regs rfl)
        (RegsOnly.chain (w 4 _ _ (by decide) (by decide)) (guardOnly_setReg (by decide) (by decide))))))))

/-- The port's status as the latch is set. -/
theorem status_setMuzzle {c v k : Nat} : reg (setMuzzle p c v k s) (bksR p 4) =
    reg (setFld (bksR p 4) 1 0 0 (setBit (bksR p 4) 31 true s)) (bksR p 4) :=
  (GuardQuiet.reg_eq quiet_muzzleReport (by decide)).trans ((bksEvent_only.reg_eq (by decide) (.inr (by decide))).trans
    ((reg_setReg64_bksR (by decide) (by decide)).trans ((reg_setRegN_ne (bksR_ne (by decide)) _).trans
      (congrFun (setGuard_keep.reg_eq rfl) _))))

theorem bitAt_setMuzzle {c v k j : Nat} (h2 : 2 ≤ j) (hj : j < 32) :
    bitAt (setMuzzle p c v k s) (bksR p 4) j = (decide (j = 31) || bitAt s (bksR p 4) j) := by
  rw [bitAt_eq status_setMuzzle, bitAt_setFld (by decide) hj, if_neg (by omega), bitAt_setBit hj]
  by_cases h : j = 31
  · simp [h]
  · simp [h, Ne.symm h]

theorem muzzled_setMuzzle {c v k : Nat} : muzzled (setMuzzle p c v k s) p = true := bitAt_setMuzzle (by decide) (by decide)

theorem clean_setMuzzle {c v k : Nat} : fld (setMuzzle p c v k s) (bksR p 4) 1 0 = 0 := by
  rw [fld_eq status_setMuzzle, fld_setFld (by decide) (by decide), Nat.zero_mod]

theorem event_setMuzzle {c v k j : Nat} (hj : j < 32) :
    bitAt (setMuzzle p c v k s) (bksR p 8) j = (decide (0 = j) || bitAt s (bksR p 8) j) := by
  have h8 : bksR p 8 ≠ bksR p 4 := bksR_ne (by decide)
  refine (bitAt_eq (GuardQuiet.reg_eq quiet_muzzleReport (by decide)) j).trans ((bitAt_bksEvent hj).trans (congrArg _ ?_))
  exact bitAt_eq ((reg_setReg64_bksR (by decide) (by decide)).trans ((reg_setRegN_ne (bksR_ne (by decide)) _).trans
    ((congrFun (setGuard_keep.reg_eq rfl) _).trans ((reg_setFld_ne h8 1 0 0).trans (reg_setBit_ne h8 31 true))))) j

theorem cause_setMuzzle {c v k : Nat} (hc : c < 16) (hv : v < 8) (hk : k < 2 ^ 25) :
    fld (setMuzzle p c v k s) (bksR p 0x10) 31 28 = c ∧ fld (setMuzzle p c v k s) (bksR p 0x10) 27 25 = v := by
  have e : regN (setMuzzle p c v k s) (bksR p 0x10) = c * 2 ^ 28 + v * 2 ^ 25 + k :=
    (regN_eq ((GuardQuiet.reg_eq quiet_muzzleReport (by decide)).trans ((bksEvent_only.reg_eq (by decide) (.inr (by decide))).trans
      (reg_setReg64_bksR (by decide) (by decide))))).trans (regN_setRegN (by omega))
  rw [fld, fld, e]
  simp only [bits, Nat.shiftRight_eq_div_pow]
  omega

theorem slotOf_lt (s : State) (n k : Nat) : slotOf s n k < 2 ^ 25 := by
  unfold slotOf
  exact Nat.lt_of_le_of_lt (Nat.min_le_left ..) (by decide)

/-! ### What of the guard's pieces an operation leaves -/

/-- A guard's pieces but the version 2 answers, the first clean frame and the instant of the last ALERT: what muzzling leaves alone. -/
def Guard.core (g : Guard) : Guard := { g with answers := [], answerOpen := false, cleanFrom := 0, alertAt := 0 }

/-- From s to t nothing of port p's guard changes that muzzling leaves alone. -/
def GuardCore (p : Nat) (s t : State) : Prop := (guardOf t p).core = (guardOf s p).core

theorem GuardCore.chain {u : State} {p : Nat} (k : GuardCore p t u) (h : GuardCore p s t) : GuardCore p s u := k.trans h

theorem Keep.guardCore {m p : Nat} (k : Keep m s t) (h : m.testBit 15 = false) : GuardCore p s t :=
  congrArg Guard.core (k.guardOf h p)

theorem GuardCore.eq {α : Type} {p : Nat} (h : GuardCore p s t) (f : Guard → α) (hf : ∀ g : Guard, f g.core = f g := by exact fun _ => rfl) :
    f (guardOf t p) = f (guardOf s p) := by
  have := congrArg f h
  rwa [hf, hf] at this

theorem guardCore_missAnswer {p : Nat} : GuardCore p s (missAnswer p s) := by
  unfold missAnswer
  dsimp only
  split
  · rfl
  · refine (dozeIn_keep.guardCore rfl).chain ((bump_keep.guardCore rfl).chain ((bump64_keep.guardCore rfl).chain ?_))
    rw [GuardCore, guardOf_setGuard, if_pos rfl]
    rfl

theorem guardCore_muzzleRow {p : Nat} : GuardCore p s (muzzleRow p s) := by
  have k : ∀ st, GuardCore p s (toSilent p st s) := fun st =>
    (flushOut_keep.guardCore rfl).chain ((setState_keep.guardCore rfl).chain ((setRegn_keep.guardCore rfl).chain
      (guardCore_missAnswer.chain (missAll_keep.guardCore rfl))))
  unfold muzzleRow
  split
  · exact k _
  · exact k _
  · exact k _
  · exact missAll_keep.guardCore rfl

theorem guardOf_alertMuzzled {p : Nat} : guardOf (alertMuzzled p s) p = { guardOf s p with alertAt := s.uptime } := by
  have e : guardOf (setGuard p { guardOf s p with alertAt := s.uptime } s) p = { guardOf s p with alertAt := s.uptime } := by
    rw [guardOf_setGuard, if_pos rfl]
  unfold alertMuzzled
  dsimp only
  split
  · rw [queueAlert_keep.guardOf rfl, e]
  · exact e

theorem guardCore_setMuzzle {p c v k : Nat} : GuardCore p s (setMuzzle p c v k s) := by
  have h : ∀ x : State, GuardCore p x (alertMuzzled p x) := fun x => by rw [GuardCore, guardOf_alertMuzzled]; rfl
  unfold setMuzzle
  refine (h _).chain ((logGuard_keep.guardCore rfl).chain ((bksEvent_keep.guardCore rfl).chain ((setReg64_keep.guardCore rfl).chain
    ((setRegN_keep.guardCore rfl).chain ?_))))
  rw [GuardCore, guardOf_setGuard, if_pos rfl]
  rfl

/-! ### Copies that are faulted -/

/-- Copy i is faulted (R159). -/
def loseCopy (p i : Nat) (s : State) : State :=
  bksEvent p 3 (bumpLo (bksR p 0x38) 1 (unclean p (logGuard p (Config.logCode 0xC i) (setBit (bksR p 4) (20 + i) false s))))

/-- The copies of a mask that are in service. -/
def newFaults (s : State) (p : Nat) (mask : BitVec 3) : List Nat := (upTo 3).filter fun i => mask.getLsbD i && copyOk s p i

/-- They are faulted one after the other. -/
def loseCopies (p : Nat) (l : List Nat) (s : State) : State := forAll (loseCopy p) l s

theorem faultCopies_eq (p : Nat) (mask : BitVec 3) (failed : Bool) : faultCopies p mask failed s =
    let s1 := loseCopies p (newFaults s p mask) s
    if copiesOk s1 p ≤ 1 && !(newFaults s p mask).isEmpty then
      if failed then setGuardFault p s1
      else muzzleRow p (setMuzzle p 3 (7 - mask.toNat) (if hasTiming s p then slotOf s p (lineNow s p) else 0) (setGuardFault p s1))
    else s1 := rfl

theorem loseCopy_only {i : Nat} : GuardOnly p [4, 8, 0x38] s (loseCopy p i s) :=
  (bksEvent_only.subset (by decide)).chain (RegsOnly.chain (guardOnly_setReg (by decide) (by decide))
    ((unclean_only.subset (by decide)).chain ((GuardQuiet.guardOnly quiet_logGuard).chain (guardOnly_setReg (by decide) (by decide)))))

theorem loseCopies_only {l : List Nat} : GuardOnly p [4, 8, 0x38] s (loseCopies p l s) :=
  regsOnly_forAll fun _ _ => loseCopy_only

theorem loseCopies_keep {n : Nat} {l : List Nat} : Keep 9663676594 s (loseCopies n l s) :=
  forAll_keep rfl fun _ _ => bksEvent_keep.chain rfl (bumpLo_keep.chain rfl (unclean_keep.chain rfl (logGuard_keep.chain rfl
    (setBit_keep.chain rfl .refl))))

/-- Of the port's status a faulted copy's own bit is cleared, and CLEAN may be. -/
theorem bitAt_loseCopy {i j : Nat} (h2 : 2 ≤ j) (hj : j < 32) :
    bitAt (loseCopy p i s) (bksR p 4) j = (bitAt s (bksR p 4) j && decide (j ≠ 20 + i)) := by
  rw [loseCopy, bitAt_eq (bksEvent_only.reg_eq (by decide) (.inr (by decide))), bitAt_eq (reg_bumpLo_ne (bksR_ne (by decide)) _),
    bitAt_unclean h2 hj, bitAt_eq (GuardQuiet.reg_eq quiet_logGuard (by decide)), bitAt_setBit hj]
  by_cases h : 20 + i = j
  · simp [h]
  · simp [h, Ne.symm h]

theorem bitAt_loseCopies {l : List Nat} {j : Nat} (h2 : 2 ≤ j) (hj : j < 32) :
    bitAt (loseCopies p l s) (bksR p 4) j = (bitAt s (bksR p 4) j && l.all fun i => decide (j ≠ 20 + i)) := by
  unfold loseCopies
  induction l generalizing s with
  | nil => simp [forAll]
  | cons i l ih => rw [forAll, ih, bitAt_loseCopy h2 hj, List.all_cons, Bool.and_assoc]

theorem event_loseCopy {i j : Nat} (hj : j < 32) :
    bitAt (loseCopy p i s) (bksR p 8) j = (decide (3 = j) || bitAt s (bksR p 8) j) := by
  rw [loseCopy, bitAt_bksEvent hj, bitAt_eq (reg_bumpLo_ne (bksR_ne (by decide)) _),
    bitAt_eq (unclean_only.reg_eq (by decide) (.inr (by decide))), bitAt_eq (GuardQuiet.reg_eq quiet_logGuard (by decide)),
    bitAt_setBit_ne (bksR_ne (by decide))]

theorem event_loseCopies {l : List Nat} {j : Nat} (hj : j < 32) :
    bitAt (loseCopies p l s) (bksR p 8) j = ((!l.isEmpty && decide (3 = j)) || bitAt s (bksR p 8) j) := by
  unfold loseCopies
  induction l generalizing s with
  | nil => rfl
  | cons i l ih =>
    rw [forAll, ih, event_loseCopy hj]
    cases decide (3 = j) <;> simp

theorem mem_newFaults {n i : Nat} {mask : BitVec 3} :
    i ∈ newFaults s n mask ↔ i < 3 ∧ mask.getLsbD i = true ∧ copyOk s n i = true := by
  simp [newFaults, upTo]

/-- The copies in service afterwards. -/
theorem copyOk_loseCopies {mask : BitVec 3} {i : Nat} (hi : i < 3) :
    copyOk (loseCopies p (newFaults s p mask) s) p i = (copyOk s p i && !mask.getLsbD i) := by
  have h : copyOk (loseCopies p (newFaults s p mask) s) p i =
      (copyOk s p i && (newFaults s p mask).all fun k => decide (20 + i ≠ 20 + k)) := bitAt_loseCopies (by omega) (by omega)
  have hm : (∀ k ∈ newFaults s p mask, i ≠ k) ↔ i ∉ newFaults s p mask := ⟨fun h hk => h i hk rfl, fun h k hk e => h (e ▸ hk)⟩
  rw [h, Bool.eq_iff_iff]
  simp only [Bool.and_eq_true, List.all_eq_true, decide_eq_true_eq, ne_eq, Nat.add_left_cancel_iff, Bool.not_eq_true']
  rw [hm, mem_newFaults]
  simp only [hi, true_and, not_and, Bool.not_eq_true]
  exact ⟨fun ⟨h1, h2⟩ => ⟨h1, by cases hb : mask.getLsbD i with | false => rfl | true => exact absurd h1 (by simp [h2 hb])⟩,
    fun ⟨h1, h2⟩ => ⟨h1, fun h3 => absurd h2 (by simp [h3])⟩⟩

end Sys2Proof.Machine
end

section
/-! SUPPORT. O20: the cut-off, the MUZZLED latch's report and clean frames, the silence gate (R146 to R154). -/
namespace Sys2Proof.Machine
open Sys2Proof

variable {m : Nat} {s t : State} {p : Fin 16}

/-! ### Halyard holds no grant -/

/-- Port p holds no grant and its burst enable is not asserted. -/
def NoBurst (p : Nat) (s : State) : Prop := (halyard s p).grants = [] ∧ (halyard s p).txOpen = false

theorem Keep.noBurst {p : Nat} (k : Keep m s t) (h : m.testBit 13 = false) (hb : NoBurst p s) : NoBurst p t := by
  rwa [NoBurst, k.halyard h]

theorem noBurst_setHalyard {p : Nat} {h : Halyard} (hg : h.grants = []) (ht : h.txOpen = false) : NoBurst p (setHalyard p h s) := by
  rw [NoBurst, halyard_setHalyard, if_pos rfl]
  exact ⟨hg, ht⟩

theorem noBurst_dozeIn {p : Nat} (h : NoBurst p s) : NoBurst p (dozeIn p s) := by
  have ite : ∀ {c : Prop} [Decidable c] {x : State}, NoBurst p x → NoBurst p (if c then x else s) := fun hx => by
    split <;> assumption
  unfold dozeIn
  exact ite (dataLanesTx_keep.noBurst rfl (setWaiken_keep.noBurst rfl (noBurst_setHalyard h.1 h.2)))

theorem noBurst_missAll {p o : Nat} : NoBurst p (missAll p o s) :=
  noBurst_dozeIn (missGrants_keep.noBurst rfl (noBurst_setHalyard rfl rfl))

theorem noBurst_missAnswer {p : Nat} (h : NoBurst p s) : NoBurst p (missAnswer p s) := by
  obtain ⟨hg, ht⟩ := h
  unfold missAnswer
  dsimp only
  split
  · exact ⟨hg, ht⟩
  · refine noBurst_dozeIn (bump_keep.noBurst rfl (bump64_keep.noBurst rfl (setGuard_keep.noBurst rfl (noBurst_setHalyard ?_ ?_))))
    · rw [setRegn_keep.halyard rfl]; exact hg
    · rw [setRegn_keep.halyard rfl, ht]; rfl

theorem noBurst_muzzleRow {p : Nat} : NoBurst p (muzzleRow p s) := by
  have k : ∀ st, NoBurst p (toSilent p st s) := fun st =>
    flushOut_keep.noBurst rfl (setState_keep.noBurst rfl (setRegn_keep.noBurst rfl (noBurst_missAnswer noBurst_missAll)))
  unfold muzzleRow
  split
  · exact k _
  · exact k _
  · exact k _
  · exact noBurst_missAll

/-! ### The registration's state -/

theorem regn_toSilent (p : Nat) (ret : RegState) :
    (regnOf (toSilent p ret s) p).state = .silent ∧ (regnOf (toSilent p ret s) p).ret = ret := by
  unfold toSilent
  dsimp only
  generalize missAnswer p (missAll p missState s) = x
  obtain ⟨a, b, c, e⟩ := regnOf_setState (s := setRegn p { regnOf x p with ret := ret } x) p .silent
  have f := (regnOut_flushOut (s := setState p .silent (setRegn p { regnOf x p with ret := ret } x)) p p).eq
  rw [f, e, regnOf_setRegn, if_pos rfl]
  exact ⟨rfl, rfl⟩

/-- A muzzled port that may transmit falls silent, to return to the state it was in (R84, R149). -/
theorem regn_muzzleRow {p : Nat} (h : (regnOf s p).state = .announce ∨ (regnOf s p).state = .range ∨ (regnOf s p).state = .operate) :
    (regnOf (muzzleRow p s) p).state = .silent ∧ (regnOf (muzzleRow p s) p).ret = (regnOf s p).state := by
  unfold muzzleRow
  rcases h with h | h | h <;> rw [h] <;> exact regn_toSilent ..

theorem RegnOut.chain {a b c : State} (k : RegnOut b c) (h : RegnOut a b) : RegnOut a c := h.trans k

theorem regnOut_cutBurst (p o1 o2 : Nat) : RegnOut s (cutBurst p o1 o2 s) := by
  unfold cutBurst
  exact (dozeIn_keep.regnOut rfl).chain (RegnOut.chain (regnOut_missGrants _ _ _ _ _ _) (RegnOut.chain (regnOut_missGrants _ _ _ _ _ _)
    (setHalyard_keep.regnOut rfl)))

theorem sameButAnswer.state_eq {r r' : Registration} (h : sameButAnswer r r') : r'.state = r.state := by
  rw [← h]

/-! ### The cut-off -/

theorem cutOff_blocked {n : Nat} {v : BitVec 3} (h : txReleased s p = false) :
    cutOff p n v s = bump (bksR p 0x28) 1 (unclean p s) := if_pos (by simp [h])

theorem cutOff_idle {n : Nat} {v : BitVec 3} (h : txReleased s p = true) (hl : legalAt s p n = true ∨ voterCuts s p v = false) :
    cutOff p n v s = s := (if_neg (by simp [h])).trans (if_pos (by simpa using hl))

/-- The state in which the cut-off muzzles the port: the violation has been counted (R149). -/
def violated (p n : Nat) (s : State) : State := bump (bksR p 0x20) 1 (discardRun p n s)

/-- The port as the cut-off's latch is set, before its burst ends. -/
def latched (p n : Nat) (v : BitVec 3) (s : State) : State :=
  setMuzzle p 1 v.toNat (slotOf s p n) (violated p n s)

theorem cutOff_fires {n : Nat} {v : BitVec 3} (h : txReleased s p = true) (hl : legalAt s p n = false) (hv : voterCuts s p v = true) :
    cutOff p n v s = muzzleRow p (missAnswer p (cutBurst p missGuard missState (forceOff p (latched p n v s)))) :=
  (if_neg (by simp [h])).trans (if_neg (by simp [hl, hv]))

section Fires
variable {n : Nat} {v : BitVec 3} (h : txReleased s p = true) (hl : legalAt s p n = false) (hv : voterCuts s p v = true)
include h hl hv

/-- Once the latch is set the cut-off writes no register of Backstay's. -/
theorem quiet_cutOff : GuardQuiet (latched p n v s) (cutOff p n v s) := by
  rw [cutOff_fires h hl hv]
  exact quiet_muzzleRow.chain (quiet_missAnswer.chain ((quiet_cutBurst (by decide) (by decide)).chain quiet_forceOff))

theorem counted_cutOff : Counted (bksR p 0x20) s (cutOff p n v s) := by
  have e : reg (discardRun p n s) = reg s := discardRun_keep.reg_eq rfl
  rw [Counted, regN_eq ((quiet_cutOff h hl hv).reg_eq (by decide)), latched,
    regN_eq (setMuzzle_only.reg_eq (by decide) (.inr (by decide))), violated, regN_bump_self, regN_eq (congrFun e _)]

theorem muzzled_cutOff : muzzled (cutOff p n v s) p = true := by
  rw [(quiet_cutOff h hl hv).muzzled_eq, latched, muzzled_setMuzzle]

theorem regn_cutOff (hr : (regnOf s p).state = .announce ∨ (regnOf s p).state = .range ∨ (regnOf s p).state = .operate) :
    (regnOf (cutOff p n v s) p).state = .silent ∧ (regnOf (cutOff p n v s) p).ret = (regnOf s p).state := by
  have e0 : regnOf (forceOff p (latched p n v s)) p = regnOf s p := by
    rw [forceOff_keep.regnOf rfl, latched, setMuzzle_keep.regnOf rfl, violated, bump_keep.regnOf rfl, discardRun_keep.regnOf rfl]
  have e := (sameButAnswer.trans (regnOut_cutBurst (s := forceOff p (latched p n v s)) p missGuard missState p).answer
    (regn_missAnswer p p)).state_eq
  rw [e0] at e
  rw [cutOff_fires h hl hv, ← e]
  exact regn_muzzleRow (by rwa [e])

end Fires

/-! ### The alert, clean frames and the silence gate -/

theorem repeatAlert_idle (h : muzzled s p = false ∨ s.uptime < (guardOf s p).alertAt + 25000000 ∨
    (bitAt s 0x01300000 4 = false ∧ bitAt s 0x01300000 5 = false)) : repeatAlert p s = s := by
  refine if_neg ?_
  rcases h with h | h | ⟨h4, h5⟩
  · simp [h]
  · simp [Nat.not_le.2 h]
  · simp [h4, h5]

theorem repeatAlert_due (hm : muzzled s p = true) (ht : (guardOf s p).alertAt + 25000000 ≤ s.uptime)
    (hb : bitAt s 0x01300000 4 = true) : repeatAlert p s = alertMuzzled p s := if_pos (by simp [hm, ht, hb])

theorem alertMuzzled_only_guards (h : speaksLookout s p = false) : Only [.guards] s (alertMuzzled p s) := by
  unfold alertMuzzled
  rw [h]
  exact (setGuard_keep.only rfl : Only [.guards] s _)

theorem cleanFrame_idle {c : Bool} (h : muzzled s p = false ∨ hasTiming s p = false) : cleanFrame p c s = s :=
  if_pos (by simpa using h)

theorem cleanFrame_unclean (hm : muzzled s p = true) (ht : hasTiming s p = true) :
    cleanFrame p false s = setFld (bksR p 4) 1 0 0 s := (if_neg (by simp [hm, ht])).trans (if_pos rfl)

/-- A clean frame counts once, and none that began before the latch was set (R150). -/
theorem cleanFrame_clean (hm : muzzled s p = true) (ht : hasTiming s p = true) : cleanFrame p true s =
    if frameEnded s p < (guardOf s p).cleanFrom then s
    else setGuard p { guardOf s p with cleanFrom := frameEnded s p + 1 }
      (setFld (bksR p 4) 1 0 (min 3 (fld s (bksR p 4) 1 0 + 1)) s) := by
  exact (if_neg (by simp [hm, ht])).trans (if_neg (by decide))

theorem cleanFrame_only {c : Bool} : RegsOnly (· == bksR p 4) s (cleanFrame p c s) := by
  have k : ∀ v, RegsOnly (· == bksR p 4) s (setFld (bksR p 4) 1 0 v s) := fun v => regsOnly_setReg (beq_self_eq_true _)
  unfold cleanFrame
  exact .ite .refl (.ite (k _) (.ite .refl (RegsOnly.chain (regsOnly_of_regs rfl) (k _))))

theorem muzzled_cleanFrame {c : Bool} : muzzled (cleanFrame p c s) p = muzzled s p := by
  have k : ∀ v, muzzled (setFld (bksR p 4) 1 0 v s) p = muzzled s p := fun v => bitAt_setFld (by decide) (by decide)
  unfold cleanFrame
  dsimp only
  split
  · rfl
  · split
    · exact k _
    · split
      · rfl
      · exact k _

/-- The gate as it closes, before the port's grants are missed (R154). -/
def gateShut (p : Nat) (s : State) : State :=
  bump (bksR p 0x3C) 1 (setGuard p { guardOf s p with gateClosed := true, gateDue := false, windows := [] } s)

theorem closeGate_eq (p : Nat) : closeGate p s = missAnswer p (missAll p missState (gateShut p s)) := rfl

theorem quiet_closeGate : GuardQuiet (gateShut p s) (closeGate p s) := quiet_missAnswer.chain (quiet_missAll (by decide))

theorem guardCore_closeGate : (guardOf (closeGate p s) p).core =
    { (guardOf s p).core with gateClosed := true, gateDue := false, windows := [] } := by
  have h : GuardCore p (gateShut p s) (closeGate p s) := guardCore_missAnswer.chain (missAll_keep.guardCore rfl)
  rw [h, gateShut, bump_keep.guardOf rfl, guardOf_setGuard, if_pos rfl]
  rfl

theorem counted_closeGate : Counted (bksR p 0x3C) s (closeGate p s) := by
  rw [Counted, regN_eq (quiet_closeGate.reg_eq (by decide)), gateShut, regN_bump_self, regN_eq (congrFun (setGuard_keep.reg_eq rfl) _)]

theorem muzzled_closeGate : muzzled (closeGate p s) p = muzzled s p := by
  rw [GuardQuiet.muzzled_eq quiet_closeGate, gateShut]
  exact muzzled_eq ((reg_bump_ne (bksR_ne (by decide)) 1).trans (congrFun (setGuard_keep.reg_eq rfl) _))

end Sys2Proof.Machine

namespace Sys2Proof
open Sys2Proof.Machine

/-- Settles O20: the cut-off by whether TXDIS_N is released and the voter cuts outside every legal interval, the latch's report and
clean frames by their conditions, the gate as it closes. -/
theorem cutOff : Obligations.CutOff := by
  intro s p hc
  refine ⟨fun n v => ?cut, ?alert, fun clean => ?clean, ?gate⟩
  case cut =>
    refine completes_of_coreOn hc rfl execCutOff_keep execCutOff_port fun _ hp => ⟨hp, fun h => ?_, fun h => ?_, fun h hl hv => ?_⟩
    · rw [cutOff_blocked h]
      have e : reg (bump (bksR p 0x28) 1 (unclean p s)) (bksR p 4) = reg (unclean p s) (bksR p 4) :=
        reg_bump_ne (bksR_ne (by decide)) 1
      refine ⟨?_, (muzzled_eq e).trans (bitAt_unclean (by decide) (by decide)), ?_, fun a ha => ?_, fun hm => ?_⟩
      · rw [Counted, regN_bump_self, regN_eq (unclean_only.reg_eq (by decide) (.inr (by decide)))]
      · exact (bump_keep.chain (m := 2) rfl unclean_keep).only rfl
      · obtain ⟨h28, h4⟩ := Bool.or_eq_false_iff.1 ha
        rw [reg_bump_ne (by simpa using h28)]
        unfold unclean
        split
        · exact reg_setFld_ne (by simpa using h4) ..
        · rfl
      · rw [fld_eq e, clean_unclean hm]
    · exact cutOff_idle h
    · have q := quiet_cutOff h hl hv
      obtain ⟨hcause, hvotes⟩ := cause_setMuzzle (p := p) (s := violated p n s) (c := 1) (by decide) v.isLt (slotOf_lt s p n)
      have hm := muzzled_cutOff h hl hv
      have hb : NoBurst p (Machine.cutOff p n v s) := by rw [cutOff_fires h hl hv]; exact noBurst_muzzleRow
      refine ⟨counted_cutOff h hl hv, hm, ?_, ?_, txReleased_of_muzzled hm, ?_, ?_, hb.1, hb.2, regn_cutOff h hl hv⟩
      · rw [fld_eq (q.reg_eq (by decide)), latched, clean_setMuzzle]
      · rw [bitAt_eq (q.reg_eq (by decide)), latched, event_setMuzzle (by decide)]; rfl
      · rw [fld_eq (q.reg_eq (by decide))]; exact hcause
      · rw [fld_eq (q.reg_eq (by decide))]; exact hvotes
  case alert =>
    refine completes_of_coreOn hc rfl execMuzzleAlertRepeat_keep execMuzzleAlertRepeat_port fun _ hp =>
      ⟨hp, repeatAlert_idle, fun hm ht hb => ?_⟩
    rw [repeatAlert_due hm ht hb]
    exact ⟨by rw [guardOf_alertMuzzled], alertMuzzled_only_guards⟩
  case clean =>
    refine completes_of_coreOn hc rfl execCleanFrameCount_keep execCleanFrameCount_port fun hk hp =>
      ⟨hp, hk.only rfl, cleanFrame_only, muzzled_cleanFrame, cleanFrame_idle, ?_, ?_⟩
    · rintro hm ht rfl
      rw [cleanFrame_unclean hm ht, fld_setFld (by decide) (by decide), Nat.zero_mod]
    · rintro hm ht rfl
      rw [cleanFrame_clean hm ht]
      split
      · rfl
      · rw [guardOf_setGuard, if_pos rfl]
        refine ⟨?_, rfl⟩
        rw [fld_eq (congrFun (setGuard_keep.reg_eq rfl) _), fld_setFld (by decide) (by decide)]
        exact Nat.mod_eq_of_lt (by omega)
  case gate =>
    refine completes_onlyIf rfl execSilenceGateClose_keep execSilenceGateClose_port (fun hd _ hp => ?_) fun hd => ?_
    · rw [hc, Bool.true_and] at hd
      have e := guardCore_closeGate (s := s) (p := p)
      have hg : (guardOf (closeGate p s) p).gateClosed = true := congrArg Guard.gateClosed e
      have hb : NoBurst p (closeGate p s) := noBurst_missAnswer noBurst_missAll
      exact ⟨hp, fun h0 => absurd hd (by simp [h0]), fun _ => ⟨hg, congrArg Guard.gateDue e, congrArg Guard.windows e,
        counted_closeGate, hb.1, hb.2, txReleased_of_gateClosed hg, muzzled_closeGate⟩⟩
    · rw [hc, Bool.true_and] at hd
      exact ⟨.refl, fun _ => rfl, fun h1 => absurd hd (by simp [h1])⟩

end Sys2Proof
end

section
/-! SUPPORT. O21: the host unlock, two writes of UNLOCK on one access path (R152). -/
namespace Sys2Proof.Machine
open Sys2Proof

variable {s : State} {p : Fin 16} {a : Path}

/-! ### The latch is cleared -/

theorem clearMuzzle_only : GuardOnly p [4] s (clearMuzzle p s) :=
  RegsOnly.chain (GuardQuiet.guardOnly quiet_endSilent) (RegsOnly.chain (GuardQuiet.guardOnly quiet_forceOn)
    (guardOnly_setReg (by decide) (by decide)))

theorem muzzled_clearMuzzle : muzzled (clearMuzzle p s) p = false := by
  rw [clearMuzzle, GuardQuiet.muzzled_eq quiet_endSilent, GuardQuiet.muzzled_eq quiet_forceOn]
  exact bitAt_setBit_self (by decide) false

/-- A port that no silence holds leaves SILENT for its return state (R84). -/
theorem regn_clearMuzzle (hs : (regnOf s p).state = .silent) (hn : (regnOf s p).silence = none) :
    (regnOf (clearMuzzle p s) p).state = (regnOf s p).ret := by
  have hr : regnOf (forceOn p (setBit (bksR p 4) 31 false s)) p = regnOf s p := by
    rw [forceOn_keep.regnOf rfl, setBit_keep.regnOf rfl]
  have hm : muzzled (forceOn p (setBit (bksR p 4) 31 false s)) p = false := by
    rw [GuardQuiet.muzzled_eq quiet_forceOn]
    exact bitAt_setBit_self (by decide) false
  unfold clearMuzzle endSilent
  dsimp only
  rw [hr, hm, if_pos ⟨hs, hn, rfl⟩, openGate_keep.regnOf rfl]
  obtain ⟨b, c, d, e⟩ := regnOf_setState (s := forceOn p (setBit (bksR p 4) 31 false s)) p (regnOf s p).ret
  rw [e]

theorem hostUnlock_only : GuardOnly p [4] s (hostUnlock p s) := by
  unfold hostUnlock
  split
  · exact clearMuzzle_only
  · exact clearMuzzle_only
  · exact .ite ((GuardQuiet.guardOnly quiet_hostNotInState).chain clearMuzzle_only) clearMuzzle_only

theorem muzzled_hostUnlock : muzzled (hostUnlock p s) p = false := by
  unfold hostUnlock
  split
  · exact muzzled_clearMuzzle
  · exact muzzled_clearMuzzle
  · dsimp only
    split
    · rw [GuardQuiet.muzzled_eq quiet_hostNotInState, muzzled_clearMuzzle]
    · exact muzzled_clearMuzzle

theorem hostUnlock_silent (h : (regnOf s p).state = .silent) : hostUnlock p s = clearMuzzle p s := by
  unfold hostUnlock
  rw [h]

/-! ### The sequence of a path -/

@[simp] theorem pathOf_setUnlock {u : Option (Nat × Nat)} : pathOf (setUnlock a u s) a = { pathOf s a with unlock := u } :=
  Tab.look_put_self ..

theorem pathOf_unlockRej : pathOf (unlockRej s) a = pathOf s a := rfl

theorem unlockRej_only : RegsOnly (· == 0x01200004) s (unlockRej s) := regsOnly_setReg rfl

theorem bitAt_unlockRej : bitAt (unlockRej s) 0x01200004 0 = true := bitAt_setBit_self (by decide) true

/-- The UNLOCK_REJ latch lies in none of the ports' registers. -/
theorem reg_unlockRej {q : Fin 16} {o : Nat} : reg (unlockRej s) (bksR q o) = reg s (bksR q o) :=
  reg_setBit_ne (by simp only [bksR]; omega) ..

theorem muzzled_unlockRej (q : Fin 16) : muzzled (unlockRej s) q = muzzled s q := muzzled_eq reg_unlockRej

theorem muzzled_setUnlock {u : Option (Nat × Nat)} (q : Fin 16) : muzzled (setUnlock a u s) q = muzzled s q := rfl

/-! ### A write of UNLOCK -/

theorem writeUnlock_xt {k n : Nat} : writeUnlock .xt k n s = s := if_pos rfl

section Idle
variable {n : Nat} (ha : a ≠ .xt) (hu : (pathOf s a).unlock = none)
include ha hu

theorem writeUnlock_idle_first : writeUnlock a 0x5EA1 n s = setUnlock a (some (n, s.uptime)) s := by
  rw [writeUnlock, if_neg ha, hu]; rfl

theorem writeUnlock_idle_second : writeUnlock a 0xA15E n s = unlockRej s := by
  rw [writeUnlock, if_neg ha, hu]; rfl

theorem writeUnlock_idle_other {k : Nat} (h1 : k ≠ 0x5EA1) (h2 : k ≠ 0xA15E) : writeUnlock a k n s = s := by
  rw [writeUnlock, if_neg ha, hu]
  exact (if_neg h1).trans (if_neg h2)

end Idle

section Pending
variable {k n q b : Nat} (ha : a ≠ .xt) (hu : (pathOf s a).unlock = some (q, b))
include ha hu

/-- A write that does not complete the sequence pending abandons it; a first write starts a new one. -/
theorem writeUnlock_abandon (h : ¬(k = 0xA15E ∧ n = q)) :
    writeUnlock a k n s = unlockRej (setUnlock a (if k = 0x5EA1 then some (n, s.uptime) else none) s) := by
  rw [writeUnlock, if_neg ha, hu]
  exact if_neg h

theorem writeUnlock_refused (h : n ≠ q ∨ b + 25000 < s.uptime ∨ guardFault s n = true) :
    writeUnlock a 0xA15E n s = unlockRej (setUnlock a none s) := by
  by_cases hq : n = q
  · rw [writeUnlock, if_neg ha, hu]
    exact (if_pos ⟨rfl, hq⟩).trans (if_pos (h.resolve_left fun hn => hn hq))
  · exact writeUnlock_abandon ha hu fun h => hq h.2

theorem writeUnlock_completed (hq : n = q) (ht : s.uptime ≤ b + 25000) (hg : guardFault s n = false) :
    writeUnlock a 0xA15E n s = hostUnlock n (setUnlock a none s) := by
  rw [writeUnlock, if_neg ha, hu]
  exact (if_pos ⟨rfl, hq⟩).trans (if_neg fun h => h.elim (Nat.not_lt.2 ht) (by simp [hg]))

end Pending

/-- Of a sequence pending, a first write starts another one, and UNLOCK_REJ says so. -/
theorem writeUnlock_first {q b : Nat} (ha : a ≠ .xt) (hu : (pathOf s a).unlock = some (q, b)) :
    writeUnlock a 0x5EA1 p s = unlockRej (setUnlock a (some (p.val, s.uptime)) s) := writeUnlock_abandon ha hu fun h => absurd h.1 (by decide)

theorem unlockRej_setUnlock_keep {u : Option (Nat × Nat)} : Keep 17179869186 s (unlockRej (setUnlock a u s)) :=
  unlockRej_keep.chain rfl (setUnlock_keep.chain rfl .refl)

theorem writeUnlock_first_keep : Keep 17179869186 s (writeUnlock a 0x5EA1 p s) := by
  rcases Decidable.em (a = .xt) with rfl | ha
  · rw [writeUnlock_xt]; exact .refl
  · cases hu : (pathOf s a).unlock with
    | none => rw [writeUnlock_idle_first ha hu]; exact setUnlock_keep.chain rfl .refl
    | some x => rw [writeUnlock_first ha hu]; exact unlockRej_setUnlock_keep

/-- A first write leaves every latch as it is. -/
theorem muzzled_writeUnlock_first (q : Fin 16) : muzzled (writeUnlock a 0x5EA1 p s) q = muzzled s q := by
  rcases Decidable.em (a = .xt) with rfl | ha
  · rw [writeUnlock_xt]
  · cases hu : (pathOf s a).unlock with
    | none => rw [writeUnlock_idle_first ha hu, muzzled_setUnlock]
    | some x => rw [writeUnlock_first ha hu, muzzled_unlockRej, muzzled_setUnlock]

/-- A write of the register UNLOCK acts by its KEY and PORT. -/
theorem busWrite_unlock {v : Word} :
    busWrite a 0x01200008 v s = writeUnlock a (bits v.toNat 31 16) (bits v.toNat 3 0) s := by
  have hr : (rowOf 0x01200008).isNone = false := by decide +kernel
  have ha : absentSet s 0x01200008 = false := rfl
  have hp : present s 0x01200008 = true := rfl
  have hw : writeEffect a 0x01200008 v s = some (writeUnlock a (bits v.toNat 31 16) (bits v.toNat 3 0) s) := rfl
  unfold busWrite
  simp only [show canonAddr 0x01200008 = 0x01200008 from rfl, ha, hp, hr, hw, Bool.and_false, Bool.false_and, Bool.not_true,
    Bool.or_false, Bool.false_eq_true, if_false]

end Sys2Proof.Machine

namespace Sys2Proof
open Sys2Proof.Machine

/-- Settles O21: each write by the path, the sequence pending on it and the key; a completed sequence alone clears a latch. -/
theorem hostUnlock : Obligations.HostUnlock := by
  intro s a p
  refine ⟨⟨_, rfl, ?first⟩, ⟨_, rfl, ?second⟩, fun v hp => ?write⟩
  case first =>
    refine ⟨fun h => by rw [h, writeUnlock_xt], muzzled_writeUnlock_first, writeUnlock_first_keep.only rfl, writeUnlock_port,
      fun ha => ?_⟩
    cases hu : (pathOf s a).unlock with
    | none =>
      rw [writeUnlock_idle_first ha hu, pathOf_setUnlock]
      exact ⟨rfl, fun _ => setUnlock_keep.only rfl, fun h => absurd rfl h⟩
    | some x =>
      rw [writeUnlock_first ha hu, pathOf_unlockRej, pathOf_setUnlock]
      exact ⟨rfl, nofun, fun _ => bitAt_unlockRej⟩
  case second =>
    refine ⟨fun h => by rw [h, writeUnlock_xt], writeUnlock_port, fun ha => ?_⟩
    cases hu : (pathOf s a).unlock with
    | none =>
      rw [writeUnlock_idle_second ha hu, pathOf_unlockRej]
      exact ⟨hu, fun _ => ⟨bitAt_unlockRej, muzzled_unlockRej⟩, nofun⟩
    | some x =>
      obtain ⟨q, b⟩ := x
      by_cases h : p.val ≠ q ∨ b + 25000 < s.uptime ∨ guardFault s p = true
      · rw [writeUnlock_refused ha hu h, pathOf_unlockRej, pathOf_setUnlock]
        refine ⟨rfl, nofun, ?_⟩
        rintro _ _ ⟨⟩
        refine ⟨fun _ => ⟨bitAt_unlockRej, fun k => by rw [muzzled_unlockRej, muzzled_setUnlock]⟩, fun hq ht hg => ?_⟩
        rcases h with h | h | h
        · exact absurd hq.symm h
        · exact absurd h (Nat.not_lt.2 ht)
        · exact absurd (h.symm.trans hg) nofun
      · obtain ⟨hq, ht, hg⟩ : p.val = q ∧ s.uptime ≤ b + 25000 ∧ guardFault s p = false := by simpa using h
        rw [writeUnlock_completed ha hu hq ht hg]
        have k := hostUnlock_only (p := p) (s := setUnlock a none s)
        refine ⟨?_, nofun, ?_⟩
        · rw [hostUnlock_keep.pathOf_eq rfl, pathOf_setUnlock]
        · rintro _ _ ⟨⟩
          refine ⟨fun hr => absurd (hr.imp_left Ne.symm) h, fun _ _ _ => ⟨muzzled_hostUnlock, ?_, fun j hj => ?_, fun hs hn => ?_⟩⟩
          · exact bitAt_eq (k 0x01200004 (by simp only [guardWrites, offGuard, within, bksR]; simp; omega)) 0
          · exact muzzled_eq (k.reg_eq (by decide) (.inl hj))
          · rw [hostUnlock_silent (s := setUnlock a none s) hs]
            exact regn_clearMuzzle (s := setUnlock a none s) hs hn
  case write =>
    have e : exec (.registerWrite a 0x01200008 v) s = .next (writeUnlock a (bits v.toNat 31 16) p s) := by
      rw [← hp, ← busWrite_unlock]; rfl
    refine ⟨fun h => by rw [e, h]; rfl, fun h => by rw [e, h]; rfl, fun h1 h2 => ⟨_, e, fun h => ?_, fun ha hu => ?_⟩⟩
    · rcases Decidable.em (a = .xt) with rfl | ha
      · exact writeUnlock_xt
      · exact writeUnlock_idle_other ha (h.resolve_left ha) h1 h2
    · obtain ⟨⟨q, b⟩, hx⟩ := Option.ne_none_iff_exists'.1 hu
      rw [writeUnlock_abandon ha hx fun h => h2 h.1, if_neg h1, pathOf_unlockRej, pathOf_setUnlock]
      exact ⟨rfl, bitAt_unlockRej, unlockRej_setUnlock_keep.only rfl, RegsOnly.chain unlockRej_only (regsOnly_of_regs rfl)⟩

end Sys2Proof
end

section
/-! SUPPORT. O23: faults in the guard itself, of a copy, of the clocks and of the ball (R159 to R161). -/
namespace Sys2Proof.Machine
open Sys2Proof

variable {s : State} {p : Fin 16}

/-! ### Copies that a mask names are faulted -/

theorem bitAt_setGuardFault {j : Nat} (hj : j < 32) :
    bitAt (setGuardFault p s) (bksR p 4) j = (decide (j = 27) || bitAt s (bksR p 4) j) := by
  rw [setGuardFault, bitAt_setBit hj]
  by_cases h : j = 27
  · simp [h]
  · simp [h, Ne.symm h]

section Mask
variable {mask : BitVec 3} {failed : Bool}

theorem faultCopies_none (h : newFaults s p mask = []) : faultCopies p mask failed s = s := by
  rw [faultCopies_eq, h]
  exact if_neg (by simp)

theorem faultCopies_few (h : 2 ≤ copiesOk (loseCopies p (newFaults s p mask) s) p) :
    faultCopies p mask failed s = loseCopies p (newFaults s p mask) s := by
  rw [faultCopies_eq]
  exact if_neg (by simp; omega)

/-- The state in which the second copy is faulted, before the port is muzzled (R159). -/
def twoFaulted (p : Nat) (mask : BitVec 3) (s : State) : State := setGuardFault p (loseCopies p (newFaults s p mask) s)

/-- A port with two copies faulted, as it is muzzled for that (R159). -/
def muzzledTwo (p : Nat) (mask : BitVec 3) (s : State) : State :=
  setMuzzle p 3 (7 - mask.toNat) (if hasTiming s p then slotOf s p (lineNow s p) else 0) (twoFaulted p mask s)

theorem faultCopies_two (h : copiesOk (loseCopies p (newFaults s p mask) s) p ≤ 1) (hn : newFaults s p mask ≠ []) :
    faultCopies p mask failed s = if failed then twoFaulted p mask s else muzzleRow p (muzzledTwo p mask s) := by
  rw [faultCopies_eq]
  exact if_pos (by simp [h, hn])

/-- Faulting copies ends in one of three ways: with one copy left or none, a failed dry-fire muzzles by itself. -/
theorem faultCopies_cases (P : State → Prop) (h1 : P (loseCopies p (newFaults s p mask) s))
    (h2 : failed = true → P (twoFaulted p mask s)) (h3 : failed = false → P (muzzleRow p (muzzledTwo p mask s))) :
    P (faultCopies p mask failed s) := by
  by_cases hn : newFaults s p mask = []
  · rwa [faultCopies_none hn, ← show loseCopies p (newFaults s p mask) s = s by rw [hn]; rfl]
  · rcases Nat.lt_or_ge 1 (copiesOk (loseCopies p (newFaults s p mask) s) p) with h | h
    · rwa [faultCopies_few h]
    · rw [faultCopies_two h hn]
      cases failed
      · exact h3 rfl
      · exact h2 rfl

theorem twoFaulted_only : GuardOnly p [4, 8, 0x38] s (twoFaulted p mask s) :=
  RegsOnly.chain (guardOnly_setReg (by decide) (by decide)) loseCopies_only

theorem muzzledTwo_only : GuardOnly p [4, 8, 0x10, 0x18, 0x1C, 0x38] s (muzzledTwo p mask s) :=
  (setMuzzle_only.subset (by decide)).chain (twoFaulted_only.subset (by decide))

theorem faultCopies_only : GuardOnly p [4, 8, 0x10, 0x18, 0x1C, 0x38] s (faultCopies p mask failed s) :=
  faultCopies_cases (GuardOnly p _ s) (loseCopies_only.subset (by decide)) (fun _ => twoFaulted_only.subset (by decide))
    fun _ => (GuardQuiet.guardOnly quiet_muzzleRow).chain muzzledTwo_only

/-- What a failed dry-fire recorded in CAUSE stands. -/
theorem faultCopies_failed_only : GuardOnly p [4, 8, 0x38] s (faultCopies p mask true s) :=
  faultCopies_cases (GuardOnly p _ s) loseCopies_only (fun _ => twoFaulted_only) nofun

theorem bitAt_twoFaulted {j : Nat} (hj : j < 32) : bitAt (twoFaulted p mask s) (bksR p 4) j =
    (decide (j = 27) || bitAt (loseCopies p (newFaults s p mask) s) (bksR p 4) j) := bitAt_setGuardFault hj

theorem bitAt_muzzledTwo {j : Nat} (h2 : 2 ≤ j) (hj : j < 32) : bitAt (muzzleRow p (muzzledTwo p mask s)) (bksR p 4) j =
    (decide (j = 31) || decide (j = 27) || bitAt (loseCopies p (newFaults s p mask) s) (bksR p 4) j) := by
  rw [bitAt_eq (GuardQuiet.reg_eq quiet_muzzleRow (by decide)), muzzledTwo, bitAt_setMuzzle h2 hj, bitAt_twoFaulted hj, Bool.or_assoc]

/-- The copies in service afterwards. -/
theorem copyOk_faultCopies {i : Nat} (hi : i < 3) :
    copyOk (faultCopies p mask failed s) p i = (copyOk s p i && !mask.getLsbD i) := by
  refine faultCopies_cases (fun u => copyOk u p i = _) (copyOk_loseCopies hi) (fun _ => ?_) fun _ => ?_ <;>
    rw [← copyOk_loseCopies hi, copyOk]
  · rw [bitAt_twoFaulted (by omega), decide_eq_false (by omega : 20 + i ≠ 27), Bool.false_or]; rfl
  · rw [bitAt_muzzledTwo (by omega) (by omega), decide_eq_false (by omega : 20 + i ≠ 27),
      decide_eq_false (by omega : 20 + i ≠ 31), Bool.false_or, Bool.false_or]; rfl

/-- Bits of the status that faulted copies do not clear. -/
theorem bitAt_loseCopies_high {j : Nat} (h : 23 ≤ j) (hj : j < 32) :
    bitAt (loseCopies p (newFaults s p mask) s) (bksR p 4) j = bitAt s (bksR p 4) j := by
  rw [bitAt_loseCopies (by omega) hj, List.all_eq_true.2, Bool.and_true]
  intro i hi
  have : i < 3 := (mem_newFaults.1 hi).1
  exact decide_eq_true (by omega)

/-- GUARD_FAULT and TEST_PASSED, once set, stay so. -/
theorem bitAt_faultCopies_of {j : Nat} (h : 23 ≤ j) (hj : j < 32) (hb : bitAt s (bksR p 4) j = true) :
    bitAt (faultCopies p mask failed s) (bksR p 4) j = true := by
  have hl : bitAt (loseCopies p (newFaults s p mask) s) (bksR p 4) j = true := by rw [bitAt_loseCopies_high h hj, hb]
  refine faultCopies_cases (fun u => bitAt u (bksR p 4) j = true) hl (fun _ => ?_) fun _ => ?_
  · rw [bitAt_twoFaulted hj, hl, Bool.or_true]
  · rw [bitAt_muzzledTwo (by omega) hj, hl, Bool.or_true]

/-- Events that have been latched stay so, and a copy newly faulted latches its own. -/
theorem event_faultCopies {j : Nat} (hj : j < 32)
    (h : bitAt s (bksR p 8) j = true ∨ (j = 3 ∧ newFaults s p mask ≠ [])) :
    bitAt (faultCopies p mask failed s) (bksR p 8) j = true := by
  have hl : bitAt (loseCopies p (newFaults s p mask) s) (bksR p 8) j = true := by
    rw [event_loseCopies hj]
    rcases h with h | ⟨rfl, h⟩ <;> simp [h]
  have h2 : bitAt (twoFaulted p mask s) (bksR p 8) j = true := by
    rw [twoFaulted, setGuardFault, bitAt_setBit_ne (bksR_ne (by decide)), hl]
  refine faultCopies_cases (fun u => bitAt u (bksR p 8) j = true) hl (fun _ => h2) fun _ => ?_
  rw [bitAt_eq (GuardQuiet.reg_eq quiet_muzzleRow (by decide)), muzzledTwo, event_setMuzzle hj, h2, Bool.or_true]

end Mask

/-! ### One copy -/

/-- The mask of one copy. -/
abbrev oneCopy (c : Fin 3) : BitVec 3 := BitVec.ofNat 3 (2 ^ c.val)

theorem getLsbD_oneCopy (c i : Fin 3) : (oneCopy c).getLsbD i = decide (i = c) := by revert c i; decide

theorem faultCopies_faulted {c : Fin 3} (h : copyOk s p c = false) : faultCopies p (oneCopy c) false s = s := by
  refine faultCopies_none (List.eq_nil_iff_forall_not_mem.2 fun i hi => ?_)
  obtain ⟨h3, hb, ho⟩ := mem_newFaults.1 hi
  obtain rfl : ⟨i, h3⟩ = c := of_decide_eq_true ((getLsbD_oneCopy c ⟨i, h3⟩).symm.trans hb)
  exact absurd (h.symm.trans ho) nofun

theorem newFaults_oneCopy {c : Fin 3} (h : copyOk s p c = true) : newFaults s p (oneCopy c) ≠ [] :=
  List.ne_nil_of_mem (mem_newFaults.2 ⟨c.2, by rw [getLsbD_oneCopy]; simp, h⟩)

theorem copiesOk_oneCopy {c : Fin 3} (h : copyOk s p c = true) :
    copiesOk (loseCopies p (newFaults s p (oneCopy c)) s) p + 1 = copiesOk s p := by
  have e := fun i : Fin 3 => (copyOk_loseCopies (s := s) (p := p) (mask := oneCopy c) i.2).trans
    (congrArg (copyOk s p i && !·) (getLsbD_oneCopy c i))
  have e0 : copyOk (loseCopies p (newFaults s p (oneCopy c)) s) p 0 = (copyOk s p 0 && !decide (0 = c)) := e 0
  have e1 : copyOk (loseCopies p (newFaults s p (oneCopy c)) s) p 1 = (copyOk s p 1 && !decide (1 = c)) := e 1
  have e2 : copyOk (loseCopies p (newFaults s p (oneCopy c)) s) p 2 = (copyOk s p 2 && !decide (2 = c)) := e 2
  rw [copiesOk_eq, copiesOk_eq, e0, e1, e2]
  match c with
  | 0 => simp only [show copyOk s p 0 = true from h]; simp [bitN]; omega
  | 1 => simp only [show copyOk s p 1 = true from h]; simp [bitN]; omega
  | 2 => simp only [show copyOk s p 2 = true from h]; simp [bitN]

/-- A healthy copy faulted: its event is latched, and the second of them muzzles (R159). -/
theorem muzzledTwo_of_oneCopy {c : Fin 3} (h : copyOk s p c = true) (h2 : copiesOk s p = 2) :
    faultCopies p (oneCopy c) false s = muzzleRow p (muzzledTwo p (oneCopy c) s) := by
  have e := copiesOk_oneCopy h
  exact (faultCopies_two (by omega) (newFaults_oneCopy h)).trans (if_neg nofun)

theorem cause_muzzledTwo {mask : BitVec 3} : fld (muzzleRow p (muzzledTwo p mask s)) (bksR p 0x10) 31 28 = 3 := by
  rw [fld_eq (GuardQuiet.reg_eq quiet_muzzleRow (by decide)), muzzledTwo]
  refine (cause_setMuzzle (by decide) (by omega) ?_).1
  split
  · exact slotOf_lt ..
  · decide

/-! ### The clocks -/

/-- The guard of a port whose clocks have failed: TXDIS_N is held low (R160). -/
def clockHeld (p : Nat) (s : State) : State := setGuard p { guardOf s p with clkHold := true } s

theorem clockFault_held (h : (guardOf s p).clkHold = true) : clockFault p s = s := if_pos h

theorem clockFault_new (h : (guardOf s p).clkHold = false) : clockFault p s =
    logGuard p (Config.logCode 0xC 3) (bksEvent p 2 (bumpHi (bksR p 0x38) 1 (unclean p (clockHeld p s)))) :=
  if_neg (by simp [h])

theorem guardOf_clockFault (h : (guardOf s p).clkHold = false) :
    guardOf (clockFault p s) p = { guardOf s p with clkHold := true } := by
  rw [clockFault_new h, logGuard_keep.guardOf rfl, bksEvent_keep.guardOf rfl, bumpHi_keep.guardOf rfl, unclean_keep.guardOf rfl,
    clockHeld, guardOf_setGuard, if_pos rfl]

/-- Of the port's status only CLEAN changes. -/
theorem status_clockFault (h : (guardOf s p).clkHold = false) :
    reg (clockFault p s) (bksR p 4) = reg (unclean p (clockHeld p s)) (bksR p 4) := by
  rw [clockFault_new h, GuardQuiet.reg_eq quiet_logGuard (by decide), bksEvent_only.reg_eq (by decide) (.inr (by decide)),
    reg_bumpHi_ne (bksR_ne (by decide))]

theorem event_clockFault (h : (guardOf s p).clkHold = false) : bitAt (clockFault p s) (bksR p 8) 2 = true := by
  rw [clockFault_new h, bitAt_eq (GuardQuiet.reg_eq quiet_logGuard (by decide)), bitAt_bksEvent (by decide)]
  rfl

theorem muzzled_clockHeld : muzzled (clockHeld p s) p = muzzled s p := muzzled_eq (congrFun (setGuard_keep.reg_eq rfl) _)

/-! ### The ball -/

/-- One data lane's transmit half moves from state a to state b. -/
def moveTx (p a b i : Nat) (s : State) : State :=
  if (laneOf s (128 + 8 * p + i)).tx = a then laneHalf (128 + 8 * p + i) .tx b s else s

theorem dataLanesTx_eq (p a b : Nat) : dataLanesTx p a b s = forAll (moveTx p a b) (upTo 8) s := rfl

theorem tx_laneHalf {l k c : Nat} : (laneOf (laneHalf l .tx c s) k).tx = if k = l then c else (laneOf s k).tx := by
  have k0 : Keep 1073742002 (setLane l { laneOf s l with tx := c } s) (laneHalf l .tx c s) := by
    unfold laneHalf laneStep
    dsimp only
    split <;> split
    · exact rclkSettle_keep.chain rfl laneEvent_keep
    · exact rclkSettle_keep
    · exact laneEvent_keep
    · exact .refl
  rw [k0.laneOf rfl, laneOf_setLane]
  split <;> rfl

/-- Lanes moved out of a state are not in it any more. -/
theorem tx_forAll_moveTx {n a b k : Nat} (hab : b ≠ a) {l : List Nat}
    (h : (∃ i ∈ l, k = 128 + 8 * n + i) ∨ (laneOf s k).tx ≠ a) : (laneOf (forAll (moveTx n a b) l s) k).tx ≠ a := by
  have hm : ∀ i x, k = 128 + 8 * n + i ∨ (laneOf x k).tx ≠ a → (laneOf (moveTx n a b i x) k).tx ≠ a := fun i x hx => by
    unfold moveTx
    split
    · rw [tx_laneHalf]
      split
      · exact hab
      · exact hx.resolve_left ‹_›
    · rcases hx with rfl | hx
      · assumption
      · exact hx
  induction l generalizing s with
  | nil => exact h.resolve_left (by simp)
  | cons i l ih =>
    refine ih ?_
    rcases h with ⟨j, hj, e⟩ | h
    · rcases List.mem_cons.1 hj with rfl | hj
      · exact .inr (hm _ _ (.inl e))
      · exact .inl ⟨j, hj, e⟩
    · exact .inr (hm _ _ (.inr h))

theorem tx_forceOff (i : Fin 8) : (laneOf (forceOff p s) (128 + 8 * p.val + i.val)).tx ≠ 5 := by
  rw [forceOff, dataLanesTx_eq]
  exact tx_forAll_moveTx (by decide) (.inl ⟨i, by simp [upTo], rfl⟩)

/-- Beyond f a new fault of the pins is logged and latched. -/
theorem withPins_keepAfter {c n : Nat} {b : Bool} {f : State → State} : Keep 9663676594 (f s) (withPins c n b f s) := by
  unfold withPins
  dsimp only
  split
  · exact .refl
  · refine logEvent_keep.chain rfl ?_
    split
    · exact fltEvent_keep.chain rfl .refl
    · exact .refl

/-- The ball is seen at a level that Backstay does not give it (R161). -/
def pinSeen (p : Nat) (high : Bool) (s : State) : State :=
  logGuard p (Config.logCode 0xC 4) (bksEvent p 1 (setGuard p { guardOf s p with pin := some high } s))

section Pin
variable {high : Bool}

theorem pinFault_none (h : high = txReleased s p) : pinFault p high s =
    if (guardOf s p).pin = some (!high) then setGuard p { guardOf s p with pin := none } s else s := if_pos h

theorem pinFault_wrong (h : high ≠ txReleased s p) : pinFault p high s =
    if high then forceOff p (setGuardFault p (pinSeen p high s)) else pinSeen p high s := if_neg h

theorem guardOf_pinSeen : guardOf (pinSeen p high s) p = { guardOf s p with pin := some high } := by
  rw [pinSeen, logGuard_keep.guardOf rfl, bksEvent_keep.guardOf rfl, guardOf_setGuard, if_pos rfl]

theorem status_pinSeen : reg (pinSeen p high s) (bksR p 4) = reg s (bksR p 4) := by
  rw [pinSeen, GuardQuiet.reg_eq quiet_logGuard (by decide), bksEvent_only.reg_eq (by decide) (.inr (by decide))]
  exact congrFun (setGuard_keep.reg_eq rfl) _

theorem event_pinSeen : bitAt (pinSeen p high s) (bksR p 8) 1 = true := by
  rw [pinSeen, bitAt_eq (GuardQuiet.reg_eq quiet_logGuard (by decide)), bitAt_bksEvent (by decide)]
  rfl

theorem guardOf_pinFault (h : high ≠ txReleased s p) : (guardOf (pinFault p high s) p).pin = some high := by
  rw [pinFault_wrong h]
  split
  · rw [forceOff_keep.guardOf rfl, setGuardFault_keep.guardOf rfl, guardOf_pinSeen]
  · rw [guardOf_pinSeen]

theorem event_pinFault (h : high ≠ txReleased s p) : bitAt (pinFault p high s) (bksR p 8) 1 = true := by
  rw [pinFault_wrong h]
  split
  · rw [bitAt_eq (GuardQuiet.reg_eq quiet_forceOff (by decide)), setGuardFault, bitAt_setBit_ne (bksR_ne (by decide)), event_pinSeen]
  · exact event_pinSeen

/-- Of the port's status only GUARD_FAULT changes, where the ball is held high. -/
theorem bitAt_pinFault (h : high ≠ txReleased s p) {j : Nat} (hj : j < 32) :
    bitAt (pinFault p high s) (bksR p 4) j = (bitAt s (bksR p 4) j || (decide (j = 27) && high)) := by
  rw [pinFault_wrong h]
  cases high with
  | true =>
    rw [if_pos rfl, bitAt_eq (GuardQuiet.reg_eq quiet_forceOff (by decide)), bitAt_setGuardFault hj, bitAt_eq status_pinSeen,
      Bool.or_comm, Bool.and_true]
  | false => rw [if_neg nofun, bitAt_eq status_pinSeen, Bool.and_false, Bool.or_false]

end Pin

/-- Settles O23: a copy by whether it is healthy and how many are, the clocks by their hold, the ball by its level. -/
theorem guardFaults : Obligations.GuardFaults := by
  intro s p
  refine ⟨fun hc c => ?copy, fun hc => ?clock, fun hc => ?clear, fun high => ?pin⟩
  case copy =>
    refine completes_of_coreOn hc rfl execCopyFault_keep execCopyFault_port fun _ hp =>
      ⟨hp, faultCopies_faulted, fun hk => ⟨?_, ?_, fun i hi => ?_, fun h3 => ?_, fun h2 => ?_⟩⟩
    · rw [copyOk_faultCopies c.2, getLsbD_oneCopy]; simp
    · exact event_faultCopies (by decide) (.inr ⟨rfl, newFaults_oneCopy hk⟩)
    · rw [copyOk_faultCopies i.2, getLsbD_oneCopy]; simp [hi]
    · have e := copiesOk_oneCopy hk
      rw [faultCopies_few (mask := oneCopy c) (by omega)]
      exact ⟨bitAt_loseCopies_high (by decide) (by decide), bitAt_loseCopies_high (by decide) (by decide)⟩
    · rw [show BitVec.ofNat 3 (2 ^ c.val) = oneCopy c from rfl, muzzledTwo_of_oneCopy hk h2]
      exact ⟨(bitAt_muzzledTwo (by decide) (by decide)).trans (by simp), (bitAt_muzzledTwo (by decide) (by decide)).trans (by simp),
        cause_muzzledTwo⟩
  case clock =>
    refine completes_of_coreOn hc rfl execClockFault_keep execClockFault_port fun _ hp => ⟨hp, clockFault_held, fun h => ?_⟩
    have hg : (guardOf (clockFault p s) p).clkHold = true := by rw [guardOf_clockFault h]
    have hs := status_clockFault h
    refine ⟨hg, txReleased_of_clkHold hg, event_clockFault h, ?_, fun hm => ?_⟩
    · rw [muzzled_eq hs, ← muzzled_clockHeld]
      exact bitAt_unclean (by decide) (by decide)
    · rw [fld_eq hs, clean_unclean (muzzled_clockHeld.trans hm)]
  case clear =>
    refine completes_of_coreOn hc rfl execClockFaultClear_keep execClockFaultClear_port fun hk hp => ⟨hp, hk.only rfl, ?_⟩
    rw [guardOf_setGuard, if_pos rfl]
  case pin =>
    refine ⟨_, rfl, execTxdisPinFault_port _ rfl, fun h => ?_, fun h => ?_⟩
    · have e : withPins 1 p (high != txReleased s p) (pinFault p high) s = pinFault p high s := by
        rw [withPins, show (high != txReleased s p) = false by simp [h]]; rfl
      rw [e, pinFault_none h]
      split
      · rw [guardOf_setGuard, if_pos rfl]
        exact ⟨setGuard_keep.only rfl, rfl⟩
      · exact ⟨(Keep.refl (m := 0)).only rfl, rfl⟩
    · have q : GuardQuiet (pinFault p high s) (withPins 1 p (high != txReleased s p) (pinFault p high) s) := quiet_withPins
      have k : Keep 9663676594 (pinFault p high s) (withPins 1 p (high != txReleased s p) (pinFault p high) s) := withPins_keepAfter
      refine ⟨?_, ?_, ?_, ?_, fun hh i => ?_⟩
      · rw [k.guardOf rfl, guardOf_pinFault h]
      · rw [bitAt_eq (q.reg_eq (by decide)), event_pinFault h]
      · rw [q.muzzled_eq, muzzled, bitAt_pinFault h (by decide)]; simp [muzzled]
      · rw [guardFault_eq (q.reg_eq (by decide)), guardFault, bitAt_pinFault h (by decide)]; simp [guardFault]
      · rw [k.laneOf rfl, pinFault_wrong h, if_pos hh]
        exact tx_forceOff i

end Sys2Proof.Machine
end

section
/-! SUPPORT. O22: start-up, retest and periodic dry-fires (R156 to R159). -/
namespace Sys2Proof.Machine
open Sys2Proof

variable {s x : State} {p : Fin 16} {f : Firing} {mask : BitVec 3} {failed : Bool}

/-! ### A failed dry-fire -/

/-- The port as a failed dry-fire is counted, before it is muzzled (R158). -/
def testCounted (p : Nat) (s : State) : State := bksEvent p 4 (bumpLo (bksR p 0x34) 1 (setGuardFault p s))

/-- The port as a failed dry-fire muzzles it. -/
def testMuzzled (p : Nat) (f : Firing) (s : State) : State :=
  setMuzzle p 2 f.seen.toNat (if hasTiming s p then slotOf s p (lineNow s p) else 0) (testCounted p s)

theorem failTest_eq : failTest p f s = muzzleRow p (testMuzzled p f s) := rfl

/-- A register of the port's Backstay registers after a failed dry-fire is as it was when the port was muzzled. -/
theorem reg_failTest {o : Nat} (ho : o < 0x40) : reg (failTest p f s) (bksR p o) = reg (testMuzzled p f s) (bksR p o) :=
  GuardQuiet.reg_eq quiet_muzzleRow ho

theorem testCounted_only : GuardOnly p [4, 8, 0x34] s (testCounted p s) :=
  (bksEvent_only.subset (by decide)).chain (RegsOnly.chain (guardOnly_setReg (by decide) (by decide))
    (guardOnly_setReg (by decide) (by decide)))

theorem failTest_only : GuardOnly p [4, 8, 0x10, 0x18, 0x1C, 0x34] s (failTest p f s) :=
  (GuardQuiet.guardOnly quiet_muzzleRow).chain ((setMuzzle_only.subset (by decide)).chain (testCounted_only.subset (by decide)))

/-- Of the port's status a failed dry-fire sets MUZZLED and GUARD_FAULT, and clears CLEAN. -/
theorem bitAt_failTest {j : Nat} (h2 : 2 ≤ j) (hj : j < 32) : bitAt (failTest p f s) (bksR p 4) j =
    (decide (j = 31) || decide (j = 27) || bitAt s (bksR p 4) j) := by
  rw [bitAt_eq (reg_failTest (by decide)), testMuzzled, bitAt_setMuzzle h2 hj, testCounted,
    bitAt_eq (bksEvent_only.reg_eq (by decide) (.inr (by decide))), bitAt_eq (reg_bumpLo_ne (bksR_ne (by decide)) 1),
    bitAt_setGuardFault hj, Bool.or_assoc]

/-- Its events are MUZZLE and TEST_FAIL. -/
theorem event_failTest {j : Nat} (h : j = 0 ∨ j = 4) : bitAt (failTest p f s) (bksR p 8) j = true := by
  have hj : j < 32 := by omega
  rw [bitAt_eq (reg_failTest (by decide)), testMuzzled, event_setMuzzle hj, testCounted, bitAt_bksEvent hj]
  rcases h with rfl | rfl <;> rfl

theorem cause_failTest : fld (failTest p f s) (bksR p 0x10) 31 28 = 2 := by
  rw [fld_eq (reg_failTest (by decide)), testMuzzled]
  refine (cause_setMuzzle (by decide) f.seen.isLt ?_).1
  split
  · exact slotOf_lt ..
  · decide

theorem counted_failTest :
    fld (failTest p f s) (bksR p 0x34) 15 0 = min (fld s (bksR p 0x34) 15 0 + 1) (2 ^ 16 - 1) := by
  rw [fld_eq (reg_failTest (by decide)), testMuzzled, fld_eq (setMuzzle_only.reg_eq (by decide) (.inr (by decide))), testCounted,
    fld_eq (bksEvent_only.reg_eq (by decide) (.inr (by decide))), fld_bumpLo, setGuardFault,
    fld_eq (reg_setBit_ne (bksR_ne (by decide)) 27 true)]

/-- A failed dry-fire, in a state whose counters of tests are those of s, is recorded and leaves the port dark. -/
theorem testFailed (h30 : reg x (bksR p 0x30) = reg s (bksR p 0x30)) (h34 : reg x (bksR p 0x34) = reg s (bksR p 0x34)) :
    TestFailed p s (faultCopies p mask true (failTest p f x)) := by
  have k := faultCopies_failed_only (p := p) (mask := mask) (s := failTest p f x)
  have hm : muzzled (faultCopies p mask true (failTest p f x)) p = true :=
    bitAt_faultCopies_of (by decide) (by decide) (bitAt_failTest (by decide) (by decide))
  have hg : guardFault (faultCopies p mask true (failTest p f x)) p = true :=
    bitAt_faultCopies_of (by decide) (by decide) (bitAt_failTest (by decide) (by decide))
  refine ⟨hm, hg, txReleased_of_muzzled hm, event_faultCopies (by decide) (.inl (event_failTest (.inr rfl))),
    event_faultCopies (by decide) (.inl (event_failTest (.inl rfl))), ?_, ?_, ?_⟩
  · rw [fld_eq (k.reg_eq (by decide) (.inr (by decide))), cause_failTest]
  · rw [fld_eq (k.reg_eq (by decide) (.inr (by decide))), counted_failTest, fld_eq h34]
  · rw [regN_eq (k.reg_eq (by decide) (.inr (by decide))), regN_eq (failTest_only.reg_eq (by decide) (.inr (by decide))), regN_eq h30]

/-- TEST_PASSED stands where copies are faulted. -/
theorem bitAt_faultCopies_passed : bitAt (faultCopies p mask failed s) (bksR p 4) 25 = bitAt s (bksR p 4) 25 := by
  have hl : bitAt (loseCopies p (newFaults s p mask) s) (bksR p 4) 25 = bitAt s (bksR p 4) 25 :=
    bitAt_loseCopies_high (by decide) (by decide)
  exact faultCopies_cases (fun u => bitAt u (bksR p 4) 25 = bitAt s (bksR p 4) 25) hl
    (fun _ => (bitAt_twoFaulted (by decide)).trans hl) fun _ => (bitAt_muzzledTwo (by decide) (by decide)).trans hl

/-! ### What a dry-fire records, and the ball held low -/

theorem lastTest_only {pass : Bool} : GuardOnly p [0x14] s (lastTest p pass f s) := guardOnly_setReg (by decide) (by decide)

/-- What LAST_TEST holds. -/
def testRecord (pass : Bool) (f : Firing) : Nat :=
  2 ^ 31 + bitN pass * 2 ^ 30 + f.seen.toNat * 2 ^ 27 + (if f.wasHigh then f.latency.toNat else 0xFF)

theorem testRecord_parts {pass : Bool} : ∃ n, n < 2 ^ 8 ∧ (f.wasHigh = false → n = 0xFF) ∧
    testRecord pass f = 2 ^ 31 + bitN pass * 2 ^ 30 + f.seen.toNat * 2 ^ 27 + n := by
  refine ⟨_, ?_, ?_, rfl⟩
  · split
    · exact f.latency.isLt
    · decide
  · intro h
    exact if_neg (by simp [h])

theorem testRecord_lt {pass : Bool} : testRecord pass f < 2 ^ 32 := by
  obtain ⟨n, hn, -, e⟩ := testRecord_parts (f := f) (pass := pass)
  have := f.seen.isLt
  have : bitN pass ≤ 1 := by cases pass <;> decide
  omega

theorem regN_lastTest {pass : Bool} : regN (lastTest p pass f s) (bksR p 0x14) = testRecord pass f := regN_setRegN testRecord_lt

/-- A ball that was low before the injection leaves no latency (R156). -/
theorem latency_testRecord {pass : Bool} (h : f.wasHigh = false) : bits (testRecord pass f) 7 0 = 0xFF := by
  obtain ⟨n, hn, hl, e⟩ := testRecord_parts (f := f) (pass := pass)
  have hl := hl h
  rw [bits, Nat.shiftRight_eq_div_pow]
  omega

theorem verdict_testRecord : bits (testRecord false f) 31 30 = 2 := by
  obtain ⟨n, hn, -, e⟩ := testRecord_parts (f := f) (pass := false)
  have := f.seen.isLt
  have hb : bitN false = 0 := rfl
  rw [hb] at e
  rw [bits, Nat.shiftRight_eq_div_pow]
  omega

theorem lowSeen_only : GuardOnly p [8] s (lowSeen p s) := bksEvent_only.chain (regsOnly_of_regs rfl)

theorem heldLow_only : GuardOnly p [8] s (heldLow p s) := (GuardQuiet.guardOnly quiet_withPins).chain lowSeen_only

theorem event_heldLow : bitAt (heldLow p s) (bksR p 8) 1 = true := by
  rw [heldLow, bitAt_eq (GuardQuiet.reg_eq quiet_withPins (by decide)), lowSeen, bitAt_bksEvent (by decide)]
  rfl

theorem guardOf_heldLow : guardOf (heldLow p s) p = { guardOf s p with pin := some false } := by
  rw [heldLow, withPins_keepAfter.guardOf rfl, lowSeen, bksEvent_keep.guardOf rfl, guardOf_setGuard, if_pos rfl]

/-! ### The pieces of the guard that a dry-fire leaves -/

theorem guardCore_faultCopies : GuardCore p s (faultCopies p mask failed s) := by
  have h2 : GuardCore p s (twoFaulted p mask s) := (setGuardFault_keep.guardCore rfl).chain (loseCopies_keep.guardCore rfl)
  exact faultCopies_cases (GuardCore p s) (loseCopies_keep.guardCore rfl) (fun _ => h2) fun _ =>
    guardCore_muzzleRow.chain (guardCore_setMuzzle.chain h2)

theorem guardCore_failTest : GuardCore p s (failTest p f s) :=
  guardCore_muzzleRow.chain (guardCore_setMuzzle.chain ((bksEvent_keep.guardCore rfl).chain ((bumpLo_keep.guardCore rfl).chain
    (setGuardFault_keep.guardCore rfl))))

/-! ### The sequence at start-up and at a retest -/

/-- The sequence has begun and firing f was its last: TEST_PASSED is cleared and LAST_TEST records f. -/
def tested (p : Nat) (pass : Bool) (f : Firing) (s : State) : State := lastTest p pass f (setBit (bksR p 4) 25 false s)

/-- The ball followed: it is not held at a level any more (R161). -/
def ballFollowed (p : Nat) (s : State) : State := forceOn p (setGuard p { guardOf s p with pin := none } s)

/-- The sequence passed. -/
def testPassed (p : Nat) (retest : Bool) (s : State) : State :=
  let s1 := bump (bksR p 0x30) 1 (setBit (bksR p 4) 25 true s)
  if retest then setFld (bksR p 4) 22 20 7 (setBit (bksR p 4) 27 false s1) else s1

section Sequence
variable {retest pass : Bool} {rest : List Firing}

theorem dryFire_low (h : f.wasHigh = false) : dryFire p retest (f :: rest) s = heldLow p (tested p false f s) := by
  simp [dryFire, firingsMade, h, tested]

theorem dryFire_late (h : f.wasHigh = true) (hl : f.fellInTime = false) : dryFire p retest (f :: rest) s =
    faultCopies p (quietCopies 0 f) true (failTest p f (ballFollowed p (tested p false f s))) := by
  simp [dryFire, firingsMade, h, hl, tested, ballFollowed]

theorem dryFire_passed {f0 f1 f2 f3 : Firing} (h : ∀ f ∈ [f0, f1, f2, f3], f.wasHigh = true ∧ f.fellInTime = true)
    (h3 : f3.seen = 7) : dryFire p retest [f0, f1, f2, f3] s = testPassed p retest (ballFollowed p (tested p true f3 s)) := by
  have hn : ∀ x : State, newFaults x p 0 = [] := fun x =>
    List.eq_nil_iff_forall_not_mem.2 fun i hi => by simpa using (mem_newFaults.1 hi).2.1
  have hq : quietCopies 3 f3 = 0 := by rw [quietCopies, h3]; decide
  have hv : tooFew 3 f3 = false := by rw [tooFew, h3]; decide
  simp only [List.mem_cons, List.not_mem_nil, or_false, forall_eq_or_imp, forall_eq] at h
  obtain ⟨⟨a0, b0⟩, ⟨a1, b1⟩, ⟨a2, b2⟩, a3, b3⟩ := h
  have e : dryFire p retest [f0, f1, f2, f3] s =
      faultCopies p (quietCopies 3 f3) false (testPassed p retest (ballFollowed p (tested p true f3 s))) := by
    simp [dryFire, firingsMade, a0, b0, a1, b1, a2, b2, a3, b3, hv, tested, ballFollowed, testPassed]
  rw [e, hq, faultCopies_none (hn _)]

theorem tested_only : GuardOnly p [4, 0x14] s (tested p pass f s) :=
  (lastTest_only.subset (by decide)).chain (guardOnly_setReg (by decide) (by decide))

/-- TEST_PASSED is cleared, the rest of the status stands. -/
theorem bitAt_tested {j : Nat} (hj : j < 32) :
    bitAt (tested p pass f s) (bksR p 4) j = (bitAt s (bksR p 4) j && decide (j ≠ 25)) := by
  rw [tested, bitAt_eq (lastTest_only.reg_eq (by decide) (.inr (by decide))), bitAt_setBit hj]
  by_cases h : j = 25
  · simp [h]
  · simp [h, Ne.symm h]

theorem quiet_ballFollowed : GuardQuiet s (ballFollowed p s) := quiet_forceOn.chain (regsOnly_of_regs rfl)

theorem testPassed_only : GuardOnly p [4, 0x30] s (testPassed p retest s) := by
  have h : GuardOnly p [4, 0x30] s (bump (bksR p 0x30) 1 (setBit (bksR p 4) 25 true s)) :=
    RegsOnly.chain (guardOnly_setReg (by decide) (by decide)) (guardOnly_setReg (by decide) (by decide))
  unfold testPassed
  exact .ite (RegsOnly.chain (guardOnly_setReg (by decide) (by decide))
    (RegsOnly.chain (guardOnly_setReg (by decide) (by decide)) h)) h

/-- A pass sets TEST_PASSED; with a retest it clears GUARD_FAULT and makes every copy healthy (R158). -/
theorem bitAt_testPassed {j : Nat} (hj : j < 32) : bitAt (testPassed p retest s) (bksR p 4) j =
    if retest = true ∧ 20 ≤ j ∧ j ≤ 22 then true else (decide (j = 25) || (bitAt s (bksR p 4) j && !(retest && decide (j = 27)))) := by
  have h : bitAt (bump (bksR p 0x30) 1 (setBit (bksR p 4) 25 true s)) (bksR p 4) j =
      (decide (j = 25) || bitAt s (bksR p 4) j) := by
    rw [bitAt_eq (reg_bump_ne (bksR_ne (by decide)) 1), bitAt_setBit hj]
    by_cases h : j = 25
    · simp [h]
    · simp [h, Ne.symm h]
  unfold testPassed
  cases retest with
  | false => simpa using h
  | true =>
    rw [if_pos rfl, bitAt_setFld (by decide) hj]
    by_cases hf : 20 ≤ j ∧ j ≤ 22
    · have : j = 20 ∨ j = 21 ∨ j = 22 := by omega
      rw [if_pos hf, if_pos ⟨rfl, hf⟩]
      rcases this with rfl | rfl | rfl <;> rfl
    · rw [if_neg hf, if_neg (fun h => hf h.2), bitAt_setBit hj, h]
      by_cases h7 : j = 27
      · simp [h7]
      · simp [h7, Ne.symm h7]

theorem counted_testPassed : Counted (bksR p 0x30) s (testPassed p retest s) := by
  have h : regN (bump (bksR p 0x30) 1 (setBit (bksR p 4) 25 true s)) (bksR p 0x30) = min (regN s (bksR p 0x30) + 1) (2 ^ 32 - 1) := by
    rw [regN_bump_self, regN_eq (reg_setBit_ne (bksR_ne (by decide)) 25 true)]
  have hn : bksR p 0x30 ≠ bksR p 4 := bksR_ne (by decide)
  unfold testPassed Counted
  cases retest with
  | false => exact h
  | true => rw [if_pos rfl, regN_eq (reg_setFld_ne hn ..), regN_eq (reg_setBit_ne hn ..), h]

/-- With the ball low at the injection only PIN_FAULT is set. -/
theorem heldLow_tested : bitAt (heldLow p (tested p pass f s)) (bksR p 4) 25 = false ∧
    muzzled (heldLow p (tested p pass f s)) p = muzzled s p ∧ guardFault (heldLow p (tested p pass f s)) p = guardFault s p := by
  have e : ∀ j < 32, bitAt (heldLow p (tested p pass f s)) (bksR p 4) j = (bitAt s (bksR p 4) j && decide (j ≠ 25)) := fun j hj => by
    rw [bitAt_eq (heldLow_only.reg_eq (by decide) (.inr (by decide))), bitAt_tested hj]
  exact ⟨(e 25 (by decide)).trans (Bool.and_false _), (e 31 (by decide)).trans (Bool.and_true _),
    (e 27 (by decide)).trans (Bool.and_true _)⟩

theorem regN_tested : regN (tested p pass f s) (bksR p 0x14) = testRecord pass f := regN_lastTest

/-- A late ball fails the test and leaves TEST_PASSED cleared (R158). -/
theorem late_fails : bitAt (faultCopies p mask true (failTest p f (ballFollowed p (tested p pass f s)))) (bksR p 4) 25 = false ∧
    TestFailed p s (faultCopies p mask true (failTest p f (ballFollowed p (tested p pass f s)))) := by
  have e : ∀ {o}, o < 0x40 → o ∉ [4, 0x14] → reg (ballFollowed p (tested p pass f s)) (bksR p o) = reg s (bksR p o) := fun ho hn =>
    (GuardQuiet.reg_eq quiet_ballFollowed ho).trans (tested_only.reg_eq ho (.inr hn))
  refine ⟨?_, testFailed (e (by decide) (by decide)) (e (by decide) (by decide))⟩
  rw [bitAt_faultCopies_passed, bitAt_failTest (by decide) (by decide), bitAt_eq (GuardQuiet.reg_eq quiet_ballFollowed (by decide)),
    bitAt_tested (by decide)]
  exact Bool.and_false _

/-- Of the status of a port that passed, beyond what a retest sets. -/
theorem bitAt_passed {j : Nat} (h : 23 ≤ j) (hj : j < 32) : bitAt (testPassed p retest (ballFollowed p (tested p pass f s))) (bksR p 4) j =
    (decide (j = 25) || (bitAt s (bksR p 4) j && !(retest && decide (j = 27)))) := by
  rw [bitAt_testPassed hj, if_neg (by omega), bitAt_eq (GuardQuiet.reg_eq quiet_ballFollowed (by decide)), bitAt_tested hj]
  by_cases h5 : j = 25 <;> simp [h5]

theorem regN_passed {o : Nat} (ho : o < 0x40) (h : o ∉ [4, 0x30]) :
    regN (testPassed p retest (ballFollowed p x)) (bksR p o) = regN x (bksR p o) :=
  regN_eq ((testPassed_only.reg_eq ho (.inr h)).trans (GuardQuiet.reg_eq quiet_ballFollowed ho))

theorem counted_passed : Counted (bksR p 0x30) s (testPassed p retest (ballFollowed p (tested p pass f s))) := by
  rw [Counted, counted_testPassed, regN_eq ((GuardQuiet.reg_eq quiet_ballFollowed (by decide)).trans
    (tested_only.reg_eq (by decide) (.inr (by decide))))]

theorem copiesOk_testPassed : copiesOk (testPassed p true s) p = 3 := by
  have e : ∀ i < 3, copyOk (testPassed p true s) p i = true := fun i hi => by
    rw [copyOk, bitAt_testPassed (by omega), if_pos ⟨rfl, by omega, by omega⟩]
  rw [copiesOk_eq, e 0 (by decide), e 1 (by decide), e 2 (by decide)]
  rfl

/-- Four firings that meet their bound, the last seen by every copy, pass without muzzling (R156, R158). -/
theorem dryFire_passes {f0 f1 f2 f3 : Firing} (h : ∀ f ∈ [f0, f1, f2, f3], f.wasHigh = true ∧ f.fellInTime = true)
    (h3 : f3.seen = 7) :
    let u := dryFire p retest [f0, f1, f2, f3] s
    bitAt u (bksR p 4) 25 = true ∧ Counted (bksR p 0x30) s u ∧ muzzled u p = muzzled s p ∧
    regN u (bksR p 0x14) = 2 ^ 31 + 2 ^ 30 + 7 * 2 ^ 27 + f3.latency.toNat ∧
    guardFault u p = (guardFault s p && !retest) ∧ (retest = true → copiesOk u p = 3) := by
  rw [dryFire_passed h h3]
  refine ⟨bitAt_passed (by decide) (by decide), counted_passed, ?_, ?_, ?_, ?_⟩
  · exact (bitAt_passed (by decide) (by decide)).trans (by simp [muzzled])
  · rw [regN_passed (by decide) (by decide), regN_tested, testRecord, h3, if_pos (h f3 (by simp)).1]
    rfl
  · exact (bitAt_passed (by decide) (by decide)).trans (by simp [guardFault])
  · rintro rfl
    exact copiesOk_testPassed

/-- A first firing with the ball low at the injection ends the sequence with PIN_FAULT alone (R156). -/
theorem dryFire_finds_low (h : f.wasHigh = false) :
    let u := dryFire p retest (f :: rest) s
    bitAt u (bksR p 4) 25 = false ∧ muzzled u p = muzzled s p ∧ guardFault u p = guardFault s p ∧
    bitAt u (bksR p 8) 1 = true ∧ fld u (bksR p 0x14) 7 0 = 0xFF ∧ (guardOf u p).pin = some false := by
  rw [dryFire_low h]
  obtain ⟨h25, hm, hg⟩ := heldLow_tested (s := s) (p := p) (pass := false) (f := f)
  refine ⟨h25, hm, hg, event_heldLow, ?_, by rw [guardOf_heldLow]⟩
  rw [fld, regN_eq (heldLow_only.reg_eq (by decide) (.inr (by decide))), regN_tested, latency_testRecord h]

end Sequence

end Sys2Proof.Machine
end

section
/-! SUPPORT. O22: the periodic dry-fire and its deferral (R157), and the obligation. -/
namespace Sys2Proof.Machine
open Sys2Proof

variable {s : State} {p : Fin 16} {f : Firing} {k : Int} {d : Option (Nat × Nat)}

/-! ### The periodic run -/

/-- The copies that flagged. -/
def flagged (f : Firing) : Nat := total ((upTo 3).map fun k => bitN (f.seen.getLsbD k))

/-- The copies that did not flag. -/
abbrev unflagged (f : Firing) : BitVec 3 := 7 &&& ~~~f.seen

theorem getLsbD_unflagged (i : Fin 3) : (unflagged f).getLsbD i = !f.seen.getLsbD i := by
  match i with
  | 0 => simp
  | 1 => simp
  | 2 => simp

/-- The upstream frame that runs now. -/
abbrev frameNow (s : State) (p : Nat) : Nat := upFrameAt s p (lineNow s p)

/-- The guard as a run in free slot k holds TXDIS_N low, to the slot after its three (R157). -/
def runGuard (p : Nat) (f : Firing) (k : Int) (s : State) : Guard :=
  { guardOf s p with
    defer := none
    testUntil := ((upStart s p (frameNow s p) (bksEqd s p (frameNow s p)) : Int) + 500 * k + 1500).toNat
    pin := if f.wasHigh then none else (guardOf s p).pin }

/-- The run recorded in LAST_TEST. -/
def runTested (p : Nat) (f : Firing) (k : Int) (s : State) : State :=
  lastTest p (f.wasHigh && f.fellInTime && flagged f == 3) f (setGuard p (runGuard p f k s) s)

theorem periodicDryFire_idle (h : runDue s p (frameNow s p) = false) : periodicDryFire p f s = s := if_pos (by simp [h])

theorem periodicDryFire_deferred (h : runDue s p (frameNow s p) = true) (hk : freeSlot s p (frameNow s p) = none) :
    periodicDryFire p f s =
      countDefer p (setGuard p { guardOf s p with defer := some ((guardOf s p).defer.getD (0, frameNow s p + 1)) } s) := by
  refine (if_neg (by simp [h])).trans ?_
  rw [runSpan, hk]
  rfl

theorem periodicDryFire_run (h : runDue s p (frameNow s p) = true) (hk : freeSlot s p (frameNow s p) = some k) :
    periodicDryFire p f s =
      if !f.wasHigh then heldLow p (runTested p f k s)
      else if f.fellInTime && flagged f == 3 then bump (bksR p 0x30) 1 (runTested p f k s)
      else if f.fellInTime && flagged f == 2 then faultCopies p (unflagged f) false (runTested p f k s)
      else faultCopies p (unflagged f) true (failTest p f (runTested p f k s)) := by
  refine (if_neg (by simp [h])).trans ?_
  rw [runSpan, hk]
  rfl

theorem guardOf_runTested : guardOf (runTested p f k s) p = runGuard p f k s := by
  rw [runTested, lastTest_keep.guardOf rfl, guardOf_setGuard, if_pos rfl]

theorem runTested_only : GuardOnly p [0x14] s (runTested p f k s) := lastTest_only.chain (regsOnly_of_regs rfl)

theorem muzzled_runTested : muzzled (runTested p f k s) p = muzzled s p :=
  muzzled_eq (runTested_only.reg_eq (by decide) (.inr (by decide)))

/-- Whatever its outcome, the run holds TXDIS_N low and ends the deferral. -/
theorem guard_run (h : runDue s p (frameNow s p) = true) (hk : freeSlot s p (frameNow s p) = some k) :
    (guardOf (periodicDryFire p f s) p).defer = (runGuard p f k s).defer ∧
    (guardOf (periodicDryFire p f s) p).testUntil = (runGuard p f k s).testUntil := by
  have e : ∀ {u}, GuardCore p (runTested p f k s) u → (guardOf u p).defer = (runGuard p f k s).defer ∧
      (guardOf u p).testUntil = (runGuard p f k s).testUntil := fun hu => by
    rw [← guardOf_runTested]
    exact ⟨hu.eq Guard.defer, hu.eq Guard.testUntil⟩
  rw [periodicDryFire_run h hk]
  split
  · rw [guardOf_heldLow, guardOf_runTested]
    exact ⟨rfl, rfl⟩
  · split
    · exact e (bump_keep.guardCore rfl)
    · split
      · exact e guardCore_faultCopies
      · exact e (guardCore_faultCopies.chain guardCore_failTest)

/-- Two copies in time: no verdict, and the third copy is faulted (R158, R159). -/
theorem twoFlagged_spec (h : flagged f = 2) :
    regN (faultCopies p (unflagged f) false (runTested p f k s)) (bksR p 0x30) = regN s (bksR p 0x30) ∧
    regN (faultCopies p (unflagged f) false (runTested p f k s)) (bksR p 0x34) = regN s (bksR p 0x34) ∧
    fld (faultCopies p (unflagged f) false (runTested p f k s)) (bksR p 0x14) 31 30 = 2 ∧
    ∀ i : Fin 3, copyOk (faultCopies p (unflagged f) false (runTested p f k s)) p i = (copyOk s p i && f.seen.getLsbD i) := by
  have q := faultCopies_only (p := p) (mask := unflagged f) (failed := false) (s := runTested p f k s)
  have r := runTested_only (p := p) (f := f) (k := k) (s := s)
  refine ⟨?_, ?_, ?_, fun i => ?_⟩
  · rw [regN_eq (q.reg_eq (by decide) (.inr (by decide))), regN_eq (r.reg_eq (by decide) (.inr (by decide)))]
  · rw [regN_eq (q.reg_eq (by decide) (.inr (by decide))), regN_eq (r.reg_eq (by decide) (.inr (by decide)))]
  · rw [fld_eq (q.reg_eq (by decide) (.inr (by decide))), fld, runTested, regN_lastTest,
      show (f.wasHigh && f.fellInTime && flagged f == 3) = false by simp [h], verdict_testRecord]
  · rw [copyOk_faultCopies i.2, getLsbD_unflagged, Bool.not_not, copyOk_eq (r.reg_eq (by decide) (.inr (by decide)))]

/-! ### The deferral -/

theorem txReleased_setDefer : txReleased (setGuard p { guardOf s p with defer := d } s) p = txReleased s p := by
  simp only [txReleased, guardOf_setGuard, if_pos]
  rfl

theorem frameNow_setDefer : frameNow (setGuard p { guardOf s p with defer := d } s) p = frameNow s p := by
  simp only [frameNow, upFrameAt, guardOf_setGuard, if_pos]
  rfl

/-- The deferral count after this frame has been counted (R157). -/
def deferCount (s : State) (p : Nat) (d : Nat × Nat) : Nat × Nat :=
  if txReleased s p && d.2 != frameNow s p then (d.1 + 1, frameNow s p) else d

theorem countDefer_none (h : (guardOf s p).defer = none) : countDefer p s = s := by
  rw [countDefer, h]

theorem guardOf_countDefer {a : Nat × Nat} (h : (guardOf s p).defer = some a) :
    guardOf (countDefer p s) p = { guardOf s p with defer := some (deferCount s p a) } := by
  unfold countDefer deferCount
  dsimp only
  rw [h]
  dsimp only
  split
  · rw [guardOf_setGuard, if_pos rfl]
  · rw [← h]

/-- The deferral count of a run that is put off: from 0, or with this frame counted, once. -/
def runDeferred (s : State) (p : Nat) : Nat × Nat :=
  let d := (guardOf s p).defer.getD (0, frameNow s p + 1)
  if d.2 = frameNow s p then d else (d.1 + 1, frameNow s p)

/-- A run due without a free slot is deferred (R157). -/
theorem deferred_spec (h : runDue s p (frameNow s p) = true) (hk : freeSlot s p (frameNow s p) = none) :
    guardOf (periodicDryFire p f s) p = { guardOf s p with defer := some (runDeferred s p) } ∧
    Only [.guards] s (periodicDryFire p f s) := by
  have ht : txReleased s p = true := (Bool.and_eq_true_iff.1 (Bool.and_eq_true_iff.1 h).1).1
  rw [periodicDryFire_deferred h hk]
  refine ⟨?_, (countDefer_keep.chain rfl setGuard_keep).only rfl⟩
  rw [guardOf_countDefer (by rw [guardOf_setGuard, if_pos rfl]), guardOf_setGuard, if_pos rfl, deferCount, txReleased_setDefer,
    frameNow_setDefer, ht, runDeferred]
  by_cases hn : ((guardOf s p).defer.getD (0, frameNow s p + 1)).2 = frameNow s p <;> simp [hn]

theorem deferDryFire_none (h : (guardOf s p).defer = none) : deferDryFire p s = s := by
  unfold deferDryFire
  dsimp only
  rw [countDefer_none h, h]

section Count
variable {a : Nat × Nat} (h : (guardOf s p).defer = some a)
include h

theorem deferDryFire_eq : deferDryFire p s = if 8000 ≤ (deferCount s p a).1 then
    bksEvent p 5 (bumpHi (bksR p 0x34) 1 (setGuard p { guardOf (countDefer p s) p with defer := some (0, (deferCount s p a).2) }
      (countDefer p s))) else countDefer p s := by
  unfold deferDryFire
  dsimp only
  rw [guardOf_countDefer h]

theorem deferDryFire_counts (hn : (deferCount s p a).1 < 8000) : Only [.guards] s (deferDryFire p s) ∧
    (guardOf (deferDryFire p s) p).defer = some (deferCount s p a) := by
  rw [deferDryFire_eq h, if_neg (Nat.not_le.2 hn), guardOf_countDefer h]
  exact ⟨countDefer_keep.only rfl, rfl⟩

theorem deferDryFire_acts (hn : 8000 ≤ (deferCount s p a).1) : bitAt (deferDryFire p s) (bksR p 8) 5 = true ∧
    fld (deferDryFire p s) (bksR p 0x34) 31 16 = min (fld s (bksR p 0x34) 31 16 + 1) (2 ^ 16 - 1) ∧
    (guardOf (deferDryFire p s) p).defer = some (0, (deferCount s p a).2) := by
  rw [deferDryFire_eq h, if_pos hn]
  refine ⟨(bitAt_bksEvent (by decide)).trans rfl, ?_, ?_⟩
  · rw [fld_eq (bksEvent_only.reg_eq (by decide) (.inr (by decide))), fld_bumpHi, fld_eq (congrFun (setGuard_keep.reg_eq rfl) _),
      fld_eq (congrFun (countDefer_keep.reg_eq rfl) _)]
  · rw [bksEvent_keep.guardOf rfl, bumpHi_keep.guardOf rfl, guardOf_setGuard, if_pos rfl]

end Count

/-- Settles O22: the sequence by its firings, the periodic run by whether it is due, has a slot, and by its outcome, its deferral. -/
theorem dryFires : Obligations.DryFires := by
  intro s p hc
  refine ⟨fun retest shots => ?sequence, fun f => ?periodic, ?defer⟩
  case sequence =>
    have e : exec (if retest then .retest p shots else .dryFireStartup p shots) s =
        .next (onlyIf (coreOn s && if retest then !txReleased s p else (laneOf s (256 + p)).tx == 5) (dryFire p retest shots) s) := by
      cases retest <;> rfl
    have hp : PortKeepN p s (exec (if retest then .retest p shots else .dryFireStartup p shots) s) := by
      cases retest
      · exact execDryFireStartup_port
      · exact execRetest_port
    rw [hc, Bool.true_and] at e
    refine ⟨_, e, hp _ e, fun h0 => by rw [h0]; rfl, fun f0 f1 f2 f3 hs hr h h3 => ?_, fun f rest hs hr h hl => ?_,
      fun f rest hs hr h => ?_⟩ <;> rw [hr, onlyIf, if_pos rfl] <;> subst hs
    · exact dryFire_passes h h3
    · rw [dryFire_late h hl]
      exact late_fails
    · exact dryFire_finds_low h
  case periodic =>
    refine completes_of_coreOn hc rfl execPeriodicDryFire_keep execPeriodicDryFire_port fun _ hp =>
      ⟨hp, periodicDryFire_idle, deferred_spec, fun k hd hk => ?_⟩
    obtain ⟨hdefer, huntil⟩ := guard_run (f := f) hd hk
    have ht : txReleased s p = true := (Bool.and_eq_true_iff.1 (Bool.and_eq_true_iff.1 hd).1).1
    have hm : muzzled (runTested p f k s) p = false := muzzled_runTested.trans (muzzled_of_txReleased ht)
    refine ⟨hdefer, huntil, ?_⟩
    rw [periodicDryFire_run hd hk]
    refine ⟨fun hw => ?_, fun hw hf h3 => ?_, fun hw hf h2 => ?_, fun hw hf => ?_⟩
    · rw [if_pos (by simp [hw])]
      exact ⟨(muzzled_eq (heldLow_only.reg_eq (by decide) (.inr (by decide)))).trans hm, event_heldLow⟩
    · replace h3 : flagged f = 3 := h3
      rw [if_neg (by simp [hw]), if_pos (by simp [hf, h3])]
      refine ⟨?_, (muzzled_eq (reg_bump_ne (bksR_ne (by decide)) 1)).trans hm, ?_⟩
      · rw [Counted, regN_bump_self, regN_eq (runTested_only.reg_eq (by decide) (.inr (by decide)))]
      · exact (bump_keep.chain (m := 32770) rfl (lastTest_keep.chain rfl (setGuard_keep.chain rfl .refl))).only rfl
    · replace h2 : flagged f = 2 := h2
      rw [if_neg (by simp [hw]), if_neg (by simp [h2]), if_pos (by simp [hf, h2])]
      exact twoFlagged_spec h2
    · replace hf : f.fellInTime = false ∨ flagged f < 2 := hf
      have h3 : (f.fellInTime && flagged f == 3) = false := by rcases hf with hf | hf <;> simp [hf]; omega
      have h2 : (f.fellInTime && flagged f == 2) = false := by rcases hf with hf | hf <;> simp [hf]; omega
      rw [if_neg (by simp [hw]), if_neg (by simp [h3]), if_neg (by simp [h2])]
      exact testFailed (runTested_only.reg_eq (by decide) (.inr (by decide))) (runTested_only.reg_eq (by decide) (.inr (by decide)))
  case defer =>
    refine completes_of_coreOn hc rfl execDryFireDefer_keep execDryFireDefer_port fun _ hp =>
      ⟨hp, deferDryFire_none, fun k m h => ⟨deferDryFire_counts h, deferDryFire_acts h⟩⟩

end Sys2Proof.Machine
end
